-- ==== Sys2Proof/Word.lean ====
section
/-! DEFINITION. The word types of the block and the sparse table type that every large store of it uses. -/

namespace Sys2Proof

/-- One byte of a message, an image, a record or a memory. -/
abbrev Byte := BitVec 8

/-- One register word (R13: the register access port carries 32-bit accesses only). -/
abbrev Word := BitVec 32

/-- A double word: strokes, heat numbers, digests, counters. -/
abbrev DWord := BitVec 64

/-- A sparse store: (index, value) pairs in ONE canonical form, indices strictly rising, no entry equal to what an
unlisted index reads as. The operations on it are in Machine/Tab.lean. -/
abbrev Tab (α : Type) := List (Nat × α)

/-- The word of a Boolean: 1 or 0. -/
abbrev bit (b : Bool) (w : Nat) : BitVec w := if b then 1 else 0

end Sys2Proof
end

