-- ==== Sys2Proof/Syntax.lean ====
section
/-! DEFINITION. The commands of the block: one constructor per row of spec/opcode_table.json, in the table's order of
chapters. A command carries what the step takes from outside: the access and its word, pin levels, converter codes,
message fields, device answers. -/

namespace Sys2Proof

/-- One register access as it is performed: its path (Table 15-1), the role the request carries (path 9 only, R475), the
byte lanes (R13) and the write data. A read leaves `be` and `data` unused. -/
structure Acc where
  path : BitVec 4
  role : BitVec 2
  be : BitVec 4
  data : Word
deriving DecidableEq, Repr

/-- A command as the poll takes it from a mailbox (R484, R485): the path, the role and token latched at the post, and
the argument words a command can name. -/
structure Post where
  path : BitVec 4
  role : BitVec 2
  token : BitVec 16
  a0 : Word
  a1 : Word
  a2 : Word
deriving DecidableEq, Repr

/-- One entry of a REG_REQ message (Table 14-3). -/
structure ReqEntry where
  write : Bool
  offset : Word
  data : Word
deriving DecidableEq, Repr

/-- What BIST reports of one failing macro: memory code (Table 16-5), macro, and its failing cells (row, column). -/
structure MacroResult where
  mem : BitVec 6
  mac : BitVec 9
  cells : List (BitVec 12 × BitVec 8)
deriving DecidableEq, Repr

/-- One failing analogue check (Table 16-6): check, channel, measured value. -/
structure AbistFail where
  check : BitVec 3
  chan : BitVec 7
  value : BitVec 16
deriving DecidableEq, Repr

/-- What the SFDP tables of the flash device say (R465, R502, R503); times in microseconds. -/
structure SfdpResult where
  signature : Bool
  densLog2 : Byte
  erase4k : Bool
  xspi : Bool
  eraseSuspend : Bool
  tPP : Word
  tSUS : Word
deriving DecidableEq, Repr

/-- The header fields of a PTP message that the profile of Table 4-2 tests or uses; `portId` is sourcePortIdentity,
`correction` the correctionField as a signed number of 2^-16 ns. -/
structure PtpHdr where
  domain : Byte
  version : BitVec 4
  minor : BitVec 4
  seq : BitVec 16
  portId : BitVec 80
  interval : BitVec 8
  twoStep : Bool
  correction : BitVec 64
deriving DecidableEq, Repr

/-- The dataset of an Announce, in the order of comparison of IEEE 1588 clause 9.3. -/
structure PtpDataset where
  priority1 : Byte
  clockClass : Byte
  accuracy : Byte
  variance : BitVec 16
  priority2 : Byte
  gm : DWord
  stepsRemoved : BitVec 16
deriving DecidableEq, Repr

/-- Where a proxy access comes from: the register access port with its tag, or an entry of a REG_REQ place. -/
inductive ProxySrc where
  | port (tag : BitVec 9)
  | place (i : BitVec 4)
deriving DecidableEq, Repr

/-- A received Ethernet or rack-bus frame, as far as R444 and R458 look at it; `len` counts from the destination address
through the FCS, `payload` starts behind the EtherType. -/
structure EthFrame where
  dst : BitVec 48
  src : BitVec 48
  tags : BitVec 2
  etype : BitVec 16
  fcsOk : Bool
  len : BitVec 16
  payload : List Byte
deriving DecidableEq, Repr

/-- The flash operation whose status polling ends (R466): a page program or sector erase of the recorder, of the odometer,
or a step of the NV write (R89). -/
inductive FlashOp where
  | recProgram
  | recErase
  | odoProgram
  | odoErase
  | nvStep (step : Byte)
deriving DecidableEq, Repr

/-- The commands: one constructor per row of spec/opcode_table.json. -/
inductive Instr where
  /-- AON_RESET (R526): AON_RST_N resets or releases the always-on domain. -/
  | aonReset (release : Bool)
  /-- BLOCK_RESET_ASSERT (R526): RST_N falls and resets the block at once. -/
  | blockResetAssert
  /-- RESET_RELEASE (R526): RST_N is released: the reset count rises, the straps are sampled, and the release counts as a power-up or a block reset. -/
  | resetRelease (gradeSel x2 : Bool) (pkg : BitVec 4) (die : BitVec 3) (lp5 : BitVec 2) (stable : Bool)
  /-- CORE_PG_CHANGE (R526): CORE_PG changes, which decides whether the next release is a power-up. -/
  | corePgChange (level : Bool)
  /-- FUSE_WORD_READ (R559): The fuse array answers one read request, or the request times out and the word is taken as 0. -/
  | fuseWordRead (answer : Option Word)
  /-- FUSE_PHASE_END (R527): Phase FUSE ends once the fuse words are read, and BIST begins. -/
  | fusePhaseEnd (us : Word)
  /-- MEMORY_BIST_GROUP_DONE (R517): A memory BIST group completes March C-, and the next group starts under STAGGER. -/
  | memoryBistGroupDone (group : BitVec 3) (failing : List MacroResult)
  /-- ANALOGUE_BIST_DONE (R522): The analogue BIST completes its checks and records any failures. -/
  | analogueBistDone (failures : List AbistFail)
  /-- BIST_PHASE_END (R528): BIST ends: heats begin under factory defaults, the register port opens, and Exfin-D's link leaves DOWN. -/
  | bistPhaseEnd (us : Word)
  /-- SFDP_DISCOVERY (R465): Reading of the flash SFDP tables completes, and the device is accepted or refused. -/
  | sfdpDiscovery (dev : SfdpResult)
  /-- RECORDER_STARTUP_SCAN (R500): The odometer, head and ring are scanned, the power-up odometer entry is written, and the recorder becomes READY. -/
  | recorderStartupScan
  /-- LPDDR5X_INIT (R529): LPDDR5X initialisation and PHY training complete, or fail and set MEM_FAIL. -/
  | lpddr5xInit (failStep : Byte)
  /-- STORE_PHASE_END (R527): Phase STORE ends on Exfin-T, and the start-up image is chosen. -/
  | storePhaseEnd (us : Word)
  /-- RA_REQUEST (R551): An access is taken on the register access port into the queue. -/
  | raRequest (wr : Bool) (be : BitVec 4) (ofs : BitVec 25) (wdata : Word) (tag : BitVec 9)
  /-- REGISTER_WRITE (R15): A write to a register that has no row of its own is performed in a register slot under its access code. -/
  | registerWrite (a : Acc) (off : BitVec 20) (mem : Option (BitVec 4 × Bool × Word))
  /-- ERR_STICKY_CLEAR (R511): A W1C write clears sticky error bits and writes ERR_CLEARED. -/
  | errStickyClear (a : Acc) (n : BitVec 2)
  /-- WC2_STAGE (R16): A write to the low word of a WC2 pair replaces the staging word. -/
  | wc2Stage (a : Acc) (off : BitVec 20)
  /-- POL_RULE_COMMIT (R354): A complement write commits a policy rule word, which takes force at the next boundary and resets the rule's counts. -/
  | polRuleCommit (a : Acc) (i : BitVec 6) (w : BitVec 2)
  /-- DET_THRESHOLD_COMMIT (R342): A complement write commits DET_HI or DET_LO, which applies from the detector's next update. -/
  | detThresholdCommit (a : Acc) (n : BitVec 8) (hi : Bool)
  /-- DRN_EN_COMMIT (R358): A complement write commits a drain-enable word. -/
  | drnEnCommit (a : Acc) (hi : Bool)
  /-- TB_RATE_COMMIT (R146): A complement write commits a manual TB_RATE, which takes effect at the next boundary, or is refused. -/
  | tbRateCommit (a : Acc)
  /-- CNT_LIVE_READ (R115): A read of CNT_LIVE's low word returns the live counter and latches its high word. -/
  | cntLiveRead (a : Acc)
  /-- SNAPSHOT_BANK_READ (R114): A read of a snapshot low word loads the high-word latch. -/
  | snapshotBankRead (a : Acc) (w : BitVec 13) (perr : Bool)
  /-- CNT_SNAP_READ (R117): A read of CNT_SNAP returns TAKEN and clears it. -/
  | cntSnapRead (a : Acc)
  /-- TB_STROKE_READ (R157): A read of TB_STROKE's low word latches the high word and TB_TAI. -/
  | tbStrokeRead (a : Acc)
  /-- TRC_RD_SEL_WRITE (R171): A write of a block number to TRC_RD_SEL latches that block's generation for a host read. -/
  | trcRdSelWrite (a : Acc)
  /-- LEDGER_RD_READ (R244): A read of LEDGER_RD_0 latches the ten words of the selected ledger entry. -/
  | ledgerRdRead (a : Acc)
  /-- SCN_CH_LAST_ID_READ (R237): A read of SCN_CH_LAST_ID latches the channel's other last-completion registers. -/
  | scnChLastIdRead (a : Acc) (c : BitVec 3)
  /-- SK_SEL_WRITE (R298): A write to SK_SEL copies the selected per-step sketch into the view. -/
  | skSelWrite (a : Acc)
  /-- ST_STEP_READ (R298): A read of ST_STEP latches the straggler statistics. -/
  | stStepRead (a : Acc)
  /-- TE_SCORE_HEAT_READ (R333): A read of TE_SCORE_HEAT's low word latches the score registers. -/
  | teScoreHeatRead (a : Acc)
  /-- TE_FSEL_WRITE (R333): A write to TE_FSEL loads the selected die's feature codes into the view. -/
  | teFselWrite (a : Acc)
  /-- DET_SEL_WRITE (R376): A write to DET_SEL copies the selected die's detector states into the view. -/
  | detSelWrite (a : Acc)
  /-- TLY_DUMP_READ (R401): A read of TLY_DUMP_0 latches the whole hang dump. -/
  | tlyDumpRead (a : Acc)
  /-- TUL_STATE_READ (R442): A read of TUL_STATE latches the rest of that link's register block. -/
  | tulStateRead (a : Acc) (k : BitVec 6)
  /-- EVR_SEL_WRITE (R504): A write to EVR_SEL starts a read of one record from the buffer, head or ring. -/
  | evrSelWrite (a : Acc)
  /-- EVR_READ_DONE (R504): The selected record is held, and EVR_RD_STAT.READY rises. -/
  | evrReadDone
  /-- IMG_DATA_WRITE (R74): A write to IMG_DATA appends 4 bytes to the host load being received, and checks are made as bytes arrive. -/
  | imgDataWrite (a : Acc)
  /-- TE_BLOB_DATA_WRITE (R325): A write to TE_BLOB_DATA appends 4 bytes of the blob to LPDDR5X through the buffer. -/
  | teBlobDataWrite (a : Acc)
  /-- SCN_POST (R223): A write to SCN_POST checks the staged descriptor and queues it on the channel, or refuses it. -/
  | scnPost (a : Acc)
  /-- SHD_ARM_WRITE (R249): A write of SHD_ARM's high word stores PSET and sets the shard PENDING or IDLE. -/
  | shdArmWrite (a : Acc) (i : BitVec 10)
  /-- TLY_ADD_WRITE (R378): A write to TLY_ADD_n signals the tally from the register or proxy-register source. -/
  | tlyAddWrite (a : Acc) (n : BitVec 6)
  /-- TLY_REMOTE_WRITE (R389): A write to TLY_REMOTE sends a TALLY_SIG flit or applies it locally, or is refused. -/
  | tlyRemoteWrite (a : Acc)
  /-- TLY_CFG_WRITE (R397): A write to TLY_CFG_n sets the tally mode, LASTREL and the barrier point, or is refused. -/
  | tlyCfgWrite (a : Acc) (n : BitVec 6)
  /-- TLY_BIND_WRITE (R397): A write to TLY_BIND_j sets a binding, or is refused. -/
  | tlyBindWrite (a : Acc) (j : BitVec 4)
  /-- TLY_CTRL_WRITE (R379): A write to TLY_CTRL changes SVC and writes TALLY_SVC. -/
  | tlyCtrlWrite (a : Acc)
  /-- UMP_JOBLIVE_WRITE (R362): A write to UMP_JOBLIVE sets the job's view of liveness and starts disagreement counting. -/
  | umpJobliveWrite (a : Acc) (hi : Bool)
  /-- CAP_EN_WRITE (R180): A write to CAP_EN stops or resumes trace capture, with a RESUME buoy on resumption. -/
  | capEnWrite (a : Acc)
  /-- TB_CTRL_WRITE (R143): A write to TB_CTRL.MANUAL enters or leaves the MANUAL servo state. -/
  | tbCtrlWrite (a : Acc)
  /-- NB_GATE_CHG_WRITE (R453): A write of NB_GATE.CHG copies the admin list into a pending change and computes CHT, or is refused. -/
  | nbGateChgWrite (a : Acc) (p : BitVec 1)
  /-- NB_T1S_ID_WRITE (R460): A write to NB_T1S_ID overrides the node ID and clears CLASH. -/
  | nbT1sIdWrite (a : Acc)
  /-- ROLE_REQUEST_HIGHER (R479): A REQ write for a higher role issues a nonce, or is ignored. -/
  | roleRequestHigher (a : Acc) (tooSoon : Bool)
  /-- ROLE_REQUEST_LOWER (R482): A REQ write for a lower role drops the path's role at once. -/
  | roleRequestLower (a : Acc)
  /-- ROLE_RESPONSE_WRITE (R480): A write of ROLE_RESP_7 starts the HMAC check of the response. -/
  | roleResponseWrite (a : Acc)
  /-- ROLE_CHECK_DONE (R480): The response check completes and elevates the path, or counts a failure. -/
  | roleCheckDone (path : BitVec 4)
  /-- COMMAND_POST (R484): A write of CMD_CODE latches the command in the path's mailbox, or sets BUSY_HIT. -/
  | commandPost (a : Acc)
  /-- COMMAND_POLL (R485): Boundary work in slot 1 takes one pending command per mailbox in path order and updates the heat number. -/
  | commandPoll
  /-- IMG_BEGIN (R74): The command starts a host image load, latching IMG_CTRL and IMG_ACT. -/
  | imgBegin (p : Post)
  /-- IMG_COMMIT (R77): The command ends reception of a host load, and the remaining checks run. -/
  | imgCommit (p : Post)
  /-- IMG_ABORT (R77): The command ends a host load or held image as refused with ABORTED. -/
  | imgAbort (p : Post)
  /-- IMG_ACTIVATE (R76): The command brings a HELD image into force at the next boundary. -/
  | imgActivate (p : Post)
  /-- IMG_REDELIVER (R81): The command starts one tray delivery to the named die. -/
  | imgRedeliver (p : Post)
  /-- SNAPSHOT (R116): The command requests a snapshot hold of the masked clusters and sets PENDING. -/
  | snapshot (p : Post)
  /-- SNAP_RELEASE (R118): The command ends a hold, or cancels a pending one. -/
  | snapRelease (p : Post)
  /-- TRC_ARM (R179): The command arms the trace trigger. -/
  | trcArm (p : Post)
  /-- TRC_FIRE (R177): The command fires the armed trace trigger. -/
  | trcFire (p : Post)
  /-- TRC_EM_RESUME (R183): The command clears FROZEN and returns the event machine to state 0. -/
  | trcEmResume (p : Post)
  /-- SCAN_ABORT (R236): The command ends queued and running descriptors of the named channels with ABORTED. -/
  | scanAbort (p : Post)
  /-- SHARD_CLOSE (R251): The command turns PENDING shards MISSING and sends a SHARD_REPORT. -/
  | shardClose (p : Post)
  /-- FP_REPLAY (R265): The command sends a REPLAY_REQ with no replay record. -/
  | fpReplay (p : Post)
  /-- FP_BIN_CLR (R267): The command clears the mismatch bins of one die or of all dies. -/
  | fpBinClr (p : Post)
  /-- TE_BLOB_BEGIN (R325): The command enters LOADING for a host load of the tree blob. -/
  | teBlobBegin (p : Post)
  /-- TE_BLOB_END (R325): The command ends a blob load and enters CHECKING. -/
  | teBlobEnd (p : Post)
  /-- TE_BLOB_CHECK (R325): The command re-checks the blob that is in LPDDR5X. -/
  | teBlobCheck (p : Post)
  /-- VERD_RESET (R351): The command sets a die's verdict to CALM at the boundary and sends DRAIN_CLEAR from CONDEMN. -/
  | verdReset (p : Post)
  /-- VERD_ACK (R370): The command sets ACKED for a die's current verdict. -/
  | verdAck (p : Post)
  /-- START (R364): The command sends START flits to the trained dies in the mask. -/
  | start (p : Post)
  /-- ABORT_POST (R367): The command starts an abort fan-out from the tray. -/
  | abortPost (p : Post)
  /-- TALLY_LOAD (R399): The command sets a tally's count and LASTREL. -/
  | tallyLoad (p : Post)
  /-- TALLY_DUMP (R392): The command halts the tally unit with cause COMMAND and takes a hang dump. -/
  | tallyDump (p : Post)
  /-- TALLY_RESUME (R394): The command clears HALTED and resets the watchdog counts. -/
  | tallyResume (p : Post)
  /-- UL_RETRAIN (R440): The command takes the named link down with cause COMMAND. -/
  | ulRetrain (p : Post)
  /-- EVR_FLUSH (R494): The command triggers a recorder flush. -/
  | evrFlush (p : Post)
  /-- BIST_RUN (R520): The command isolates one in-service target and runs its BIST. -/
  | bistRun (p : Post)
  /-- BIST_ABORT (R520): The command ends a running in-service BIST with re-initialisation. -/
  | bistAbort (p : Post)
  /-- FUSE_BURN (R523): The command programs a fuse area from the staged words or the soft repairs. -/
  | fuseBurn (p : Post)
  /-- CPL_INJECT (R510): The command inverts bit 0 of an item's stored complement, which is a test complement fault. -/
  | cplInject (p : Post)
  /-- HEAT_BOUNDARY (R34): A heat boundary falls: slot 0 boundary work, the heat buoy, and publication of verdicts, scores and statistics. -/
  | heatBoundary (meas : BitVec 23) (unfinished : List (BitVec 10))
  /-- SUBSTITUTE_HEAT_BOUNDARY (R136): A substitute heat boundary falls N slots after the last boundary while the stroke reference is stopped. -/
  | substituteHeatBoundary (unfinished : List (BitVec 10))
  /-- PERIODIC_BUOY (R163): A PERIODIC buoy is captured at every 64th slot. -/
  | periodicBuoy (slot : BitVec 23)
  /-- ACTIVATE_BUOY (R163): An ACTIVATE buoy is captured every 2,048 cycles between A and the first new heat. -/
  | activateBuoy
  /-- ALIGNMENT_SLOT (R21): Exfin-T processes the heat's records, marks late dies, takes marks and forwards shared-sensor records. -/
  | alignmentSlot
  /-- FP_WAIT_EXPIRY (R255): FP_WAIT heats pass, which completes a comparison set with ABSENT members. -/
  | fpWaitExpiry
  /-- STEP_WAIT_EXPIRY (R277): STEP_WAIT heats pass, which completes a step with ABSENT members. -/
  | stepWaitExpiry
  /-- FP_RPL_TMO_EXPIRY (R262): The replay timeout ends a replay record as UNRESOLVED. -/
  | fpRplTmoExpiry (rec : BitVec 8)
  /-- CROSSING_TRANSFER (R49): A value crosses between clock domains through a crossing slot handshake. -/
  | crossingTransfer (d : BitVec 6) (toCore : Bool) (value : DWord)
  /-- CROSSING_TIMEOUT (R52): No presence toggle for XING_TMO cycles: the partner is declared stopped and the crossing disabled. -/
  | crossingTimeout (d : BitVec 6)
  /-- CROSSING_REARM (R52): A disabled crossing is re-armed at the first boundary after the presence bit changed twice. -/
  | crossingRearm (d : BitVec 6)
  /-- LP_REQ_RISE (R53): LP_REQ is taken across: the region is marked dormant and a GAP packet is captured. -/
  | lpReqRise (r : BitVec 5)
  /-- LP_ACK_RISE (R53): LP_ACK rises once the transfers pending with the region are complete. -/
  | lpAckRise (r : BitVec 5)
  /-- LP_REQ_FALL (R56): The carrier lowers LP_REQ for a region. -/
  | lpReqFall (r : BitVec 5)
  /-- LP_ACK_FALL (R56): LP_ACK falls after the presence bit has been seen to change twice. -/
  | lpAckFall (r : BitVec 5)
  /-- DORMANCY_EXIT (R56): The region leaves dormancy at the next heat boundary. -/
  | dormancyExit (r : BitVec 5)
  /-- PROBE_SAMPLE (R102): A region cycle samples the probes and adds counter contributions in the pre-stages. -/
  | probeSample (r : BitVec 5) (probes : BitVec 512)
  /-- COUNTER_TRANSFER (R107): A pre-stage's accumulated delta is applied to the live counter in CLK_CORE. -/
  | counterTransfer (n : BitVec 12)
  /-- HOLD_BEGIN (R117): A snapshot hold begins at a boundary that is due for every masked cluster. -/
  | holdBegin
  /-- HOLD_END (R118): A hold ends on release or expiry and the masked clusters freeze normally. -/
  | holdEnd
  /-- CLUSTER_SAMPLE_BUILD (R112): A producer builds a cluster sample, or a held sample, from its snapshot bank. -/
  | clusterSampleBuild (c : BitVec 6) (perr : Bool)
  /-- ANALOGUE_SAMPLE_SEND (R127): The analogue producer sends the latched sample on CNT. -/
  | analogueSampleSend
  /-- DIVISOR_CHANGE (R122): A changed producer or region divisor takes effect at its boundary. -/
  | divisorChange (region : Bool) (idx : BitVec 10)
  /-- SENSE_CONVERSION (R124): The SAR converter completes one conversion of the SENSE sequence. -/
  | senseConversion (code : BitVec 12) (openOrShort : Bool)
  /-- ROSC_WINDOW_OPEN (R126): A ring-oscillator window opens at slot 2 when none is open. -/
  | roscWindowOpen (r : BitVec 5)
  /-- ROSC_WINDOW_CLOSE (R126): A ring-oscillator window closes after 256 CLK_SENSE cycles with its count. -/
  | roscWindowClose (r : BitVec 5) (count : BitVec 16)
  /-- DROOP_EXCURSION (R126): A region rail falls below a droop step and is counted. -/
  | droopExcursion (r : BitVec 5) (depth : BitVec 3)
  /-- STROKE_ADVANCE (R129): The stroke counter advances in a STROKE_CLK cycle. -/
  | strokeAdvance (phase : Bool)
  /-- STROKE_LOAD (R131): STROKE_LOAD loads the counter, with jump effects when it differs from the expected value. -/
  | strokeLoad (phase : Bool) (value : DWord)
  /-- PTP_SYNC (R142): An accepted Sync frame is time-stamped as t2. -/
  | ptpSync (port : BitVec 1) (h : PtpHdr) (t2 : BitVec 128) (originTs : BitVec 128)
  /-- PTP_FOLLOW_UP (R142): A Follow_Up gives t1 of a two-step Sync. -/
  | ptpFollowUp (h : PtpHdr) (preciseTs : BitVec 128)
  /-- PTP_DELAY_REQ_SEND (R140): A Delay_Req is sent after an accepted Sync, no sooner than the interval allows. -/
  | ptpDelayReqSend (t3 : BitVec 128)
  /-- PTP_DELAY_RESP (R142): A matching Delay_Resp completes a measurement of theta and mean path delay. -/
  | ptpDelayResp (h : PtpHdr) (forUs : Bool) (t4 : BitVec 128)
  /-- PTP_ANNOUNCE (R140): An Announce enters the best master clock algorithm and may change the master. -/
  | ptpAnnounce (h : PtpHdr) (ds : PtpDataset) (utcValid : Bool) (utcOfs : BitVec 16)
  /-- HOLDOVER_ENTRY (R144): Sync or Announce timeouts enter HOLDOVER with ADJ held. -/
  | holdoverEntry (syncTmo : Bool)
  /-- TT_ROUND (R147): In a heat that is a multiple of TT_PERIOD, TT_REQ goes on every trained link. -/
  | ttRound
  /-- TT_REQ (R438): The die takes a TT_REQ, stamps t2 and t3, and sends TT_RESP. -/
  | ttReq (xn : BitVec 16) (t2 t3 : DWord)
  /-- TT_RESP (R148): The tray takes a TT_RESP and computes RTT, theta and the link length. -/
  | ttResp (k : BitVec 6) (xn : BitVec 16) (t1 t2 t3 t4 : DWord)
  /-- SLIP_NOTICE (R151): The die takes a SLIP_NOTICE and sets or clears SLIP_NOTED. -/
  | slipNotice (set : Bool) (theta : Word)
  /-- STROKE_JUMP (R134): The tray takes a die's STROKE_JUMP report and treats the affected records as late. -/
  | strokeJump (k : BitVec 6) (j loaded heat : DWord)
  /-- TAP_TRANSFER (R160): A trace tap's merged edges cross into the core clock and an EVENT packet is captured. -/
  | tapTransfer (tap : BitVec 9) (value : BitVec 16) (edges : BitVec 6) (ofs : BitVec 11)
  /-- TRACE_WRITER_SLOT (R168): The trace writer moves words from the capture FIFO into the buffer blocks. -/
  | traceWriterSlot
  /-- TRACE_DUMP (R172): After STOPPED in DUMP_ON_STOP, blocks are compressed and queued on TRC, oldest first. -/
  | traceDump
  /-- TRACE_SPILL (R174): A block about to be overwritten is copied to the spill ring, or is lost. -/
  | traceSpill (die : Bool)
  /-- TRC_BLOCK (R173): The tray takes a die's compressed trace block into the die partition, or drops it while frozen. -/
  | trcBlock (k : BitVec 6) (frame : List Byte)
  /-- EVENT_MACHINE_TRANSITION (R182): A transition counter reaches COUNT: the machine changes state and runs its actions. -/
  | eventMachineTransition (n : BitVec 5) (ofs : BitVec 11)
  /-- TRACE_FREEZE (R183): The POST count runs out and both partitions freeze. -/
  | traceFreeze
  /-- TRC_FIRE_FLIT (R177): The die takes a TRC_FIRE flit, which fires an armed trigger. -/
  | trcFireFlit (ofs : BitVec 11)
  /-- FRAME (R211): A sample frame is taken and decoded, or refused and a KEY_REQ is sent. -/
  | frame (k : BitVec 6) (bytes : List Byte)
  /-- KEY_REQ (R206): The die takes a KEY_REQ, which forces the source's next frame to be a key. -/
  | keyReq (kind : Byte) (fsid : BitVec 48)
  /-- RATIO_WINDOW (R213): A window of RATIO_WIN frames completes and the compression ratio is tested. -/
  | ratioWindow (kind : BitVec 3)
  /-- DESCRIPTOR_START (R225): A channel's next descriptor starts from Init or from a context. -/
  | descriptorStart (c : BitVec 3)
  /-- SCAN_READ_BUILD (R227): The request builder builds a segment read for a channel, or passes over a quarantined entry. -/
  | scanReadBuild (c : BitVec 3)
  /-- SCAN_READ_ISSUE (R218): A granted lane presents a read from the issue FIFO, or the grant goes unused. -/
  | scanReadIssue (lane : BitVec 1)
  /-- SCAN_RETURN (R219): A read returns on a lane and joins the take queue, or is discarded. -/
  | scanReturn (lane : BitVec 1) (tag : BitVec 9) (data : List Byte) (psn perr : BitVec 2)
  /-- CHECK_UNIT_DONE (R228): A check unit writes a segment's partial value into its value slot. -/
  | checkUnitDone
  /-- SEGMENT_FOLD (R229): The combine unit folds the next segment in ascending order. -/
  | segmentFold (c : BitVec 3)
  /-- SCAN_TIMEOUT (R234): A read outstanding beyond SCN_TMO ends its descriptor with TIMEOUT. -/
  | scanTimeout (c : BitVec 3) (entry : BitVec 6)
  /-- LEDGER_SLOT (R243): The ledger unit writes queued entries to the ring and queues FP_REPORT. -/
  | ledgerSlot
  /-- CATCH (R273): A CATCH marker is taken: it is stamped, the epochs take force, the EVD is computed and the generators are reseeded. -/
  | catchMark (step : Word)
  /-- FINISH (R273): A FINISH marker is taken and stamped. -/
  | finishMark (step : Word)
  /-- FP_REPORT (R255): The tray takes a ledger entry, which opens or joins a comparison set or matches a replay record. -/
  | fpReport (k : BitVec 6) (entry : List Byte)
  /-- SHARD_REPORT (R252): The tray stores a die's shard counts and forwards the report north. -/
  | shardReport (k : BitVec 6) (body : List Byte)
  /-- REPLAY_REQ (R259): The die takes a replay request and queues or joins it by step. -/
  | replayReq (step : Word) (obj : BitVec 12) (kind num : Byte)
  /-- REPLAY_HANDSHAKE (R259): The die raises REPLAY_REQ to the carrier for the queued step at the head. -/
  | replayHandshake
  /-- REPLAY_ACK_RISE (R260): REPLAY_ACK rises, REPLAY_OK is sampled, and REPLAY_ACCEPT or REPLAY_REFUSED is queued. -/
  | replayAckRise (ok : Bool)
  /-- REPLAY_NO_ACK (R260): No REPLAY_ACK within 65,536 cycles: the request is lowered and refused with NO_ACK. -/
  | replayNoAck
  /-- REPLAY_ACK_FALL (R259): REPLAY_ACK falls and the next handshake may begin. -/
  | replayAckFall
  /-- REPLAY_ACCEPT (R262): The tray takes a REPLAY_ACCEPT for its replay records. -/
  | replayAccept (k : BitVec 6) (step : Word) (nums : List Byte)
  /-- REPLAY_REFUSED (R262): The tray takes a REPLAY_REFUSED, and the records are judged UNRESOLVED. -/
  | replayRefused (k : BitVec 6) (step : Word) (nums : List Byte) (cause : Byte)
  /-- HEAT_HDR (R437): The tray takes a die's heat header with its step marks. -/
  | heatHdr (k : BitVec 6) (body : List Byte)
  /-- OVR_MARK (R437): The tray takes a heat overrun marker that stands for discarded records. -/
  | ovrMark (k : BitVec 6) (heat : DWord) (producer nrepl : BitVec 16)
  /-- DETREC (R437): The tray takes a die's detector record. -/
  | detrec (k : BitVec 6) (body : List Byte)
  /-- REDUCTION_RUN (R279): The reduction producer forms one step's figures, statistics and sketches and merges them into accumulation. -/
  | reductionRun
  /-- SKETCH_EXPORT (R292): The export serialiser converts a full export buffer into a sketch record. -/
  | sketchExport
  /-- TREE_SCORING (R328): The tree producer forms features, runs the waves and forms the scores of a heat. -/
  | treeScoring (late : Bool) (ces : BitVec 16) (ues : List (BitVec 6 × BitVec 12 × BitVec 16))
  /-- STREAM_WINDOW_LOAD (R319): A stream window of trees is loaded into its half of the stream area. -/
  | streamWindowLoad
  /-- BLOB_CHECK_DONE (R324): The blob check passes into COPYING or fails into FAULT. -/
  | blobCheckDone (readErr : Option (BitVec 32))
  /-- BLOB_COPY_DONE (R318): The copy of the resident trees into the node store completes. -/
  | blobCopyDone
  /-- TE_MODEL_READY (R323): The tree engine enters READY at the next heat boundary. -/
  | teModelReady
  /-- DETECTOR_UPDATE (R338): DET_PROD updates detector states, values and alarms. -/
  | detectorUpdate
  /-- UMPIRE_EVALUATION (R349): The umpire evaluates rule conditions and counts, and runs the rating governor. -/
  | umpireEvaluation
  /-- DRAIN_SEND (R358): After a CONDEMN, DRAIN is sent to the die or suppressed. -/
  | drainSend (die : BitVec 6)
  /-- DRAIN (R359): The die takes DRAIN and raises DRAIN_REQ, or answers SUPPRESSED. -/
  | drain
  /-- DRAIN_ACK_CHANGE (R359): DRAIN_ACK changes and DRAIN_STATE is reported. -/
  | drainAckChange (level : Bool)
  /-- DRAIN_STATE (R359): The tray takes a die's DRAIN_STATE. -/
  | drainState (k : BitVec 6) (st : Byte) (stroke : DWord)
  /-- DRAIN_TIMEOUT (R359): No DRAIN_ACK after DRAIN_TMO heats: DRAIN_NOACK is written. -/
  | drainTimeout (die : BitVec 6)
  /-- DRAIN_CLEAR (R360): The die takes DRAIN_CLEAR and lowers DRAIN_REQ. -/
  | drainClear
  /-- LEND_SET (R356): The die takes LEND_SET, which sets the tray's part of the policy lend. -/
  | lendSet
  /-- LEND_CLR (R356): The die takes LEND_CLR, which clears the tray's part of the policy lend. -/
  | lendClr
  /-- VERDICT_REPEAT (R369): An unacknowledged SUSPECT or CONDEMN is sent again every VREP heats. -/
  | verdictRepeat (die : BitVec 6)
  /-- LIVENESS_DISAGREE (R362): DISAGREE_H heats of differing views begin a liveness disagreement. -/
  | livenessDisagree (die : BitVec 6)
  /-- LIVENESS_AGREE (R362): DISAGREE_H heats of agreement end the disagreement. -/
  | livenessAgree (die : BitVec 6)
  /-- START_FLIT (R365): The die takes START and pulses JOB_START or answers LATE. -/
  | startFlit (id : Word) (deadline : DWord)
  /-- START_ACK (R366): The tray takes a START_ACK and records DELIVERED or LATE. -/
  | startAck (k : BitVec 6) (id : Word) (late : Bool)
  /-- START_TIMEOUT (R366): START_TMO heats pass and the start closes. -/
  | startTimeout
  /-- ABORT_REQ (R367): The carrier raises ABORT_REQ and the die sends ABORT on the insertion path. -/
  | abortReq (coll : BitVec 6)
  /-- ABORT_FLIT (R367): An ABORT flit is taken: the tray fans it out, or the die pulses ABORT_IN. -/
  | abortFlit (k : BitVec 6) (coll : BitVec 6) (origin : BitVec 48) (stroke : DWord)
  /-- ABORT_FRAME (R367): The tray takes a northbound abort frame and sends ABORT to its members. -/
  | abortFrame (port : BitVec 2) (coll : BitVec 6) (origin : BitVec 48) (stroke : DWord)
  /-- FAST_EVT (R19): The tray takes a fast event into its detector input. -/
  | fastEvt (k : BitVec 6) (n : BitVec 16) (stroke heat : DWord)
  /-- TALLY_SIGNAL (R380): A carrier lane signal is taken and applied, held or refused. -/
  | tallySignal (lane : BitVec 2) (id : BitVec 6) (inc : BitVec 16)
  /-- HELD_SIGNAL_APPLY (R385): A held signal is applied when its hold rule passes. -/
  | heldSignalApply (lane : BitVec 2)
  /-- TALLY_WAIT (R382): A wait lane registers a tally target. -/
  | tallyWait (w : BitVec 4) (id : BitVec 6) (tgt : Word)
  /-- TALLY_RELEASE (R382): A reached target raises REL and updates LASTREL. -/
  | tallyRelease (w : BitVec 4)
  /-- TALLY_WAIT_WITHDRAW (R382): TLY_WT_V falls, which lowers REL or withdraws the wait. -/
  | tallyWaitWithdraw (w : BitVec 4)
  /-- TALLY_SIG (R390): A remote signal is taken into the remote queue, forwarded, or refused. -/
  | tallySig (k : BitVec 6) (dest : BitVec 7) (tally : Byte) (inc : BitVec 16) (sender : BitVec 48)
  /-- REMOTE_SIGNAL_APPLY (R390): One remote signal is applied from the head of the queue. -/
  | remoteSignalApply
  /-- WAIT_LONG (R391): A wait reaches LEND_H boundaries and becomes LONG, which raises the long-wait lend. -/
  | waitLong (w : BitVec 4)
  /-- TALLY_WATCHDOG (R392): A wait reaches WDOG_H boundaries: the unit halts and takes a hang dump. -/
  | tallyWatchdog
  /-- TALLY_TASK_END (R396): A task-end pulse judges the masked tallies for leftovers. -/
  | tallyTaskEnd (mask : BitVec 48)
  /-- HANG_DUMP (R393): The tray takes a die's hang dump and forwards it north. -/
  | hangDump (k : BitVec 6) (dump : List Byte)
  /-- PHY_RESET_TIMER (R413): 1 µs in DOWN ends and UL_PHY_RST is released. -/
  | phyResetTimer (k : BitVec 6)
  /-- RX_LOCK_CHANGE (R413): UL_RX_LOCK rises, which enters LOCK, or falls, which returns the link to DOWN. -/
  | rxLockChange (k : BitVec 6) (lock : Bool)
  /-- CAP (R415): A CAP flit with capability words is taken from the partner. -/
  | cap (k : BitVec 6) (words : List Byte)
  /-- TRAINING_CHECK (R417): The capability checks complete and pass into UP or fail into FAILED. -/
  | trainingCheck (k : BitVec 6) (fofsAvg : BitVec 16)
  /-- TRAINING_TIMEOUT (R413): No UP within TRAIN_TMO: training fails with TIMEOUT. -/
  | trainingTimeout (k : BitVec 6)
  /-- FAILED_HOLD_END (R413): TRAIN_TMO in FAILED ends and the link returns to DOWN. -/
  | failedHoldEnd (k : BitVec 6)
  /-- FLIT_SLOT (R409): A flit slot sends one flit chosen by the fixed order. -/
  | flitSlot (k : BitVec 6) (ue : Bool)
  /-- FLIT_RECEIVE (R419): A flit is checked by CRC and sequence and accepted, discarded, or answered with a NAK. -/
  | flitReceive (k : BitVec 6) (pairing : Bool) (d : BitVec 256 × BitVec 256)
  /-- NAK (R421): A NAK is taken and starts a replay from NSEQ. -/
  | nak (k : BitVec 6) (nseq : BitVec 12)
  /-- KEEPALIVE_DUE (R411): A KEEPALIVE falls due every 1 µs. -/
  | keepaliveDue (k : BitVec 6)
  /-- KEEPALIVE_LOSS (R429): 16 intervals pass with no good flit: the link goes down with cause KEEPALIVE. -/
  | keepaliveLoss (k : BitVec 6)
  /-- FLIT_REPLAY_TIMEOUT (R422): No acknowledgement for REPLAY_TMO: replay from the oldest, or take the link down after 16 sends. -/
  | flitReplayTimeout (k : BitVec 6)
  /-- CREDIT_LEAK (R427): A flit unretired CRD_GRACE after acknowledgement is declared leaked and shrinks the window. -/
  | creditLeak (k : BitVec 6) (vc : BitVec 2)
  /-- MESSAGE_DELIVERY (R425): An accepted flit moves to its message queue, which frees a credit. -/
  | messageDelivery (k : BitVec 6) (vc : BitVec 2)
  /-- PROXY_ACCESS (R462): An access to the proxy window takes a tag and sends PROXY_REQ, or completes BUSY. -/
  | proxyAccess (src : ProxySrc) (wr : Bool) (off : BitVec 26) (data : Word)
  /-- PROXY_REQ (R434): The die takes a proxy request into its proxy queue. -/
  | proxyReq (tag : Byte) (flags : Byte) (off data : Word)
  /-- PROXY_EXECUTE (R463): The die executes a queued proxy request with the carried role and answers PROXY_RSP. -/
  | proxyExecute
  /-- PROXY_RSP (R462): The tray takes a PROXY_RSP and completes the tagged access. -/
  | proxyRsp (k : BitVec 6) (tag status : Byte) (data : Word)
  /-- IMAGE_ACTIVE (R83): The tray takes a die's IMAGE_ACTIVE report of digest and version. -/
  | imageActive (k : BitVec 6) (digest : DWord) (ver : Word) (src : BitVec 2) (heat : DWord) (period phase : Word) (stroke : DWord)
  /-- IMG_OFFER (R73): The die takes an image offer and starts a tray load, or refuses it. -/
  | imgOffer (digest : DWord) (len : Word)
  /-- IMG_OFFER_REPEAT (R73): The tray repeats a refused offer at every heat boundary. -/
  | imgOfferRepeat (k : BitVec 6)
  /-- IMG_SECT (R82): The die takes an image section, or refuses the load with SEQUENCE. -/
  | imgSect (off : Word) (bytes : List Byte)
  /-- DELIVERY_SECTION_SEND (R531): Exfin-T reads one section per delivering link in rotation and sends it on BULK. -/
  | deliverySectionSend
  /-- IMAGE_CHECK_DONE (R70): The image checks complete, and the image becomes ready, HELD or NV-writing, or is refused. -/
  | imageCheckDone
  /-- NV_WRITE_COMPLETE (R89): The NV write sequence finishes with VALID programmed, or fails. -/
  | nvWriteComplete (failStep : Byte)
  /-- IMAGE_ACTIVATION (R79): A ready image comes into force at stroke A with the effects of Table 2-9. -/
  | imageActivation
  /-- ETH_FRAME_RECEIVE (R444): An Ethernet frame is accepted by kind or discarded and counted. -/
  | ethFrameReceive (port : BitVec 1) (f : EthFrame)
  /-- REG_REQ (R448): A REG_REQ takes a request place, binds a session, or is repeated as a duplicate. -/
  | regReq (port : BitVec 2) (src : BitVec 48) (reqid : Word) (entries : List ReqEntry)
  /-- REG_REQ_ENTRY (R448): One REG_REQ entry runs, and the REG_RSP is queued after the last. -/
  | regReqEntry (place : BitVec 4)
  /-- EGRESS_FRAME_SELECT (R452): At a frame boundary, the abort queue or the highest open class whose frame fits sends. -/
  | egressFrameSelect (port : BitVec 1) (t : BitVec 128)
  /-- GATE_ENTRY_START (R451, R454): A gate list entry or cycle begins and the gates change, the class of the frame in transmission, if any, being `busy`. -/
  | gateEntryStart (port : BitVec 1) (entry : BitVec 7) (busy : Option (BitVec 3))
  /-- GATE_CHANGE_TIME (R453, R454): At CHT the pending list becomes the oper list, the class of the frame in transmission, if any, being `busy`. -/
  | gateChangeTime (port : BitVec 1) (busy : Option (BitVec 3))
  /-- NB_PORT_STATE (R443): A 100 Gb/s port changes UP state. -/
  | nbPortState (port : BitVec 1) (up fecLock : Bool)
  /-- T1S_FRAME_RECEIVE (R458): A rack-bus frame is handled as known, not ours, or stranger. -/
  | t1sFrameReceive (f : EthFrame)
  /-- DISCOVER_SEND (R459): DISCOVER is sent on joining and every 1,000 ms. -/
  | discoverSend
  /-- DISCOVER (R459): A DISCOVER enters the peer table or counts as a stranger. -/
  | discover (src : BitVec 48) (node : Byte) (tray : BitVec 18)
  /-- ECHO_EXCHANGE (R461): An ECHO_REQ of a propagation round is sent to a peer. -/
  | echoExchange (peer : BitVec 4)
  /-- ECHO_REQ (R461): A peer's ECHO_REQ is answered in the next opportunity. -/
  | echoReq (src : BitVec 48) (xn : BitVec 16)
  /-- ECHO_RSP (R461): An ECHO_RSP completes one exchange and updates PROP_NS. -/
  | echoRsp (src : BitVec 48) (xn : BitVec 16) (turnNs rttCycles : Word)
  /-- PLCA_MODE_CHANGE (R457): PLCA becomes active or inactive. -/
  | plcaModeChange (plca : Bool)
  /-- FLASH_OPERATION_DONE (R466): A flash erase or program completes by status polling, or fails on time. -/
  | flashOperationDone (op : FlashOp) (ok : Bool)
  /-- SESSION_FREE (R472): A host session idle for 60 s is freed. -/
  | sessionFree (sess : BitVec 4)
  /-- ROLE_TIMEOUT (R482): ROLE_TMO without an access drops the path to operator. -/
  | roleTimeout (path : BitVec 4)
  /-- NONCE_EXPIRY (R479): An unused nonce expires after 1 s. -/
  | nonceExpiry (path : BitVec 4)
  /-- ROLE_LOCK_END (R481): A 1 s or 60 s nonce refusal period ends. -/
  | roleLockEnd (all : Bool) (path : BitVec 4)
  /-- REC_FLUSH_SEND (R494): Exfin-D sends unflushed records in a REC_FLUSH on BULK. -/
  | recFlushSend (older1s : Bool)
  /-- REC_FLUSH (R495): The tray buffers a die's flushed records. -/
  | recFlush (k : BitVec 6) (places : List (List Byte))
  /-- RECORDER_FLUSH (R501): Exfin-T writes buffered records to the head or ring in its flash slots. -/
  | recorderFlush (older60s : Bool)
  /-- ODOMETER_ENTRY (R499): An odometer entry is written after each 1,024 units of HOURS. -/
  | odometerEntry
  /-- ODOMETER_SECTOR_ERASE (R499): The other odometer sector is erased once a sector is full. -/
  | odometerSectorErase
  /-- COMPLEMENT_FAULT (R508): A stored pair stops being complements and the item takes its safe state. -/
  | complementFault (item : BitVec 4) (index : Byte)
  /-- IN_SERVICE_BIST_DONE (R520): An in-service BIST completes and its target is re-initialised. -/
  | inServiceBistDone (repaired unrepaired : Byte) (failures : List AbistFail)
  /-- FUSE_BIT_PROGRAM (R562): One fuse bit is programmed and acknowledged, or errs. -/
  | fuseBitProgram (err : Bool)
  /-- FUSE_BURN_DONE (R562): A burn ends with its read-back, setting FAIL on a mismatch. -/
  | fuseBurnDone (readback : List Word)
  /-- BLK_PD_REQ (R537): BLK_PD_REQ is seen and work stops at the next boundary, or the request is withdrawn. -/
  | blkPdReq (level : Bool)
  /-- BLK_PD_ACK (R537): BLK_PD_ACK rises once scans, the flush and self-refresh are done. -/
  | blkPdAck (outstanding : Bool)
  /-- POWER_FAIL_SIGNAL (R541): The debounced bus comparator or PF_IN raises the power-fail signal. -/
  | powerFailSignal (pfIn : Bool)
  /-- POWER_FAIL_FLUSH_DONE (R502): The power-fail flush completes and PF_DONE is set. -/
  | powerFailFlushDone
  /-- POWER_FAIL_END (R543): The bus is re-armed for 100 ms and the power-fail state ends. -/
  | powerFailEnd (ms : Word)
  /-- HOLDUP_MEASUREMENT (R544): The hold-up test opens the input isolation and converts the bus. -/
  | holdupMeasurement (code : BitVec 12)
  /-- HOLDUP_MEASUREMENT_END (R546): The hold-up test ends and computes capacitance and hold-up time. -/
  | holdupMeasurementEnd (below : Bool)
  /-- EXFIN_REG_UPDATE (R563): An update of EXFIN_REG starts one register access on path 10. -/
  | exfinRegUpdate (v : BitVec 66)
  /-- TRANSMIT_OPPORTUNITY (R456): Exfin-T's PLCA transmit opportunity on the rack bus comes round: it sends BEACON as coordinator, sends queued frames including ECHO_RSP answers, and gathers collision or foreign-activity evidence of a node-ID clash. -/
  | transmitOpportunity (evidence : BitVec 3)
  /-- JT_TRST (R563): JT_TRST_N is asserted and resets Exfin's test data registers, including EXFIN_REG and its DONE state. -/
  | jtTrst
deriving DecidableEq, Repr

end Sys2Proof
end

