-- ==== Sys2Proof/Config.lean ====
section
/-! DEFINITION. What an implementation fixes and the spec leaves open: opaque constants, no body, so that nothing can be
proved of a particular value. Each is named in the assumption log. -/

namespace Sys2Proof.Config

/-- The free values: the spec leaves a value open and the machine goes on; the argument is the state's counter of values
taken so far, so that each is fresh (notes/assumptions/3). -/
opaque freeValue : Nat → BitVec 64

/-- Depth, in messages, of a link's transmit queue on virtual channel `vc` (0 CTRL, 1 CNT, 2 TRC, 3 BULK): R45 fixes that
it is fixed, no rule says at what; a queue has room for one message at least (notes/assumptions/4). -/
opaque txRoom (vc : BitVec 2) : ℕ+

/-- Depth, in flits, of the message queue behind a receive buffer (R425 under R45; notes/assumptions/4). -/
opaque rxRoom (vc : BitVec 2) : ℕ+

/-- Depth, in messages, of a link's CTRL insertion path (R410 under R45; notes/assumptions/4). -/
opaque insRoom : ℕ+

/-- The depth of the insertion path as a number. -/
def insDepth : Nat := insRoom

/-- The depth of a transmit queue as a number. -/
def txDepth (vc : BitVec 2) : Nat := txRoom vc

/-- The depth of a message queue behind a receive buffer as a number. -/
def rxDepth (vc : BitVec 2) : Nat := rxRoom vc

/-- The stream numbers of the generators of R268: each is its engine's own, and no chapter names one (notes/assumptions/57). -/
opaque genStreams : List Nat

/-- The temperature in 1/16 °C formed from the two conversions of a thermal diode with the maker's fuse trim: R126 names
the inputs and the format and no formula (notes/assumptions/5). -/
opaque thermal (c1 c2 : BitVec 12) : Int

/-- The PCS latency a MAC corrects a time-stamp by (R141 names it and gives no figure), in 2^-40 ns. -/
opaque pcsLatency (port : Nat) (fec : Bool) : Nat

/-- The clockIdentity of the ordinary clock on an Ethernet port (Table 4-2 names the standard and no identity;
notes/assumptions/93). -/
opaque ptpIdentity (port : Nat) : BitVec 64

/-- The code of the cause of an FP_UNRESOLVED record (Table 8-7 says that the record carries the cause and gives no codes):
0 inputs gone, 1 no acknowledge, 2 timeout, 3 no replay, 4 no reference, 5 no longer a member. -/
opaque unresolvedCause (why : Nat) : BitVec 8

end Sys2Proof.Config
end

