-- ==== Sys2Proof/Machine/Bits.lean ====
section
/-! DEFINITION. Bit fields, byte order, saturating counters, the check values of R216 and R217, and SHA-256 with HMAC
(R477, R478). -/

namespace Sys2Proof

/-- The `n` bytes of `v`, lowest first (R58, R407, R489: all multi-byte fields are little-endian). -/
def le (n v : Nat) : List Byte := (List.range n).map fun i => BitVec.ofNat 8 (v >>> (8 * i))

/-- The number that little-endian bytes spell. -/
def unle : List Byte → Nat
  | [] => 0
  | b :: t => b.toNat + 256 * unle t

/-- `n` bytes of `l` from offset `o` on, as a number; bytes beyond the end read 0. -/
def leAt (l : List Byte) (o n : Nat) : Nat := unle ((l.drop o).take n)

/-- Bits `hi..lo` of `v`. -/
def bits (v hi lo : Nat) : Nat := (v >>> lo) % 2 ^ (hi + 1 - lo)

/-- `v` cut to `w` bits and put at bit `lo`. -/
def fieldAt (v lo w : Nat) : Nat := (v % 2 ^ w) <<< lo

/-- Saturating increment (R41, R45 and the counters that say "saturating"). -/
def satInc {w : Nat} (x : BitVec w) : BitVec w := if x = BitVec.allOnes w then x else x + 1

/-- Saturating addition of `n`. -/
def satAdd {w : Nat} (x : BitVec w) (n : Nat) : BitVec w := BitVec.ofNat w (min (2 ^ w - 1) (x.toNat + n))

/-- A 32-bit drop counter (R45) as a 16-bit field that saturates shows it. -/
def shown16 (x : Word) : Nat := min 0xFFFF x.toNat

/-- Bit `i` of a mask set or cleared. -/
def setBit {w : Nat} (x : BitVec w) (i : Nat) (b : Bool) : BitVec w :=
  if b then x ||| BitVec.ofNat w (2 ^ i) else x &&& ~~~ BitVec.ofNat w (2 ^ i)

/-- Sign extension of the low `w` bits of a number. -/
def sgn (w v : Nat) : Int := if v % 2 ^ w < 2 ^ (w - 1) then (v % 2 ^ w : Nat) else ((v % 2 ^ w : Nat) : Int) - (2 ^ w : Nat)

/-- The low `w` bits of an integer, as a number (two's complement). -/
def wrapI (w : Nat) (x : Int) : Nat := (x % ((2 ^ w : Nat) : Int)).toNat

/-- The least `k` with `2 ^ k ≥ n`, for the powers of two the registers show as logarithms. -/
def log2i (n : Nat) : Nat := Nat.log2 n

/-- One bit of a reflected check value, `poly` reflected. -/
def crcBitR {w : Nat} (poly c : BitVec w) : BitVec w := if c.getLsbD 0 then (c >>> 1) ^^^ poly else c >>> 1

/-- One byte of a reflected check value. -/
def crcByteR {w : Nat} (poly c : BitVec w) (b : Byte) : BitVec w :=
  let s := crcBitR poly
  s (s (s (s (s (s (s (s (c ^^^ b.setWidth w))))))))

/-- One bit of a check value taken high bit first. -/
def crcBitN (poly c : DWord) : DWord := if c.getLsbD 63 then (c <<< 1) ^^^ poly else c <<< 1

/-- One byte of a check value taken high bit first. -/
def crcByteN (poly c : DWord) (b : Byte) : DWord :=
  let s := crcBitN poly
  s (s (s (s (s (s (s (s (c ^^^ (b.setWidth 64 <<< 56)))))))))

/-- The check value of a message under the parameter set PSET (Table 7-1, R217), 32-bit sets zero extended. -/
def checkValue (pset : BitVec 2) (m : List Byte) : DWord :=
  if pset = 0 then (~~~ (m.foldl (crcByteR (0xEDB88320 : Word)) 0xFFFFFFFF)).setWidth 64
  else if pset = 1 then (~~~ (m.foldl (crcByteR (0x82F63B78 : Word)) 0xFFFFFFFF)).setWidth 64
  else if pset = 2 then m.foldl (crcByteN 0x42F0E1EBA9EA3693) 0
  else ~~~ (m.foldl (crcByteR (0xC96C5795D7870F42 : DWord)) 0xFFFFFFFFFFFFFFFF)

/-- CRC-32C of a byte string. -/
def crc32c (m : List Byte) : Word := (checkValue 1 m).setWidth 32

/-- CRC-64/ECMA-182 of a byte string. -/
def crc64 (m : List Byte) : DWord := checkValue 2 m

/-- One step of a Galois generator (R268). -/
def galoisStep (x : DWord) : DWord := if x.getLsbD 0 then (x >>> 1) ^^^ 0xD800000000000000 else x >>> 1

/-- `n` steps of a generator. -/
def galoisRun : Nat → DWord → DWord
  | 0, x => x
  | n + 1, x => galoisRun n (galoisStep x)

/-- A draw of `k` bits, 1 to 32, of a generator (R268): 32 steps, then the low bits; with the generator as it stands after. -/
def galoisDraw (k : Nat) (x : DWord) : Nat × DWord := let y := galoisRun 32 x; (y.toNat % 2 ^ k, y)

/-- `n` bits of a root, from the highest down: the greatest `r` of the form `r0 + k` with `k < 2 ^ n` whose `e`-th power is
at most `x`. -/
def rootFrom (e x : Nat) : Nat → Nat → Nat
  | 0, r => r
  | n + 1, r => rootFrom e x n (if (r + 2 ^ n) ^ e ≤ x then r + 2 ^ n else r)

/-- The first 32 bits of the fraction of the `e`-th root of `p` (R477 names SHA-256, whose constants FIPS 180-4 forms so). -/
def rootFraction (e p : Nat) : Word := BitVec.ofNat 32 (rootFrom e (p * 2 ^ (32 * e)) 37 0)

/-- The primes below 312, in ascending order. -/
def primes64 : List Nat := (List.range 312).filter fun p => 2 ≤ p ∧ ∀ d ∈ List.range 18, 2 ≤ d → d < p → p % d ≠ 0

/-- The chaining value and the working variables of the digest: the two four-word halves of FIPS 180-4's a to h. -/
structure Digest where
  lo : Vector Word 4
  hi : Vector Word 4
deriving DecidableEq, Repr

/-- The eight words as one list, a to h. -/
def Digest.words (d : Digest) : List Word := d.lo.toList ++ d.hi.toList

/-- The digest before the first block: the square roots of the first eight primes. -/
def Digest.start : Digest :=
  let w (p : Nat) : Word := rootFraction 2 p
  ⟨#v[w 2, w 3, w 5, w 7], #v[w 11, w 13, w 17, w 19]⟩

/-- The exclusive or of three rotations to the right. -/
def rot3 (x : Word) (i j k : Nat) : Word := x.rotateRight i ^^^ x.rotateRight j ^^^ x.rotateRight k

/-- Each bit from `f` where `e` has a 1, from `g` elsewhere. -/
def choose (e f g : Word) : Word := g ^^^ (e &&& (f ^^^ g))

/-- Each bit as most of the three have it. -/
def majority (a b c : Word) : Word := (a &&& b) ||| (c &&& (a ||| b))

/-- One round with the sum `k` of its constant and its schedule word. -/
def Digest.step (d : Digest) (k : Word) : Digest :=
  let u := d.hi[3] + rot3 d.hi[0] 6 11 25 + choose d.hi[0] d.hi[1] d.hi[2] + k
  let v := rot3 d.lo[0] 2 13 22 + majority d.lo[0] d.lo[1] d.lo[2]
  ⟨#v[u + v, d.lo[0], d.lo[1], d.lo[2]], #v[d.lo[3] + u, d.hi[0], d.hi[1], d.hi[2]]⟩

/-- The sixteen schedule words in use move on by one: the window's oldest word leaves, the next one joins at the end. -/
def slideWindow (w : List Word) : List Word :=
  let at_ (i : Nat) : Word := w.getD i 0
  let mix (x : Word) (i j k : Nat) : Word := x.rotateRight i ^^^ x.rotateRight j ^^^ (x >>> k)
  w.drop 1 ++ [at_ 0 + mix (at_ 1) 7 18 3 + at_ 9 + mix (at_ 14) 17 19 10]

/-- The rounds of the primes given, over the window of schedule words. -/
def Digest.rounds : List Nat → List Word → Digest → Digest
  | [], _, d => d
  | p :: ps, w, d => rounds ps (slideWindow w) (d.step (rootFraction 3 p + w.headD 0))

/-- One 64-byte block taken into the digest. -/
def Digest.block (d : Digest) (blk : List Byte) : Digest :=
  let big (i : Nat) : Word := BitVec.ofNat 32 (unle ((blk.drop (4 * i)).take 4).reverse)
  let e := Digest.rounds primes64 ((List.range 16).map big) d
  ⟨Vector.zipWith (· + ·) d.lo e.lo, Vector.zipWith (· + ·) d.hi e.hi⟩

/-- SHA-256 of a byte string: the message, a 1 bit, zeros to 56 bytes of the last block, and the length in bits. -/
def sha256 (m : List Byte) : List Byte :=
  let p := m ++ 0x80 :: List.replicate ((119 - m.length % 64) % 64) 0 ++ (le 8 (8 * m.length)).reverse
  let d := (List.range (p.length / 64)).foldl (fun d i => d.block ((p.drop (64 * i)).take 64)) Digest.start
  d.words.flatMap fun w => (le 4 w.toNat).reverse

/-- HMAC-SHA-256 with a 32-byte key (R478). -/
def hmac (key m : List Byte) : List Byte :=
  let k := key ++ List.replicate (64 - key.length) 0
  sha256 (k.map (· ^^^ 0x5c) ++ sha256 (k.map (· ^^^ 0x36) ++ m))

end Sys2Proof
end

