-- ==== Sys2Proof/Machine/Tab.lean ====
section
/-! DEFINITION. The operations on sparse stores (counters, snapshot words, flash, per-die figures): read one entry, write
one entry keeping the canonical form, and the predicate that says the form. -/

namespace Sys2Proof

/-- What index `i` reads as, `d` being what an unlisted index reads as. -/
def Tab.get {α : Type} (d : α) : Tab α → Nat → α
  | [], _ => d
  | (j, v) :: t, i => if i = j then v else Tab.get d t i

/-- Write `v` at index `i`; the value an unlisted index reads as removes what is listed there. -/
def Tab.set {α : Type} [DecidableEq α] (d : α) : Tab α → Nat → α → Tab α
  | [], i, v => if v = d then [] else [(i, v)]
  | (j, w) :: t, i, v =>
    if v = d then (if i = j then Tab.set d t i v else (j, w) :: Tab.set d t i v)
    else if i < j then (i, v) :: (j, w) :: t
    else if i = j then (i, v) :: t
    else (j, w) :: Tab.set d t i v

/-- Change the value at index `i` by `f`. -/
def Tab.upd {α : Type} [DecidableEq α] (d : α) (t : Tab α) (i : Nat) (f : α → α) : Tab α :=
  Tab.set d t i (f (Tab.get d t i))

/-- The values of the indices `lo .. lo + n - 1`. -/
def Tab.slice {α : Type} (d : α) (t : Tab α) (lo n : Nat) : List α :=
  (List.range n).map fun i => Tab.get d t (lo + i)

/-- Write a list of values from index `lo` on. -/
def Tab.setAll {α : Type} [DecidableEq α] (d : α) (t : Tab α) (lo : Nat) : List α → Tab α
  | [] => t
  | v :: vs => Tab.setAll d (Tab.set d t lo v) (lo + 1) vs

/-- Change every listed value by `f`, keeping the canonical form. -/
def Tab.mapV {α : Type} [DecidableEq α] (d : α) (t : Tab α) (f : α → α) : Tab α :=
  (t.map fun p => (p.1, f p.2)).filter fun p => p.2 ≠ d

/-- Every listed index lies above `b`, indices rise, and no entry is `d`. -/
def Tab.wfFrom {α : Type} [DecidableEq α] (d : α) (b : Nat) : Tab α → Bool
  | [] => true
  | (j, v) :: t => decide (b ≤ j) && decide (v ≠ d) && Tab.wfFrom d (j + 1) t

/-- The canonical form. -/
def Tab.wf {α : Type} [DecidableEq α] (d : α) (t : Tab α) : Bool := Tab.wfFrom d 0 t

/-- A byte memory: a sparse store of bytes in the form the host names a cell. -/
abbrev Memory := List Host.Cell

/-- The canonical form of a byte memory whose unlisted bytes read as `d`. -/
abbrev Memory.wf (d : Byte) (m : Memory) : Bool := Tab.wf (α := Byte) d m

end Sys2Proof
end

