-- ==== Sys2Proof/Machine/State.lean ====
section
/-! DEFINITION. The state of the block as plain data, one structure per chapter of the spec, the outcomes' fault and
refusal types, and the state at reset. -/

namespace Sys2Proof.Machine

/-- The two grades of the block (R6). -/
inductive Grade where
  | die
  | tray
deriving DecidableEq, Repr, Inhabited

/-- An image as it lies in the shadow stores or in force: its length and its bytes, unlisted bytes 0. -/
structure Image where
  len : Nat
  mem : Memory
deriving DecidableEq, Repr, Inhabited

/-- A message of the uplink: its type (Table 13-6) and its payload bytes. -/
structure Msg where
  mtype : Byte
  body : List Byte
deriving DecidableEq, Repr, Inhabited

/-- One input of the event machine in a cycle (Table 5-5, CKIND 1, 2, 3, 5; `slot0` the first cycle of slot 0, CKIND 4). -/
inductive EmInput where
  | tap (t : BitVec 9)
  | code (c : BitVec 16)
  | fast (die : BitVec 6)
  | verdict (level : BitVec 2)
  | slot0
deriving DecidableEq, Repr

/-- One access in the queue of R38; `test` for one that the test access started (R563). -/
structure RaReq where
  test : Bool
  wr : Bool
  be : BitVec 4
  off : Word
  data : Word
  tag : BitVec 9
deriving DecidableEq, Repr, Inhabited

/-- One response of the register access port (R551): tag, data, status. -/
structure RaRsp where
  tag : BitVec 9
  data : Word
  sts : BitVec 3
deriving DecidableEq, Repr, Inhabited

/-- Build, straps, resets and start-up phases (R6, R526, R527, R548, R549). `fresh` is the MODEL's own counter of free
values taken. -/
structure Sys where
  build : Grade
  aonHeld : Bool
  rstHeld : Bool
  corePg : Bool
  pgRose : Bool
  firstRelease : Bool
  strapErr : Bool
  x2 : Bool
  pkg : BitVec 4
  die : BitVec 3
  lp5Grade : BitVec 2
  phase : BitVec 4
  powerup : Bool
  pht : Tab Word
  resetCount : BitVec 16
  tray : BitVec 18
  trayValid : Bool
  sfdpDone : Bool
  scanDone : Bool
  lp5Done : Bool
  fresh : Nat
deriving DecidableEq, Repr, Inhabited

/-- Power, power-fail, power-down, budget lend and hold-up (chapter 17). -/
structure Power where
  memFail : Bool
  selfRefresh : Bool
  pfIn : Bool
  pf : Bool
  pfOut : Bool
  pfLowMv : Word
  pdReq : Bool
  pdStopped : Bool
  pdAck : Bool
  lendLong : Bool
  lendPolicy : Bool
  lendTray : Bool
  huIso : Bool
  huDue : Bool
  huV : List (BitVec 12)
  huI : List (BitVec 12)
  huValid : Bool
  huOk : Bool
  huAbort : BitVec 2
  huCap : Word
  huTime : Word
  huLoad : Word
deriving DecidableEq, Repr, Inhabited

/-- The fuse words as phase FUSE read them, the staging words and the burn (R523, R559 to R562). -/
structure Fuse where
  map : Tab Word
  next : Nat
  busy : Bool
  fail : Bool
  area : BitVec 2
  want : Tab Word
  bits : List Nat
deriving DecidableEq, Repr, Inhabited

/-- Memory and analogue BIST (R517 to R522). -/
structure Bist where
  busy : Bool
  target : BitVec 3
  link : BitVec 6
  isolated : Bool
  finishing : Bool
  caller : Nat
  done : BitVec 8
  repaired : Byte
  unrepaired : Byte
  memRep : Tab (BitVec 10)
  memUnrep : Tab (BitVec 10)
  soft : List (BitVec 6 × BitVec 9)
  verify : BitVec 8
  abistDone : Bool
  abistRes : Tab Word
deriving DecidableEq, Repr, Inhabited

/-- Sticky errors, complement faults, WC2 staging, crossings and memory errors (chapter 16). `noted` holds, per sticky bit
(32 × register + bit), the record codes already written since the bit was last cleared (R512). -/
structure Integ where
  sticky0 : Word
  sticky1 : Word
  sticky2 : Word
  sticky3 : Word
  first : Word
  firstStroke : DWord
  cplStat : Tab Bool
  cplLast : Word
  staged : Option (BitVec 20 × Word)
  wc2Last : Word
  xingStop : BitVec 40
  xingDorm : BitVec 40
  xingLast : Tab DWord
  memCe : Tab Word
  memUe : Tab Word
  noted : List (BitVec 7 × BitVec 16)
deriving DecidableEq, Repr, Inhabited

/-- The heat (`first` the number of the first heat of the image in force, `begun` since the first boundary after BIST,
`taken` once the boundary of the present stroke has been taken), its measures, the divisors in force and pending, LP_REQ,
LP_ACK and the LP_ACK still owed for an entry into dormancy, and the register access queue (chapter 1). A divisor of 0
in the table stands for the producer's D_PROVED (or RD_r's initial value). -/
structure Heat where
  heat : DWord
  first : DWord
  count : DWord
  begun : Bool
  inGap : Bool
  taken : Bool
  meas : BitVec 23
  ovr : Word
  overrun : List (BitVec 10)
  div : Tab (BitVec 7)
  divNext : Tab (BitVec 7)
  rdiv : Tab (BitVec 3)
  rdivSet : BitVec 32
  rdivNext : Tab (BitVec 3)
  rdivPend : BitVec 32
  lpReq : BitVec 32
  lpAck : BitVec 32
  lpOwed : BitVec 32
  dormant : BitVec 32
  raq : List RaReq
  rsp : List RaRsp
deriving DecidableEq, Repr, Inhabited

/-- The last report of a die (R83). -/
structure DieReport where
  digest : DWord
  version : Word
  src : BitVec 2
  valid : Bool
deriving DecidableEq, Repr, Inhabited

/-- One tray delivery in progress (R81, R531). -/
structure Delivery where
  link : BitVec 6
  entry : BitVec 3
  sent : Nat
deriving DecidableEq, Repr, Inhabited

/-- The image loader (chapter 2); `late` says that the stroke of IMG_ACT had passed when the image became ready (R76). -/
structure Loader where
  st : BitVec 3
  srcLoad : BitVec 2
  srcForce : BitVec 2
  fdReason : BitVec 4
  nvFail : Bool
  latNv : Bool
  latAct : BitVec 2
  latLen : Nat
  latStroke : DWord
  latRole : BitVec 2
  latPath : BitVec 4
  latDigest : DWord
  shadow : Image
  goNow : Bool
  late : Bool
  startup : Bool
  refuse : Word
  refuseOff : BitVec 25
  cur : Option Image
  digest : DWord
  digestC : DWord
deriving DecidableEq, Repr, Inhabited

/-- What Exfin-T keeps for the images of its dies, and the NV slot's count (R80 to R90); `offers` are the links whose offer
is not known to be taken (R73), with true for one that IMG_REDELIVER started. -/
structure TrayImages where
  nvCount : Word
  reports : Tab DieReport
  mismatch : BitVec 64
  deliveries : List Delivery
  offers : List (BitVec 6 × Bool)
  cache : Tab Image
  rotate : BitVec 6
deriving DecidableEq, Repr, Inhabited

/-- Probes, counters, snapshot banks and holds (chapter 3). Probe levels are kept per region as sampled last. -/
structure Probes where
  prev : Tab (BitVec 512)
  delta : Tab DWord
  deltaRises : Tab (BitVec 32)
  live : Tab DWord
  carried : Tab Bool
  changed : Tab (BitVec 2)
  sampled : BitVec 32
  stuck : Tab Byte
  rises : Tab (BitVec 32)
  chatter : Tab Bool
  fastSent : Tab Bool
  snap : Tab DWord
  stat : Tab Byte
  snapHeat : Tab DWord
  snapSpan : Tab (BitVec 16)
  covered : Tab DWord
  due : BitVec 64
  heldDue : BitVec 64
  cluDorm : BitVec 64
  cluPois : BitVec 64
  cntPois : Tab Bool
  snapBad : Tab Bool
  hold : BitVec 13
  perr : Bool
  lost : Bool
  expired : Bool
  held : Bool
  pending : Bool
  taken : Bool
deriving DecidableEq, Repr, Inhabited

/-- The hold's window registers and the read latches of chapter 3. -/
structure CntRegs where
  snapHeat : DWord
  snapMask : DWord
  pendMask : DWord
  pendHold : BitVec 13
  released : Bool
  liveHi : Word
  latchN : Option (BitVec 12)
  latch : Word
deriving DecidableEq, Repr, Inhabited

/-- One converted channel (R126): its register word without AGE, and its age in heats. -/
structure Conv where
  valid : Bool
  fault : Bool
  value : BitVec 16
  age : Byte
deriving DecidableEq, Repr, Inhabited

/-- The analogue sense front end (R123 to R127; `droopLast` the droop words of the heat that ended), the latched analogue sample, and the shared-sensor records (R32, R571). -/
structure Sense where
  pos : BitVec 6
  first : Option (BitVec 12 × Bool)
  temp : Tab Conv
  rail : Tab Conv
  vbus : Conv
  ibus : Conv
  roscOpen : BitVec 32
  roscClosed : Tab (BitVec 16)
  roscHave : BitVec 32
  droopEv : Tab (BitVec 16)
  droopDeep : Tab (BitVec 3)
  droopLast : Tab Word
  stopped : Bool
  sample : List Word
  sampleHeat : DWord
  sampleSent : Bool
  sharedNow : Option (List Word)
  sharedUse : Option (List Word)
deriving DecidableEq, Repr, Inhabited

/-- The stroke counter, the mapping segment and the servo (chapter 4); `subHeat` says that the heat in progress is a substitute
heat (R136). Times are in 2^-40 ns; measured offsets are
integers of the same unit. -/
structure Timebase where
  stroke : DWord
  valid : Bool
  lastPhase : Option Bool
  phaseFault : Bool
  jumped : Bool
  slipNoted : Bool
  refStopped : Bool
  substitute : Bool
  subHeat : Bool
  segS : DWord
  segT : BitVec 128
  segAdj : BitVec 32
  adj : BitVec 32
  adjC : BitVec 32
  state : BitVec 3
  stepped : Bool
  taiValid : Bool
  manual : Bool
  acc : Int
  outliers : Nat
  runIn : Nat
  runOut : Nat
  shift : Option Int
  stepDue : Option Int
  rateDue : Option Int
  latHi : Word
  latTai : BitVec 96
deriving DecidableEq, Repr, Inhabited

/-- One measurement kept while ACQUIRING: theta, t1, t2 in 2^-40 ns. -/
structure Meas where
  theta : Int
  t1 : Int
  t2 : Int
deriving DecidableEq, Repr, Inhabited

/-- A foreign master (R140). -/
structure Foreign where
  port : BitVec 80
  ds : PtpDataset
deriving DecidableEq, Repr

/-- The IEEE 1588 exchange and the measures shown (R140 to R144); `lastMaster` is the master selected last, kept while none
is; `reqSync` holds t1, t2, c_s and the logMessageInterval of the Sync that the last Delay_Req followed. -/
structure Ptp where
  master : Option Foreign
  lastMaster : Option Foreign
  foreign : List Foreign
  syncSeq : Option (BitVec 16)
  syncT1 : Option Int
  syncT2 : Int
  syncC : Int
  syncInt : Int
  reqSeq : BitVec 16
  reqT3 : Option Int
  reqSync : Int × Int × Int × Int
  reqReady : Bool
  acquire : List Meas
  lastTheta : Int
  measTheta : Word
  measMpd : Word
  hoBound : Word
  hoMs : Word
  hoStroke : DWord
  gm : DWord
  utcValid : Bool
  utcOfs : BitVec 16
  discards : Word
deriving DecidableEq, Repr, Inhabited

/-- The uplink time transfer of one link (R147 to R152): the outstanding exchanges by number, true for the round's; θ_k of the
round's exchange in full; `haveLen` says that an exchange has given LEN_MM, before the last training or after it. -/
structure TtLink where
  out : List (BitVec 16 × Bool)
  got : Bool
  roundTheta : Int
  theta : BitVec 32
  rtt : Word
  lenMm : BitVec 24
  valid : Bool
  haveLen : Bool
  slip : Bool
  overs : Nat
  unders : Nat
deriving DecidableEq, Repr, Inhabited

/-- The rounds of the uplink time transfer: whether the present heat's round has been sent, the round's links while it is not
judged, and the links owed an exchange in the next heat (R418). -/
structure TimeTransfer where
  links : Tab TtLink
  xn : BitVec 16
  sent : Bool
  roundOpen : Bool
  roundLinks : BitVec 64
  due : BitVec 64
  trayRounds : Nat
  selfK : BitVec 32
deriving DecidableEq, Repr, Inhabited

/-- A trace block: its generation and its words (Table 5-2 packets). -/
structure TrcBlock where
  gen : Word
  words : List DWord
deriving DecidableEq, Repr, Inhabited

/-- A trace tap's pre-stage and its crossing slot (R159, R160): the latest level or value with the edges merged while the slot is
busy, and the level and edges of the transfer that the slot holds. -/
structure TapStage where
  level : BitVec 16
  edges : BitVec 6
  slot : Option (BitVec 16 × BitVec 6)
deriving DecidableEq, Repr, Inhabited

/-- The last buoy written (R163). -/
structure Buoy where
  slot : BitVec 23
  heat : DWord
  step : Word
  stepValid : Bool
  sv : Bool
deriving DecidableEq, Repr, Inhabited

/-- The trace unit (chapter 5). `pos` is the slot that the last buoy moment names and `ofs` the core cycles known to have
passed since that slot began (R164); `encPend` the completed blocks that the encoder has not taken yet (R172, R207), `bad` the
blocks that hold a word with an uncorrectable error (R515). -/
structure Trace where
  taps : Tab TapStage
  pos : BitVec 23
  ofs : BitVec 11
  encPend : List Nat
  bad : List Nat
  capEn : Option Bool
  fifo : List (List DWord)
  lossPend : Word
  loss : Word
  ulDrop : Word
  blk : BitVec 14
  word : Nat
  blocks : Tab TrcBlock
  buoy : Buoy
  tstate : BitVec 3
  armIgn : BitVec 16
  remain : BitVec 24
  counting : Bool
  trigAt : Word
  trigHeat : DWord
  dumping : Bool
  dumpLeft : List Nat
  dumpSent : Word
  dumpDrop : Word
  resume : Bool
  rdSel : BitVec 14
  rdGen : Word
deriving DecidableEq, Repr, Inhabited

/-- The tray side of trace: die partition, spill ring (`spilled` its places' partition, block number and generation), event
machine (R173 to R175, R181 to R183; `emFire` the transition whose counter reached COUNT, with the die whose event did it). -/
structure TrayTrace where
  dieBlk : Nat
  dieBlocks : Tab TrcBlock
  spilled : Tab (Bool × BitVec 14 × Word)
  spillWr : DWord
  spillDrop : Word
  dieDrop : Word
  copiedOwn : Bool
  copiedDie : Bool
  emState : BitVec 3
  emCnt : List Nat
  emHeats : Nat
  emFire : Option (Nat × Option (BitVec 6))
  frozen : Bool
  freezeLeft : Option Nat
  emCap : Option Bool
deriving DecidableEq, Repr, Inhabited

/-- One source of the encoder or decoder (R192, R206): reference items, status bytes, TAG, and the key conditions. -/
structure Source where
  items : List DWord
  stat : List Byte
  tag : DWord
  haveKey : Bool
  keyDue : Bool
  nonKey : Nat
deriving DecidableEq, Repr, Inhabited

/-- The compression engine (chapter 6); sources are keyed by FSID × 8 + KIND. -/
structure Comp where
  enc : Tab Source
  dec : Tab Source
  ratioLow : BitVec 4
  decFail : Bool
  oversize : Word
  keyReq : Word
  decFails : Word
  decLast : Word
  noCode : Word
  inBytes : Tab DWord
  outBytes : Tab DWord
  winFrames : Tab (BitVec 32)
  winIn : Tab DWord
  winOut : Tab DWord
  ratioDue : BitVec 4
  lastIn : Tab DWord
  lastOut : Tab DWord
deriving DecidableEq, Repr, Inhabited

/-- A sequenced flit as the replay buffer keeps it (R421), with its transmissions so far. -/
structure TxFlit where
  seq : BitVec 12
  vc : BitVec 2
  mtype : Byte
  first : Bool
  last : Bool
  payload : List Byte
  sends : Nat
deriving DecidableEq, Repr, Inhabited

/-- One virtual channel's transmit side: messages queued, the bytes left of the message begun, the window W, the credits
A, and the flits sent and unretired by sequence number, oldest first. -/
structure TxVc where
  queue : List Msg
  begun : Option (Byte × List Byte)
  window : BitVec 8
  avail : BitVec 8
  unretired : List (BitVec 12)
  advertised : BitVec 16
  drops : Word
deriving DecidableEq, Repr, Inhabited

/-- One virtual channel's receive side: the flits held in its buffer, the open message and the flits it has in the message
queue, the delivered messages with the flits each occupies, and the credits pending for return. -/
structure RxVc where
  buf : List TxFlit
  openMsg : Option (Byte × List Byte)
  openFlits : Nat
  queue : List (Nat × Msg)
  credits : Nat
  drops : Word
deriving DecidableEq, Repr, Inhabited

/-- The training side of a link (R413 to R418): `goodRun` and `goodRunB` are the runs of good flits on the two pairings. -/
structure Train where
  state : BitVec 3
  fail : BitVec 4
  cause : BitVec 4
  resumed : Bool
  pidx : BitVec 7
  phaseFound : Bool
  pairing : Bool
  goodRun : Nat
  goodRunB : Nat
  badRun : Nat
  phyRst : Bool
  rate : BitVec 2
  lock : Bool
  sentSeen : Bool
  gotCap : Bool
  gotSeen : Bool
  partner : List Byte
  psess : Word
  haveSession : Bool
  goodSinceUp : Bool
  rptFail : BitVec 4
deriving DecidableEq, Repr, Inhabited

/-- One uplink (chapter 13): on Exfin-D link 0, on Exfin-T links 0 to 63. -/
structure Link where
  tr : Train
  txNext : BitVec 12
  rxExp : BitVec 12
  ackV : Bool
  nakDue : Bool
  nakOut : Bool
  keepDue : Bool
  replay : List TxFlit
  replayAt : Option Nat
  patPos : BitVec 4
  insertion : List Msg
  insDrops : Word
  tx : List TxVc
  rx : List RxVc
  cnt : Tab Word
  latch : Tab Word
  out : List (BitVec 256)
deriving DecidableEq, Repr, Inhabited

/-- Uplink figures common to all links. -/
structure Uplink where
  links : Tab Link
  badMsg : Word
  lastBad : Word
  lost : Word
deriving DecidableEq, Repr, Inhabited

/-- One queued northbound frame: its message type, its 32-byte header and payload, its length L, and the stroke at which
it was queued. -/
structure NbFrame where
  mtype : Byte
  dst : BitVec 48
  bytes : List Byte
  stroke : DWord
deriving DecidableEq, Repr, Inhabited

/-- A gate control list (R451): its entries (GATES, INTERVAL in ns) and its cycle time. -/
structure GateList where
  entries : List (Byte × Word)
  cyc : Word
deriving DecidableEq, Repr, Inhabited

/-- One 100 Gb/s port (R443, R450 to R455). -/
structure NbPort where
  up : Bool
  fecLock : Bool
  cls : List (List NbFrame)
  abortQ : List NbFrame
  drops : Tab Word
  sampled : Tab (BitVec 128)
  seq : Tab (BitVec 16)
  cnt : Tab DWord
  admLen : BitVec 7
  oper : Option GateList
  operStart : BitVec 128
  pendList : Option GateList
  cht : BitVec 128
  chgErr : Bool
  reason : BitVec 3
  gates : Byte
  sent : List (List Byte)
  lastDly : Tab Word
deriving DecidableEq, Repr, Inhabited

/-- One peer of the rack bus (R459, R461). -/
structure Peer where
  mac : BitVec 48
  tray : BitVec 18
  node : Byte
  prop : BitVec 16
  left : Nat
  sum : Int
  done : Nat
  xn : Option (BitVec 16)
deriving DecidableEq, Repr, Inhabited

/-- The rack-bus port (R456 to R461). -/
structure T1s where
  plca : Bool
  clash : Bool
  idOvr : Bool
  id : Byte
  queue : List NbFrame
  echoDue : List (BitVec 48 × BitVec 16)
  evidence : List Bool
  peers : List Peer
  cnt : Tab Word
  xn : BitVec 16
  seq : Tab (BitVec 16)
  sent : List (List Byte)
deriving DecidableEq, Repr, Inhabited

/-- A REG_REQ being run (R448). -/
structure ReqPlace where
  port : BitVec 2
  src : BitVec 48
  reqid : Word
  left : List ReqEntry
  done : List (Byte × Word)
  waiting : Bool
deriving DecidableEq, Repr, Inhabited

/-- An outstanding proxy access of Exfin-T (R462). -/
structure ProxyOut where
  link : BitVec 6
  src : ProxySrc
deriving DecidableEq, Repr

/-- A proxy request in Exfin-D's proxy queue (R434). -/
structure ProxyIn where
  tag : Byte
  flags : Byte
  off : Word
  data : Word
deriving DecidableEq, Repr, Inhabited

/-- The northbound unit beside its ports, the proxy window and the flash port (chapter 14). -/
structure North where
  port0 : NbPort
  port1 : NbPort
  t1s : T1s
  places : Tab (Option ReqPlace)
  doneReqs : List (BitVec 48 × Word × List Byte)
  reqDup : BitVec 16
  reqDrop : BitVec 11
  proxyOut : Tab (Option ProxyOut)
  proxyIn : List ProxyIn
  proxyCnt : Tab Word
  flashReady : Bool
  sfdpBad : Bool
  mode8d : Bool
  densLog2 : Byte
  susp : Bool
  tPP : Word
  tSUS : Word
deriving DecidableEq, Repr, Inhabited

/-- One access path's role and mailbox state (R470 to R484). `roleC` is the stored complement (Table 16-1 item 1). -/
structure PathState where
  role : BitVec 2
  roleC : BitVec 2
  nonceV : Bool
  nonce : DWord
  req : BitVec 2
  lastFail : Bool
  lock1 : Bool
  busy : Bool
  resp : Tab Word
  checkNonce : DWord
  checkValid : Bool
  args : Tab Word
  pend : Bool
  code : BitVec 16
  token : BitVec 16
  postRole : BitVec 2
  posted : List Word
  busyHit : Bool
  result : BitVec 4
  statTok : BitVec 16
  heat : DWord
deriving DecidableEq, Repr, Inhabited

/-- A host session's binding (R472). -/
structure Session where
  port : BitVec 2
  mac : BitVec 48
deriving DecidableEq, Repr, Inhabited

/-- The role gate: paths, sessions, failures, nonce count (R470 to R482). -/
structure Roles where
  paths : Tab PathState
  sessions : Tab (Option Session)
  fails : Byte
  lockAll : Bool
  nonces : BitVec 48
deriving DecidableEq, Repr, Inhabited

/-- An event as it is made, before its place in the record order is known (R489, R492): code, data, caller, and what the record
takes from the moment. -/
structure RecIn where
  code : BitVec 16
  data : List Byte
  role : BitVec 2
  path : BitVec 4
  stroke : DWord
  poison : Bool
  frag : BitVec 48
deriving DecidableEq, Repr, Inhabited

/-- The event recorder (R489 to R504). A place is 32 bytes. `cycle` holds the
events of one core-clock cycle while a command makes them (R492). -/
structure Recorder where
  sq : BitVec 15
  cycle : Option (List RecIn)
  hours : Word
  pcyc : Word
  ring : List (List Byte × Bool)
  ringWr : BitVec 7
  buf : List (List Byte)
  drop : Word
  dropPend : Bool
  urgentPend : Bool
  flushReq : Bool
  flushLeft : Nat
  ready : Bool
  headN : BitVec 15
  wptr : BitVec 15
  ovf : Word
  odoPos : Nat
  odoErase : Bool
  odoOwed : Bool
  op : Option FlashOp
  opN : Nat
  pfShort : Bool
  odoNew : Bool
  pfDone : Bool
  pfLeft : Option Nat
  flashFail : Bool
  odoSkip : Bool
  bPf : Byte
  mark : BitVec 9
  sel : BitVec 17
  held : Option (List Byte)
deriving DecidableEq, Repr, Inhabited

/-- The test access (R563): the offset and data of the last access through EXFIN_REG, and DONE; `queued` once it has joined
the queue of R38. -/
structure TestAcc where
  busy : Bool
  queued : Bool
  wr : Bool
  off : Word
  wdata : Word
  data : Word
  done : Bool
deriving DecidableEq, Repr, Inhabited


/-- A posted scan descriptor (Table 7-3). -/
structure Desc where
  w0 : Word
  len : Word
  addr : DWord
  ltag : DWord
  id : Word
deriving DecidableEq, Repr, Inhabited

/-- A running descriptor (R225 to R229): segments built, the slots of those not yet folded in ascending segment order, the
running value, and the status it ended with while descriptors before it still run. -/
structure Running where
  d : Desc
  built : Nat
  slots : List (BitVec 6)
  ended : Option (BitVec 2)
  r : DWord
  psn : Bool
  bytes : DWord
deriving DecidableEq, Repr, Inhabited

/-- One value slot or read of a channel, keyed by q mod 64: a read outstanding on its lane (with its size), returned and
waiting, its value written, or quarantined. -/
inductive SlotSt where
  | free
  | built (sz : Bool)
  | issued (lane sz : Bool)
  | taken (bytes : List Byte) (poison : Bool)
  | value (v : DWord) (poison : Bool)
  | quarantined (lane : Option Bool)
deriving DecidableEq, Repr, Inhabited

/-- A completion as SCN_CH_LAST shows it (R237). -/
structure Completion where
  id : Word
  sts : Word
  value : DWord
  bytes : DWord
  stroke : DWord
deriving DecidableEq, Repr, Inhabited

/-- A scan channel (R225). -/
structure Channel where
  queue : List Desc
  run : List Running
  q : Word
  slots : Tab SlotSt
  done : Word
  last : Completion
  latch : Completion
deriving DecidableEq, Repr, Inhabited

/-- A context (R232). -/
structure Ctx where
  valid : Bool
  pset : BitVec 2
  poison : Bool
  value : DWord
  bytes : DWord
deriving DecidableEq, Repr, Inhabited

/-- The scan engine (chapter 7); `issue` is the issue FIFO: (channel, entry, address, size). -/
structure Scan where
  postStat : Byte
  gntIdle : Tab DWord
  badTag : Word
  psnCnt : Word
  chans : Tab Channel
  ctx : Tab Ctx
  issue : List (BitVec 3 × BitVec 6 × DWord × Bool)
  take : List (BitVec 3 × BitVec 6)
  reqs : List (Bool × DWord × Bool × BitVec 9)
deriving DecidableEq, Repr, Inhabited

/-- A ledger entry (Table 8-2) before its SEQ is known, as it waits in the ledger queue. -/
structure LedgerIn where
  value : DWord
  ltag : DWord
  bytes : DWord
  stroke : DWord
  evd : Word
  flags : BitVec 16
  idL : BitVec 16
deriving DecidableEq, Repr, Inhabited

/-- One shard entry (R249). -/
structure Shard where
  bytes : BitVec 48
  pset : BitVec 2
  state : BitVec 3
deriving DecidableEq, Repr, Inhabited

/-- A queued replay request on the die (R259). -/
structure ReplayIn where
  step : Word
  nums : List Byte
deriving DecidableEq, Repr, Inhabited

/-- Exfin-D's ledger, epochs, shards and replay handshake, and its step markers (chapters 8 and 9). -/
structure Ledger where
  queue : List LedgerIn
  drop : Word
  tagBad : Bool
  count : Word
  ring : Tab (List Byte)
  latch : List Byte
  epForce : Tab (BitVec 16)
  hist : List (Word × Word)
  shards : Tab Shard
  unexp : Word
  rq : List ReplayIn
  req : Bool
  reqStep : Word
  ackHigh : Bool
  rplDrop : Byte
  lateAck : Byte
  refused : Byte
  lastOk : Bool
  step : Word
  stepValid : Bool
  marks : List (DWord × Word × Bool)
  markOvf : Byte
  lfsr : Tab DWord
deriving DecidableEq, Repr, Inhabited

/-- A stored FP_REPORT entry of a member (R255). -/
structure FpEntry where
  die : BitVec 6
  value : DWord
  bytes : BitVec 48
  pset : BitVec 2
  evd : Word
  lpat : BitVec 4
  stroke : DWord
deriving DecidableEq, Repr, Inhabited

/-- An open comparison set (R255): key, opening heat, members, entries, whether its wait is over. -/
structure FpSet where
  group : BitVec 6
  step : Word
  obj : BitVec 12
  kind : BitVec 4
  heat : DWord
  members : BitVec 64
  entries : List FpEntry
  expired : Bool
deriving DecidableEq, Repr, Inhabited

/-- A replay record (R258, R262): `cls` groups the dissenters of one class that had no reference. -/
structure FpReplay where
  num : Byte
  group : BitVec 6
  die : BitVec 6
  step : Word
  obj : BitVec 12
  kind : BitVec 4
  evd : Word
  orig : DWord
  ref : Option DWord
  cls : Nat
  m : Nat
  heat : DWord
  left : Bool
  accepted : Bool
  closed : Option (BitVec 3)
  result : Option DWord
deriving DecidableEq, Repr, Inhabited

/-- The tray's comparison (R253 to R267). -/
structure Compare where
  groups : Tab (BitVec 6)
  sets : List FpSet
  replays : List FpReplay
  nextNum : Byte
  nextCls : Nat
  counts : Tab Word
  mis : Tab Word
  cmp : Tab Word
  shardSum : Tab (List Byte)
  unres : List FpReplay
  inputs : List (BitVec 6 × BitVec 3)
deriving DecidableEq, Repr, Inhabited

/-- One die's place in an open step: catch and finish marks with the heats of their headers. -/
structure StepMark where
  cat : Option (DWord × DWord)
  fin : Option (DWord × DWord)
deriving DecidableEq, Repr, Inhabited

/-- A step of the step table (R276, R277). -/
structure Step where
  step : Word
  heat : DWord
  members : BitVec 64
  left : BitVec 64
  marks : Tab StepMark
  expired : Bool
deriving DecidableEq, Repr, Inhabited

/-- A sketch (Table 9-3). -/
structure Sketch where
  fig : Byte
  src : BitVec 16
  csat : Bool
  ssat : Bool
  stepLo : Word
  stepHi : Word
  nstep : Word
  count : DWord
  min : DWord
  max : DWord
  sum : BitVec 128
  bkt : Tab Word
deriving DecidableEq, Repr, Inhabited

/-- The straggler statistics of a step (R284): MED, MAD, and per die (state, d, q). -/
structure Stats where
  valid : Bool
  npres : BitVec 7
  step : Word
  med : DWord
  mad : DWord
  die : Tab (BitVec 2 × BitVec 64 × BitVec 16)
  dur : Tab (Option DWord)
deriving DecidableEq, Repr, Inhabited

/-- One cluster sample or analogue sample of a die kept at the tray for R281 and R282. -/
structure KeptSample where
  die : BitVec 6
  clu : BitVec 7
  heat : DWord
  span : BitVec 16
  items : List DWord
  stat : List Byte
  removed : Bool
deriving DecidableEq, Repr, Inhabited

/-- The tray's reduction and sketch unit (chapter 9). -/
structure Reduce where
  opened : List Step
  queue : List Step
  closedSteps : List Word
  prevFin : Tab (List (Word × DWord))
  lastStep : Word
  lastFinStep : Word
  lastFinValid : Bool
  lastSketches : List Sketch
  acc : Tab Sketch
  exportBuf : Tab (Option Sketch)
  recQ : List (List Byte)
  seq : BitVec 16
  cnt : Tab Word
  sel : BitVec 5
  view : Sketch
  pubDue : Option Stats
  pub : Stats
  latch : Stats
  latched : Bool
  samples : List KeptSample
  ovrs : Tab (List (DWord × Word))
deriving DecidableEq, Repr, Inhabited


/-- The CNT records of one heat from one die, as they arrive at the tray (R21, R275, R437). -/
structure DieRec where
  die : BitVec 6
  heat : DWord
  hdr : Bool
  sv : Bool
  poison : Bool
  fd : Bool
  nframe : BitVec 16
  got : Nat
  marks : List (List Byte)
  detrec : Option (BitVec 2 × BitVec 256)
  detOvr : Bool
  late : Bool
  shared : List Byte
deriving DecidableEq, Repr, Inhabited

/-- The tray's intake of die records (chapter 1, R21, R361). -/
structure Intake where
  recs : List DieRec
  done : Tab DWord
  lateRun : Tab Nat
  alive : BitVec 64
  used : BitVec 64
  detrec : Tab (Option (BitVec 2 × BitVec 256))
  out : BitVec 64
deriving DecidableEq, Repr, Inhabited

/-- One die's scores of a heat (R311, R315, R330): NMISS, poison, the four score words, the feature codes. -/
structure DieScore where
  nmiss : BitVec 9
  poison : Bool
  score : List Word
  codes : List (BitVec 16)
deriving DecidableEq, Repr, Inhabited

/-- The scores of one heat. -/
structure Scored where
  heat : DWord
  dies : List (BitVec 6 × DieScore)
deriving DecidableEq, Repr, Inhabited

/-- The scoring of a heat under way (R311 to R315): the sample positions, each with its die and feature codes where it holds a
sample; the waves made; the sums of leaf values, by 4 × position + output; the dies that met an uncorrectable node. -/
structure TreeRun where
  pos : List (Option (BitVec 6 × List (BitVec 16)))
  waves : Nat
  acc : Tab Int
  poison : BitVec 64
deriving DecidableEq, Repr, Inhabited

/-- The tree engine (chapter 10). -/
structure Tree where
  st : BitVec 3
  chkReason : BitVec 4
  chkTree : BitVec 16
  chkNode : Word
  recv : DWord
  beyond : Bool
  hostLoad : Bool
  copyDone : Bool
  readyDue : Bool
  recheck : Bool
  began : Bool
  store : Tab DWord
  cnt : Tab Word
  windows : Nat
  waited : Bool
  run : Option TreeRun
  now : Option Scored
  pub : Option Scored
  latch : Option (Option Scored)
  fsel : BitVec 6
  view : List (BitVec 16)
  recQ : List (List Byte)
deriving DecidableEq, Repr, Inhabited

/-- One detector for one die, or of tray scope (R338 to R341): its state, presented value, alarm, and whether it was
updated in this heat. -/
structure Det where
  init : Bool
  e : Int
  sp : Int
  sn : Int
  win : List Bool
  v : Int
  alarm : Bool
  upd : Bool
deriving DecidableEq, Repr, Inhabited

/-- A rule's counts for one die (R349). -/
structure RuleCnt where
  cin : Byte
  cout : Byte
  active : Bool
deriving DecidableEq, Repr, Inhabited

/-- A verdict (R350, R353, R358 to R361, R369): the die's on Exfin-T, the local one on Exfin-D. `old` and `chHeat` are
the verdict before the last change and the heat of that change; `drainAt` is the heat in which DRAIN was sent, `drainDue` and `repAt` what the next heats still send. -/
structure Verd where
  v : BitVec 2
  h : Nat
  cause : Byte
  replace : Bool
  vseq : BitVec 16
  acked : Bool
  drain : BitVec 2
  drainDue : Bool
  drainAt : Option DWord
  lend : Bool
  live : BitVec 3
  repAt : Option DWord
  resetDue : Option (BitVec 2 × BitVec 4)
  old : BitVec 2
  chHeat : DWord
  differ : Nat
  agree : Nat
deriving DecidableEq, Repr, Inhabited

/-- The rating governor of one producer (R345, R346), and its part in the last heat. -/
structure Gov where
  g : BitVec 7
  calm : BitVec 16
  holdG : Nat
  holdD : Nat
deriving DecidableEq, Repr, Inhabited

/-- The umpire's work of a heat, which the boundary that ends the heat takes or discards (R334, R336): what each rule's
condition was for each die (0 undetermined, 1 true, 2 false), keyed by 65 × the compound's last rule + die. -/
structure UmpWork where
  heat : DWord
  conds : Tab (BitVec 2)
deriving DecidableEq, Repr, Inhabited

/-- Detectors, umpire and policy (chapter 11). Index 64 in the tables keyed by die stands for Exfin-D's own die and for
tray scope. -/
structure Umpire where
  det : Tab Det
  detSel : BitVec 6
  detView : List Det
  ruleNow : Tab (Option Word)
  rulePend : List (Nat × Word)
  counts : Tab RuleCnt
  gov : Tab Gov
  regHold : Tab Nat
  work : Option UmpWork
  detDone : Bool
  scores : Option Scored
  verd : Tab Verd
  fpDue : List (BitVec 6)
  capUsed : Byte
  jobLive : DWord
  jobWritten : Bool
  disagree : DWord
  startOpen : Bool
  startId : Word
  startMask : DWord
  startHeat : DWord
  startDone : DWord
  startLate : DWord
  abtCnt : Word
  drainReq : Bool
  drainAck : Bool
  suppressed : Bool
  jobStartId : Word
  jobStarts : Nat
  abortColl : BitVec 6
  abortIns : Nat
  fast : BitVec 64
  dropsPrev : Word
  drops : Word
  overNow : List (BitVec 10)
  overPrev : List (BitVec 10)
  redPrev : Word
  red : Word
  replPrev : Tab Word
  repl : Tab Word
  strag : Bool
deriving DecidableEq, Repr, Inhabited

/-- A carrier signal lane of the tally unit (R380): a held signal. -/
structure SigLane where
  held : Bool
  tally : BitVec 6
  inc : BitVec 16
  heats : BitVec 16
deriving DecidableEq, Repr, Inhabited

/-- A wait lane (R382, R391, R392): V as the carrier drives it, the registered wait, REL, and the boundary counts. -/
structure WaitLane where
  v : Bool
  active : Bool
  long : Bool
  tally : BitVec 6
  target : Word
  heats : BitVec 16
  dog : BitVec 16
  rel : Bool
deriving DecidableEq, Repr, Inhabited

/-- One applied signal of the log of Table 12-6. -/
structure TallyLog where
  stroke : DWord
  count : Word
  inc : BitVec 16
  tally : Byte
  src : Byte
deriving DecidableEq, Repr, Inhabited

/-- A remote signal in its queue (R390): tally, increment, and what of the sender's earlier CTRL traffic has still to take
effect: the proxy requests that stood ahead of it, and a command that one of them posted and no poll has taken. -/
structure RemoteSig where
  tally : BitVec 6
  inc : BitVec 16
  ahead : Nat
  cmd : Bool
deriving DecidableEq, Repr, Inhabited

/-- The tally unit (chapter 12). -/
structure Tally where
  cnt : Tab Word
  last : Tab Word
  next : Tab Word
  cfg : Tab Word
  bind : Tab Word
  barStep : Tab Word
  svc : BitVec 2
  lanes : Tab SigLane
  waits : Tab WaitLane
  remote : List RemoteSig
  refused : Byte
  proto : Byte
  dseq : BitVec 16
  dumpDrop : Bool
  halted : Bool
  left : BitVec 48
  log : List TallyLog
  dump : List Byte
  latch : Option (List Byte)
deriving DecidableEq, Repr, Inhabited

/-- What stops the machine. No command of this spec ends in one: every operation the spec describes has a next state, and
a precondition that does not hold leaves the state unchanged (notes/assumptions/2). So the type has no constructor. -/
inductive Fault
deriving DecidableEq, Repr

/-- Why a command is refused by the model. -/
inductive Refusal where
  /-- The command has no meaning in the model yet; raised by Dispatch.lean's refused arms only (safe). -/
  | notModelled (mnemonic : String)
deriving DecidableEq, Repr

/-- The block: everything the spec gives it, and the queue of waiting commands. `rw` holds the words software wrote into
plain RW registers, by register word number (offset / 4); an absent word is the register's reset or image value. `wc2`
holds the words and complements written into complement-protected registers, by the number of the low word. `flash` is the
NOR flash device, `lp5` the tray's LPDDR5X. -/
structure State where
  sys : Sys
  pwr : Power
  fuse : Fuse
  bist : Bist
  integ : Integ
  heat : Heat
  ld : Loader
  tray : TrayImages
  prb : Probes
  creg : CntRegs
  sns : Sense
  tb : Timebase
  ptp : Ptp
  tt : TimeTransfer
  trc : Trace
  ttrc : TrayTrace
  cmp : Comp
  scn : Scan
  led : Ledger
  fpc : Compare
  red : Reduce
  inr : Intake
  te : Tree
  ump : Umpire
  tly : Tally
  ul : Uplink
  nb : North
  roles : Roles
  evr : Recorder
  test : TestAcc
  rw : Tab (Option Word)
  wc2 : Tab (Option (Word × Word))
  flash : Memory
  lp5 : Memory
  pending : List Instr
deriving DecidableEq, Repr

/-- Memory that nothing has written: the flash device reads 0xFF when erased (R466), LPDDR5X reads 0 (DESIGN CHOICE,
notes/assumptions/7). -/
abbrev flashErased : Byte := 0xFF

/-- The state with RST_N held at reset (R526, R527, R549): every field zero, false, empty or absent but those written
here. The first power-up comes next; the straps are sampled at RESET_RELEASE. -/
def State.resetOf (g : Grade) : State :=
  { sys := { (default : Sys) with build := g, rstHeld := true, firstRelease := true }
    pwr := default
    fuse := default
    bist := default
    integ := default
    heat := { (default : Heat) with heat := BitVec.allOnes 64 }
    ld := { (default : Loader) with digestC := BitVec.allOnes 64 }
    tray := default
    prb := default
    creg := default
    sns := default
    tb := { (default : Timebase) with adjC := BitVec.allOnes 32 }
    ptp := default
    tt := default
    trc := default
    ttrc := default
    cmp := default
    scn := default
    led := default
    fpc := default
    red := default
    inr := default
    te := default
    ump := default
    tly := { (default : Tally) with svc := 1 }
    ul := default
    nb := { (default : North) with
      port0 := { (default : NbPort) with cls := List.replicate 8 [] }
      port1 := { (default : NbPort) with cls := List.replicate 8 [] } }
    roles := default
    evr := default
    test := default
    rw := []
    wc2 := []
    flash := []
    lp5 := []
    pending := [] }

/-- The block right after reset. The build is a wiring of the part and no reset value: Exfin-D here (DESIGN CHOICE,
notes/assumptions/1). -/
def State.reset : State := State.resetOf .die

end Sys2Proof.Machine
end

