-- ==== Sys2Proof/Machine/Image.lean ====
section
/-! DEFINITION. The image in force as the engines read it: sections by the directory (R61, R62), the factory default
record and its blank-part values (R94, R561), the heat definition, the producer records and the schedule (R65 to R67). -/

namespace Sys2Proof.Machine

/-- `n` bytes of an image from offset `o` on. -/
def Image.bytes (im : Image) (o n : Nat) : List Byte := Tab.slice (0 : Byte) im.mem o n

/-- `n` bytes of an image from offset `o` on, little-endian. -/
def Image.num (im : Image) (o n : Nat) : Nat := unle (im.bytes o n)

/-- SEC_COUNT (Table 2-1), as far as a directory can go. -/
def Image.secCount (im : Image) : Nat := min 14 (im.num 6 2)

/-- Directory entries: TYPE, OFFSET, LENGTH, SEC_CRC and SFLAGS of entry `i` (Table 2-2). -/
def Image.secType (im : Image) (i : Nat) : Nat := im.num (0x40 + 16 * i) 2
def Image.secFlags (im : Image) (i : Nat) : Nat := im.num (0x42 + 16 * i) 2
def Image.secOff (im : Image) (i : Nat) : Nat := im.num (0x44 + 16 * i) 4
def Image.secLen (im : Image) (i : Nat) : Nat := im.num (0x48 + 16 * i) 4
def Image.secCrc (im : Image) (i : Nat) : Nat := im.num (0x4C + 16 * i) 4

/-- The directory index of a section type. -/
def Image.secIdx (im : Image) (t : Nat) : Option Nat := (List.range im.secCount).find? fun i => im.secType i == t

/-- Image offset of the section of type `t`; beyond any image where it is absent. -/
def Image.base (im : Image) (t : Nat) : Nat :=
  match im.secIdx t with
  | some i => im.secOff i
  | none => 2 ^ 32

/-- `n` bytes at offset `o` of the section of type `t`, little-endian. -/
def Image.sec (im : Image) (t o n : Nat) : Nat := im.num (im.base t + o) n

/-- Is this the tray build? -/
def State.isT (s : State) : Bool := s.sys.build == .tray

/-- Is this the die build? -/
def State.isD (s : State) : Bool := s.sys.build == .die

/-- The image in force has a user image? -/
def State.user (s : State) : Bool := s.ld.cur.isSome

/-- A field of the image in force; `d` under factory defaults. -/
def State.img (s : State) (t o n d : Nat) : Nat :=
  match s.ld.cur with
  | some im => im.sec t o n
  | none => d

/-- A header field of the image in force; 0 under factory defaults. -/
def State.hdr (s : State) (o n : Nat) : Nat :=
  match s.ld.cur with
  | some im => im.num o n
  | none => 0

/-- Fuse word `i` as phase FUSE read it. -/
def State.fuseWord (s : State) (i : Nat) : Word := Tab.get 0 s.fuse.map i

/-- TREE_LN and CHK_CH of GRADE_CAP from the PART word (R560). -/
def State.treeLanes (s : State) : Nat :=
  if s.isT then (match bits (s.fuseWord 136).toNat 3 2 with
    | 0 => 32
    | 1 => 24
    | _ => 16) else 0
def State.checkChannels (s : State) : Nat :=
  if s.isD then (match bits (s.fuseWord 136).toNat 1 0 with
    | 0 => 8
    | 1 => 6
    | _ => 4) else 0

/-- The 128 bytes of the factory default record as read (R94). -/
def State.fdBytes (s : State) : List Byte := (List.range 32).flatMap fun i => le 4 (s.fuseWord i).toNat

/-- `n` bytes of the factory default record at offset `o`. -/
def State.fdRaw (s : State) (o n : Nat) : Nat := leAt s.fdBytes o n

/-- The greatest F_CORE of the grade in kHz (Table 18-9). -/
def State.fCoreMax (s : State) : Nat := if s.isT then 1600000 else 2000000

/-- N of check 2 of Table 2-6 for a heat definition. -/
def slotsPerHeat (period fCore fStroke : Nat) : Nat := period * fCore / (fStroke * 32)

/-- R35: PERIOD is a time from 1 µs to 100 ms at F_STROKE kHz. -/
def periodOk (period fStroke : Nat) : Bool := fStroke ≤ 1000 * period && period ≤ 100 * fStroke

/-- R129: F_STROKE is at most 2,000,000 kHz, and 1,000,000 kHz with STROKE_X2 = 1. -/
def fStrokeOk (x2 : Bool) (f : Nat) : Bool := 0 < f && f ≤ (if x2 then 1000000 else 2000000)

/-- Every field of the factory default record lies in its range (R561). -/
def State.fdUsed (s : State) : Bool :=
  let f := s.fdRaw
  f 0 4 == 1 && periodOk (f 4 4) (f 0xC 4) && f 8 4 < f 4 4 && fStrokeOk s.sys.x2 (f 0xC 4) && 0 < f 0x10 4 &&
  f 0x10 4 ≤ s.fCoreMax && 64 ≤ slotsPerHeat (f 4 4) (f 0x10 4) (f 0xC 4) && (f 0x14 1 == 1 || f 0x14 1 == 2) &&
  1 ≤ f 0x15 1 && f 0x15 1 ≤ 8 && f 0x16 1 < 8 && f 0x17 1 == 0 && f 0x18 2 < 4096 && f 0x1A 1 % 2 == 0 &&
  f 0x28 8 == 0 && f 0x50 48 == 0

/-- A field of the factory default record, or its blank-part value `d`. -/
def State.fd (s : State) (o n d : Nat) : Nat := if s.fdUsed then s.fdRaw o n else d

/-- PERIOD and PHASE in force (HEAT_CFG, HEAT_PHASE). -/
def State.period (s : State) : Nat := s.img 4 0 4 (s.fd 4 4 10000)
def State.phaseS (s : State) : Nat := s.img 4 4 4 (s.fd 8 4 0)

/-- F_STROKE and F_CORE in kHz. -/
def State.fStroke (s : State) : Nat := s.img 0xB 0 4 (s.fd 0xC 4 1000000)
def State.fCore (s : State) : Nat := s.img 0xB 4 4 (s.fd 0x10 4 s.fCoreMax)

/-- N in force (HEAT_SLOTS). -/
def State.nSlots (s : State) : Nat := s.img 5 4 4 (slotsPerHeat s.period s.fCore s.fStroke)

/-- H, NPROD and NDEP of PROOF, and NENTRY of SLOT_SCHED. -/
def State.hClasses (s : State) : Nat := s.img 4 8 4 1
def State.nProd (s : State) : Nat := min 1024 (s.img 5 0x1C 4 0)
def State.nEntry (s : State) : Nat := s.img 4 0xC 4 0

/-- A producer record of PROOF. -/
structure ProdRec where
  prod : Nat
  dProved : Nat
  dMin : Nat
  dMax : Nat
  slotsRun : Nat
deriving DecidableEq, Repr

/-- Producer record `i` of an image (PROOF array 2). -/
def Image.prodRec (im : Image) (i : Nat) : ProdRec :=
  let o := im.base 5 + 64 + 4 * im.sec 5 0x18 4 + 8 * i
  { prod := im.num o 2, dProved := im.num (o + 2) 1, dMin := im.num (o + 3) 1, dMax := im.num (o + 4) 1,
    slotsRun := im.num (o + 6) 2 }

/-- The producer records of an image. -/
def Image.prods (im : Image) : List ProdRec := (List.range (min 1024 (im.sec 5 0x1C 4))).map im.prodRec

/-- The producer records in force. -/
def State.prods (s : State) : List ProdRec := (s.ld.cur.map Image.prods).getD []

/-- The record of producer `p` in force. -/
def State.prod? (s : State) (p : Nat) : Option ProdRec := s.prods.find? fun r => r.prod == p

/-- A schedule entry (Table 2-4). -/
structure SchedEntry where
  slot : Nat
  res : Nat
  prod : Nat
  cls : Nat
  raw : Nat
deriving DecidableEq, Repr

/-- Schedule entry `i` of an image. -/
def Image.sched (im : Image) (i : Nat) : SchedEntry :=
  let v := im.num (im.base 4 + 32 + 8 * i) 8
  { slot := bits v 22 0, res := bits v 31 24, prod := bits v 41 32, cls := bits v 53 48, raw := v }

/-- The schedule of an image. -/
def Image.schedule (im : Image) : List SchedEntry := (List.range (im.sec 4 0xC 4)).map im.sched

/-- TRAY of the tray's own image (R63), or of the tray as the die learned it (R418). -/
def State.trayNo (s : State) : Nat := if s.isT then s.img 0xC 0 4 0 % 2 ^ 18 else s.sys.tray.toNat

/-- TRAY_VALID (FSID_HI): an image value on Exfin-T, a delivered one on Exfin-D. -/
def State.trayValid (s : State) : Bool := if s.isT then s.user else s.sys.trayValid

/-- The FSID of the instance at die level (R22 to R27). -/
def State.fsid (s : State) : BitVec 48 :=
  let t := if s.trayValid then s.trayNo else 0
  let pkg := if s.isT then 15 else s.sys.pkg.toNat
  let die := if s.isT then 7 else s.sys.die.toNat
  BitVec.ofNat 48 (fieldAt t 24 18 + fieldAt pkg 20 4 + fieldAt die 17 3)

/-- The FSID of the tray at system level (R26). -/
def State.fsidSys (s : State) : BitVec 48 := BitVec.ofNat 48 (fieldAt (if s.trayValid then s.trayNo else 0) 24 18)

/-- R27: a record written while TRAY_VALID is 0 carries poison on Exfin-D. -/
def State.recPoison (s : State) : Bool := s.isD && !s.trayValid

/-- The die index of an Exfin-D (R23). -/
def State.dieIdx (s : State) : Nat := 8 * s.sys.pkg.toNat + s.sys.die.toNat

/-- GRADE code of GRADE_CAP. -/
def State.gradeCode (s : State) : Nat := if s.isT then 2 else 1

/-- BLK_VERSION (block version 6.2, R548). -/
def blkVersion : Nat := 0x00060200

/-- BIST is over and the block is not powered down: engines run (R528, R537). -/
def State.running (s : State) : Bool := 3 ≤ s.sys.phase && s.sys.phase ≤ 6

/-- Block power-down or power-fail has stopped scan builds, scoring, spilling and streaming (R537, R541). -/
def State.workStopped (s : State) : Bool := s.pwr.pf || s.pwr.pdStopped

/-- EXPECT of the tray (R84): FLAGS of die `k`. -/
def State.expFlags (s : State) (k : Nat) : Nat := s.img 0xD (16 + 16 * k + 8) 4 0
def State.expDigest (s : State) (k : Nat) : DWord := BitVec.ofNat 64 (s.img 0xD (16 + 16 * k) 8 0)
def State.inService (s : State) (k : Nat) : Bool := bits (s.expFlags k) 0 0 == 1

/-- The dies in service in ascending index. -/
def State.dies (s : State) : List Nat := (List.range 64).filter s.inService

/-- The heat number of a stroke (R34); heat −1 is all ones. -/
def State.heatOf (s : State) (stroke : Nat) : DWord :=
  if stroke < s.phaseS then BitVec.allOnes 64 else BitVec.ofNat 64 ((stroke - s.phaseS) / max 1 s.period)

/-- The divisor in force of producer `p`: what the umpire set, else D_PROVED (R39). -/
def State.divOf (s : State) (p : Nat) : Nat :=
  match (Tab.get (0 : BitVec 7) s.heat.div p).toNat with
  | 0 => ((s.prod? p).map (·.dProved)).getD 1
  | d => d

/-- Producer `p` runs in the present heat (R39). -/
def State.runsNow (s : State) (p : Nat) : Bool := (s.prod? p).isSome && s.heat.heat.toNat % max 1 (s.divOf p) == 0

end Sys2Proof.Machine
end

