-- ==== Sys2Proof/Machine/Ops.lean ====
section
/-! DEFINITION. The named operations every engine uses: free values, sticky bits (R511, R512), event records (R489 to
R495), trace capture (R161 to R180), and messages into the uplink's transmit queues (R45, R407, R431). -/

namespace Sys2Proof.Machine

/-- A free value of `w` bits: the next of Config.freeValue (notes/assumptions/3). -/
def State.free (s : State) (w : Nat) : BitVec w := (Config.freeValue s.sys.fresh).setWidth w

/-- Count the free value just taken. -/
def State.freed (s : State) : State := { s with sys := { s.sys with fresh := s.sys.fresh + 1 } }

/-- The word software wrote at register word `i`, else `d`. -/
def State.rwd (s : State) (off : Nat) (d : Nat) : Nat := ((Tab.get none s.rw (off / 4)).map BitVec.toNat).getD d

/-- ERR_STICKY word `r`. -/
def State.stickyWord (s : State) (r : Nat) : Word :=
  match r with
  | 0 => s.integ.sticky0
  | 1 => s.integ.sticky1
  | 2 => s.integ.sticky2
  | _ => s.integ.sticky3

/-- ERR_FIRST for bit `b` of sticky register `r` (R512). -/
def firstWord (r b : Nat) : Word := BitVec.ofNat 32 (fieldAt 1 31 1 + fieldAt r 8 2 + b)

/-- A sticky bit. -/
def State.stuck (s : State) (r b : Nat) : Bool := (s.stickyWord r).getLsbD b

/-- All four sticky registers read 0. -/
def Integ.clean (i : Integ) : Bool := i.sticky0 == 0 && i.sticky1 == 0 && i.sticky2 == 0 && i.sticky3 == 0

/-- Write sticky word `r`. -/
def Integ.putSticky (i : Integ) (r : Nat) (w : Word) : Integ :=
  match r with
  | 0 => { i with sticky0 := w }
  | 1 => { i with sticky1 := w }
  | 2 => { i with sticky2 := w }
  | _ => { i with sticky3 := w }

/-- Set sticky bit `b` of register `r`, with ERR_FIRST by R512. -/
def State.stick (s : State) (r b : Nat) : State :=
  let i := s.integ.putSticky r (setBit (s.stickyWord r) b true)
  { s with integ :=
      if s.integ.clean then
        { i with first := firstWord r b, firstStroke := s.tb.stroke }
      else i }

/-- The 32 places of a record with its data (R489, R490): the head and its continuations. -/
def recordPlaces (code : Nat) (rp : Nat) (fsid : BitVec 48) (sq : Nat) (hours pcyc : Word) (stroke : DWord)
    (data : List Byte) : List (List Byte) :=
  let rest := data.drop 8
  let n := min 3 ((rest.length + 29) / 30)
  let head := le 2 code ++ le 1 (rp + 4 * n) ++ le 3 (fsid.toNat % 2 ^ 24) ++ le 2 sq ++ le 4 hours.toNat ++
    le 4 pcyc.toNat ++ le 8 stroke.toNat ++ ((data ++ List.replicate 8 0).take 8)
  head :: (List.range n).map fun i => [0, 0] ++ (((rest.drop (30 * i)) ++ List.replicate 30 0).take 30)

/-- Unflushed places of the retention ring. -/
def Recorder.unflushed (r : Recorder) : Nat := (r.ring.filter fun p => !p.2).length

/-- Drop the `n` oldest flushed places. -/
def dropFlushed : Nat → List (List Byte × Bool) → List (List Byte × Bool)
  | 0, l => l
  | _, [] => []
  | n + 1, (_, true) :: l => dropFlushed n l
  | n + 1, (p, false) :: l => (p, false) :: dropFlushed (n + 1) l

/-- Put the places of one record into the buffer: R493 on Exfin-D, R495 on Exfin-T; a record that finds no room is
dropped whole and counted. -/
def Recorder.push (r : Recorder) (tray : Bool) (ps : List (List Byte)) : Recorder :=
  if tray then
    if r.buf.length + ps.length ≤ 512 then { r with buf := r.buf ++ ps }
    else { r with drop := satInc r.drop, dropPend := true }
  else
    if r.unflushed + ps.length ≤ 128 then
      { r with ring := dropFlushed (r.ring.length + ps.length - 128) r.ring ++ ps.map fun q => (q, false)
               ringWr := r.ringWr + BitVec.ofNat 7 ps.length }
    else { r with drop := satInc r.drop, dropPend := true }

/-- URGENT in force (R505). -/
def State.urgent (s : State) : Nat := s.img 0xC 6 2 0xFFFF

/-- An event of this moment (R489). -/
def State.recIn (s : State) (code : Nat) (data : List Byte) (role path : Nat) : RecIn :=
  ⟨BitVec.ofNat 16 code, data, BitVec.ofNat 2 role, BitVec.ofNat 4 path, s.tb.stroke, s.recPoison, s.fsid⟩

/-- Form the record of an event and buffer it (R489 to R495). Role 0 is "none", which takes path 0xF. -/
def State.buffer (s : State) (q : RecIn) : State :=
  let rp := q.role.toNat + 16 * (if q.role = 0 then 15 else q.path.toNat)
  let sq := s.evr.sq.toNat + (if q.poison then 2 ^ 15 else 0)
  let r := s.evr.push s.isT (recordPlaces q.code.toNat rp q.frag sq s.evr.hours s.evr.pcyc q.stroke q.data)
  { s with evr := { r with sq := r.sq + 1, urgentPend := r.urgentPend || s.urgent.testBit (q.code.toNat / 4096) } }

/-- Capture is on: a user image is in force (R94), CAP_EN as the image or a write gives it (R180), the event machine's
action (R183), and no freeze. -/
def State.capOn (s : State) : Bool :=
  s.user && s.trc.capEn.getD (s.img 6 0 4 0).bodd && s.ttrc.emCap.getD true && !s.ttrc.frozen && s.running

/-- Packets are captured now: capture is on and the trigger is not STOPPED (R178). -/
def State.capActive (s : State) : Bool := s.capOn && s.trc.tstate != 3

/-- Words in the capture FIFO. -/
def Trace.fifoWords (t : Trace) : Nat := (t.fifo.map List.length).sum

/-- The words of a buoy (Table 5-2). -/
def buoyWords (kind : Nat) (b : Buoy) : List DWord :=
  [BitVec.ofNat 64 (fieldAt 1 60 4 + fieldAt kind 57 3 + fieldAt (bit b.sv 1).toNat 56 1 +
     fieldAt (bit b.stepValid 1).toNat 55 1 + fieldAt b.slot.toNat 32 23 + b.step.toNat), b.heat]

/-- The buoy of the present moment: slot number `slot`, heat number `heat` (R163). -/
def State.buoyNow (s : State) (slot : BitVec 23) (heat : DWord) : Buoy :=
  { slot := slot, heat := heat, step := if s.isT then s.red.lastFinStep else s.led.step,
    stepValid := if s.isT then s.red.lastFinValid else s.led.stepValid, sv := s.tb.valid }

/-- The LOSS packet in the first cycle in which it fits (R167). -/
def Trace.lossPacket (t : Trace) : Trace :=
  if t.lossPend ≠ 0 ∧ t.fifoWords < 4096 then
    { t with fifo := t.fifo ++ [[BitVec.ofNat 64 (fieldAt 5 60 4 + fieldAt t.ofs.toNat 49 11 + t.lossPend.toNat)]],
             lossPend := 0 }
  else t

/-- Write a buoy into the FIFO; buoys are never dropped (R167). -/
def State.captureBuoy (s : State) (kind : Nat) (slot : BitVec 23) (heat : DWord) : State :=
  if s.capActive then { s with trc := { s.trc with fifo := s.trc.fifo ++ [buoyWords kind (s.buoyNow slot heat)] } } else s

/-- SLOT of a buoy between A and the first new heat (Table 5-3). -/
abbrev gapSlot : BitVec 23 := 0x7FFFFF

/-- The RESUME buoy before the first packet after capture starts again, with the slot in force (R163): OFS goes on from
the first cycle of that slot (R164). -/
def State.resumeBuoy (s : State) (heat : DWord) : State :=
  if s.trc.resume && s.capActive then
    let t := s.trc
    let t := if t.pos = gapSlot then t else { t with pos := t.pos + BitVec.ofNat 23 (t.ofs.toNat / 32), ofs := t.ofs % 32 }
    ({ s with trc := { t with resume := false } } : State).captureBuoy 4 t.pos heat
  else s

/-- A buoy of slot `slot` of heat `heat`, taken in that slot's first cycle (R163, R164). -/
def State.buoy (s : State) (kind : Nat) (slot : BitVec 23) (heat : DWord) : State :=
  (({ s with trc := { s.trc with pos := slot, ofs := 0 } } : State).resumeBuoy heat).captureBuoy kind slot heat

/-- Core cycles pass within R164's bound; how many is a free value, since no command carries them (notes/assumptions/3). -/
def State.later (s : State) : State :=
  { s with trc := { s.trc with ofs := s.trc.ofs + BitVec.ofNat 11 ((s.free 11).toNat % (2048 - s.trc.ofs.toNat)) } }.freed

/-- The moment is `ofs` cycles after the slot that the last buoy names, as a command says it (R164). -/
def State.laterTo (s : State) (ofs : BitVec 11) : State :=
  { s with trc := { s.trc with ofs := if s.trc.ofs.toNat < ofs.toNat then ofs else s.trc.ofs } }

/-- What goes into the FIFO ahead of a packet: a RESUME buoy that is due, and a LOSS packet that fits now (R165). -/
def State.capReady (s : State) : State :=
  let s := s.resumeBuoy s.heat.heat
  if s.capActive then { s with trc := s.trc.lossPacket } else s

/-- Capture a packet other than a buoy, its OFS being that of the present moment (R164, R167): written, or dropped and
counted. -/
def State.capture (s : State) (word : Nat) : State :=
  if s.capActive then
    let s := s.capReady
    let t := s.trc
    let w := word + fieldAt t.ofs.toNat 49 11
    { s with trc :=
        if t.fifoWords + 17 ≤ 4096 then { t with fifo := t.fifo ++ [[BitVec.ofNat 64 w]] }
        else ({ t with loss := satInc t.loss, lossPend := t.lossPend + 1 } : Trace).lossPacket }
  else s

/-- A packet would be written now. -/
def State.capFits (s : State) : Bool := s.capActive && decide (s.capReady.trc.fifoWords + 17 ≤ 4096)

/-- Blocks of the partition that carries the instance's own packets (R169, R173). -/
def State.ownBlocks (s : State) : Nat := if s.isT then max 1 (s.img 6 0xC 4 16384) else 2048

/-- Where the packet after packets of the lengths `ls` lands, from block `b`, word `w` on (R169). -/
def placeAfter (blocks : Nat) : List Nat → Nat × Nat → Nat × Nat
  | [], p => p
  | n :: ls, (b, w) =>
    let (b, w) := if w + n > 512 then ((b + 1) % blocks, 0) else (b, w)
    let w := if w = 0 then 2 else w
    let q := if w + n ≥ 512 then ((b + 1) % blocks, 0) else (b, w + n)
    placeAfter blocks ls q

/-- The position at which the next packet of the FIFO's end will stand. -/
def State.nextPos (s : State) : Nat × Nat :=
  let (b, w) := placeAfter s.ownBlocks (s.trc.fifo.map List.length) (s.trc.blk.toNat, s.trc.word)
  if w = 0 then (b, 2) else if w ≥ 512 then ((b + 1) % s.ownBlocks, 2) else (b, w)

/-- Transition `i` of the event machine (Table 5-5): CKIND, NEXT, MATCH, COUNT, ACTIONS, POST. -/
def State.trans (s : State) (i o n : Nat) : Nat := s.img 6 (0x840 + 16 * i + o) n 0

/-- An input meets the condition of transition `i` (R182). -/
def State.emMeets (s : State) (i : Nat) (x : EmInput) : Bool :=
  let m := s.trans i 2 2
  match s.trans i 0 1, x with
  | 1, .tap t => t.toNat == m
  | 2, .code c => c.toNat == m
  | 3, .fast d => m == 0xFFFF || d.toNat == m
  | 4, .slot0 => decide (m ≤ s.ttrc.emHeats)
  | 5, .verdict l => decide (m ≤ l.toNat)
  | _, _ => false

/-- The die whose fast event an input is. -/
def emDie (x : EmInput) : Option (BitVec 6) :=
  match x with
  | .fast d => some d
  | _ => none

/-- One input of the event machine, in a cycle of its own (R182, notes/assumptions/82): the counters of the present state's
used transitions that it meets rise, and the lowest that reaches COUNT is put up to fire. -/
def State.emFeed (s : State) (x : EmInput) : State :=
  if !(s.isT && s.user && s.running) || s.ttrc.emFire.isSome then s
  else
    let q := 4 * s.ttrc.emState.toNat
    let cnt := (List.range 4).map fun j => s.ttrc.emCnt.getD j 0 + (if s.emMeets (q + j) x then 1 else 0)
    let hit := (List.range 4).find? fun j => s.trans (q + j) 0 1 != 0 && decide (s.trans (q + j) 4 2 ≤ cnt.getD j 0)
    { s with ttrc := { s.ttrc with emCnt := cnt, emFire := hit.map fun j => (q + j, emDie x) } }

/-- The INTERNAL packet of an event code in the present cycle, and its part in the event machine (R161, R182, Table 5-2). -/
def State.internalNow (s : State) (code : Nat) (data : List Byte) : State :=
  if (s.img 6 8 4 0).testBit (code / 4096) then
    (s.capture (fieldAt 4 60 4 + fieldAt code 32 16 + leAt data 0 4)).emFeed (.code (BitVec.ofNat 16 code))
  else s

/-- The INTERNAL packet of an event code in a cycle that no command names. -/
def State.internal (s : State) (code : Nat) (data : List Byte) : State := s.later.internalNow code data

/-- A fresh link of the uplink (R413: reset enters DOWN). -/
def Link.init : Link :=
  { (default : Link) with
      tr := { (default : Train) with phyRst := true }, tx := List.replicate 4 default, rx := List.replicate 4 default }

/-- Link `k`. -/
def State.link (s : State) (k : Nat) : Link := Tab.get Link.init s.ul.links k

/-- Change link `k`. -/
def State.setLink (s : State) (k : Nat) (l : Link) : State :=
  { s with ul := { s.ul with links := Tab.set Link.init s.ul.links k l } }

/-- Virtual channel `v` of a link, transmit side. -/
def Link.txv (l : Link) (v : Nat) : TxVc := l.tx.getD v default

/-- A message into a transmit queue; at a full queue it is dropped and counted (R45). -/
def TxVc.push (t : TxVc) (depth : Nat) (m : Msg) : TxVc :=
  if t.queue.length < depth then { t with queue := t.queue ++ [m] } else { t with drops := satInc t.drops }

/-- Queue a message on virtual channel `v` of link `k`. -/
def State.send (s : State) (k v mtype : Nat) (body : List Byte) : State :=
  let l := s.link k
  s.setLink k { l with tx := l.tx.set v ((l.txv v).push (Config.txDepth (BitVec.ofNat 2 v)) ⟨BitVec.ofNat 8 mtype, body⟩) }

/-- Would a message on `v` of link `k` be dropped? -/
def State.sendFull (s : State) (k v : Nat) : Bool :=
  decide (Config.txDepth (BitVec.ofNat 2 v) ≤ ((s.link k).txv v).queue.length)

/-- A message into the CTRL insertion path; where it is full the message is dropped and counted (R45, R410). -/
def Link.pushInsertion (l : Link) (depth : Nat) (m : Msg) : Link :=
  if l.insertion.length < depth then { l with insertion := l.insertion ++ [m] } else { l with insDrops := satInc l.insDrops }

/-- Queue a message on the CTRL insertion path of link `k` (R410). -/
def State.insert (s : State) (k mtype : Nat) (body : List Byte) : State :=
  s.setLink k ((s.link k).pushInsertion Config.insDepth ⟨BitVec.ofNat 8 mtype, body⟩)

/-- An event's record with its internal packet (R161, R489), without looking at the trigger. -/
def State.eventQuiet (s : State) (q : RecIn) : State := (s.buffer q).internal q.code.toNat q.data

/-- TRC_TRIG_AT of a position. -/
def trigWord (p : Nat × Nat) : Word := BitVec.ofNat 32 (fieldAt p.2 16 9 + p.1)

/-- The trigger fires in the present cycle (R177): the INTERNAL packet of TRACE_TRIGGERED, `more` of the cycle's INTERNAL
packets with their records, the TRIGGER packet after them (R165) with REMAIN, the position, and TRACE_TRIGGERED. `src` by
Table 5-2. -/
def State.fireWith (s : State) (src : Nat) (more : State → State) : State :=
  let stop := s.img 6 0x28 4 0 % 2 ^ 24
  let s := s.capReady
  let at_ := trigWord (more (s.internalNow 0x3001 [])).nextPos
  let data := le 1 src ++ le 4 at_.toNat
  let s := more ((s.buffer (s.recIn 0x3001 data 0 0)).internalNow 0x3001 data)
  let s := { s with trc := { s.trc with tstate := 2, remain := BitVec.ofNat 24 stop, trigAt := at_,
                                        trigHeat := s.heat.heat, counting := false } }
  let s := s.capture (fieldAt 8 60 4 + fieldAt src 47 2 + stop)
  if s.isD then s.send 0 0 0x15 (le 4 src ++ le 4 at_.toNat ++ le 8 s.heat.heat.toNat) else s

/-- The trigger fires alone in its cycle. -/
def State.fire (s : State) (src : Nat) : State := s.fireWith src id

/-- An event happens: its record is buffered, its INTERNAL packet captured, and an armed trigger on its code fires (R177), in
ascending order of CODE (R165, R492). -/
def State.happen (s : State) (q : RecIn) : State :=
  let hit := s.isD && s.trc.tstate == 1 && s.img 6 0x20 4 0 % 4 == 2 && s.img 6 0x24 4 0 % 2 ^ 16 == q.code.toNat &&
    (s.img 6 8 4 0).testBit (q.code.toNat / 4096) && s.capFits
  if !hit then s.eventQuiet q
  else if q.code.toNat < 0x3001 then (s.eventQuiet q).fire 0
  else s.fireWith 0 fun t => (t.buffer q).internalNow q.code.toNat q.data

/-- An event among those of its cycle, after those of the same or a lower CODE (R492). -/
def placeEvent (q : RecIn) : List RecIn → List RecIn
  | [] => [q]
  | x :: l => if x.code.toNat ≤ q.code.toNat then x :: placeEvent q l else q :: x :: l

/-- An event record: it happens now, or with the other events of its cycle where a command makes several. -/
def State.event (s : State) (code : Nat) (data : List Byte) (role path : Nat) : State :=
  let q := s.recIn code data role path
  match s.evr.cycle with
  | some l => { s with evr := { s.evr with cycle := some (placeEvent q l) } }
  | none => s.happen q

/-- The lowest register, then the lowest bit, that is set among the sticky registers. -/
def State.lowestSticky (s : State) : Option (Nat × Nat) :=
  ([0, 1, 2, 3].flatMap fun r => (List.range 32).map fun b => (r, b)).find? fun p => (s.stickyWord p.1).getLsbD p.2

/-- ERR_FIRST after a cycle that began in `old` and set bits while all were 0: the lowest register and bit (R512). -/
def State.firstOf (s old : State) : State :=
  if !old.integ.clean then s
  else
    match s.lowestSticky with
    | some p => { s with integ := { s.integ with first := firstWord p.1 p.2 } }
    | none => s

/-- What `f` does in one core-clock cycle: the events it makes happen in ascending order of CODE (R165, R492), and the
lowest of the sticky bits it sets is the first error (R512). -/
def State.oneCycle (s : State) (f : State → State) : State :=
  match s.evr.cycle with
  | some _ => f s
  | none =>
    let t := (f { s with evr := { s.evr with cycle := some [] } }).firstOf s
    (t.evr.cycle.getD []).foldl State.happen { t with evr := { t.evr with cycle := none } }

/-- An event record with the role "none". -/
def State.note (s : State) (code : Nat) (data : List Byte) : State := s.event code data 0 0

/-- `n` corrected errors of memory `m` (R515). -/
def State.memCes (s : State) (m n : Nat) : State :=
  if n = 0 then s
  else { s with integ := { s.integ with memCe := Tab.upd 0 s.integ.memCe m fun c => satAdd c n } }.stick 3 2

/-- A corrected or an uncorrectable error of memory `m` at word `addr` (R515). -/
def State.memErr (s : State) (m : Nat) (ue : Bool) (addr : Nat) : State :=
  if ue then
    ({ s with integ := { s.integ with memUe := Tab.upd 0 s.integ.memUe m satInc } }.stick 3 3).note 0x6006 (le 1 m ++ le 4 addr)
  else s.memCes m 1

/-- CLK_AON is not declared stopped: the times counted in it pass (Table 16-4). -/
def State.aonRuns (s : State) : Bool := !s.integ.xingStop.getLsbD (if s.isT then 28 else 36)

/-- The LPDDR5X clocks are not declared stopped: reads complete (Table 16-4). -/
def State.lp5Runs (s : State) : Bool := !([23, 24, 25].any s.integ.xingStop.getLsbD)

/-- A record keyed `key` is due under a sticky bit: none was written since the bit was last cleared (R512). -/
def State.due (s : State) (r b key : Nat) : Bool := !s.integ.noted.contains (BitVec.ofNat 7 (32 * r + b), BitVec.ofNat 16 key)

/-- Remember that the record keyed `key` was written under a sticky bit. -/
def State.noted (s : State) (r b key : Nat) : State :=
  if s.due r b key then
    { s with integ := { s.integ with noted := s.integ.noted ++ [(BitVec.ofNat 7 (32 * r + b), BitVec.ofNat 16 key)] } }
  else s

/-- Set a sticky bit, and write the record, keyed `key`, only for the first occurrence after the bit was last cleared
(R512). -/
def State.stickOnce (s : State) (r b key code : Nat) (data : List Byte) : State :=
  let t := s.stick r b
  if s.due r b key then (t.noted r b key).note code data else t

/-- The same for a record that stands for itself. -/
def State.stickNote (s : State) (r b code : Nat) (data : List Byte) : State := s.stickOnce r b code code data

/-- A producer joins those whose queue dropped an entry in this heat (R345). -/
def State.overload (s : State) (p : Nat) : State :=
  { s with ump := { s.ump with
      overNow := if s.ump.overNow.contains (BitVec.ofNat 10 p) then s.ump.overNow else s.ump.overNow ++ [BitVec.ofNat 10 p] } }

end Sys2Proof.Machine
end

