-- ==== Sys2Proof/Machine/Out.lean ====
section
/-! DEFINITION. What leaves northbound (R445 to R450), what a command takes from the delivered messages of a link, who
performs an access (R470 to R475), and when a write is refused (R474, R509). -/

namespace Sys2Proof

/-- R13: a write with fewer than all four byte lanes is ignored. -/
def Acc.full (a : Acc) : Bool := a.be == 0xF

end Sys2Proof

namespace Sys2Proof.Machine

/-- A field of the northbound block of LINK_PARAMS (Table 14-6), `d` under factory defaults. -/
def State.nbf (s : State) (o n d : Nat) : Nat := s.img 0xB o n d

/-- PORT_EN with the fuse settings under factory defaults (R94, R467). -/
def State.portEn (s : State) : Nat :=
  if s.isT then
    let e := s.fd 0x16 1 0
    s.nbf 0x130 1 (bits e 2 2 + 16 * bits e 0 0)
  else 0

/-- Is port `p` (0, 1, or 2 for the rack bus) enabled? -/
def State.portOn (s : State) (p : Nat) : Bool := s.portEn.testBit p

/-- CLASS[m]. -/
def State.nbClass (s : State) (m : Nat) : Nat := s.nbf (0x148 + m) 1 (if m = 0x11 ∨ m = 0x04 then 0x71 else 0)

/-- VLAN: VID and TAG_EN. -/
def State.vlan (s : State) : Nat := s.nbf 0x134 2 (s.fd 0x18 2 0 + 2 ^ 15 * bits (s.fd 0x16 1 0) 1 1)

/-- Port 0 or 1. -/
def State.port (s : State) (p : Nat) : NbPort := if p = 0 then s.nb.port0 else s.nb.port1

/-- Change port 0 or 1. -/
def State.setPort (s : State) (p : Nat) (q : NbPort) : State :=
  if p = 0 then { s with nb := { s.nb with port0 := q } } else { s with nb := { s.nb with port1 := q } }

/-- The length L of a frame with `n` bytes of header and payload, destination address through FCS (R445, R452). -/
def nbLen (tag : Bool) (n : Nat) : Nat := max 64 (14 + (if tag then 4 else 0) + n + 4)

/-- The 32-byte header of Table 14-2. -/
def State.nbHeader (s : State) (mtype len seq : Nat) (rep : Bool) : List Byte :=
  le 1 1 ++ le 1 mtype ++ le 2 len ++ le 2 seq ++ le 1 ((bit rep 1).toNat + 2 * (bit (!s.user) 1).toNat) ++ le 1 0 ++
    le 6 s.fsidSys.toNat ++ le 2 0 ++ le 8 s.tb.stroke.toNat ++ le 8 s.heat.heat.toNat

/-- A frame into traffic class `c` of a port, or its abort queue for an ABORT: 64 frames and 96 KiB, or 8 frames (R450). -/
def NbPort.push (q : NbPort) (tag : Bool) (c : Nat) (f : NbFrame) : NbPort :=
  if f.mtype = 0x0C then
    if q.abortQ.length < 8 then { q with abortQ := q.abortQ ++ [f] }
    else { q with drops := Tab.upd 0 q.drops 8 satInc }
  else
    let l := q.cls.getD c []
    if l.length < 64 ∧ (l.map fun g => nbLen tag g.bytes.length).sum + nbLen tag f.bytes.length ≤ 98304 then
      { q with cls := q.cls.set c (l ++ [f]) }
    else { q with drops := Tab.upd 0 q.drops c satInc }

/-- The destination address of a message on port `p`: HOSTMAC, the asker, or ABORT_GRP (R445). -/
def State.nbDst (s : State) (p mtype : Nat) (dst : Option (BitVec 48)) : BitVec 48 :=
  match dst with
  | some a => a
  | none =>
    if mtype = 0x0C then BitVec.ofNat 48 (s.nbf 0x200 6 0)
    else if p = 2 then BitVec.ofNat 48 (s.nbf 0x178 6 0)
    else BitVec.ofNat 48 (s.nbf (0x138 + 8 * p) 6 (2 ^ 48 - 1))

/-- Queue a message on port `p` (0, 1, 2): SEQ increases by one per message of a type queued there (R447). -/
def State.northOn (s : State) (p mtype : Nat) (body : List Byte) (dst : Option (BitVec 48)) (rep : Bool) : State :=
  if !s.portOn p then s
  else if p = 2 then
    let t := s.nb.t1s
    let f : NbFrame := ⟨BitVec.ofNat 8 mtype, s.nbDst p mtype dst,
      s.nbHeader mtype body.length (Tab.get 0 t.seq mtype).toNat rep ++ body, s.tb.stroke⟩
    { s with nb := { s.nb with t1s :=
        if t.queue.length < 16 then { t with queue := t.queue ++ [f], seq := Tab.upd 0 t.seq mtype (· + 1) }
        else { t with cnt := Tab.upd 0 t.cnt 7 satInc, seq := Tab.upd 0 t.seq mtype (· + 1) } } }
  else
    let q := s.port p
    let f : NbFrame := ⟨BitVec.ofNat 8 mtype, s.nbDst p mtype dst,
      s.nbHeader mtype body.length (Tab.get 0 q.seq mtype).toNat rep ++ body, s.tb.stroke⟩
    let q := q.push (s.vlan.testBit 15) (bits (s.nbClass mtype) 6 4) f
    s.setPort p { q with seq := Tab.upd 0 q.seq mtype (· + 1) }

/-- A northbound message once on every port its CLASS entry names (R447); REPEAT as given. -/
def State.northRep (s : State) (mtype : Nat) (body : List Byte) (rep : Bool) : State :=
  if s.isT then
    ([0, 1, 2].filter fun p => (s.nbClass mtype).testBit p).foldl (fun s p => s.northOn p mtype body none rep) s
  else s

/-- A northbound message to an address of its own, on every port its CLASS entry names (R445, R447). -/
def State.northTo (s : State) (mtype : Nat) (dst : BitVec 48) (body : List Byte) : State :=
  if s.isT then
    ([0, 1, 2].filter fun p => (s.nbClass mtype).testBit p).foldl (fun s p => s.northOn p mtype body (some dst) false) s
  else s

/-- A request place whose entries have all completed queues its REG_RSP and is free (R448, R449). -/
def State.reqFinish (s : State) (i : Nat) : State :=
  match Tab.get none s.nb.places i with
  | some p =>
    if p.left.isEmpty then
      let body := le 4 p.reqid.toNat ++ le 1 p.done.length ++ le 3 0 ++
        p.done.flatMap fun e => le 1 e.1.toNat ++ le 3 0 ++ le 4 e.2.toNat
      let d := s.nb.doneReqs ++ [(p.src, p.reqid, body)]
      let nb := { s.nb with places := Tab.set none s.nb.places i none, doneReqs := d.drop (d.length - 64) }
      { s with nb := nb }.northTo 0x11 p.src body
    else s
  | none => s

/-- The entry that runs in place `i` completes. -/
def State.reqDone (s : State) (i status : Nat) (data : Word) : State :=
  match Tab.get none s.nb.places i with
  | some p =>
    let p := { p with done := p.done ++ [(BitVec.ofNat 8 status, data)], left := p.left.drop 1, waiting := false }
    { s with nb := { s.nb with places := Tab.set none s.nb.places i (some p) } }.reqFinish i
  | none => s

/-- A northbound message. -/
def State.north (s : State) (mtype : Nat) (body : List Byte) : State := s.northRep mtype body false

/-- Bit `i` of NB_EXP (reset value FP and SCORE on). -/
def State.nbExp (s : State) (i : Nat) : Bool := (s.rwd 0x94000 0x18).testBit i

/-- Bit `k` of NB_RAW. -/
def State.nbRaw (s : State) (k : Nat) : Bool := (s.rwd 0x94008 0 + 2 ^ 32 * s.rwd 0x9400C 0).testBit k

/-- Take a message from the front of the delivered messages of virtual channel `v` of link `k`, if it is the one the
command names (notes/assumptions/6). -/
def State.take (s : State) (k v mtype : Nat) : State :=
  let l := s.link k
  let r := l.rx.getD v default
  match r.queue with
  | m :: rest => if m.2.mtype.toNat = mtype then s.setLink k { l with rx := l.rx.set v { r with queue := rest } } else s
  | [] => s

/-- A path that holds its own role state, at operator (R482). -/
def PathState.init : PathState := { (default : PathState) with role := 1, roleC := 2 }

/-- The state of path `p`. -/
def State.path (s : State) (p : Nat) : PathState := Tab.get PathState.init s.roles.paths p

/-- Change path `p`. -/
def State.setPath (s : State) (p : Nat) (q : PathState) : State :=
  { s with roles := { s.roles with paths := Tab.set PathState.init s.roles.paths p q } }

/-- The role a path holds: operator while its stored pair mismatches (Table 16-1 item 1). -/
def PathState.held (q : PathState) : Nat := if q.roleC = ~~~ q.role then q.role.toNat else 1

/-- The role of an access (Table 15-1): path 9 carries it, path 15 is operator. -/
def State.roleOf (s : State) (a : Acc) : Nat :=
  if a.path = 9 then a.role.toNat else if a.path = 15 then 1 else (s.path a.path.toNat).held

/-- The consequences of a write that the path's role does not allow (R474). -/
def State.roleRefused (s : State) (a : Acc) (off need : Nat) : State :=
  (s.stick 2 5).event 0x1004 (le 1 a.path.toNat ++ le 3 off ++ le 1 need) (s.roleOf a) a.path.toNat

/-- The record of an accepted installer or maker write, or of a committed pair (R474). -/
def State.cfgWrite (s : State) (a : Acc) (off : Nat) (v : Word) : State :=
  s.event 0x1006 (le 3 off ++ le 4 v.toNat) (s.roleOf a) a.path.toNat

/-- A refused WC2 pair, or a write that R146, R374 or R397 refuses in its way (R509). -/
def State.wc2Refused (s : State) (a : Acc) (off reason : Nat) : State :=
  let s := s.stick 3 0
  let w := BitVec.ofNat 32 (fieldAt a.path.toNat 28 4 + fieldAt reason 24 3 + fieldAt off 0 20)
  let s := { s with integ := { s.integ with wc2Last := w } }
  s.event 0x6001 (le 3 off ++ le 1 reason ++ le 1 a.path.toNat) (s.roleOf a) a.path.toNat

/-- A test access that waits for a place joins the queue of R38 (R563). -/
def State.joinTest (s : State) : State :=
  if s.test.busy ∧ s.test.queued = false ∧ s.heat.raq.length < 16 then
    { s with
        test := { s.test with queued := true }
        heat := { s.heat with raq := s.heat.raq ++ [⟨true, s.test.wr, 0xF, s.test.off, s.test.wdata, 0⟩] } }
  else s

/-- The access `q` at the head of the queue of R38 is complete with the read data `v` (R551, R553): its response leaves,
status OK always, or the test access becomes DONE (R563). -/
def State.raDone (s : State) (q : RaReq) (v : Word) : State :=
  let h := { s.heat with raq := s.heat.raq.tail }
  if q.test then
    let x := s.test
    ({ s with heat := h
              test := if x.busy then { x with busy := false, queued := false, done := true, data := if q.wr then 0 else v } else x } : State).joinTest
  else ({ s with heat := { h with rsp := h.rsp ++ [⟨q.tag, if q.wr then 0 else v, 0⟩] } } : State).joinTest

/-- The head of the queue of R38 is complete when this access is it: path 0 the port's, path 10 the test access's. -/
def State.answered (s : State) (a : Acc) (wr : Bool) (off : Nat) (r : Word) : State :=
  match s.heat.raq with
  | q :: _ =>
    if a.path = (if q.test then 10 else 0) ∧ q.wr = wr ∧ q.off.toNat = off ∧ (wr = true → q.data = a.data ∧ q.be = a.be) then
      s.raDone q r
    else s
  | [] => s

/-- An area that the grade does not have, or the reserved range of both (R9). -/
def State.absentAt (s : State) (off : Nat) : Bool :=
  decide (0xD0000 ≤ off) || (s.isD && decide (0x70000 ≤ off ∧ off < 0xA0000)) ||
    (s.isT && decide (0x20000 ≤ off ∧ off < 0x30000))

/-- A write to a register: answered; ignored in an absent area (R9) and with fewer than four lanes (R13); refused below the
role `need` (R474); no effect on identity and role-gate registers through path 9 (R463); else `f`. -/
def State.written (s : State) (a : Acc) (off need : Nat) (f : State → State) : State :=
  if !s.running then s
  else
    let t := s.answered a true off 0
    if !a.full || s.absentAt off then t
    else if a.path = 9 ∧ off < 0x1000 then t
    else if s.roleOf a < need then t.roleRefused a off need
    else f t

/-- A committed WC2 pair is stored with its complement (R16, R507); `off` is the low word. -/
def State.storePair (s : State) (off : Nat) (v : Word) : State :=
  { s with wc2 := Tab.set none s.wc2 (off / 4) (some (v, ~~~ v)) }

/-- An item of Table 16-1 returns to a matching pair (R508). -/
def State.cplRestore (s : State) (item i : Nat) : State :=
  if Tab.get false s.integ.cplStat (256 * item + i) then
    ({ s with integ := { s.integ with cplStat := Tab.set false s.integ.cplStat (256 * item + i) false } } : State).note 0x6003
      (le 1 item ++ le 1 i)
  else s

/-- A write to the complement word of a WC2 pair whose low word lies at `off` (R16, R509): refused for a missing or
mismatched staging word or for the reason `why` gives (0 none), otherwise `f` commits the value. -/
def State.wc2Commit (s : State) (a : Acc) (off : Nat) (why : State → Word → Nat) (f : State → Word → State) : State :=
  s.written a (off + 4) 2 fun s =>
    let t : State := { s with integ := { s.integ with staged := none } }
    match s.integ.staged with
    | some (o, w) =>
      if o.toNat ≠ off then t.wc2Refused a (off + 4) 2
      else if a.data ≠ ~~~ w then t.wc2Refused a (off + 4) 1
      else if why t w ≠ 0 then t.wc2Refused a (off + 4) (why t w)
      else t.oneCycle fun t => (f t w).cfgWrite a off w
    | none => t.wc2Refused a (off + 4) 2

/-- A read of a register whose reading has an effect: answered with the value, then `f`. -/
def State.readBy (s : State) (a : Acc) (off : Nat) (r : Word) (f : State → State) : State :=
  if !s.running then s else f (s.answered a false off r)

end Sys2Proof.Machine
end

