-- ==== Sys2Proof/Machine/Policy.lean ====
section
/-! DEFINITION. What the image's sections say to the engines: probes and counters (R98, R101), analogue sense (R125),
compression tables (R212), DET_GRAPH (R373) with the reduction block (R296), POLICY (R374), TREE_DESC (R299), the stored
pairs that override them (R16, R508), and which dies are left out (R85, R151). -/

namespace Sys2Proof.Machine

/-- The value in force of a complement-protected word at `off`: what was committed, else `d`. -/
def State.wc2v (s : State) (off d : Nat) : Nat := ((Tab.get none s.wc2 (off / 4)).map fun p => p.1.toNat).getD d

/-- IDX of this side (Table 13-4). -/
def State.idx (s : State) : Nat := if s.isT then 127 else s.dieIdx

/-- Item `item`, index `i` of Table 16-1 is in complement fault. -/
def State.cpl (s : State) (item i : Nat) : Bool := Tab.get false s.integ.cplStat (256 * item + i)

/-- PROBE_MAP (Table 3-1). -/
def State.unitProbe (s : State) (n : Nat) : Nat := s.img 1 (0x180 + 4 * n) 4 0
def State.cluEntry (s : State) (c : Nat) : Nat := s.img 1 (0x80 + 4 * c) 4 0
def State.cluRegion (s : State) (c : Nat) : Nat := s.cluEntry c % 32
def State.cluEn (s : State) (c : Nat) : Bool := (s.cluEntry c).testBit 7
def State.cluProd (s : State) (c : Nat) : Nat := bits (s.cluEntry c) 17 8
def State.rdivInit (s : State) (r : Nat) : Nat := s.img 1 (4 * r) 4 0 % 8

/-- log2 of RD_r in force (R121): what the umpire set, else the image's. -/
def State.rdivLog (s : State) (r : Nat) : Nat :=
  if s.heat.rdivSet.getLsbD r then (Tab.get (0 : BitVec 3) s.heat.rdiv r).toNat else s.rdivInit r

/-- COUNTER_PROG (Table 3-2): entry and mode of counter `n`. -/
def State.cntProg (s : State) (n : Nat) : Nat := s.img 2 (8 * n) 8 0
def State.cntMode (s : State) (n : Nat) : Nat := s.cntProg n % 8

/-- The effective divisor of a cluster (R121). -/
def State.dEff (s : State) (c : Nat) : Nat :=
  let p := s.cluProd c
  let dMax := ((s.prod? p).map (·.dMax)).getD 1
  max 1 (min dMax (max (s.divOf p) (2 ^ s.rdivLog (s.cluRegion c))))

/-- WARDEN (R30). -/
def State.warden (s : State) : Bool := s.isD && (s.img 0xC 0 4 0).testBit 0

/-- COMP_TABLES (Table 6-7). -/
def State.cmpf (s : State) (o n : Nat) : Nat := s.img 7 o n 0
def State.nStatic (s : State) : Nat := min 8 (s.cmpf 3 1)
def State.keyEvery (s : State) (kind : Nat) : Nat :=
  let v := if kind = 1 then s.cmpf 1 1 else s.cmpf 2 1
  if v = 0 then 256 else v
def State.tblOf (s : State) (kind : Nat) : Nat :=
  s.img 7 (if kind = 1 then 8 else if kind = 2 then 9 else if kind = 4 then 10 else 11) 1 0xFF

/-- The bytes of a static table of the image in force (R200). -/
def State.staticBytes (s : State) (j : Nat) : List Byte :=
  match s.ld.cur with
  | some im => im.bytes (im.base 7 + 0x1020 + 40 * j) 37
  | none => []

/-- PMODE of counter `n` in an image. -/
def Image.pmode (im : Image) (n : Nat) : Nat := im.sec 7 (0x20 + n) 1

/-- A producer number of the image in force, none under factory defaults. -/
def State.prodAt (s : State) (t o : Nat) : Option Nat := s.ld.cur.map fun im => im.sec t o 4 % 1024
def State.encProd (s : State) : Option Nat := s.prodAt 7 0xC
def State.detProd (s : State) : Option Nat := s.prodAt 8 0
def State.umpProd (s : State) : Option Nat := s.prodAt 9 0

/-- DET_GRAPH (Table 11-7). -/
def State.nDet (s : State) : Nat := min 256 (s.img 8 4 2 0)
def State.detf (s : State) (n o len : Nat) : Nat := s.img 8 (0x220 + 32 * n + o) len 0
def State.detKind (s : State) (n : Nat) : Nat := if n < s.nDet then s.detf n 0 1 else 0
def State.detTray (s : State) (n : Nat) : Bool := s.isT && (s.detf n 1 1).testBit 1
def State.detHi (s : State) (n : Nat) : Int := sgn 32 (s.wc2v (0x61000 + 16 * n) (s.detf n 8 4))
def State.detLo (s : State) (n : Nat) : Int := sgn 32 (s.wc2v (0x61008 + 16 * n) (s.detf n 0xC 4))

/-- The reduction block (Table 9-9). -/
def State.redf (s : State) (o n : Nat) : Nat := s.img 8 (0x20 + o) n 0
def State.redProd (s : State) : Option Nat := s.prodAt 8 0x20
def State.nFig (s : State) : Nat := min 24 (s.redf 7 1)
def State.figCode (s : State) (i : Nat) : Nat := s.redf (0x20 + 16 * i) 1
def State.figSrc (s : State) (i : Nat) : Nat := s.redf (0x22 + 16 * i) 2
def State.figAcc (s : State) (i : Nat) : Nat := s.redf (0x24 + 16 * i) 2
def State.stepWait (s : State) : Nat := s.redf 4 2
def State.stMinDies (s : State) : Nat := s.redf 6 1
def State.madFloor (s : State) : Nat := s.redf 8 4

/-- POLICY (Table 11-8). -/
def State.pol (s : State) (o n : Nat) : Nat := s.img 9 o n 0
def State.nRule (s : State) : Nat := min 64 (s.pol 4 1)
def State.rateHold (s : State) : Nat := s.pol 5 1
def State.rateCalm (s : State) : Nat := s.pol 6 2
def State.silentH (s : State) : Nat := s.pol 8 2
def State.disagreeH (s : State) : Nat := s.pol 0xA 2
def State.vrep (s : State) : Nat := s.pol 0xC 2
def State.condemnCap (s : State) : Nat := s.pol 0xE 1
def State.capWin (s : State) : Nat := max 1 (s.pol 0x10 4)
def State.drainTmo (s : State) : Nat := s.pol 0x14 4
def State.startTmo (s : State) : Nat := s.pol 0x18 4

/-- Drain enable of die `k` (Exfin-D: bit 0): off while the word is in complement fault (Table 16-1 item 4). -/
def State.drnEn (s : State) (k : Nat) : Bool :=
  if k < 32 then !s.cpl 4 0 && (s.wc2v 0x62808 (s.pol 0x20 4)).testBit k
  else s.isT && !s.cpl 4 1 && (s.wc2v 0x62810 (s.pol 0x24 4)).testBit (k - 32)

/-- Word `w` of rule `i` as the image gives it, and as it is in force (R354). -/
def State.polImage (s : State) (i w : Nat) : Nat := s.pol (0x40 + 16 * i + 4 * w) 4
def State.polWord (s : State) (i w : Nat) : Nat :=
  ((Tab.get none s.ump.ruleNow (4 * i + w)).map BitVec.toNat).getD (s.polImage i w)

/-- TREE_DESC (Table 10-1). -/
def State.ted (s : State) (o n : Nat) : Nat := s.img 0xA o n 0
def State.treeDigest (s : State) : DWord := BitVec.ofNat 64 (s.hdr 0x28 8)
def State.nFeat (s : State) : Nat := min 256 (s.ted 0 2)
def State.nOut (s : State) : Nat := min 4 (s.ted 2 1)
def State.nTree (s : State) : Nat := min 4096 (s.ted 4 2)
def State.treeProd (s : State) : Nat := s.ted 6 2 % 1024
def State.resNodes (s : State) : Nat := s.ted 0xC 4
def State.sWin (s : State) : Nat := s.ted 0x10 4
def State.nSamp (s : State) : Nat := min 64 (s.ted 0x14 1)
def State.blobBase (s : State) : Nat := s.ted 0x18 8
def State.blobLen (s : State) : Nat := s.ted 0x20 8
def State.teLink (s : State) (o : Nat) : Nat := s.ted (0x28 + o) 1
def State.teBase (s : State) (o : Nat) : Int := sgn 64 (s.ted (0x30 + 8 * o) 8)

/-- A tree-table entry (Table 10-2). -/
structure TreeRec where
  start : Nat
  nodes : Nat
  depth : Nat
  out : Nat
  res : Bool
deriving DecidableEq, Repr, Inhabited

/-- The tree-table entry of 64 bits. -/
def treeRec (v : Nat) : TreeRec :=
  { start := bits v 27 0, nodes := bits v 43 28, depth := bits v 47 44 + 1, out := bits v 49 48, res := v.testBit 50 }

/-- The trees of the image in force. -/
def State.trees (s : State) : List TreeRec := (List.range s.nTree).map fun t => treeRec (s.ted (0x1080 + 8 * t) 8)

/-- A feature-table entry (Table 10-6). -/
structure FeatRec where
  code : Nat
  scale : Nat
  shift : Nat
  psh : Nat
  arg : Nat
  lo : Int
deriving DecidableEq, Repr, Inhabited

/-- Feature `j` of the image in force. -/
def State.feat (s : State) (j : Nat) : FeatRec :=
  let f (o n : Nat) := s.ted (0x80 + 16 * j + o) n
  ⟨f 0 1, f 1 1, f 2 1, f 3 1, f 4 2, sgn 64 (f 8 8)⟩

/-- DIE_IMG, NO_IMAGE of EXPECT (R84). -/
def State.dieImg (s : State) (k : Nat) : Nat := bits (s.expFlags k) 6 4
def State.noImage (s : State) (k : Nat) : Bool := (s.expFlags k).testBit 7

/-- A die image in the tray's cache for die `k`, where EXPECT names one that is cached. -/
def State.cachedImage (s : State) (k : Nat) : Option Image :=
  let im := Tab.get default s.tray.cache (s.dieImg k)
  if im.len = 0 ∨ s.noImage k then none else some im

/-- Die `k` is in CONFIG_MISMATCH as the registers show it: while the tray runs factory defaults every die is (R86); no heat is
processed then, so no record says so (notes/assumptions/89). -/
def State.mismatched (s : State) (k : Nat) : Bool := (s.isT && s.running && !s.user) || s.tray.mismatch.getLsbD k

/-- Die `k` is left out of the tray's work: in CONFIG_MISMATCH (R85; every die under factory defaults, R86) or declared
slipped (R151). -/
def State.leftOut (s : State) (k : Nat) : Bool :=
  !s.user ||
  s.tray.mismatch.getLsbD k || (Tab.get default s.tt.links k).slip

/-- Die `k` may be a member: in service and not left out (R253, R276). -/
def State.member (s : State) (k : Nat) : Bool := s.inService k && !s.leftOut k

/-- The verdict of die `k` (index 64: local). -/
def State.verd (s : State) (k : Nat) : Verd := Tab.get default s.ump.verd k

/-- Change a verdict. -/
def State.setVerd (s : State) (k : Nat) (v : Verd) : State :=
  { s with ump := { s.ump with verd := Tab.set default s.ump.verd k v } }

/-- The seed of generator `stream` of the level `fsid` for step `step` (R269). -/
def State.genSeed (s : State) (fsid : BitVec 48) (step : Word) (stream : Nat) : DWord :=
  let seed := match s.ld.cur with
    | some im => im.num 0x20 8
    | none => s.fd 0x20 8 1
  let v := crc64 (le 8 seed ++ le 8 fsid.toNat ++ le 8 step.toNat ++ le 8 stream)
  if v = 0 then 1 else v

/-- Every generator is seeded for a step (R269): `led.lfsr` holds one entry per stream. -/
def State.reseed (s : State) (step : Word) : State :=
  { s with led := { s.led with
      lfsr := Config.genStreams.foldl (fun t i => Tab.set 0 t i (s.genSeed s.fsid step i)) [] } }

/-- A scheduled slot draws `k` bits from generator `stream` (R268, R269). -/
def State.draw (s : State) (stream k : Nat) : Nat × State :=
  let d := galoisDraw k (Tab.get 0 s.led.lfsr stream)
  (d.1, { s with led := { s.led with lfsr := Tab.set 0 s.led.lfsr stream d.2 } })

/-- Heats begun since the count of heats read `c`. -/
def State.heatsSince (s : State) (c : DWord) : Nat := (s.heat.count - c).toNat

/-- Dies that are no members now leave the steps not yet reduced (R276) and the groups of the open replay records (R262);
FP_GROUP counts as in force. -/
def State.noteLeft (s : State) : State :=
  let gone := (List.range 64).foldl (fun (m : BitVec 64) k => setBit m k (!s.member k)) 0
  let step (x : Step) : Step := { x with left := x.left ||| gone }
  { s with
    red := { s.red with opened := s.red.opened.map step, queue := s.red.queue.map step }
    fpc := { s.fpc with replays := s.fpc.replays.map fun r => { r with
      left := r.left || gone.getLsbD r.die.toNat || Tab.get (63 : BitVec 6) s.fpc.groups r.die.toNat != r.group } } }

end Sys2Proof.Machine
end

