-- ==== Sys2Proof/Machine/Inputs.lean ====
section
/-! DEFINITION. Extended values (R304, R305), the samples kept of the own part or of a tray's dies, and the sources of
Table 10-4 that the tree front stage (R306) and the detectors (R337) read. -/

namespace Sys2Proof.Machine

/-- An extended value: finite, an infinity, or missing (M). -/
inductive Ext where
  | fin (v : Int)
  | pinf
  | ninf
  | miss
deriving DecidableEq, Repr, Inhabited

/-- R305: a finite result outside the signed 64-bit range becomes the infinity of its sign. -/
def Ext.norm (v : Int) : Ext := if v < -(2 ^ 63) then .ninf else if 2 ^ 63 ≤ v then .pinf else .fin v

/-- The infinity of a sign, missing for 0. -/
def Ext.inf (sign : Int) : Ext := if sign < 0 then .ninf else if 0 < sign then .pinf else .miss

/-- The sign of an extended value that is not M. -/
def Ext.sign : Ext → Int
  | .fin v => v.sign
  | .pinf => 1
  | .ninf => -1
  | .miss => 0

/-- An infinity. -/
def Ext.isInf : Ext → Bool
  | .pinf => true
  | .ninf => true
  | _ => false

/-- DIFF of Table 10-5. -/
def Ext.diff (a b : Ext) : Ext :=
  match a, b with
  | .miss, _ => .miss
  | _, .miss => .miss
  | .fin x, .fin y => Ext.norm (x - y)
  | .fin _, y => Ext.inf (-y.sign)
  | x, .fin _ => x
  | x, y => if x = y then .miss else x

/-- PROD of Table 10-5: arithmetic right shift by `sh`. -/
def Ext.prod (sh : Nat) (a b : Ext) : Ext :=
  match a, b with
  | .miss, _ => .miss
  | _, .miss => .miss
  | .fin x, .fin y => Ext.norm ((x * y) / 2 ^ sh)
  | x, y => Ext.inf (x.sign * y.sign)

/-- RATIO of Table 10-5: division rounds towards minus infinity. -/
def Ext.ratio (a b : Ext) : Ext :=
  match a, b with
  | .miss, _ => .miss
  | _, .miss => .miss
  | .fin x, .fin y => if y = 0 then Ext.inf x else Ext.norm ((x * 2 ^ 16).fdiv y)
  | .fin _, _ => .fin 0
  | x, .fin y => if y = 0 then Ext.inf x.sign else Ext.inf (x.sign * y.sign)
  | _, _ => .miss

/-- SCALE of R308: 0 LIN, 1 LOG2A. -/
def Ext.scale (sc : Nat) (r : Ext) : Ext :=
  if sc = 0 then r
  else
    match r with
    | .fin v =>
      if v < 0 then .miss
      else if v = 0 then .ninf
      else
        let n := v.toNat
        let p := Nat.log2 n
        .fin (256 * p + (if 8 ≤ p then (n >>> (p - 8)) % 256 else (n <<< (8 - p)) % 256 : Nat))
    | .pinf => .pinf
    | _ => .miss

/-- The feature code of a scaled value (R309). -/
def Ext.code (lo : Int) (shift : Nat) (y : Ext) : BitVec 16 :=
  match y with
  | .miss => 0xFFFF
  | .ninf => 0
  | .pinf => 0xFFFE
  | .fin v => BitVec.ofNat 16 (min 0xFFFD (max 1 ((v - lo) / 2 ^ shift + 1))).toNat

/-- R337: an infinity becomes ±2^62 before a detector uses it. -/
def Ext.det (y : Ext) : Option Int :=
  match y with
  | .miss => none
  | .pinf => some (2 ^ 62)
  | .ninf => some (-(2 ^ 62))
  | .fin v => some v

/-- The index that stands for Exfin-D's own die and for tray scope in the tables keyed by die. -/
def own : Nat := 64

/-- The non-held samples of cluster `c` of die `k`, latest last, whose last heat is at most `h`. -/
def State.cluSamples (s : State) (k c : Nat) (h : Nat) : List KeptSample :=
  s.red.samples.filter fun x => x.die.toNat == k % 64 && x.clu.toNat == c && x.span != 0 && decide (x.heat.toNat ≤ h)

/-- The latest cluster sample and the one before it (R306): missing where it does not exist, was left out (R21, R85), or
is older than `h − 63`. -/
def State.cluPair (s : State) (k c h : Nat) : Option KeptSample × Option KeptSample :=
  match (s.cluSamples k c h).reverse with
  | [] => (none, none)
  | x :: t =>
    if x.removed || decide (x.heat.toNat + 63 < h) then (none, none)
    else (some x, match t with
      | y :: _ => if y.removed then none else some y
      | [] => none)

/-- The statuses under which a counter source is M: OVF, DORMANT, POISON, OFF. -/
def badStat (st : Byte) : Bool := st.toNat &&& 0x59 != 0

/-- Is counter `n` of die `k` in MINMAX mode, as far as the image that runs there is known here? -/
def State.minmax (s : State) (k n : Nat) : Bool :=
  if s.isD then s.cntMode n == 3
  else
    match s.cachedImage k with
    | some im => im.sec 2 (8 * n) 8 % 8 == 3
    | none => false

/-- The analogue words of die `k` for heat `h` (Table 6-1, KIND 2). -/
def State.anaWords (s : State) (k h : Nat) : Option (List DWord) :=
  if s.isD then (if s.sns.sampleHeat.toNat = h then some (s.sns.sample.map fun (w : Word) => w.setWidth 64) else none)
  else (s.red.samples.find? fun x => x.die.toNat == k && x.clu == 64 && x.heat.toNat == h && !x.removed).map (·.items)

/-- The shared-sensor words that die `k` uses for heat `h` (R32, R33, R571). -/
def State.sharedWords (s : State) (k h : Nat) : Option (List DWord) :=
  if s.isD then
    if s.warden then (s.anaWords k h).map fun l => (List.range 8).map fun i => l.getD (if i < 4 then 16 + i else 24 + i) 0
    else s.sns.sharedUse.map fun l => l.map fun (w : Word) => w.setWidth 64
  else
    (s.red.samples.find? fun x => x.die.toNat / 8 == k / 8 && x.clu == 65 && x.heat.toNat == h && !x.removed).map (·.items)

/-- A counter source: value of counter `n` in a sample with its status byte. -/
def KeptSample.cnt (x : KeptSample) (n : Nat) : Nat := (x.items.getD (n % 64) 0).toNat
def KeptSample.st (x : KeptSample) (n : Nat) : Byte := x.stat.getD (n % 64) 0

/-- The value of detector `n` that the tree front stage reads for die `k` (R343). -/
def State.detPresented (s : State) (n k : Nat) : Ext :=
  let d := Tab.get default s.ump.det (65 * n + k)
  if s.detKind n = 0 || s.detTray n || !d.init || s.cpl 2 n then .miss else Ext.norm d.v

/-- A source of Table 10-4 for die `k` (Exfin-D: `own`) and heat `h`. -/
def State.source (s : State) (k h code arg : Nat) : Ext :=
  let word (l : Option (List DWord)) (i : Nat) : Nat := (l.map fun x => (x.getD i 0).toNat).getD 0
  let ana (i : Nat) := word (s.anaWords k h) i
  let shr (i : Nat) := word (s.sharedWords k h) i
  let fin (ok : Bool) (v : Int) : Ext := if ok then .fin v else .miss
  let mm (f : Nat → Nat) : Ext :=
    match (s.cluPair k (arg / 64) h).1 with
    | some x => fin (s.minmax k arg && x.cnt arg % 2 ^ 32 != 0 && !badStat (x.st arg)) (f (x.cnt arg))
    | none => .miss
  if code = 1 then
    match s.cluPair k (arg / 64) h with
    | (some x, some y) =>
      fin (!badStat (x.st arg)) (sgn 64 (((x.cnt arg + 2 ^ 64 - y.cnt arg) % 2 ^ 64) / max 1 x.span.toNat))
    | _ => .miss
  else if code = 2 then mm fun v => bits v 63 48
  else if code = 3 then mm fun v => bits v 47 32
  else if code = 4 then
    let w := if arg < 16 then ana arg else shr (arg - 16)
    fin (w.testBit 31 && !w.testBit 30) (sgn 16 w)
  else if code = 5 then
    let w := if arg < 8 then ana (20 + arg) else shr (4 + (arg - 8))
    fin (w.testBit 31) (w % 4096 : Nat)
  else if code = 6 then let w := ana (32 + arg); fin (w.testBit 31) (w % 2 ^ 16 : Nat)
  else if code = 7 then let w := ana (64 + arg); fin (w.testBit 31) (w % 2 ^ 16 : Nat)
  else if code = 8 then
    let d := Tab.get (0, 0, 0) s.red.pub.die k
    fin (s.red.pub.valid && d.1 == 0) (sgn 16 d.2.2.toNat)
  else if code = 9 then
    match Tab.get none s.red.pub.dur k with
    | some v => Ext.norm v.toNat
    | none => .miss
  else if code = 0xA then
    if s.isD then .fin s.heat.overrun.length
    else .fin (((Tab.get [] s.red.ovrs k).find? fun p => p.1.toNat == h).map (·.2.toNat) |>.getD 0)
  else if 0xB ≤ code ∧ code ≤ 0xE then
    let tab := if code % 2 = 1 then s.fpc.mis else s.fpc.cmp
    let cell (i : Nat) := if code ≤ 0xC then 256 * k + 16 * arg + i else 256 * k + 16 * i + arg
    .fin (((List.range 16).map fun i => (Tab.get 0 tab (cell i)).toNat).sum : Nat)
  else if code = 0xF then s.detPresented arg k
  else .miss

end Sys2Proof.Machine
end

