-- ==== Sys2Proof/Machine/Compare.lean ====
section
/-! DEFINITION. Cross-replica comparison at Exfin-T (chapter 8): comparison sets and their judgement, replay requests and
their outcomes, mismatch bins, shard reports. -/

namespace Sys2Proof.Machine

/-- Change the comparison unit. -/
def State.setFpc (s : State) (c : Compare) : State := { s with fpc := c }

/-- FP_CNT_i counts `n` more. -/
def Compare.count (c : Compare) (i n : Nat) : Compare := { c with counts := Tab.upd 0 c.counts i fun x => satAdd x n }

/-- FP_WAIT and FP_RPL_TMO: 0 acts as 1. -/
def State.fpWait (s : State) : Nat := max 1 (s.rwd 0x48800 0x02804040 % 256)
def State.fpRplTmo (s : State) : Nat := max 1 (s.rwd 0x48804 0x4000 % 2 ^ 24)

/-- The replica group of die `k` in force (R253); 63 is none. -/
def State.fpGroup (s : State) (k : Nat) : Nat := (Tab.get (63 : BitVec 6) s.fpc.groups k).toNat

/-- The members of group `g` now (R253). -/
def State.fpMembers (s : State) (g : Nat) : BitVec 64 :=
  (List.range 64).foldl (fun (m : BitVec 64) k => setBit m k (g != 63 && s.fpGroup k == g && s.member k)) 0

/-- LTAG fields (Table 8-1). -/
def tagStep (l : Nat) : Word := BitVec.ofNat 32 l
def tagObj (l : Nat) : Nat := bits l 43 32
def tagKind (l : Nat) : Nat := bits l 47 44
def tagLpat (l : Nat) : Nat := bits l 51 48
def tagRpl (l : Nat) : Bool := l.testBit 63

/-- R254 but for RPL: KIND ACT, KV or WEIGHT, STATUS OK, POISON, RPSN and TAGBAD 0, SV and EVDV 1 (Table 8-2). -/
def entryComparable (e : List Byte) : Bool :=
  let l := leAt e 8 8
  let f := leAt e 0x24 2
  1 ≤ tagKind l && tagKind l ≤ 3 && f % 4 == 0 && !f.testBit 2 && !f.testBit 7 && !f.testBit 12 && f.testBit 3 && f.testBit 8

/-- The stored form of a ledger entry of die `k`. -/
def fpEntryOf (k : Nat) (e : List Byte) : FpEntry :=
  { die := BitVec.ofNat 6 k, value := BitVec.ofNat 64 (leAt e 0 8), bytes := BitVec.ofNat 48 (leAt e 0x10 6),
    pset := BitVec.ofNat 2 (bits (leAt e 0x24 2) 5 4), evd := BitVec.ofNat 32 (leAt e 0x20 4),
    lpat := BitVec.ofNat 4 (tagLpat (leAt e 8 8)), stroke := BitVec.ofNat 64 (leAt e 0x18 8) }

/-- The open replay records. -/
def Compare.openReplays (c : Compare) : List FpReplay := c.replays.filter fun r => r.closed.isNone

/-- A replay entry meets the open record of its die for (STEP, OBJ, KIND) (R261, R262); without one, and with TAGBAD, by which
its KIND counts as NONE (R241), it is EXCL. -/
def State.fpReplayEntry (s : State) (k : Nat) (e : List Byte) : State :=
  let l := leAt e 8 8
  let hit (r : FpReplay) : Bool := r.closed.isNone && r.die.toNat == k && r.step == tagStep l && r.obj.toNat == tagObj l &&
    r.kind.toNat == tagKind l
  match if leAt e 0x24 2 |>.testBit 12 then none else s.fpc.replays.find? hit with
  | none => s.setFpc (s.fpc.count 7 1)
  | some r =>
    let ok := entryComparable e && leAt e 0x20 4 == r.evd.toNat
    let r' := { r with closed := some (if ok then 0 else 4), result := if ok then some (BitVec.ofNat 64 (leAt e 0 8)) else none }
    s.setFpc { s.fpc with replays := s.fpc.replays.map fun x => if x.num == r.num && hit x then r' else x }

/-- An entry with RPL = 0 opens or joins a comparison set (R254, R255). -/
def State.fpJoin (s : State) (k : Nat) (e : List Byte) : State :=
  let l := leAt e 8 8
  let g := s.fpGroup k
  let key (x : FpSet) : Bool := x.group.toNat == g && x.step == tagStep l && x.obj.toNat == tagObj l && x.kind.toNat == tagKind l
  if !entryComparable e then s.setFpc (s.fpc.count 7 1)
  else
    match s.fpc.sets.find? key with
    | some x =>
      if x.members.getLsbD k then
        let x' := { x with entries := (x.entries.filter fun y => y.die.toNat != k) ++ [fpEntryOf k e] }
        s.setFpc { s.fpc with sets := s.fpc.sets.map fun y => if key y then x' else y }
      else s.setFpc (s.fpc.count 7 1)
    | none =>
      let m := s.fpMembers g
      if !m.getLsbD k then s.setFpc (s.fpc.count 7 1)
      else if 4096 ≤ s.fpc.sets.length then s.setFpc (s.fpc.count 9 1)
      else
        let x : FpSet :=
          { group := BitVec.ofNat 6 g, step := tagStep l, obj := BitVec.ofNat 12 (tagObj l), kind := BitVec.ofNat 4 (tagKind l),
            heat := s.heat.count, members := m, entries := [fpEntryOf k e], expired := false }
        s.setFpc { s.fpc with sets := s.fpc.sets ++ [x] }

/-- FP_REPORT (R255, R261): the tray takes a ledger entry; every one goes to the northbound stream while NB_EXP.FP is 1. -/
def execFpReport (k : BitVec 6) (entry : List Byte) (s : State) : Host.Outcome State Fault Refusal :=
  .next (
    if !s.isT || !s.running then s
    else
      let s := s.take k.toNat 0 0x11
      let s := if s.nbExp 4 then s.north 5 entry else s
      if tagRpl (leAt entry 8 8) then s.fpReplayEntry k.toNat entry else s.fpJoin k.toNat entry)

/-- Members of a set without an entry. -/
def FpSet.absent (x : FpSet) : Nat :=
  ((List.range 64).filter fun k => x.members.getLsbD k && !(x.entries.any fun e => e.die.toNat == k)).length

/-- The wait of a set is over (R255). -/
def State.fpExpired (s : State) (x : FpSet) : Bool := decide (s.fpWait ≤ s.heatsSince x.heat)

/-- Sets whose wait is over complete, and their members without an entry count as ABSENT. -/
def State.fpExpire (s : State) : State :=
  s.fpc.sets.foldl (fun s x =>
    if s.fpExpired x && !x.expired then
      let c := s.fpc.count 8 x.absent
      s.setFpc { c with sets := c.sets.map fun y => if y = x then { x with expired := true } else y }
    else s) s

/-- FP_WAIT_EXPIRY (R255). -/
def execFpWaitExpiry (s : State) : Host.Outcome State Fault Refusal :=
  .next (if s.isT && s.running then s.fpExpire else s)

/-- The next free replay number from `n` on. -/
def Compare.freeNum (c : Compare) : Nat → Byte → Byte
  | 0, n => n
  | f + 1, n => if c.replays.any fun r => r.num == n then c.freeNum f (n + 1) else n

/-- Open a replay record and send REPLAY_REQ (R258), which no die in CONFIG_MISMATCH gets (R85); beyond 256 open records the
request is dropped (R255). -/
def State.fpRequest (s : State) (r : FpReplay) : State :=
  if 256 ≤ s.fpc.replays.length then s.setFpc (s.fpc.count 9 1)
  else
    let n := s.fpc.freeNum 256 s.fpc.nextNum
    let s := s.setFpc { s.fpc with replays := s.fpc.replays ++ [{ r with num := n }], nextNum := n + 1 }
    if s.mismatched r.die.toNat then s
    else s.send r.die.toNat 0 0x24 (le 4 r.step.toNat ++ le 2 r.obj.toNat ++ le 1 r.kind.toNat ++ le 1 n.toNat)

/-- The thermal bin of an entry (R266). -/
def State.thermalBin (s : State) (k : Nat) (stroke : DWord) : Nat :=
  let h := s.heatOf stroke.toNat
  let cfg := s.rwd 0x48800 0x02804040
  let ws := (s.red.samples.find? fun x => x.die.toNat == k && x.clu == 64 && x.heat == h && !x.removed).map
    fun x => (x.items.take 16).filterMap fun w => if w.getLsbD 31 && !w.getLsbD 30 then some (sgn 16 w.toNat) else none
  match ws with
  | some (t :: l) =>
    let m := l.foldl max t
    (min 14 (max 0 ((m - sgn 16 (cfg / 2 ^ 16)) / (max 1 (bits cfg 15 8) : Nat)))).toNat
  | _ => 15

/-- The bins of a judged class (R266). -/
def State.fpBins (s : State) (es : List FpEntry) (dissent : FpEntry → Bool) : State :=
  es.foldl (fun s e =>
    let i := 256 * e.die.toNat + 16 * s.thermalBin e.die.toNat e.stroke + e.lpat.toNat
    s.setFpc { s.fpc with cmp := Tab.upd 0 s.fpc.cmp i satInc
                          mis := if dissent e then Tab.upd 0 s.fpc.mis i satInc else s.fpc.mis }) s

/-- A value held by more than half of `m` members. -/
def majority (m : Nat) (vs : List DWord) : Option DWord := vs.find? fun v => decide (m < 2 * (vs.filter (· == v)).length)

/-- Judge one epoch class of a set (R256). -/
def State.judgeClass (s : State) (x : FpSet) (es : List FpEntry) : State :=
  match es with
  | [] => s
  | [_] => s.setFpc (s.fpc.count 6 1)
  | e :: _ =>
    if es.any fun y => y.pset != e.pset || y.bytes != e.bytes then
      (s.setFpc (s.fpc.count 5 1)).note 0x5105 (le 1 x.group.toNat ++ le 4 x.step.toNat ++ le 2 x.obj.toNat)
    else if es.all fun y => y.value == e.value then (s.setFpc (s.fpc.count 0 1)).fpBins es fun _ => false
    else
      let ref := majority es.length (es.map (·.value))
      let dis (y : FpEntry) : Bool := ref != some y.value
      let ds := es.filter dis
      let mask := ds.foldl (fun (m : BitVec 64) y => setBit m y.die.toNat true) 0
      let s := s.fpBins es dis
      let s := s.setFpc { (s.fpc.count 1 ds.length) with inputs := s.fpc.inputs ++ ds.map (fun y => (y.die, 0))
                                                         nextCls := s.fpc.nextCls + 1 }
      let s := s.note 0x5101 (le 1 x.group.toNat ++ le 4 x.step.toNat ++ le 2 x.obj.toNat ++ le 1 x.kind.toNat ++ le 8 mask.toNat)
      let cls := s.fpc.nextCls
      ds.foldl (fun s y => s.fpRequest
        { num := 0, group := x.group, die := y.die, step := x.step, obj := x.obj, kind := x.kind, evd := y.evd, orig := y.value,
          ref := ref, cls := cls, m := es.length, heat := s.heat.count, left := false, accepted := false, closed := none, result := none }) s

/-- The epoch classes of a set's entries, in the order of their first entries (R248). -/
def classesOf (es : List FpEntry) : List (List FpEntry) :=
  (es.map (·.evd)).eraseDups.map fun v => es.filter fun e => e.evd == v

/-- The complete sets are judged and leave (R256). -/
def State.judgeSets (s : State) : State :=
  let s := s.fpExpire
  let done := s.fpc.sets.filter fun x => x.expired || x.absent == 0
  let s := s.setFpc { s.fpc with sets := s.fpc.sets.filter fun x => !(x.expired || x.absent == 0) }
  done.foldl (fun s x =>
    let es := (List.range 64).filterMap fun k => x.entries.find? fun e => e.die.toNat == k
    (classesOf es).foldl (fun s c => s.judgeClass x c) s) s

/-- The outcome of one record against a reference (Table 8-5); `why` is the cause where there is no outcome value. -/
def State.outcome (s : State) (r : FpReplay) (ref : Option DWord) : State :=
  let unresolved (why : Nat) : State :=
    let c := s.fpc.count 4 1
    (s.setFpc { c with inputs := c.inputs ++ [(r.die, 2)], unres := c.unres ++ [{ r with ref := ref }] }).note 0x5104
      (le 1 r.die.toNat ++ le 4 r.step.toNat ++ le 2 r.obj.toNat ++ [Config.unresolvedCause why])
  if r.left || !(s.fpMembers r.group.toNat).getLsbD r.die.toNat then unresolved 5
  else
    match r.result, ref with
    | some v, some w =>
      if v = w then
        if r.ref.isNone && r.orig == w then s
        else
          let c := s.fpc.count 2 1
          (s.setFpc { c with inputs := c.inputs ++ [(r.die, 1)] }).note 0x5102
            (le 1 r.die.toNat ++ le 4 r.step.toNat ++ le 2 r.obj.toNat ++ le 1 r.kind.toNat)
      else
        let c := s.fpc.count 3 1
        let s := s.setFpc { c with inputs := c.inputs ++ [(r.die, 3)] }
        let s := { s with ump := { s.ump with fpDue := s.ump.fpDue ++ [r.die] } }
        s.note 0x5103 (le 1 r.die.toNat ++ le 4 r.step.toNat ++ le 2 r.obj.toNat ++ le 8 v.toNat)
    | some _, none => unresolved 4
    | none, _ => unresolved ((r.closed.getD 4).toNat - 1)

/-- Judge the closed records that `sel` names: one with a reference at once, a class without one when all its records are
closed (R262). -/
def State.judgeReplays (s : State) (sel : FpReplay → Bool) : State :=
  let ready (r : FpReplay) : Bool := r.closed.isSome && sel r &&
    (r.ref.isSome || !(s.fpc.replays.any fun x => x.cls == r.cls && x.closed.isNone))
  let cls := (s.fpc.replays.filter fun r => ready r && r.ref.isNone).map (·.cls)
  let now := s.fpc.replays.filter fun r => ready r || cls.contains r.cls
  let s' := s.setFpc { s.fpc with replays := s.fpc.replays.filter fun r => !(ready r || cls.contains r.cls) }
  now.foldl (fun t r =>
    let ref := match r.ref with
      | some v => some v
      | none => majority r.m ((now.filter fun x => x.cls == r.cls).filterMap (·.result))
    t.outcome r ref) s'

/-- Close an open record with a cause. -/
def State.closeReplay (s : State) (p : FpReplay → Bool) (why : BitVec 3) : State :=
  s.setFpc { s.fpc with replays := s.fpc.replays.map fun r => if r.closed.isNone && p r then { r with closed := some why } else r }

/-- Records whose timeout is over close (R262). -/
def State.replayTimeouts (s : State) : State :=
  s.closeReplay (fun r => decide (s.fpRplTmo ≤ s.heatsSince r.heat)) 3

/-- FP_RPL_TMO_EXPIRY (R262): the timeout ends a record as UNRESOLVED. -/
def execFpRplTmoExpiry (rec : BitVec 8) (s : State) : Host.Outcome State Fault Refusal :=
  .next (
    if !s.isT || !s.running then s
    else
      let p (r : FpReplay) : Bool := r.num == rec && decide (s.fpRplTmo ≤ s.heatsSince r.heat)
      s.oneCycle fun s => (s.closeReplay p 3).judgeReplays fun r => r.num == rec)

/-- REPLAY_ACCEPT (R262): the carrier will run the replay. -/
def execReplayAccept (k : BitVec 6) (step : Word) (nums : List Byte) (s : State) : Host.Outcome State Fault Refusal :=
  .next (
    if !s.isT || !s.running then s
    else
      let s := s.take k.toNat 0 0x16
      s.setFpc { s.fpc with replays := s.fpc.replays.map fun r =>
        if r.die == k && r.step == step && nums.contains r.num then { r with accepted := true } else r })

/-- REPLAY_REFUSED (R262): the records are judged UNRESOLVED on arrival. -/
def execReplayRefused (k : BitVec 6) (step : Word) (nums : List Byte) (cause : Byte) (s : State) :
    Host.Outcome State Fault Refusal :=
  .next (
    if !s.isT || !s.running then s
    else
      let p (r : FpReplay) : Bool := r.die == k && r.step == step && nums.contains r.num
      s.oneCycle fun s => ((s.take k.toNat 0 0x17).closeReplay p (if cause = 2 then 2 else 1)).judgeReplays p)

/-- SHARD_REPORT (R252): the counts are stored and the report goes north. -/
def execShardReport (k : BitVec 6) (body : List Byte) (s : State) : Host.Outcome State Fault Refusal :=
  .next (
    if !s.isT || !s.running then s
    else
      let s := s.take k.toNat 0 0x12
      (s.setFpc { s.fpc with shardSum := Tab.set [] s.fpc.shardSum k.toNat (body.take 8) }).north 6 (le 1 k.toNat ++ le 7 0 ++ body))

/-- The groups written take effect (R253). -/
def State.takeGroups (s : State) : State :=
  s.setFpc { s.fpc with groups := (List.range 64).foldl (fun t k =>
    Tab.set (63 : BitVec 6) t k (BitVec.ofNat 6 (s.rwd (0x48900 + 4 * k) 63))) [] }

/-- FP_REPLAY (R265); KIND is 1 to 3 (Table 15-4, R486). -/
def cmdFpReplay (p : Post) (s : State) : Option State :=
  let k := p.a0.toNat % 64
  let kind := bits p.a2.toNat 19 16
  if !s.inService k || s.mismatched k || kind = 0 || 3 < kind then none
  else some (s.send k 0 0x24 (le 4 p.a1.toNat ++ le 2 (p.a2.toNat % 4096) ++ le 1 kind ++ le 1 s.fpc.nextNum.toNat))

/-- FP_BIN_CLR (R267): one die or all. -/
def cmdFpBinClr (p : Post) (s : State) : Option State :=
  let keep (q : Nat × Word) : Bool := !p.a0.getLsbD 8 && q.1 / 256 != p.a0.toNat % 64
  some (s.setFpc { s.fpc with mis := s.fpc.mis.filter keep, cmp := s.fpc.cmp.filter keep })

end Sys2Proof.Machine
end

