-- ==== Sys2Proof/Machine/Tally.lean ====
section
/-! DEFINITION. Tally synchronisation (chapter 12): counts, hold rules, bindings, remote signals, waits, the hang dump and
the task end. -/

namespace Sys2Proof.Machine

/-- A count has reached a target (R377). -/
def reached (c t : Word) : Bool := (c - t).toNat < 2 ^ 31

/-- Count C_n and the fields of TLY_CFG_n. -/
def Tally.c (t : Tally) (n : Nat) : Word := Tab.get 0 t.cnt n
def Tally.mode (t : Tally) (n : Nat) : Nat := (Tab.get 0 t.cfg n).toNat % 4
def Tally.partner (t : Tally) (n : Nat) : Nat := bits (Tab.get 0 t.cfg n).toNat 13 8
def Tally.buf (t : Tally) (n : Nat) : Nat := bits (Tab.get 0 t.cfg n).toNat 31 16

/-- A signal of `inc` to tally `n` would be held (R385, R386). -/
def Tally.holds (t : Tally) (n : Nat) (inc : BitVec 16) : Bool :=
  if t.mode n = 1 then ((t.c n - t.c (t.partner n)).toInt + inc.toNat > (t.buf n : Int))
  else if t.mode n = 2 then inc.toNat > (Tab.get 0 t.next n - t.c n).toNat
  else false

/-- A BARRIER tally that reaches B advances B by the product committed with its mode (R386). -/
def Tally.advance (t : Tally) (n : Nat) : Tally :=
  if t.mode n = 2 ∧ t.c n = Tab.get 0 t.next n then
    { t with next := Tab.upd 0 t.next n (· + Tab.get 0 t.barStep n) }
  else t

/-- A signal is applied (R377, R381) and logged (Table 12-6). -/
def Tally.apply (t : Tally) (stroke : DWord) (n : Nat) (inc : BitVec 16) (src : Nat) : Tally :=
  let c := t.c n + inc.setWidth 32
  let l : TallyLog := ⟨stroke, c, inc, BitVec.ofNat 8 n, BitVec.ofNat 8 src⟩
  { t with cnt := Tab.set 0 t.cnt n c, log := (t.log ++ [l]).drop (t.log.length - 31) }.advance n

/-- Change the tally unit. -/
def State.setTly (s : State) (t : Tally) : State := { s with tly := t }

/-- A refused signal (R379): MODE 1, HOLD 2, HALT 3, QUEUE 4, RANGE 5. -/
def State.tallyRefuse (s : State) (src n : Nat) (inc : BitVec 16) (reason role path : Nat) : State :=
  let s := s.setTly { s.tly with refused := satInc s.tly.refused }
  let t := s.stick 2 2
  if !s.due 2 2 0x5501 then t else (t.noted 2 2 0x5501).event 0x5501 (le 1 src ++ le 1 n ++ le 2 inc.toNat ++ le 1 reason) role path

/-- A signal from a source that is never held: a register write, a proxy write, or the head of the remote queue (R387). -/
def State.tallyDirect (s : State) (src n : Nat) (inc : BitVec 16) (role path : Nat) : State :=
  if s.tly.svc = 0 ∧ (src = 0x21 ∨ src = 0x22) then s.tallyRefuse src n inc 1 role path
  else if 48 ≤ n ∨ inc = 0 then s.tallyRefuse src n inc 5 role path
  else if s.tly.halted then s.tallyRefuse src n inc 3 role path
  else if s.tly.holds n inc then s.tallyRefuse src n inc 2 role path
  else s.setTly (s.tly.apply s.tb.stroke n inc src)

/-- The bindings whose source event occurs add 1 to their tallies (R388); while halted each is refused with HALT. -/
def State.bindEvent (s : State) (src arg : Nat) : State :=
  (List.range 16).foldl (fun s j =>
    let b := (Tab.get 0 s.tly.bind j).toNat
    if bits b 15 8 = src ∧ (src ≠ 4 ∨ bits b 18 16 = arg) then
      if s.tly.halted then s.tallyRefuse (4 + j) (b % 64) 1 3 0 0
      else s.setTly (s.tly.apply s.tb.stroke (b % 64) 1 (4 + j))
    else s) s

/-- RDY of lane `l` (R380). -/
def Tally.ready (t : Tally) (l : Nat) : Bool := !(Tab.get default t.lanes l).held && !t.halted

/-- TALLY_SIGNAL (R380, R381): a carrier lane presents a signal. -/
def execTallySignal (lane : BitVec 2) (id : BitVec 6) (inc : BitVec 16) (s : State) : Host.Outcome State Fault Refusal :=
  .next (
    if !s.running then s
    else if !s.tly.ready lane.toNat then s.setTly { s.tly with proto := satInc s.tly.proto }
    else if 48 ≤ id.toNat ∨ inc = 0 then s.tallyRefuse lane.toNat id.toNat inc 5 0 0
    else if s.tly.holds id.toNat inc then
      s.setTly { s.tly with lanes := Tab.set default s.tly.lanes lane.toNat ⟨true, id, inc, 0⟩ }
    else s.setTly (s.tly.apply s.tb.stroke id.toNat inc lane.toNat))

/-- HELD_SIGNAL_APPLY (R385, R386): a held signal whose rule passes is applied, unless the unit is halted. -/
def execHeldSignalApply (lane : BitVec 2) (s : State) : Host.Outcome State Fault Refusal :=
  let l := Tab.get default s.tly.lanes lane.toNat
  .next (
    if l.held && !s.tly.halted && !s.tly.holds l.tally.toNat l.inc then
      let t := s.tly.apply s.tb.stroke l.tally.toNat l.inc lane.toNat
      s.setTly { t with lanes := Tab.set default t.lanes lane.toNat { l with held := false } }
    else s)

/-- Write wait lane `w` and form the long-wait lend anew (R391). -/
def State.setWait (s : State) (w : Nat) (l : WaitLane) : State :=
  let ws := Tab.set default s.tly.waits w l
  { s with tly := { s.tly with waits := ws }, pwr := { s.pwr with lendLong := ws.any fun p => p.2.long } }

/-- TALLY_WAIT (R382): V of a lane is first seen at 1; ID and target are sampled. -/
def execTallyWait (w : BitVec 4) (id : BitVec 6) (tgt : Word) (s : State) : Host.Outcome State Fault Refusal :=
  let l := Tab.get default s.tly.waits w.toNat
  .next (
    if !s.running || l.v then s
    else
      let s := s.setWait w.toNat ⟨true, true, false, id, tgt, 0, 0, false⟩
      if 48 ≤ id.toNat then s.setTly { s.tly with proto := satInc s.tly.proto } else s)

/-- TALLY_RELEASE (R382, R383): the target of a registered wait is reached; REL rises and LASTREL takes the greater. -/
def execTallyRelease (w : BitVec 4) (s : State) : Host.Outcome State Fault Refusal :=
  let l := Tab.get default s.tly.waits w.toNat
  let n := l.tally.toNat
  .next (
    if l.active && decide (n < 48) && !s.tly.halted && reached (s.tly.c n) l.target then
      let old := Tab.get 0 s.tly.last n
      let s := s.setTly { s.tly with last := Tab.set 0 s.tly.last n (if reached old l.target then old else l.target) }
      s.setWait w.toNat { l with active := false, long := false, rel := true }
    else s)

/-- TALLY_WAIT_WITHDRAW (R382): V is seen at 0; REL falls, or the wait is withdrawn. -/
def execTallyWaitWithdraw (w : BitVec 4) (s : State) : Host.Outcome State Fault Refusal :=
  let l := Tab.get default s.tly.waits w.toNat
  .next (if l.v then s.setWait w.toNat { l with v := false, active := false, long := false, rel := false } else s)

/-- TLY_TIME: LEND_H and WDOG_H. -/
def State.lendH (s : State) : Nat := s.rwd 0x50704 0x27100064 % 2 ^ 16
def State.wdogH (s : State) : Nat := s.rwd 0x50704 0x27100064 / 2 ^ 16

/-- WAIT_LONG (R391): a wait reaches LEND_H heat boundaries. -/
def execWaitLong (w : BitVec 4) (s : State) : Host.Outcome State Fault Refusal :=
  let l := Tab.get default s.tly.waits w.toNat
  .next (if l.active && s.lendH != 0 && s.lendH ≤ l.heats.toNat then s.setWait w.toNat { l with long := true } else s)

/-- The STEP a dump carries (Table 12-6): that of R163. -/
def State.stepShown (s : State) : Word := if s.isT then s.red.lastFinStep else s.led.step

/-- BUDGET_LEND_SRC (R356, R534): the policy lend is 0 on Exfin-T, both are 0 during phases 0 to 2. -/
def State.lendSrc (s : State) : Nat :=
  if s.running then
    (bit s.pwr.lendLong 1).toNat + 2 * (bit (s.isD && (s.pwr.lendPolicy || s.pwr.lendTray)) 1).toNat
  else 0

/-- The bytes of a hang dump (Table 12-6). -/
def State.dumpBytes (s : State) (cause lane : Nat) : List Byte :=
  let t := s.tly
  let words (tab : Tab Word) := (List.range 48).flatMap fun n => le 4 (Tab.get 0 tab n).toNat
  le 4 0x44594C54 ++ le 1 cause ++ le 1 lane ++ le 2 t.dseq.toNat ++ le 6 s.fsid.toNat ++ le 1 t.svc.toNat ++ le 1 0 ++
  le 8 s.tb.stroke.toNat ++ le 8 s.heat.heat.toNat ++ le 4 s.stepShown.toNat ++ le 4 s.lendSrc ++ le 8 t.left.toNat ++
  words t.cnt ++ words t.last ++ words t.cfg ++
  ((List.range 48).flatMap fun n => le 4 (if t.mode n = 2 then (Tab.get 0 t.next n).toNat else 0)) ++
  ((List.range 16).flatMap fun w =>
    let l := Tab.get default t.waits w
    le 4 l.target.toNat ++ le 1 (l.tally.toNat + 64 * (bit l.long 1).toNat + 128 * (bit l.active 1).toNat) ++ le 1 0 ++
      le 2 l.heats.toNat) ++
  ((List.range 4).flatMap fun k =>
    let l := Tab.get default t.lanes k
    le 2 l.inc.toNat ++ le 1 (l.tally.toNat + 128 * (bit l.held 1).toNat) ++ le 1 0 ++ le 2 l.heats.toNat ++ le 2 0) ++
  (t.log.flatMap fun e => le 8 e.stroke.toNat ++ le 4 e.count.toNat ++ le 2 e.inc.toNat ++ le 1 e.tally.toNat ++
    le 1 e.src.toNat) ++ List.replicate (16 * (32 - t.log.length)) 0

/-- The unit halts and takes a hang dump (R393): CAUSE 0 WATCHDOG, 1 COMMAND; lane 0xFF for a command. -/
def State.tallyHalt (s : State) (cause lane role path : Nat) : State :=
  let l := Tab.get default s.tly.waits lane
  let s := s.setTly { s.tly with dseq := s.tly.dseq + 1, halted := true }
  let d := s.dumpBytes cause lane
  let s := s.setTly { s.tly with dump := d }
  let s := s.stick 2 3
  let tg := if lane = 0xFF then (0, 0) else (l.tally.toNat, l.target.toNat)
  let s := s.event 0x5502 (le 1 cause ++ le 1 lane ++ le 1 tg.1 ++ le 4 tg.2 ++ le 2 s.tly.dseq.toNat) role path
  if s.isT then s.north 0x0D (le 1 127 ++ List.replicate 7 0 ++ d)
  else
    let t := s.send 0 3 0x62 d
    t.setTly { t.tly with dumpDrop := s.tly.dumpDrop || s.sendFull 0 3 }

/-- TALLY_WATCHDOG (R392): the lowest lane whose count reached WDOG_H halts the unit. -/
def execTallyWatchdog (s : State) : Host.Outcome State Fault Refusal :=
  let due := (List.range 16).find? fun w =>
    (Tab.get default s.tly.waits w).active && s.wdogH ≤ (Tab.get default s.tly.waits w).dog.toNat
  .next (
    match due with
    | some w => if !s.tly.halted && s.wdogH != 0 then s.tallyHalt 0 w 0 0 else s
    | none => s)

/-- The leftovers among the tallies of a mask (R396). -/
def Tally.leftovers (t : Tally) (mask : BitVec 48) : List Nat :=
  (List.range 48).filter fun n => mask.getLsbD n &&
    (t.waits.any (fun p => p.2.active && p.2.tally.toNat == n) || t.lanes.any (fun p => p.2.held && p.2.tally.toNat == n) ||
     (if t.mode n = 1 then t.c n != t.c (t.partner n)
      else !((List.range 48).any fun m => t.mode m == 1 && t.partner m == n) && t.c n != Tab.get 0 t.last n))

/-- The difference R400 reports for a leftover: against the partner for BOUNDED, against LASTREL otherwise. -/
def Tally.diff (t : Tally) (n : Nat) : Word :=
  if t.mode n = 1 then t.c n - t.c (t.partner n) else t.c n - Tab.get 0 t.last n

/-- TALLY_TASK_END (R396). -/
def execTallyTaskEnd (mask : BitVec 48) (s : State) : Host.Outcome State Fault Refusal :=
  let l := s.tly.leftovers mask
  let m : BitVec 48 := l.foldl (fun m n => setBit m n true) 0
  .next (
    match l with
    | [] => s
    | n :: _ =>
      let s := s.setTly { s.tly with left := s.tly.left ||| m }
      (s.stick 2 4).note 0x5504 (le 6 m.toNat ++ le 1 n ++ le 4 (s.tly.diff n).toNat))

/-- A command of the proxy path waits for its poll. -/
def State.proxyCmd (s : State) : Bool := s.isD && (s.path 9).pend

/-- A remote signal reaches a receiver (R390): its queue of 8, behind the proxy requests and the command that wait, or a
refusal. -/
def State.remoteArrive (s : State) (n : Nat) (inc : BitVec 16) : State :=
  if s.tly.svc = 0 then s.tallyRefuse 0x22 n inc 1 0 0
  else if 48 ≤ n ∨ inc = 0 then s.tallyRefuse 0x22 n inc 5 0 0
  else if 8 ≤ s.tly.remote.length then s.tallyRefuse 0x22 n inc 4 0 0
  else s.setTly { s.tly with remote := s.tly.remote ++ [⟨BitVec.ofNat 6 n, inc, s.nb.proxyIn.length, s.proxyCmd⟩] }

/-- A proxy request has been executed: the remote signals behind it have one less to wait for, and wait for the command that
it posted (R390). -/
def State.proxyTookEffect (s : State) : State :=
  s.setTly { s.tly with remote := s.tly.remote.map fun r =>
    if r.ahead = 0 then r else { r with ahead := r.ahead - 1, cmd := r.cmd || s.proxyCmd } }

/-- The command of the proxy path has been taken, or the requests of a session are gone: no remote signal waits for it. -/
def State.remoteFreed (s : State) (requests : Bool) : State :=
  s.setTly { s.tly with remote := s.tly.remote.map fun r =>
    if requests then { r with ahead := 0 } else { r with cmd := false } }

/-- The payload of TALLY_SIG (Table 13-6). -/
def tallySigBody (dest n inc sender : Nat) : List Byte :=
  le 1 (dest % 128) ++ le 1 n ++ le 2 inc ++ le 6 sender ++ le 6 0

/-- TALLY_SIG (R389, R390): taken at the die, taken or relayed at the tray. -/
def execTallySig (k : BitVec 6) (dest : BitVec 7) (tally : Byte) (inc : BitVec 16) (sender : BitVec 48) (s : State) :
    Host.Outcome State Fault Refusal :=
  let t := s.take k.toNat 0 0x31
  .next (
    if !s.running then s
    else if s.isD ∨ dest = 127 then t.remoteArrive tally.toNat inc
    else if dest.toNat < 64 then t.send dest.toNat 0 0x31 (tallySigBody dest.toNat tally.toNat inc.toNat sender.toNat)
    else t.tallyRefuse 0x22 tally.toNat inc 5 0 0)

/-- REMOTE_SIGNAL_APPLY (R387, R390): the head of the remote queue is applied, or refused where a rule would hold it; it waits
for what came ahead of it on CTRL. -/
def execRemoteSignalApply (s : State) : Host.Outcome State Fault Refusal :=
  .next (
    match s.tly.remote with
    | r :: rest =>
      if s.tly.halted || r.ahead != 0 || r.cmd then s
      else
        let t := s.setTly { s.tly with remote := rest }
        if t.tly.holds r.tally.toNat r.inc then t.tallyRefuse 0x22 r.tally.toNat r.inc 2 0 0
        else t.setTly (t.tly.apply t.tb.stroke r.tally.toNat r.inc 0x22)
    | [] => s)

/-- HANG_DUMP (R393, Table 14-3): the tray forwards a die's dump northbound. -/
def execHangDump (k : BitVec 6) (dump : List Byte) (s : State) : Host.Outcome State Fault Refusal :=
  .next (
    if s.running && s.isT then (s.take k.toNat 3 0x62).north 0x0D (le 1 k.toNat ++ List.replicate 7 0 ++ dump) else s)

/-- TLY_ADD_WRITE (R378, R387, R401). -/
def execTlyAddWrite (a : Acc) (n : BitVec 6) (s : State) : Host.Outcome State Fault Refusal :=
  .next (s.written a (0x50500 + 4 * n.toNat) 1 fun s =>
    if n.toNat < 48 then
      s.tallyDirect (if a.path = 9 then 0x21 else 0x20) n.toNat (a.data.setWidth 16) (s.roleOf a) a.path.toNat
    else s)

/-- TLY_REMOTE_WRITE (R389). -/
def execTlyRemoteWrite (a : Acc) (s : State) : Host.Outcome State Fault Refusal :=
  let v := a.data.toNat
  let dest := v % 128
  let n := bits v 13 8
  let inc : BitVec 16 := BitVec.ofNat 16 (bits v 31 16)
  let src := if a.path = 9 then 0x21 else 0x20
  .next (s.written a 0x5070C 1 fun s =>
    if (64 ≤ dest ∧ dest ≠ 127) ∨ 48 ≤ n ∨ inc = 0 then s.tallyRefuse src n inc 5 (s.roleOf a) a.path.toNat
    else if s.tly.svc = 0 then s.tallyRefuse src n inc 1 (s.roleOf a) a.path.toNat
    else if s.isD then s.send 0 0 0x31 (tallySigBody dest n inc.toNat s.fsid.toNat)
    else if dest = 127 then s.remoteArrive n inc
    else s.send dest 0 0x31 (tallySigBody dest n inc.toNat s.fsid.toNat))

/-- NPART × EVERY of TLY_BARP_n. -/
def State.barStep (s : State) (n : Nat) : Nat :=
  let v := s.rwd (0x50200 + 4 * n) 0
  v % 256 * (v / 2 ^ 16)

/-- Why a write of TLY_CFG_n is refused (R397): 0 accepted, 3 RANGE, 4 STATE. -/
def State.cfgReason (s : State) (n v : Nat) : Nat :=
  let t := s.tly
  let mode := v % 4
  let p := bits v 13 8
  if mode = 3 then 3
  else if mode = 1 ∧ (p = n ∨ 48 ≤ p ∨ v / 2 ^ 16 = 0) then 3
  else if mode = 2 ∧ s.barStep n = 0 then 3
  else if t.waits.any (fun q => q.2.active && q.2.tally.toNat == n) ∨
      t.lanes.any (fun q => q.2.held && q.2.tally.toNat == n) then 4
  else if mode ≠ 0 ∧ t.bind.any (fun q => bits q.2.toNat 15 8 != 0 && q.2.toNat % 64 == n) then 3
  else 0

/-- TLY_CFG_WRITE (R386, R397). -/
def execTlyCfgWrite (a : Acc) (n : BitVec 6) (s : State) : Host.Outcome State Fault Refusal :=
  let v := a.data.toNat
  let i := n.toNat
  .next (s.written a (0x50100 + 4 * i) 1 fun s =>
    if 48 ≤ i then s
    else if s.cfgReason i v ≠ 0 then s.wc2Refused a (0x50100 + 4 * i) (s.cfgReason i v)
    else
      let w := BitVec.ofNat 32 (v % 4 + fieldAt (bits v 13 8) 8 6 + fieldAt (v / 2 ^ 16) 16 16)
      let step := BitVec.ofNat 32 (s.barStep i)
      let c := s.tly.c i
      s.setTly { s.tly with
        cfg := Tab.set 0 s.tly.cfg i w, last := Tab.set 0 s.tly.last i c
        next := Tab.set 0 s.tly.next i (if v % 4 = 2 then c + step else 0)
        barStep := Tab.set 0 s.tly.barStep i (if v % 4 = 2 then step else 0) })

/-- A binding source is present in the grade (Table 12-5). -/
def State.bindSrcOk (s : State) (src : Nat) : Bool :=
  src == 0 || src == 3 || (if s.isD then [1, 2, 4, 5, 6].contains src else [7, 8, 9].contains src)

/-- TLY_BIND_WRITE (R388, R397). -/
def execTlyBindWrite (a : Acc) (j : BitVec 4) (s : State) : Host.Outcome State Fault Refusal :=
  let v := a.data.toNat
  let src := bits v 15 8
  let n := v % 64
  .next (s.written a (0x50600 + 4 * j.toNat) 1 fun s =>
    if (src ≠ 0 ∧ (48 ≤ n ∨ s.tly.mode n ≠ 0)) ∨ !s.bindSrcOk src then
      s.wc2Refused a (0x50600 + 4 * j.toNat) 3
    else
      let w := BitVec.ofNat 32 (n + fieldAt src 8 8 + fieldAt (bits v 18 16) 16 3)
      s.setTly { s.tly with bind := Tab.set 0 s.tly.bind j.toNat w })

/-- TLY_CTRL_WRITE (R379): a change of SVC writes TALLY_SVC. -/
def execTlyCtrlWrite (a : Acc) (s : State) : Host.Outcome State Fault Refusal :=
  let v : BitVec 2 := a.data.setWidth 2
  .next (s.written a 0x50700 1 fun s =>
    if v = s.tly.svc then s
    else (s.setTly { s.tly with svc := v }).event 0x5505 (le 1 s.tly.svc.toNat ++ le 1 v.toNat) (s.roleOf a) a.path.toNat)

/-- TLY_DUMP_READ (R401): a read of TLY_DUMP_0 latches the whole dump. -/
def State.latchDump (s : State) : State := s.setTly { s.tly with latch := some s.tly.dump }

/-- TLY_DUMP_READ: the read of TLY_DUMP_0 returns the dump's first word and latches the dump. -/
def execTlyDumpRead (a : Acc) (s : State) : Host.Outcome State Fault Refusal :=
  .next (s.readBy a 0x51000 (BitVec.ofNat 32 (leAt s.tly.dump 0 4)) State.latchDump)

/-- Boundary work of the tally unit: waits and held lanes count heat boundaries (R391, R392, Table 12-6), and the binding
of a heat boundary adds (Table 12-5). -/
def boundaryTally (s : State) : State :=
  let ws := s.tly.waits.map fun p =>
    if p.2.active then
      (p.1, { p.2 with heats := satInc p.2.heats, dog := if s.tly.halted then p.2.dog else satInc p.2.dog })
    else p
  let ls := s.tly.lanes.map fun p => if p.2.held then (p.1, { p.2 with heats := satInc p.2.heats }) else p
  (s.setTly { s.tly with waits := ws, lanes := ls }).bindEvent 3 0

/-- TALLY_LOAD's effect (R399): count, LASTREL and B. -/
def State.tallyLoad (s : State) (n : Nat) (v : Word) (role path : Nat) : State :=
  let old := s.tly.c n
  let t := s.tly
  let s := s.setTly { t with
    cnt := Tab.set 0 t.cnt n v, last := Tab.set 0 t.last n v
    next := if t.mode n = 2 then Tab.set 0 t.next n (v + Tab.get 0 t.barStep n) else t.next }
  s.event 0x5506 (le 1 n ++ le 4 old.toNat ++ le 4 v.toNat) role path

/-- TALLY_RESUME's effect (R394). -/
def State.tallyResume (s : State) (role path : Nat) : State :=
  let t := s.tly
  let s := s.setTly { t with
    halted := false, waits := t.waits.map fun p => if p.2.active then (p.1, { p.2 with dog := 0 }) else p }
  s.event 0x5503 (le 2 t.dseq.toNat ++ le 1 t.remote.length) role path

end Sys2Proof.Machine
end

