-- ==== Sys2Proof/Machine/Reduce.lean ====
section
/-! DEFINITION. Tray reduction (chapter 9): step marks and the step table, per-step figures, straggler statistics,
sketches with their merge, accumulation, export and records. -/

namespace Sys2Proof.Machine

/-- Count `n` in SK_CNT_i, saturating. -/
def Reduce.count (r : Reduce) (i n : Nat) : Reduce := { r with cnt := Tab.upd 0 r.cnt i fun c => satAdd c n }

/-- Change the reduction unit. -/
def State.setRed (s : State) (r : Reduce) : State := { s with red := r }

/-- A reduction loss (R295): its counter, the sticky bit, and the record of the first loss; the heat is an overload heat of the
reduction producer (R345). -/
def State.reduceLoss (s : State) (i code : Nat) (data : List Byte) : State :=
  let t := (s.setRed (s.red.count i 1)).stickOnce 1 4 0 code data
  match s.redProd with
  | some p => t.overload p
  | none => t

/-- SK_EXPORT.EN. -/
def State.skEn (s : State) : Bool := (s.rwd 0x80000 0x80).testBit 7

/-- A completed step joins the reduction queue, or is dropped at 8 (R277, R279). -/
def State.completeStep (s : State) (st : Step) : State :=
  let absent := ((List.range 64).filter fun k => st.members.getLsbD k && (Tab.get default st.marks k).fin.isNone).length
  let r := s.red.count 7 absent
  let r := { r with opened := r.opened.filter fun x => x.step != st.step, closedSteps := r.closedSteps ++ [st.step] }
  if r.queue.length < 8 then s.setRed { r with queue := r.queue ++ [st] }
  else (s.setRed r).reduceLoss 2 0x5202 (le 4 st.step.toNat)

/-- R278: with 8 steps open, the one that opened first completes at once. -/
def State.forceStep (s : State) : State :=
  match s.red.opened with
  | st :: _ =>
    if s.red.opened.length < 8 then s
    else
      let absent := ((List.range 64).filter fun k => st.members.getLsbD k && (Tab.get default st.marks k).fin.isNone).length
      ((s.setRed (s.red.count 1 1)).note 0x5201 (le 4 st.step.toNat ++ le 1 absent)).completeStep st
  | [] => s

/-- The dies that may be members now, as a mask. -/
def State.memberMask (s : State) : BitVec 64 :=
  (List.range 64).foldl (fun (m : BitVec 64) k => setBit m k (s.member k)) 0

/-- Keep a finish stroke of die `k` for GAP across step closure (R281). -/
def Reduce.keepFin (r : Reduce) (k : Nat) (step : Word) (f : DWord) : Reduce :=
  let l := Tab.get [] r.prevFin k
  if l.any fun p => p.1 == step then r else { r with prevFin := Tab.set [] r.prevFin k (l ++ [(step, f)]) }

/-- The FIN of die `k` for a step, if kept. -/
def Reduce.finOf (r : Reduce) (k : Nat) (step : Word) : Option DWord :=
  ((Tab.get [] r.prevFin k).find? fun p => p.1 == step).map (·.2)

/-- A mark of a processed heat is taken (R275, R276): die, heat of its header, STEP, KIND (finish or not), STROKE. -/
def State.takeMark (s : State) (k : Nat) (h : DWord) (step : Word) (finish : Bool) (stroke : DWord) : State :=
  if s.red.closedSteps.contains step then s.setRed (s.red.count 5 1)
  else
    let isOpen := s.red.opened.any fun x => x.step == step
    let s := if !isOpen && s.member k then
        let s := s.forceStep
        s.setRed { s.red with opened := s.red.opened ++
          [{ (default : Step) with step := step, heat := s.heat.count, members := s.memberMask }] }
      else s
    match s.red.opened.find? fun x => x.step == step with
    | some st =>
      let m := Tab.get default st.marks k
      if (if finish then m.fin else m.cat).isSome then s.setRed (s.red.count 6 1)
      else
        let m := if finish then { m with fin := some (stroke, h) } else { m with cat := some (stroke, h) }
        let st := { st with marks := Tab.set default st.marks k m }
        let r := { s.red with opened := s.red.opened.map fun x => if x.step == step then st else x }
        s.setRed (if finish then r.keepFin k step stroke else r)
    | none =>
      if finish then
        if (s.red.finOf k step).isSome then s.setRed (s.red.count 6 1) else s.setRed (s.red.keepFin k step stroke)
      else s

/-- The marks of a heat header in order (Table 9-1). -/
def State.takeMarks (s : State) (k : Nat) (h : DWord) (marks : List (List Byte)) : State :=
  marks.foldl (fun s m => s.takeMark k h (BitVec.ofNat 32 (leAt m 8 4)) ((leAt m 12 1).testBit 0)
    (BitVec.ofNat 64 (leAt m 0 8))) s

/-- Steps in ascending step number. -/
def sortSteps (l : List Step) : List Step :=
  l.foldl (fun acc x => (acc.filter fun y => y.step.toNat ≤ x.step.toNat) ++ [x] ++
    (acc.filter fun y => x.step.toNat < y.step.toNat)) []

/-- The step has waited STEP_WAIT heats. -/
def State.stepExpired (s : State) (st : Step) : Bool := decide (s.stepWait ≤ s.heatsSince st.heat)

/-- Every member of the step has a finish. -/
def Step.allIn (st : Step) : Bool :=
  (List.range 64).all fun k => !st.members.getLsbD k || (Tab.get default st.marks k).fin.isSome

/-- R277: the steps that complete in this alignment slot join the queue in ascending step number. -/
def State.completeSteps (s : State) : State :=
  (sortSteps (s.red.opened.filter fun st => st.allIn || s.stepExpired st)).foldl State.completeStep s

/-- STEP_WAIT_EXPIRY (R277): STEP_WAIT heats have begun since a step opened; members without a finish are ABSENT. -/
def execStepWaitExpiry (s : State) : Host.Outcome State Fault Refusal :=
  .next (if s.isT && s.running && s.user then
    (sortSteps (s.red.opened.filter s.stepExpired)).foldl State.completeStep s else s)

/-- The bucket of a value (R287): `b` is the boundary B_i. -/
def bucketFrom : Nat → Nat → Nat → Nat → Nat
  | 0, i, _, _ => i
  | f + 1, i, b, x =>
    let b' := b + (b + 49) / 50
    if x < b' then i else bucketFrom f (i + 1) b' x

/-- The bucket 0..2047 of a value. -/
def bucketOf (x : Nat) : Nat := if x = 0 then 0 else bucketFrom 2046 1 1 x

/-- The empty sketch of a figure (R286). -/
def Sketch.empty (fig src : Nat) : Sketch :=
  { (default : Sketch) with fig := BitVec.ofNat 8 fig, src := BitVec.ofNat 16 src, stepLo := 0xFFFFFFFF, min := BitVec.allOnes 64 }

/-- FRAC of a figure (Table 9-2). -/
def Sketch.frac (k : Sketch) : Nat := if k.fig = 4 then 4 else 0

/-- A value enters a sketch (R288). -/
def Sketch.enter (k : Sketch) (x : DWord) : Sketch :=
  let b := bucketOf x.toNat
  let old := Tab.get 0 k.bkt b
  { k with
      count := satInc k.count, bkt := Tab.set 0 k.bkt b (satInc old)
      min := if x.toNat < k.min.toNat then x else k.min, max := if k.max.toNat < x.toNat then x else k.max
      sum := satAdd k.sum x.toNat
      csat := k.csat || k.count == BitVec.allOnes 64 || old == BitVec.allOnes 32
      ssat := k.ssat || decide (2 ^ 128 ≤ k.sum.toNat + x.toNat) }

/-- Two sketches may merge (R289); VERSION is 1 in each, and FRAC follows FIG. -/
def Sketch.mergeable (a b : Sketch) : Bool := a.fig == b.fig && a.src == b.src

/-- The merge of two sketches of one figure (R289). -/
def Sketch.merge (a b : Sketch) : Sketch :=
  let bkt := b.bkt.foldl (fun t (p : Nat × Word) => Tab.upd 0 t p.1 fun c => satAdd c p.2.toNat) a.bkt
  { a with
      csat := a.csat || b.csat || decide (2 ^ 64 ≤ a.count.toNat + b.count.toNat) || decide (2 ^ 32 ≤ a.nstep.toNat + b.nstep.toNat) ||
        b.bkt.any fun p => decide (2 ^ 32 ≤ (Tab.get 0 a.bkt p.1).toNat + p.2.toNat)
      ssat := a.ssat || b.ssat || decide (2 ^ 128 ≤ a.sum.toNat + b.sum.toNat)
      stepLo := if b.stepLo.toNat < a.stepLo.toNat then b.stepLo else a.stepLo
      stepHi := if a.stepHi.toNat < b.stepHi.toNat then b.stepHi else a.stepHi
      nstep := satAdd a.nstep b.nstep.toNat, count := satAdd a.count b.count.toNat
      min := if b.min.toNat < a.min.toNat then b.min else a.min, max := if a.max.toNat < b.max.toNat then b.max else a.max
      sum := satAdd a.sum b.sum.toNat, bkt := bkt }

/-- The first 64 bytes of the body (Table 9-3). -/
def Sketch.head (k : Sketch) : List Byte :=
  le 1 1 ++ le 1 k.fig.toNat ++ le 1 k.frac ++ le 1 ((bit k.csat 1).toNat + 2 * (bit k.ssat 1).toNat) ++ le 2 k.src.toNat ++
    le 2 0 ++ le 4 k.stepLo.toNat ++ le 4 k.stepHi.toNat ++ le 4 k.nstep.toNat ++ le 4 0 ++ le 8 k.count.toNat ++
    le 8 k.min.toNat ++ le 8 k.max.toNat ++ le 16 k.sum.toNat

/-- The runs of non-zero buckets in ascending order (R293): first bucket and counts. -/
def sketchRuns : List (Nat × Word) → List (Nat × List Word)
  | [] => []
  | (i, c) :: t =>
    match sketchRuns t with
    | (j, l) :: r => if j = i + 1 then (i, c :: l) :: r else (i, [c]) :: (j, l) :: r
    | [] => [(i, [c])]

/-- The record of a sketch (Table 9-5). -/
def State.sketchRecord (s : State) (fidx : Nat) (k : Sketch) : List Byte :=
  let runs := sketchRuns k.bkt
  let body := k.head ++ runs.flatMap fun r =>
    le 4 (fieldAt r.1 0 11 + fieldAt (r.2.length - 1) 16 11) ++ r.2.flatMap fun c => le 4 c.toNat
  let pre := le 4 (32 + body.length) ++ le 2 runs.length ++ le 2 fidx ++ le 6 s.fsidSys.toNat ++ le 2 s.red.seq.toNat ++
    le 8 s.tb.stroke.toNat
  pre ++ le 4 (crc32c (pre ++ le 8 0 ++ body)).toNat ++ le 4 0 ++ body

/-- The lower median of a list of numbers (R150, R284). -/
def lowerMedian (l : List Nat) : Nat := (l.mergeSort (· ≤ ·)).getD ((l.length - 1) / 2) 0

/-- The straggler statistics of a step over its present members (R284, R285). -/
def State.stepStats (s : State) (st : Step) (present : List (Nat × DWord)) : Stats :=
  let p := present.length
  let formed := decide (s.stMinDies ≤ p)
  let fins := present.map fun x => x.2.toNat
  let med := lowerMedian fins
  let mad := lowerMedian (fins.map fun f => ((f : Int) - (med : Int)).natAbs)
  let row (k : Nat) : BitVec 2 × BitVec 64 × BitVec 16 :=
    match present.find? fun x => x.1 == k with
    | some x =>
      if formed then
        let d : Int := (x.2.toNat : Int) - (med : Int)
        let q := min 32767 (max (-32767) ((16 * d) / (max mad s.madFloor : Nat)))
        (0, BitVec.ofInt 64 d, BitVec.ofInt 16 q)
      else (0, 0, 0)
    | none => (if st.members.getLsbD k then 1 else 2, 0, 0)
  { valid := formed, npres := BitVec.ofNat 7 p, step := st.step
    med := if formed then BitVec.ofNat 64 med else 0, mad := if formed then BitVec.ofNat 64 mad else 0
    die := (List.range 64).foldl (fun t k => Tab.set (0, 0, 0) t k (row k)) []
    dur := present.foldl (fun t x =>
      match (Tab.get default st.marks x.1).cat with
      | some c => if c.1.toNat ≤ x.2.toNat then Tab.set none t x.1 (some (x.2 - c.1)) else t
      | none => t) [] }

/-- Samples of die `k` that are processed by now, for a cluster (R282): last heat at most that of the last alignment. -/
def State.doneSamples (s : State) (k c : Nat) : List KeptSample :=
  let lim := (Tab.get 0 s.inr.done 0).toNat
  s.red.samples.filter fun x => x.die.toNat == k && x.clu.toNat == c && x.span != 0 && decide (x.heat.toNat < lim)

/-- The start sample, the end sample and the span of R282, or none. -/
def State.cntSpan (s : State) (k n hc hf : Nat) : Option (KeptSample × KeptSample × List KeptSample) :=
  let l := s.doneSamples k (n / 64)
  let early := (l.takeWhile fun x => decide (x.heat.toNat < hf)).length
  let start := l.length - (l.reverse.takeWhile fun x => decide (hc ≤ x.heat.toNat)).length
  match (l.take start).getLast?, l.drop early with
  | some b, e :: _ =>
    let span := (l.take (early + 1)).drop start
    if (b :: e :: span).any fun x => x.removed || (x.st n).toNat &&& 0x51 != 0 then none else some (b, e, span)
  | _, _ => none

/-- The analogue samples of heats `hc` to `hf` of die `k`. -/
def State.anaSpan (s : State) (k hc hf : Nat) : List KeptSample :=
  s.red.samples.filter fun x => x.die.toNat == k && x.clu == 64 && !x.removed && decide (hc ≤ x.heat.toNat) && decide (x.heat.toNat ≤ hf)

/-- The greatest of a list of integers. -/
def maxInt : List Int → Option Int
  | [] => none
  | x :: t => some (t.foldl max x)

/-- The figure of die `k` (Table 9-2): `f` and `c` its finish and catch marks, `minFin` the least finish present. -/
def State.figure (s : State) (st : Step) (code src k : Nat) (f : DWord × DWord) (c : Option (DWord × DWord)) (minFin : Nat) :
    Option DWord :=
  let hf := f.2.toNat
  if code = 2 then some (BitVec.ofNat 64 (f.1.toNat - minFin))
  else
    match c with
    | none => none
    | some c =>
      let hc := c.2.toNat
      if code = 1 then (if c.1.toNat ≤ f.1.toNat then some (f.1 - c.1) else none)
      else if code = 3 then
        match s.red.finOf k (st.step - 1) with
        | some p => if p.toNat ≤ c.1.toNat then some (c.1 - p) else none
        | none => none
      else if code = 4 then
        let ts := (s.anaSpan k hc hf).flatMap fun x => (x.items.take 16).filterMap fun w =>
          if w.getLsbD 31 && !w.getLsbD 30 then some (sgn 16 w.toNat) else none
        (maxInt ts).map fun t => BitVec.ofInt 64 (1024 + t)
      else if code = 5 then
        let l := s.anaSpan k hc hf
        if l.length = hf + 1 - hc then
          some (BitVec.ofNat 64 ((l.map fun x => ((x.items.drop 64).map fun w => w.toNat % 2 ^ 16).sum).sum))
        else none
      else if code = 6 then
        some (BitVec.ofNat 64 (((Tab.get [] s.red.ovrs k).filterMap fun p =>
          if hc ≤ p.1.toNat ∧ p.1.toNat ≤ hf then some p.2.toNat else none).sum))
      else
        match s.cntSpan k src hc hf with
        | none => none
        | some (b, e, span) =>
          if code = 7 then some (e.items.getD (src % 64) 0 - b.items.getD (src % 64) 0)
          else
            let v := (span.filter fun x => x.cnt src % 2 ^ 32 != 0).map fun x => bits (x.cnt src) 63 48
            if v.isEmpty then none else some (BitVec.ofNat 64 (v.foldl max 0))

/-- One figure of a step is sketched and merged into its accumulation, which passes on at ACC steps (R288 to R292). An
accumulation of another figure, left by an image no longer in force, is not merged with (R289): it is dropped, DESIGN CHOICE
(notes/assumptions/98). -/
def State.reduceFig (s : State) (st : Step) (present : List (Nat × DWord)) (i : Nat) : State :=
  let code := s.figCode i
  let src := s.figSrc i
  let minFin := (present.map fun x => x.2.toNat).foldl min (2 ^ 64)
  let vals := present.map fun x =>
    let m := Tab.get default st.marks x.1
    s.figure st code src x.1 (m.fin.getD (0, 0)) m.cat minFin
  let sk := vals.foldl (fun k v => match v with
    | some x => k.enter x
    | none => k) { Sketch.empty code src with stepLo := st.step, stepHi := st.step, nstep := 1 }
  let r := s.red.count 8 (vals.filter Option.isNone).length
  let old := Tab.get default r.acc i
  let acc := (if old.nstep ≠ 0 && old.mergeable sk then old else Sketch.empty code src).merge sk
  let r := { r with lastSketches := r.lastSketches ++ [sk] }
  if acc.nstep.toNat < s.figAcc i then s.setRed { r with acc := Tab.set default r.acc i acc }
  else
    let r := { r with acc := Tab.set default r.acc i default }
    if !s.skEn || (Tab.get none r.exportBuf i).isSome then
      (s.setRed r).reduceLoss 4 0x5204 (le 1 i ++ le 4 acc.stepLo.toNat ++ le 4 acc.stepHi.toNat)
    else s.setRed { r with exportBuf := Tab.set none r.exportBuf i (some acc) }

/-- The reduction producer runs in the present heat. -/
def State.redRuns (s : State) : Bool :=
  match s.redProd with
  | some p => s.isT && s.running && s.runsNow p
  | none => false

/-- REDUCTION_RUN (R279 to R291): one step per heat is taken from the queue and reduced. -/
def execReductionRun (s : State) : Host.Outcome State Fault Refusal :=
  .next (
    match s.red.queue with
    | [] => s
    | st :: rest =>
      if !s.redRuns || s.red.pubDue.isSome then s
      else
        let present := (List.range 64).filterMap fun k =>
          if st.members.getLsbD k && !st.left.getLsbD k && s.member k then (Tab.get default st.marks k).fin.map fun f => (k, f.1) else none
        let r := s.red.count 0 1
        let s' := s.setRed { r with queue := rest, lastStep := st.step, lastSketches := []
                                    pubDue := some (s.stepStats st present) }
        ((List.range s.nFig).foldl (fun t i => t.reduceFig st present i) s').bindEvent 8 0)

/-- Room for one more frame of a message type on every port that carries it (R450). -/
def State.northRoom (s : State) (mtype len : Nat) : Bool :=
  let c := s.nbClass mtype
  [0, 1].all fun p =>
    !c.testBit p || !s.portOn p ||
      let l := (s.port p).cls.getD (bits c 6 4) []
      decide (l.length < 64) && decide ((l.map fun g => nbLen (s.vlan.testBit 15) g.bytes.length).sum + nbLen (s.vlan.testBit 15) (32 + len) ≤ 98304)

/-- The records of the sketch queue and of the score queue that find room pass to the northbound ports, scores while
NB_EXP.SCORE is 1 (R447). -/
def State.drainOne (s : State) : State :=
  let s := match s.red.recQ with
    | r :: t => if s.northRoom 2 r.length then (s.setRed { s.red with recQ := t }).north 2 r else s
    | [] => s
  match s.te.recQ with
  | r :: t => if s.nbExp 3 && s.northRoom 3 r.length then ({ s with te := { s.te with recQ := t } } : State).north 3 r else s
  | [] => s

/-- SKETCH_EXPORT (R292, R293): the lowest full export buffer becomes a record of the queue of 64. -/
def execSketchExport (s : State) : Host.Outcome State Fault Refusal :=
  .next (
    if !s.isT || !s.running then s
    else
      let s := s.drainOne
      match s.red.exportBuf with
      | (i, some k) :: _ =>
        let r := { s.red with exportBuf := Tab.set none s.red.exportBuf i none }
        if !s.skEn || decide (64 ≤ r.recQ.length) then
          (s.setRed r).reduceLoss 4 0x5204 (le 1 i ++ le 4 k.stepLo.toNat ++ le 4 k.stepHi.toNat)
        else
          let rec' := s.sketchRecord i k
          s.setRed { (r.count 9 1) with recQ := r.recQ ++ [rec'], seq := r.seq + 1 }
      | _ => s)

/-- SK_SEL_WRITE (R298): the per-step sketch of the selected entry is copied into the view. -/
def execSkSelWrite (a : Acc) (s : State) : Host.Outcome State Fault Refusal :=
  let i := a.data.toNat % 32
  .next (s.written a 0x80100 1 fun s =>
    if s.isT then
      s.setRed { s.red with sel := BitVec.ofNat 5 i, view :=
        if i < s.nFig then s.red.lastSketches.getD i (Sketch.empty 0 0) else Sketch.empty 0 0 }
    else s)

/-- ST_STEP_READ (R298): the statistics are latched. -/
def execStStepRead (a : Acc) (s : State) : Host.Outcome State Fault Refusal :=
  .next (s.readBy a 0x80204 (if s.isT then s.red.pub.step else 0) fun s =>
    if s.isT then s.setRed { s.red with latch := s.red.pub, latched := true } else s)

/-- Boundary: the statistics of the step reduced in the heat that ends are published (R285); a step whose reduction was
due and unfinished is discarded (R280). -/
def boundaryReduce (unfinished : List (BitVec 10)) (s : State) : State :=
  let s := match s.red.pubDue, s.redProd, s.red.queue with
    | none, some p, st :: rest =>
      if s.redRuns && unfinished.any fun u => u.toNat == p then
        (s.setRed { s.red with queue := rest }).reduceLoss 3 0x5203 (le 4 st.step.toNat)
      else s
    | _, _, _ => s
  let fresh := s.red.pubDue.isSome
  { s with red := { s.red with pub := s.red.pubDue.getD s.red.pub, pubDue := none }, ump := { s.ump with strag := fresh } }

end Sys2Proof.Machine
end

