-- ==== Sys2Proof/Machine/Align.lean ====
section
/-! DEFINITION. The tray's intake of die records (R21, R437) and the alignment slot (R21, R32, R86, R256, R262, R275 to
R277, R361). -/

namespace Sys2Proof.Machine

/-- Change the intake. -/
def State.setInr (s : State) (r : Intake) : State := { s with inr := r }

/-- The record of heat `h` of die `k`, if any has come. -/
def Intake.rec? (r : Intake) (k : Nat) (h : DWord) : Option DieRec := r.recs.find? fun x => x.die.toNat == k && x.heat == h

/-- Change the record of heat `h` of die `k`, or begin it. -/
def Intake.upd (r : Intake) (k : Nat) (h : DWord) (f : DieRec → DieRec) : Intake :=
  if r.recs.any fun x => x.die.toNat == k && x.heat == h then
    { r with recs := r.recs.map fun x => if x.die.toNat == k && x.heat == h then f x else x }
  else { r with recs := r.recs ++ [f { (default : DieRec) with die := BitVec.ofNat 6 k, heat := h }] }

/-- The number one above the highest heat processed; heats below it are processed no more (R135). -/
def Intake.next (r : Intake) : Nat := (Tab.get 0 r.done 0).toNat

/-- A CNT message of a die goes northbound as RAW while its NB_RAW bit is set (R447). -/
def State.rawNorth (s : State) (k mtype : Nat) (msg : List Byte) : State :=
  if s.nbRaw k then s.north 7 (le 1 k ++ le 1 mtype ++ le 6 0 ++ msg) else s

/-- A record of the heat has come, beyond a mark that the heat is late. -/
def DieRec.begun (x : DieRec) : Bool := x.hdr || 0 < x.got || x.detrec.isSome || x.detOvr

/-- The alignment buffer has room for heat `h` of die `k`: it holds at most two heats of a die (Table 1-9). -/
def Intake.room (r : Intake) (k : Nat) (h : DWord) : Bool :=
  (r.recs.filter fun x => x.die.toNat == k && x.heat != h && x.begun).length < 2

/-- A record of heat `h` of die `k` enters the alignment buffer by `f`: not of heat −1 (R34) or of a heat processed (R135);
one that finds no room is dropped and counted with its channel's drops (R45, R57). -/
def State.intake (s : State) (k : Nat) (h : DWord) (f : DieRec → DieRec) : State :=
  if h = BitVec.allOnes 64 ∨ h.toNat < s.inr.next then s
  else if s.inr.room k h then s.setInr (s.inr.upd k h f)
  else
    let l := s.link k
    let r := l.rx.getD 1 default
    s.setLink k { l with rx := l.rx.set 1 { r with drops := satInc r.drops } }

/-- The tray takes a CNT message of a die: off its queue, north as RAW, and into the alignment buffer. -/
def State.cntTaken (s : State) (k mtype : Nat) (msg : List Byte) (h : DWord) (f : DieRec → DieRec) : State :=
  ((s.take k 1 mtype).rawNorth k mtype msg).intake k h f

/-- Heat `h` is a heat that die `k` has reported (R134, R211). -/
def Intake.reported (r : Intake) (k : Nat) (h : DWord) : Intake :=
  let top := Tab.get 0 r.done (65 + k)
  { r with done := Tab.set 0 r.done (65 + k) (if top.toNat ≤ h.toNat then h + 1 else top) }

/-- HEAT_HDR (R274, R437): the header of a die's heat with its step marks. -/
def execHeatHdr (k : BitVec 6) (body : List Byte) (s : State) : Host.Outcome State Fault Refusal :=
  .next (
    if !s.isT || !s.running then s
    else
      let h : DWord := BitVec.ofNat 64 (leAt body 0 8)
      let fl := leAt body 0xE 1
      let s := s.setRed (s.red.count 10 (leAt body 0xF 1))
      let s := if h = BitVec.allOnes 64 then s else s.setInr (s.inr.reported k.toNat h)
      s.cntTaken k.toNat 0x40 body h fun x =>
        { x with hdr := true, sv := fl.testBit 0, poison := fl.testBit 1, fd := fl.testBit 2
                 nframe := BitVec.ofNat 16 (leAt body 0x10 2)
                 marks := (List.range (leAt body 0x12 1)).map fun i => (body.drop (0x18 + 16 * i)).take 16 })

/-- An OVR_MARK of producer `p` of die `k` stands in for DETREC: `p` is DET_PROD or UMP_PROD of the die's image (R437); where
the tray holds no image of the die, one with NREPL = 0 is taken for it (notes/assumptions/48). -/
def State.standIn (s : State) (k p nrepl : Nat) : Bool :=
  match s.cachedImage k with
  | some im => p == im.sec 8 0 4 % 1024 || p == im.sec 9 0 4 % 1024
  | none => nrepl == 0

/-- OVR_MARK (R41, R437): a marker stands for `nrepl` discarded frames; one of DET_PROD or UMP_PROD stands in for DETREC. -/
def execOvrMark (k : BitVec 6) (heat : DWord) (producer nrepl : BitVec 16) (s : State) : Host.Outcome State Fault Refusal :=
  .next (
    if !s.isT || !s.running then s
    else
      let l := Tab.get [] s.red.ovrs k.toNat
      let l := if l.any fun p => p.1 == heat then l.map fun p => if p.1 == heat then (p.1, p.2 + 1) else p else l ++ [(heat, 1)]
      let s := s.setRed { s.red with ovrs := Tab.set [] s.red.ovrs k.toNat l }
      let det := s.standIn k.toNat producer.toNat nrepl.toNat
      s.cntTaken k.toNat 0x42 (le 8 heat.toNat ++ le 2 producer.toNat ++ le 2 nrepl.toNat ++ le 4 0) heat fun x =>
        { x with got := x.got + nrepl.toNat, detOvr := x.detOvr || det })

/-- DETREC (R337, R437): the die's local verdict and alarm bits. -/
def execDetrec (k : BitVec 6) (body : List Byte) (s : State) : Host.Outcome State Fault Refusal :=
  .next (
    if !s.isT || !s.running then s
    else
      let h : DWord := BitVec.ofNat 64 (leAt body 0 8)
      s.cntTaken k.toNat 0x43 body h fun x =>
        { x with detrec := some (BitVec.ofNat 2 (leAt body 8 1), BitVec.ofNat 256 (leAt body 0x10 32)) })

/-- All three kinds of record of the heat have come (R437) and none makes the die late (R134, R211). -/
def DieRec.complete (x : DieRec) : Bool :=
  x.hdr && decide (x.nframe.toNat ≤ x.got) && (x.detrec.isSome || x.detOvr) && !x.late

/-- Die `k` enters or leaves CONFIG_MISMATCH (R86). -/
def State.mismatchChange (s : State) (k : Nat) : State :=
  let r := Tab.get default s.tray.reports k
  let bad := s.inService k && r.valid &&
    (r.digest != s.expDigest k || r.version != BitVec.ofNat 32 (s.img 0xD 0 4 0))
  if bad = s.tray.mismatch.getLsbD k then s
  else
    let s := { s with tray := { s.tray with mismatch := setBit s.tray.mismatch k bad } }
    let d := le 1 k ++ le 8 r.digest.toNat
    if bad then (s.stick 0 3).note 0x2006 d else s.note 0x2007 d

/-- Die `k` in the alignment slot for heat `h`: its liveness (R361), its part in the heat, its marks (R275). -/
def State.alignDie (s : State) (h : DWord) (k : Nat) : State :=
  let x := s.inr.rec? k h
  let fresh := decide ((Tab.get 0 s.inr.done (1 + k)).toNat ≤ h.toNat)
  let ok := fresh && (x.map DieRec.complete).getD false
  let run := if ok then 0 else Tab.get 0 s.inr.lateRun k + 1
  let up := (s.link k).tr.state == 4
  let live : BitVec 3 :=
    if !s.inService k then 0 else if !up then 4 else if ok then 1 else if run < s.silentH then 2 else 3
  let sv := ok && (x.map (·.sv)).getD false
  let used := ok && sv && s.member k
  let r := { s.inr with
    lateRun := Tab.set 0 s.inr.lateRun k (if s.inService k then run else 0), alive := setBit s.inr.alive k ok
    used := setBit s.inr.used k used, out := setBit s.inr.out k (s.leftOut k || (ok && !sv))
    detrec := Tab.set none s.inr.detrec k (if used then (x.bind (·.detrec)) else none) }
  let v : Verd := s.verd k
  let s := (s.setInr r).setVerd k { v with live := live }
  let s := if used then s
    else s.setRed { s.red with samples := s.red.samples.map fun y =>
      if y.die.toNat == k && y.heat == h then { y with removed := true } else y }
  if used then s.takeMarks k h ((x.map (·.marks)).getD []) else s

/-- The warden's shared-sensor frame of the heat goes to the other in-service dies of its package (R32). -/
def State.forwardShared (s : State) (h : DWord) (k : Nat) : State :=
  match s.inr.rec? k h with
  | some x =>
    if x.shared.isEmpty || !s.inr.used.getLsbD k then s
    else ((List.range 8).map fun i => 8 * (k / 8) + i).foldl (fun s j =>
      if j != k && s.inService j then s.send j 1 0x41 x.shared else s) s
  | none => s

/-- The STEP of R163 on Exfin-T: the highest step whose FINISH every in-service die that is not excluded has reported;
a change reseeds the generators (R269) and signals bindings of source 7. -/
def State.stepReported (s : State) : State :=
  let ms := (List.range 64).filter s.member
  match ms with
  | [] => s
  | k :: _ =>
    let c := ((Tab.get [] s.red.prevFin k).map fun p => p.1.toNat).filter fun n =>
      ms.all fun j => (s.red.finOf j (BitVec.ofNat 32 n)).isSome
    match c with
    | [] => s
    | n :: t =>
      let top := t.foldl max n
      if s.red.lastFinValid && decide (top ≤ s.red.lastFinStep.toNat) then s
      else
        ((s.setRed { s.red with lastFinStep := BitVec.ofNat 32 top, lastFinValid := true }).reseed
          (BitVec.ofNat 32 top)).bindEvent 7 0

/-- What the alignment slot does, in the order of its rules. -/
def State.align (s : State) : State :=
  let u := s.heat.heat
  let s := (List.range 64).foldl State.mismatchChange s
  let s := s.takeGroups.noteLeft
  let h := u - 2
  let s :=
    if u = BitVec.allOnes 64 ∨ u.toNat < 2 ∨ h.toNat < s.inr.next then s
    else
      let s := (List.range 64).foldl (fun s k => s.alignDie h k) s
      let s := (List.range 64).foldl (fun s k => s.forwardShared h k) s
      s.setInr { s.inr with
        done := Tab.set 0 s.inr.done 0 (h + 1), recs := s.inr.recs.filter fun x => decide (h.toNat < x.heat.toNat) }
  let s := s.stepReported
  let s := s.judgeSets
  let s := s.replayTimeouts.judgeReplays fun _ => true
  s.completeSteps

/-- ALIGNMENT_SLOT (R21): the records of heat u − 2 are processed die by die, then sets, replays and steps are judged. -/
def execAlignmentSlot (s : State) : Host.Outcome State Fault Refusal :=
  .next (if s.isT && s.running && s.user then s.oneCycle State.align else s)

end Sys2Proof.Machine
end

