-- ==== Sys2Proof/Machine/Codec.lean ====
section
/-! DEFINITION. The frames of the compression engine (R189 to R210): residues, symbols, code tables, the encoder's choice
of coding, and the decoder with its refusal reasons. -/

namespace Sys2Proof.Machine

/-- A symbol of Table 6-3 with its extra bits: symbol, value of the extra bits, number of extra bits. -/
structure Sym where
  sym : Nat
  extra : Nat
  ebits : Nat
deriving DecidableEq, Repr, Inhabited

/-- R196: the signed residue e mapped to z. -/
def zigzag (e : DWord) : DWord := (e <<< 1) ^^^ e.sshiftRight 63

/-- R210: z mapped back to e. -/
def unzig (z : DWord) : DWord := (z >>> 1) ^^^ (0 - (z &&& 1))

/-- The class of z and its symbol (R196, R197). -/
def symOf (z : Nat) : Sym := if z = 0 then ⟨0, 0, 0⟩ else ⟨Nat.log2 z + 1, z - 2 ^ Nat.log2 z, Nat.log2 z⟩

/-- The symbols of a maximal run of `n` zero items, n < 512 (R197). -/
def runSyms (n : Nat) : List Sym :=
  ([8, 7, 6, 5, 4, 3, 2, 1].filter n.testBit).map (fun k => ⟨64 + k, 0, 0⟩) ++ (if n.testBit 0 then [⟨0, 0, 0⟩] else [])

/-- The symbols of the items of a sample, `n` zeros being pending. -/
def sampleSyms : Nat → List Nat → List Sym
  | n, [] => runSyms n
  | n, z :: t => if z = 0 then sampleSyms (n + 1) t else runSyms n ++ symOf z :: sampleSyms 0 t

/-- One packet of a trace block as R198 writes it: TYPE raw, word 0, and word 1 of a BUOY. -/
inductive TraceBit where
  | raw (t : Nat)
  | sym (s : Sym)
deriving DecidableEq, Repr

/-- The residues of a trace block packet by packet (R195); `p0` holds the last word 0 of each TYPE, `p1` the last word 1
of a BUOY. -/
def traceBits (p0 : Tab DWord) (p1 : DWord) : List DWord → List TraceBit
  | [] => []
  | w :: t =>
    let ty := (w >>> 60).toNat
    let x := ((w ^^^ Tab.get 0 p0 ty).toNat) % 2 ^ 60
    let p0 := Tab.set 0 p0 ty w
    if ty = 1 then
      match t with
      | w1 :: t => .raw ty :: .sym (symOf x) :: .sym (symOf (w1 ^^^ p1).toNat) :: traceBits p0 w1 t
      | [] => [.raw ty, .sym (symOf x)]
    else .raw ty :: .sym (symOf x) :: traceBits p0 p1 t

/-- `n` bits of a value, least significant first. -/
def lsbBits (n v : Nat) : List Bool := (List.range n).map v.testBit

/-- A code of length `l`, most significant bit first. -/
def codeBits (l c : Nat) : List Bool := (lsbBits l c).reverse

/-- Canonical codes (R199): the codes of symbols `s..` of the lengths `ls`, given the next code of each length. -/
def assignCodes : List Nat → List Nat → List (Nat × Nat)
  | _, [] => []
  | next, l :: ls =>
    if l = 0 then (0, 0) :: assignCodes next ls
    else (l, next.getD l 0) :: assignCodes (next.set l (next.getD l 0 + 1)) ls

/-- The first code of each length 0..15. -/
def firstCodes (lens : List Nat) : List Nat :=
  ((List.range 15).foldl (fun (p : List Nat × Nat) i =>
      (p.1 ++ [p.2], (p.2 + (lens.filter (· == i + 1)).length) * 2)) ([0], 0)).1

/-- (length, code) of every symbol. -/
def codesOf (lens : List Nat) : List (Nat × Nat) := assignCodes (firstCodes lens) lens

/-- R199: the lengths form a complete code, or a single code of length 1. -/
def lensOk (lens : List Nat) : Bool :=
  let u := lens.filter (· != 0)
  lens.all (· ≤ 15) && (u == [1] || (u.map fun l => 2 ^ (15 - l)).sum == 2 ^ 15)

/-- The 37 bytes of a stored table (R200) and their reading. -/
def tableBytes (lens : List Nat) : List Byte :=
  (List.range 37).map fun j => BitVec.ofNat 8 (lens.getD (2 * j) 0 + 16 * lens.getD (2 * j + 1) 0)
def tableLens (b : List Byte) : List Nat :=
  (List.range 73).map fun i => let x := (b.getD (i / 2) 0).toNat; if i % 2 = 0 then x % 16 else x / 16

/-- A node of R201: weight, key, and the symbols under it. -/
abbrev HNode := Nat × Nat × List Nat

/-- Insert in ascending (weight, key). -/
def hInsert (x : HNode) : List HNode → List HNode
  | [] => [x]
  | y :: t => if x.1 < y.1 ∨ (x.1 = y.1 ∧ x.2.1 < y.2.1) then x :: y :: t else y :: hInsert x t

/-- Join the two least nodes until one remains; the depth of every symbol under a join grows by one. -/
def hJoin : Nat → Nat → List HNode → List Nat → List Nat
  | 0, _, _, lens => lens
  | f + 1, k, a :: b :: t, lens =>
    let ss := a.2.2 ++ b.2.2
    hJoin f (k + 1) (hInsert (a.1 + b.1, k, ss) t) (ss.foldl (fun (ls : List Nat) s => ls.set s (ls.getD s 0 + 1)) lens)
  | _ + 1, _, _, lens => lens

/-- The dynamic table of symbol counts (R201), halving the counts while a length exceeds 15. -/
def dynLens : Nat → List Nat → List Nat
  | 0, _ => List.replicate 73 0
  | f + 1, cnt =>
    let used := (List.range 73).filter fun s => cnt.getD s 0 != 0
    if used.length = 1 then (List.replicate 73 0).set (used.getD 0 0) 1
    else
      let nodes := used.foldl (fun l s => hInsert (cnt.getD s 0, s, [s]) l) []
      let lens := hJoin 80 73 nodes (List.replicate 73 0)
      if lens.all (· ≤ 15) then lens else dynLens f (cnt.map fun n => (n + 1) / 2)

/-- Counts of the symbols used. -/
def symCounts (l : List Sym) : List Nat := (List.range 73).map fun s => (l.filter fun x => x.sym == s).length

/-- The dynamic table of a frame's own symbols. -/
def dynTable (l : List Sym) : List Nat := dynLens 64 (symCounts l)

/-- Every symbol has a code. -/
def covers (lens : List Nat) (l : List Sym) : Bool := l.all fun x => lens.getD x.sym 0 != 0

/-- The bits of one symbol. -/
def symBits (codes : List (Nat × Nat)) (x : Sym) : List Bool :=
  let c := codes.getD x.sym (0, 0)
  codeBits c.1 c.2 ++ lsbBits x.ebits x.extra

/-- Bits packed into bytes from bit 0 (R198). -/
def packBits : Nat → List Bool → List Byte
  | 0, _ => []
  | n + 1, l =>
    if l.isEmpty then []
    else BitVec.ofNat 8 ((l.take 8).zipIdx.foldl (fun a (p : Bool × Nat) => if p.1 then a + 2 ^ p.2 else a) 0) ::
      packBits n (l.drop 8)

/-- The bytes of a bit list. -/
def bitBytes (l : List Bool) : List Byte := packBits ((l.length + 7) / 8) l

/-- The bits of a byte list. -/
def byteBits (l : List Byte) : List Bool := l.flatMap fun b => lsbBits 8 b.toNat

/-- The bitstream of a sample's symbols. -/
def sampleStream (lens : List Nat) (l : List Sym) : List Byte :=
  let c := codesOf lens
  bitBytes (l.flatMap (symBits c))

/-- The bitstream of a trace block. -/
def traceStream (lens : List Nat) (l : List TraceBit) : List Byte :=
  let c := codesOf lens
  bitBytes (l.flatMap fun x => match x with
    | .raw t => lsbBits 4 t
    | .sym s => symBits c s)

/-- The symbols of a trace block. -/
def traceSyms (l : List TraceBit) : List Sym :=
  l.filterMap fun x => match x with
    | .raw _ => none
    | .sym s => some s

/-- The header fields of a frame (Table 6-2) but PLEN and CRC. -/
structure FrameHdr where
  kind : Nat
  flags : Nat
  table : Nat
  rdiv : Nat
  fsid : BitVec 48
  span : Nat
  nitem : Nat
  tag : DWord
  ref : Word
deriving DecidableEq, Repr, Inhabited

/-- A frame (R190): header, payload, padding, CRC. -/
def frameBytes (h : FrameHdr) (payload : List Byte) : List Byte :=
  let pre := le 1 h.kind ++ le 1 h.flags ++ le 1 h.table ++ le 1 h.rdiv ++ le 6 h.fsid.toNat ++ le 2 h.span ++
    le 2 h.nitem ++ le 2 payload.length ++ le 8 h.tag.toNat ++ le 4 h.ref.toNat
  let post := payload ++ List.replicate ((8 - payload.length % 8) % 8) 0
  pre ++ le 4 (crc32c (pre ++ [0, 0, 0, 0] ++ post)).toNat ++ post

/-- The encoder's parameters: EFFORT, the static table of the kind where one is assigned, and its index. -/
structure EncCfg where
  effort : Nat
  static : Option (Nat × List Nat)
deriving DecidableEq, Repr

/-- A candidate coding: CODING, TABLE, payload, KEY, STAT_PRESENT. -/
structure Cand where
  coding : Nat
  table : Nat
  payload : List Byte
  key : Bool
  stat : Bool
deriving DecidableEq, Repr, Inhabited

/-- The candidate of least PLEN, the lowest CODING on a tie; candidates come in ascending CODING (R202). -/
def bestCand : List Cand → Option Cand
  | [] => none
  | c :: t =>
    match bestCand t with
    | none => some c
    | some d => if c.payload.length ≤ d.payload.length then some c else some d

/-- The residues of a sample against its reference (R193, R194): `pmode u` for a CSAMP, 32-bit words otherwise. -/
def residues (kind : Nat) (pmode : Nat → Nat) (v r : List DWord) : List DWord :=
  let d := (List.range v.length).map fun u => v.getD u 0 - r.getD u 0
  (List.range v.length).map fun u =>
    if kind = 1 then
      if pmode u = 0 then d.getD u 0
      else if pmode u = 1 then d.getD u 0 - (if u = 0 then 0 else d.getD (u - 1) 0)
      else v.getD u 0
    else ((d.getD u 0).setWidth 32).signExtend 64

/-- A sample frame (R202, R203, R206): values `v`, status bytes `st` (CSAMP), reference (items, status, TAG) used unless
`key` is due. -/
def encodeSample (cfg : EncCfg) (h : FrameHdr) (poison : Bool) (pmode : Nat → Nat) (v : List DWord) (st : List Byte)
    (ref : List DWord × List Byte × DWord) (key : Bool) : List Byte × Bool :=
  let r := if key then [] else ref.1
  let sr := if key then [] else ref.2.1
  let delta := (List.range st.length).map fun u => st.getD u 0 ^^^ sr.getD u 0
  let hasSt := delta.any (· != 0)
  let sd := if hasSt then delta else []
  let syms := sampleSyms 0 ((residues h.kind pmode v r).map fun e => (zigzag e).toNat)
  let stored : Cand := ⟨0, 0, st ++ v.flatMap fun x => le (if h.kind = 1 then 8 else 4) x.toNat, true, h.kind == 1⟩
  let stat := match cfg.static with
    | some (j, lens) => if 1 ≤ cfg.effort ∧ covers lens syms then [(⟨1, j, sd ++ sampleStream lens syms, key, hasSt⟩ : Cand)] else []
    | none => []
  let dyn := if cfg.effort = 2 then
      let lens := dynTable syms
      [(⟨2, 0, tableBytes lens ++ sd ++ sampleStream lens syms, key, hasSt⟩ : Cand)] else []
  let c := (bestCand (stored :: stat ++ dyn)).getD stored
  let flags := (bit c.key 1).toNat + 2 * (bit poison 1).toNat + 4 * (bit c.stat 1).toNat + 16 * c.coding
  (frameBytes { h with flags := flags, table := c.table, ref := if c.key then 0 else ref.2.2.setWidth 32 } c.payload, c.key)

/-- A held cluster sample (R112, R203). -/
def encodeHeld (h : FrameHdr) (poison : Bool) : List Byte :=
  frameBytes { h with flags := 2 * (bit poison 1).toNat, span := 0, nitem := 0, ref := 0 } []

/-- How the encoding of a trace block ends (R202, R204, R205). -/
inductive TraceFrame where
  | frame (b : List Byte)
  | oversize (plen : Nat)
  | noCode (sym : Nat)
deriving DecidableEq, Repr

/-- A TRACE frame of a block's 512 words. -/
def encodeTrace (cfg : EncCfg) (h : FrameHdr) (poison : Bool) (words : List DWord) : TraceFrame :=
  let tb := traceBits [] 0 words
  let syms := traceSyms tb
  let stat := match cfg.static with
    | some (j, lens) => if covers lens syms then [(⟨1, j, traceStream lens tb, false, false⟩ : Cand)] else []
    | none => []
  let dyn := if cfg.effort = 2 then
      let lens := dynTable syms
      [(⟨2, 0, tableBytes lens ++ traceStream lens tb, false, false⟩ : Cand)] else []
  match bestCand (stat ++ dyn) with
  | none =>
    let lens := (cfg.static.map (·.2)).getD []
    .noCode (((syms.filter fun x => lens.getD x.sym 0 == 0).map (·.sym)).getD 0 0)
  | some c =>
    if 4064 < c.payload.length then .oversize c.payload.length
    else .frame (frameBytes { h with flags := 2 * (bit poison 1).toNat + 16 * c.coding, table := c.table } c.payload)

/-- Read one symbol's code: the bits so far as a number and their count. -/
def readCode (codes : List (Nat × Nat)) : Nat → Nat → Nat → List Bool → Option (Nat × List Bool)
  | 0, _, _, _ => none
  | _, _, _, [] => none
  | f + 1, l, c, b :: t =>
    let c := 2 * c + (if b then 1 else 0)
    match codes.findIdx? (· == (l + 1, c)) with
    | some s => some (s, t)
    | none => readCode codes f (l + 1) c t

/-- The number that bits spell, least significant first. -/
def bitsNum : List Bool → Nat
  | [] => 0
  | b :: t => (if b then 1 else 0) + 2 * bitsNum t

/-- The `need` items of a sample's bitstream, or none (reason 4 of R209). -/
def readItems (codes : List (Nat × Nat)) : Nat → Nat → List Bool → Option (List DWord)
  | 0, need, l => if need = 0 ∧ l.all (! ·) then some [] else none
  | f + 1, need, l =>
    if need = 0 then (if l.all (! ·) then some [] else none)
    else
      match readCode codes 15 0 0 l with
      | none => none
      | some (s, t) =>
        if 65 ≤ s then
          let n := 2 ^ (s - 64)
          if n ≤ need then (readItems codes f (need - n) t).map (List.replicate n 0 ++ ·) else none
        else if s ≤ 1 then (readItems codes f (need - 1) t).map (BitVec.ofNat 64 s :: ·)
        else if t.length < s - 1 then none
        else
          (readItems codes f (need - 1) (t.drop (s - 1))).map (BitVec.ofNat 64 (2 ^ (s - 1) + bitsNum (t.take (s - 1))) :: ·)

/-- A decoded sample frame. -/
structure Decoded where
  hdr : FrameHdr
  key : Bool
  items : List DWord
  stat : List Byte
deriving DecidableEq, Repr, Inhabited

/-- Undo the prediction of a CSAMP unit by unit (R210); `dp` is the delta of the unit before. -/
def undoCsamp (pmode : Nat → Nat) (r : List DWord) : Nat → DWord → List DWord → List DWord
  | _, _, [] => []
  | u, dp, e :: t =>
    if pmode u = 2 then e :: undoCsamp pmode r (u + 1) (e - r.getD u 0) t
    else
      let d := if pmode u = 1 then e + dp else e
      (r.getD u 0 + d) :: undoCsamp pmode r (u + 1) d t

/-- The header of a frame. -/
def readHdr (b : List Byte) : FrameHdr :=
  { kind := leAt b 0 1, flags := leAt b 1 1, table := leAt b 2 1, rdiv := leAt b 3 1, fsid := BitVec.ofNat 48 (leAt b 4 6),
    span := leAt b 0xA 2, nitem := leAt b 0xC 2, tag := BitVec.ofNat 64 (leAt b 0x10 8), ref := BitVec.ofNat 32 (leAt b 0x18 4) }

/-- Items of a kind (Table 6-1). -/
def kindItems (kind : Nat) : Nat := if kind = 1 then 64 else if kind = 2 then 96 else if kind = 3 then 8 else 512

/-- A sample frame's header keeps to Table 6-2 (case 2 of R209): what the table gives as "otherwise 0" is 0, and NITEM is 0
for a held sample alone, which by R203 has no payload, coding or key. -/
def hdrOk (h : FrameHdr) (plen : Nat) (statics : List (List Nat)) : Bool :=
  let key := h.flags.testBit 0
  let coding := bits h.flags 5 4
  let held := h.kind == 1 && h.span == 0
  1 ≤ h.kind && h.kind ≤ 3 && coding ≠ 3 && bits h.flags 7 6 == 0 && !h.flags.testBit 3 &&
  (h.kind == 1 || !h.flags.testBit 2) && (if coding = 1 then decide (h.table < statics.length) else h.table == 0) &&
  (if h.kind = 1 then decide (h.rdiv < 8) else h.rdiv == 0 && h.span == 0) &&
  (if held then h.nitem == 0 && plen == 0 && coding == 0 && !key && h.ref == 0 else h.nitem == kindItems h.kind) &&
  (!key || h.ref == 0)

/-- The reference values and status a frame predicts from: zeros for a key frame, the source's reference where its TAG is the
frame's REF, none otherwise (case 5 of R209). -/
def useRef (ref : FrameHdr → Option (List DWord × List Byte × DWord)) (h : FrameHdr) : Option (List DWord × List Byte) :=
  if h.flags.testBit 0 then some ([], [])
  else
    match ref h with
    | some (r, sr, tag) => if tag.setWidth 32 = h.ref then some (r, sr) else none
    | none => none

/-- Decode a sample frame (R209, R210), given the static tables, the predictor modes and the reference of the source that
a FSID and a KIND name. -/
def decodeSample (statics : List (List Nat)) (pmode : Nat → Nat) (ref : FrameHdr → Option (List DWord × List Byte × DWord))
    (b : List Byte) : Except Nat Decoded :=
  let h := readHdr b
  let plen := leAt b 0xE 2
  if b.length < 32 ∨ b.length ≠ 32 + (plen + 7) / 8 * 8 then .error 2
  else if (crc32c (b.take 0x1C ++ [0, 0, 0, 0] ++ b.drop 0x20)).toNat ≠ leAt b 0x1C 4 then .error 1
  else if !hdrOk h plen statics then .error 2
  else
    let key := h.flags.testBit 0
    let coding := bits h.flags 5 4
    let p := (b.drop 32).take plen
    if h.nitem = 0 then .ok ⟨h, false, [], []⟩
    else if coding = 0 then
      let st := if h.kind = 1 then p.take 64 else []
      let w := if h.kind = 1 then 8 else 4
      let q := p.drop st.length
      if q.length ≠ w * h.nitem ∨ (h.kind = 1 ∧ st.length ≠ 64) then .error 4
      else
        match useRef ref h with
        | none => .error 5
        | some _ => .ok ⟨h, key, (List.range h.nitem).map fun i => BitVec.ofNat 64 (leAt q (w * i) w), st⟩
    else
      let lens := if coding = 1 then statics.getD h.table [] else tableLens p
      let p := if coding = 2 then p.drop 37 else p
      let hasSt := h.flags.testBit 2
      let delta := if hasSt then p.take 64 else []
      let q := if hasSt then p.drop 64 else p
      if !lensOk lens then .error 3
      else
        match readItems (codesOf lens) (h.nitem + 1) h.nitem (byteBits q) with
        | none => .error 4
        | some zs =>
          let e := zs.map unzig
          match useRef ref h with
          | none => .error 5
          | some (r, sr) =>
            let v := if h.kind = 1 then undoCsamp pmode r 0 0 e
              else (List.range e.length).map fun i => ((r.getD i 0 + e.getD i 0).setWidth 32).setWidth 64
            let st := if h.kind = 1 then (List.range 64).map fun u => sr.getD u 0 ^^^ delta.getD u 0 else []
            .ok ⟨h, key, v, st⟩

end Sys2Proof.Machine
end

