-- ==== Sys2Proof/Machine/Probes.lean ====
section
/-! DEFINITION. Probes, counter pre-stages, live counters, the freeze of the snapshot banks and host holds (R97 to R122). -/

namespace Sys2Proof.Machine

/-- Change the probe and counter unit. -/
def State.setPrb (s : State) (p : Probes) : State := { s with prb := p }

/-- The enabled clusters of the image in force. -/
def State.clusters (s : State) : List Nat := if s.isD && s.user then (List.range 64).filter s.cluEn else []

/-- Is region `r`'s crossing disabled (CNT_REG_DIS)? Domain r is REG_CLK[r] (Table 16-4). -/
def State.regionDis (s : State) (r : Nat) : Bool := s.integ.xingStop.getLsbD r

/-- The freeze reset value of a live counter (R102). -/
def State.liveInit (s : State) (n : Nat) : DWord := if s.cntMode n = 3 then 0x0000FFFF00000000 else 0

/-- A MINMAX word joined with another one (R102, R104). -/
def minmaxJoin (v d : Nat) : DWord :=
  if d % 2 ^ 32 = 0 then BitVec.ofNat 64 v
  else
    BitVec.ofNat 64 (fieldAt (max (bits v 63 48) (bits d 63 48)) 48 16 + fieldAt (min (bits v 47 32) (bits d 47 32)) 32 16 +
      min (2 ^ 32 - 1) (v % 2 ^ 32 + d % 2 ^ 32))

/-- The contribution of one region cycle (Table 3-3): `p` the probe levels, `q` those of the cycle before. -/
def State.contribution (s : State) (n : Nat) (p q : BitVec 512) : Nat :=
  let e := s.cntProg n
  let u := s.unitProbe n
  let i := u % 512
  let x := (p >>> i).toNat % 2 ^ 16
  let qual := !e.testBit 5 || p.getLsbD (bits u 29 16 % 512)
  match e % 8 with
  | 1 => if e.testBit 3 then (bit (p.getLsbD i && !q.getLsbD i) 1).toNat else (bit (p.getLsbD i) 1).toNat
  | 2 => if qual then x else 0
  | 3 => if qual then fieldAt x 48 16 + fieldAt x 32 16 + 1 else 0
  | 4 => if qual && decide (bits e 47 32 < x) then 1 else 0
  | _ => 0

/-- The probe that STUCK looks at changed between two cycles (R105). -/
def State.probeChanged (s : State) (n : Nat) (p q : BitVec 512) : Bool :=
  let e := s.cntProg n
  let u := s.unitProbe n
  let d := p ^^^ q
  if e % 8 = 1 then d.getLsbD (u % 512)
  else (d >>> (u % 512)).toNat % 2 ^ 16 != 0 || (e.testBit 5 && d.getLsbD (bits u 29 16 % 512))

/-- One counter in a region cycle: its pre-stage accumulates (R107), its fast event goes up at the first rising edge of the
heat (R100), and its probe's changes are noted. -/
def State.sampleUnit (s : State) (p q : BitVec 512) (first : Bool) (n : Nat) : State :=
  let mode := s.cntMode n
  if mode = 0 then s
  else
    let c := s.contribution n p q
    let i := s.unitProbe n % 512
    let rise := mode == 1 && p.getLsbD i && !q.getLsbD i
    let b := s.prb
    let old := Tab.get 0 b.delta n
    let d := if mode = 3 then minmaxJoin (if old = 0 then 0x0000FFFF00000000 else old).toNat c else old + BitVec.ofNat 64 c
    let b := { b with
      delta := if c = 0 then b.delta else Tab.set 0 b.delta n d
      deltaRises := if rise then Tab.upd 0 b.deltaRises n satInc else b.deltaRises
      changed := if s.probeChanged n p q then Tab.set 0 b.changed n (if first then 1 else 2) else b.changed }
    let fast := rise && (s.unitProbe n).testBit 15 && s.heat.begun && !s.heat.inGap && !Tab.get false b.fastSent n
    if fast then
      (s.setPrb { b with fastSent := Tab.set false b.fastSent n true }).insert 0 0x10
        (le 2 n ++ List.replicate 6 0 ++ le 8 s.tb.stroke.toNat ++ le 8 s.heat.heat.toNat)
    else s.setPrb b

/-- TAP[t] of TRACE_PROG (Table 5-6), and its kind. -/
def State.tapEntry (s : State) (t : Nat) : Nat := s.img 6 (0x40 + 4 * t) 4 0
def State.tapKind (s : State) (t : Nat) : Nat := bits (s.tapEntry t) 15 14

/-- The region of tap `t`, and its input there (R158): its probe's on Exfin-D, those of its AGG_TAP domain on Exfin-T. -/
def State.tapRegion (s : State) (t : Nat) : Nat := if s.isD then s.tapEntry t % 2 ^ 14 / 512 else t / 64
def State.tapInput (s : State) (t : Nat) : Nat := if s.isD then s.tapEntry t % 512 else t % 64

/-- What the pre-stage has merged goes into the crossing slot when that is free (R160). -/
def TapStage.launch (x : TapStage) : TapStage :=
  if x.slot.isNone && x.edges != 0 then { x with edges := 0, slot := some (x.level, x.edges) } else x

/-- One tap in a region cycle (Table 5-1, R160): its pre-stage merges the edge or lane change of the cycle. -/
def State.sampleTap (s : State) (p q : BitVec 512) (t : Nat) : State :=
  let k := s.tapKind t
  let level (x : BitVec 512) : BitVec 16 := let v := (x >>> s.tapInput t).setWidth 16; if k = 3 then v else v &&& 1
  if level p = level q then s
  else
    let x := Tab.get default s.trc.taps t
    let edge := k != 1 || level p == 1
    let y : TapStage := { x with level := level p, edges := if edge then satInc x.edges else x.edges }
    { s with trc := { s.trc with taps := Tab.set default s.trc.taps t y.launch } }

/-- The taps of region `r` that sample (R158). -/
def State.regionTaps (s : State) (r : Nat) : List Nat :=
  if s.user then (List.range 512).filter fun t => s.tapKind t != 0 && s.tapRegion t == r else []

/-- Domain index of region `r` in Table 1-6 and Table 1-7: REG_CLK[r], or AGG_TAP[r]. -/
def State.regionDom (s : State) (r : Nat) : Nat := if s.isD then r else 32 + r

/-- PROBE_SAMPLE (R97, R102, R107, R158): one cycle of region `r` with its 512 probe levels, or of AGG_TAP[r] with its 64
event inputs. A dormant region or one whose crossing is disabled contributes nothing (R52, R107, R184). -/
def execProbeSample (r : BitVec 5) (probes : BitVec 512) (s : State) : Host.Outcome State Fault Refusal :=
  .next (
    if !s.running || (s.isT && decide (8 ≤ r.toNat)) then s
    else
      let q := Tab.get (0 : BitVec 512) s.prb.prev r.toNat
      let first := !s.prb.sampled.getLsbD r.toNat
      let t := if s.heat.dormant.getLsbD r.toNat || s.integ.xingStop.getLsbD (s.regionDom r.toNat) then s
        else
          let ns := (s.clusters.filter fun c => s.cluRegion c == r.toNat).flatMap fun c =>
            (List.range 64).map fun u => 64 * c + u
          let t := ns.foldl (fun s n => s.sampleUnit probes q first n) s
          (t.regionTaps r.toNat).foldl (fun s n => s.sampleTap probes q n) t
      t.setPrb { t.prb with prev := Tab.set 0 t.prb.prev r.toNat probes, sampled := setBit t.prb.sampled r.toNat true })

/-- The pre-stage's delta of counter `k` is applied to the live counter (R103, R104, R107). -/
def State.transferUnit (s : State) (k : Nat) : State :=
  let b := s.prb
  let d := Tab.get 0 b.delta k
  let v := Tab.get 0 b.live k
  let mode := s.cntMode k
  let sat := (s.cntProg k).testBit 4
  let carry := decide (2 ^ 64 ≤ v.toNat + d.toNat)
  let v' := if mode = 3 then minmaxJoin v.toNat d.toNat else if sat && carry then BitVec.allOnes 64 else v + d
  s.setPrb { b with
    live := Tab.set 0 b.live k v', delta := Tab.set 0 b.delta k 0, deltaRises := Tab.set 0 b.deltaRises k 0
    rises := Tab.set 0 b.rises k (satAdd (Tab.get 0 b.rises k) (Tab.get 0 b.deltaRises k).toNat)
    carried := if carry && mode != 3 && !sat then Tab.set false b.carried k true else b.carried }

/-- COUNTER_TRANSFER (R107, R103, R104): the pre-stage's delta is applied to the live counter. -/
def execCounterTransfer (n : BitVec 12) (s : State) : Host.Outcome State Fault Refusal :=
  .next (if !s.isD || !s.running || s.regionDis (s.cluRegion (n.toNat / 64)) then s else s.transferUnit n.toNat)

/-- Every transfer of region `r`'s counters that is pending completes (R53). -/
def State.transferRegion (s : State) (r : Nat) : State :=
  let ks := ((s.prb.delta.map (·.1)) ++ s.prb.deltaRises.map (·.1)).dedup
  (ks.filter fun k => s.cluRegion (k / 64) == r).foldl State.transferUnit s

/-- The end of a heat for counter `n`: STUCK and CHATTER (R105). -/
def State.heatEndUnit (s : State) (b : Probes) (n : Nat) : Probes :=
  let e := s.cntProg n
  let ch := Tab.get (0 : BitVec 2) b.changed n
  let run := if ch = 2 then 0 else if ch = 1 then 1 else satInc (Tab.get (0 : Byte) b.stuck n)
  let maxR := bits e 31 16
  { b with
      stuck := if bits e 15 8 = 0 then b.stuck else Tab.set 0 b.stuck n run
      chatter := if maxR ≠ 0 ∧ maxR < (Tab.get 0 b.rises n).toNat then Tab.set false b.chatter n true else b.chatter }

/-- The status byte of counter `n` at a freeze of cluster `c` (Table 3-4). -/
def State.statusOf (s : State) (c n : Nat) (held : Bool) : Byte :=
  let b := s.prb
  let e := s.cntProg n
  let v := Tab.get 0 b.live n
  let common := 8 * (bit (b.cluDorm.getLsbD c) 1).toNat + 16 * (bit (b.cluPois.getLsbD c || Tab.get false b.cntPois n || s.recPoison) 1).toNat +
    32 * (bit held 1).toNat
  if e % 8 = 0 then BitVec.ofNat 8 (common + 64)
  else
    let ovf := if e % 8 = 3 then v.setWidth 32 == BitVec.allOnes 32
      else if e.testBit 4 then v == BitVec.allOnes 64 else Tab.get false b.carried n
    let st := bits e 15 8 != 0 && decide (bits e 15 8 ≤ (Tab.get (0 : Byte) b.stuck n).toNat)
    BitVec.ofNat 8 (common + (bit ovf 1).toNat + 2 * (bit st 1).toNat + 4 * (bit (Tab.get false b.chatter n) 1).toNat)

/-- One counter's part in a freeze (R109). -/
def State.freezeUnit (s : State) (c : Nat) (held : Bool) (b : Probes) (n : Nat) : Probes :=
  let v := if s.cntMode n = 0 then 0 else Tab.get 0 b.live n
  { b with
      snap := Tab.set 0 b.snap n v, stat := Tab.set 0 b.stat n (s.statusOf c n held)
      live := if s.cntMode n = 3 then Tab.set 0 b.live n (s.liveInit n) else b.live
      carried := Tab.set false b.carried n false, chatter := Tab.set false b.chatter n false
      cntPois := Tab.set false b.cntPois n false, snapBad := Tab.set false b.snapBad n false }

/-- The freeze of cluster `c` at the boundary that ends heat `last` (R109, R112): `held` where it ends a host hold. The
sample is kept for the detectors (R306). -/
def State.freezeCluster (s : State) (last : DWord) (held : Bool) (c : Nat) : State :=
  let r := s.cluRegion c
  let b := ((List.range 64).map fun u => 64 * c + u).foldl (s.freezeUnit c held) s.prb
  let span : BitVec 16 := (Tab.get 0 b.covered c).setWidth 16
  let b := { b with
    snapHeat := Tab.set 0 b.snapHeat c last, snapSpan := Tab.set 0 b.snapSpan c span, covered := Tab.set 0 b.covered c 0
    due := setBit b.due c true, heldDue := setBit b.heldDue c false
    cluDorm := setBit b.cluDorm c (s.heat.dormant.getLsbD r), cluPois := setBit b.cluPois c (s.regionDis r) }
  let smp : KeptSample :=
    { die := 0, clu := BitVec.ofNat 7 c, heat := last, span := span, items := Tab.slice 0 b.snap (64 * c) 64,
      stat := Tab.slice 0 b.stat (64 * c) 64, removed := false }
  let mine := (s.red.samples.filter fun x => x.clu.toNat == c).reverse.take 1 |>.reverse
  { s with prb := b
           red := { s.red with samples := (s.red.samples.filter fun x => x.clu.toNat != c) ++ mine ++ [smp] } }

/-- Cluster `c` is due at the boundary that begins heat `u` (R109). -/
def State.cluDue (s : State) (u : DWord) (c : Nat) : Bool := u.toNat % s.dEff c == 0

/-- Boundary that begins heat `u` and ends heat `last`: heats end for every counter, due clusters freeze in one cycle
(R109, R110), held clusters are skipped (R118). -/
def boundaryCounters (last u : DWord) (s : State) : State :=
  let cs := s.clusters
  let b := cs.foldl (fun b c =>
    let b := ((List.range 64).map fun i => 64 * c + i).foldl s.heatEndUnit b
    { b with covered := Tab.upd 0 b.covered c (· + 1) }) s.prb
  let s := s.setPrb { b with changed := [], rises := [], fastSent := [], sampled := 0, due := 0, heldDue := 0 }
  let dueCs := cs.filter (s.cluDue u)
  dueCs.foldl (fun s c =>
    if s.prb.held && s.creg.snapMask.getLsbD c then s.setPrb { s.prb with heldDue := setBit s.prb.heldDue c true }
    else s.freezeCluster last false c) s

/-- The clusters of a mask. -/
def maskList (m : DWord) : List Nat := (List.range 64).filter m.getLsbD

/-- HOLD_BEGIN (R116, R117): at a boundary due for every masked cluster the pending hold begins. -/
def execHoldBegin (s : State) : Host.Outcome State Fault Refusal :=
  .next (
    let m := s.creg.pendMask
    if s.isD && s.prb.pending && decide (m ≠ 0) && (maskList m).all s.prb.due.getLsbD then
      { s with
          prb := { s.prb with pending := false, held := true, taken := true, hold := s.creg.pendHold }
          creg := { s.creg with snapHeat := s.heat.heat - 1, snapMask := m, released := false } }
    else s)

/-- HOLD_END (R118): at the first due boundary after the release or the expiry the masked clusters freeze normally, with
HELD in every status byte. -/
def execHoldEnd (s : State) : Host.Outcome State Fault Refusal :=
  .next (
    let m := s.creg.snapMask
    let last := s.heat.heat - 1
    let over_ := decide (s.creg.snapHeat.toNat + s.prb.hold.toNat ≤ last.toNat)
    if s.isD && s.prb.held && (maskList m).all s.prb.heldDue.getLsbD && (s.creg.released || over_) then
      let t := (maskList m).foldl (fun s c => s.freezeCluster last true c) s
      t.setPrb { t.prb with held := false, expired := t.prb.expired || (over_ && !s.creg.released) }
    else s)

/-- SNAPSHOT (R116, R119). -/
def cmdSnapshot (p : Post) (s : State) : Option State :=
  let m : DWord := p.a1 ++ p.a0
  let h := p.a2.toNat % 4096
  if s.prb.pending || s.prb.held || !s.user || s.isT || m == 0 || (maskList m).any fun c => !s.cluEn c then none
  else some { s with
    prb := { s.prb with pending := true }
    creg := { s.creg with pendMask := m, pendHold := BitVec.ofNat 13 (if h = 0 then 4096 else h) } }

/-- SNAP_RELEASE (R118, R119). -/
def cmdSnapRelease (_ : Post) (s : State) : Option State :=
  if s.prb.pending then some (s.setPrb { s.prb with pending := false })
  else if s.prb.held then some { s with creg := { s.creg with released := true } }
  else none

/-- Image activation: counters and banks clear, MINMAX counters take their reset value, a hold ends with LOST
(R79, R120). The image in force is the new one. -/
def activateProbes (s : State) : State :=
  let b := s.prb
  let ns := s.clusters.flatMap fun c => (List.range 64).map fun u => 64 * c + u
  let live := (ns.filter fun n => s.cntMode n == 3).foldl (fun t n => Tab.set 0 t n (s.liveInit n)) []
  { s with
      prb := { (default : Probes) with
        prev := b.prev, live := live, hold := b.hold, perr := b.perr, expired := b.expired, taken := b.taken
        lost := b.lost || b.pending || b.held
        cluDorm := (List.range 64).foldl (fun (m : BitVec 64) c => setBit m c (s.heat.dormant.getLsbD (s.cluRegion c))) 0
        cluPois := (List.range 64).foldl (fun (m : BitVec 64) c => setBit m c (s.regionDis (s.cluRegion c))) 0 }
      creg := { s.creg with released := false } }

/-- CNT_LIVE_SEL. -/
def State.liveSel (s : State) : Nat := s.rwd 0x10020 0 % 4096

/-- The live counter that a read shows; OFF reads 0 (R102). -/
def State.liveShown (s : State) (n : Nat) : DWord := if s.cntMode n = 0 then 0 else Tab.get 0 s.prb.live n

/-- CNT_LIVE_READ (R115): the low word is returned and the high word latched. -/
def execCntLiveRead (a : Acc) (s : State) : Host.Outcome State Fault Refusal :=
  let v := if s.isD then s.liveShown s.liveSel else 0
  .next (s.readBy a 0x10028 (v.setWidth 32) fun s =>
    if s.isD then { s with creg := { s.creg with liveHi := (v >>> 32).setWidth 32 } } else s)

/-- SNAPSHOT_BANK_READ (R113, R114, R515): a read of a low word loads the high-word latch, one of a high word returns the latch
where it holds the counter. `w` is the word of the bank, two to a counter; the read of the bank itself meets a parity error where
the word holds one, or one arises (`perr`). -/
def execSnapshotBankRead (a : Acc) (w : BitVec 13) (perr : Bool) (s : State) : Host.Outcome State Fault Refusal :=
  let n : BitVec 12 := (w >>> 1).setWidth 12
  let hi := w.getLsbD 0
  let v := if s.isD then Tab.get (0 : DWord) s.prb.snap n.toNat else 0
  let latched := hi && s.creg.latchN == some n
  let shown : Word := if hi then (if latched then s.creg.latch else (v >>> 32).setWidth 32) else v.setWidth 32
  let perr := perr || Tab.get false s.prb.snapBad n.toNat
  .next (s.readBy a (0x18000 + 4 * w.toNat) (if s.isD then shown else 0) fun s =>
    if s.isD then
      let t : State := { s with
        creg := if hi then s.creg else { s.creg with latchN := some n, latch := (v >>> 32).setWidth 32 }
        prb := { s.prb with perr := s.prb.perr || (perr && !latched) } }
      if perr && !latched then t.memErr 2 true n.toNat else t
    else s)

/-- CNT_SNAP (R117 to R120). -/
def State.cntSnapWord (s : State) : Word :=
  let b := s.prb
  if s.isT then 0
  else BitVec.ofNat 32 (fieldAt b.hold.toNat 16 13 + 32 * (bit b.perr 1).toNat + 16 * (bit b.lost 1).toNat +
    8 * (bit b.expired 1).toNat + 4 * (bit b.held 1).toNat + 2 * (bit b.pending 1).toNat + (bit b.taken 1).toNat)

/-- CNT_SNAP_READ (R117): TAKEN reads clear. -/
def execCntSnapRead (a : Acc) (s : State) : Host.Outcome State Fault Refusal :=
  .next (s.readBy a 0x10000 s.cntSnapWord fun s => s.setPrb { s.prb with taken := false })

end Sys2Proof.Machine
end

