-- ==== Sys2Proof/Machine/Compress.lean ====
section
/-! DEFINITION. The compression engine at work (R189 to R213): the samples and trace blocks it encodes, the frames it
decodes, key frames, and the ratio windows. -/

namespace Sys2Proof.Machine

/-- Change the compression engine. -/
def State.setCmp (s : State) (c : Comp) : State := { s with cmp := c }

/-- The encoder's parameters for a kind (R202, R212). -/
def State.encCfg (s : State) (kind : Nat) : EncCfg :=
  let j := s.tblOf kind
  { effort := s.cmpf 0 1, static := if j < s.nStatic then some (j, tableLens (s.staticBytes j)) else none }

/-- RATIO_MIN and RATIO_WIN (Table 6-7). -/
def State.ratioMin (s : State) : Nat := s.cmpf 4 2
def State.ratioWin (s : State) : Nat := max 1 (s.cmpf 6 2)

/-- A frame of `kind` was emitted: bytes in and out count, and a full window is put up for its test (R213). -/
def State.emitted (s : State) (kind bin bout : Nat) : State :=
  let c := s.cmp
  let fr := Tab.get 0 c.winFrames kind + 1
  let wi := Tab.get 0 c.winIn kind + BitVec.ofNat 64 bin
  let wo := Tab.get 0 c.winOut kind + BitVec.ofNat 64 bout
  let c := { c with inBytes := Tab.upd 0 c.inBytes kind (· + BitVec.ofNat 64 bin)
                    outBytes := Tab.upd 0 c.outBytes kind (· + BitVec.ofNat 64 bout) }
  s.setCmp (
    if s.ratioWin ≤ fr.toNat then
      { c with winFrames := Tab.set 0 c.winFrames kind 0, winIn := Tab.set 0 c.winIn kind 0
               winOut := Tab.set 0 c.winOut kind 0, lastIn := Tab.set 0 c.lastIn kind wi
               lastOut := Tab.set 0 c.lastOut kind wo, ratioDue := setBit c.ratioDue (kind - 1) true }
    else { c with winFrames := Tab.set 0 c.winFrames kind fr, winIn := Tab.set 0 c.winIn kind wi
                  winOut := Tab.set 0 c.winOut kind wo })

/-- RATIO_WINDOW (R213): the ratio of a completed window is tested. -/
def execRatioWindow (kind : BitVec 3) (s : State) : Host.Outcome State Fault Refusal :=
  let k := kind.toNat
  .next (
    if k = 0 ∨ 4 < k ∨ !s.cmp.ratioDue.getLsbD (k - 1) then s
    else
      let s := s.setCmp { s.cmp with ratioDue := setBit s.cmp.ratioDue (k - 1) false }
      let i := (Tab.get 0 s.cmp.lastIn k).toNat
      let o := (Tab.get 0 s.cmp.lastOut k).toNat
      if 16 * i < s.ratioMin * o then
        (s.setCmp { s.cmp with ratioLow := setBit s.cmp.ratioLow (k - 1) true }).note 0x3101 (le 1 k ++ le 8 i ++ le 8 o)
      else s)

/-- The key of a source in the encoder's and decoder's tables (R189). -/
def srcKey (fsid : BitVec 48) (kind : Nat) : Nat := 8 * fsid.toNat + kind

/-- The frame that a sample of a source makes now, and whether it is a key (R202, R206). -/
def State.sampleFrame (s : State) (h : FrameHdr) (v : List DWord) (st : List Byte) : List Byte × Bool :=
  let x := Tab.get default s.cmp.enc (srcKey h.fsid h.kind)
  let key := h.kind == 3 || !x.haveKey || x.keyDue || decide (s.keyEvery h.kind ≤ x.nonKey + 1)
  encodeSample (s.encCfg h.kind) h s.recPoison (fun u => s.img 7 (0x20 + 64 * bits h.fsid.toNat 11 6 + u) 1 0) v st
    (x.items, x.stat, x.tag) key

/-- The frame was accepted into its queue: it becomes the reference (R192), and a key ends the conditions of R206. -/
def State.accepted (s : State) (h : FrameHdr) (v : List DWord) (st : List Byte) (key : Bool) : State :=
  let k := srcKey h.fsid h.kind
  let x := Tab.get default s.cmp.enc k
  let x := { x with items := v, stat := st, tag := h.tag, haveKey := x.haveKey || key, keyDue := x.keyDue && !key
                    nonKey := if key then 0 else x.nonKey + 1 }
  s.setCmp { s.cmp with enc := Tab.set default s.cmp.enc k x }

/-- A sample of Exfin-D is encoded and queued on CNT; a full queue drops it and leaves the reference (R45, R192). -/
def State.sendSample (s : State) (h : FrameHdr) (v : List DWord) (st : List Byte) (prod stored : Nat) : State :=
  let (b, key) := s.sampleFrame h v st
  let s := s.emitted h.kind stored b.length
  if s.sendFull 0 1 then (s.send 0 1 0x41 b).overload prod else (s.send 0 1 0x41 b).accepted h v st key

/-- The header of a cluster sample (Table 6-2). Where D_eff changes at the boundary that froze it, SPAN is the old interval and
RDIV_LOG2 names the D_eff in force when the sample is built: DESIGN CHOICE (notes/assumptions/91). -/
def State.cluHdr (s : State) (c : Nat) : FrameHdr :=
  { kind := 1, flags := 0, table := 0, rdiv := Nat.log2 (s.dEff c)
    fsid := s.fsid + BitVec.ofNat 48 (fieldAt (s.cluRegion c) 12 5 + fieldAt c 6 6)
    span := (Tab.get (0 : BitVec 16) s.prb.snapSpan c).toNat, nitem := 64, tag := Tab.get 0 s.prb.snapHeat c, ref := 0 }

/-- POISON in all 64 status bytes of the kept sample of cluster `c` (R113). -/
def State.poisonKept (s : State) (c : Nat) : State :=
  { s with red := { s.red with samples := s.red.samples.map fun x =>
      if x.clu.toNat == c && x.heat == Tab.get 0 s.prb.snapHeat c then { x with stat := x.stat.map (· ||| 0x10) } else x } }

/-- CLUSTER_SAMPLE_BUILD (R112, R113, R118): the producer builds the sample, or the held sample, of a due cluster. -/
def execClusterSampleBuild (c : BitVec 6) (perr : Bool) (s : State) : Host.Outcome State Fault Refusal :=
  let k := c.toNat
  .next (
    if !s.isD || !s.running || !s.user then s
    else if s.prb.heldDue.getLsbD k then
      let s := s.setPrb { s.prb with heldDue := setBit s.prb.heldDue k false }
      let b := encodeHeld { s.cluHdr k with tag := s.heat.heat - 1 } s.recPoison
      let s := s.emitted 1 32 b.length
      if s.sendFull 0 1 then (s.send 0 1 0x41 b).overload (s.cluProd k) else s.send 0 1 0x41 b
    else if s.prb.due.getLsbD k then
      let s := s.setPrb { s.prb with due := setBit s.prb.due k false }
      let v := Tab.slice 0 s.prb.snap (64 * k) 64
      let st := Tab.slice (0 : Byte) s.prb.stat (64 * k) 64
      if perr || (List.range 64).any fun u => Tab.get false s.prb.snapBad (64 * k + u) then
        ((s.oneCycle fun s => (s.memErr 2 true (64 * k)).stick 1 0).poisonKept k).sendSample (s.cluHdr k) v (st.map (· ||| 0x10)) (s.cluProd k) 608
      else s.sendSample (s.cluHdr k) v st (s.cluProd k) 608
    else s)

/-- The header of an analogue or shared-sensor frame (Table 6-2). -/
def State.anaHdr (s : State) (kind : Nat) : FrameHdr :=
  { kind := kind, flags := 0, table := 0, rdiv := 0, fsid := s.fsid, span := 0, nitem := kindItems kind
    tag := s.sns.sampleHeat, ref := 0 }

/-- ANALOGUE_SAMPLE_SEND (R32, R127, R447): the latched sample goes on CNT, the warden's shared-sensor record after it; on
Exfin-T it goes northbound while NB_EXP.ASAMP is 1. -/
def execAnalogueSampleSend (s : State) : Host.Outcome State Fault Refusal :=
  let v := s.sns.sample.map fun (w : Word) => w.setWidth 64
  let p := s.encProd.getD 0
  let done : State := { s with sns := { s.sns with sampleSent := true } }
  .next (
    if !s.running || !s.user || s.sns.sampleSent || s.sns.sample.isEmpty then s
    else if s.isD then
      let t := done.sendSample (s.anaHdr 2) v [] p 416
      if s.warden then
        t.sendSample (s.anaHdr 3) ((List.range 8).map fun i => v.getD (if i < 4 then 16 + i else 24 + i) 0) [] p 64
      else t
    else if s.nbExp 2 then
      let h := s.anaHdr 2
      let (b, key) := done.sampleFrame h v []
      let t := done.emitted 2 416 b.length
      let room := s.northRoom 9 b.length
      let t := t.north 9 b
      if room then t.accepted h v [] key else t.overload p
    else done)

/-- KEY_REQ (R206): the next frame with items of the source is a key. -/
def execKeyReq (kind : Byte) (fsid : BitVec 48) (s : State) : Host.Outcome State Fault Refusal :=
  .next (
    if !s.isD || !s.running then s
    else
      let s := s.take 0 0 0x21
      let k := srcKey fsid kind.toNat
      let enc := if 1 ≤ kind.toNat ∧ kind.toNat ≤ 3 then
          Tab.upd default s.cmp.enc k fun x => { x with keyDue := true } else s.cmp.enc
      s.setCmp { s.cmp with keyReq := satInc s.cmp.keyReq, enc := enc })

/-- The static tables of the image in force. -/
def State.statics (s : State) : List (List Nat) := (List.range s.nStatic).map fun j => tableLens (s.staticBytes j)

/-- The predictor modes of die `k` as the tray knows them. -/
def State.pmodeOf (s : State) (k : Nat) (fsid : BitVec 48) (u : Nat) : Nat :=
  match s.cachedImage k with
  | some im => im.pmode (64 * bits fsid.toNat 11 6 + u)
  | none => 0

/-- The reference of a source in the decoder. -/
def State.decRef (s : State) (h : FrameHdr) : Option (List DWord × List Byte × DWord) :=
  let x := Tab.get default s.cmp.dec (srcKey h.fsid h.kind)
  if x.haveKey then some (x.items, x.stat, x.tag) else none

/-- Where a kept sample of a kind belongs: its cluster, 64 for an analogue sample, 65 for a shared-sensor record. -/
def sampleClu (kind fsid : Nat) : BitVec 7 := BitVec.ofNat 7 (if kind = 1 then bits fsid 11 6 else 62 + kind)

/-- The tray keeps a decoded sample for reduction and scoring; one of a heat already processed counts as left out (R21). -/
def State.keepSample (s : State) (k : Nat) (d : Decoded) : State :=
  if d.hdr.nitem = 0 ∨ d.hdr.tag = BitVec.allOnes 64 then s
  else
    let x : KeptSample :=
      { die := BitVec.ofNat 6 k, clu := sampleClu d.hdr.kind d.hdr.fsid.toNat, heat := d.hdr.tag, span := BitVec.ofNat 16 d.hdr.span,
        items := d.items, stat := d.stat, removed := decide (d.hdr.tag.toNat < s.inr.next) }
    { s with red := { s.red with samples := s.red.samples ++ [x] } }

/-- The tray refuses a frame of die `k` (R211): its sample of the heat that the die is sending is missing, and the die is late
for it. -/
def State.frameRefused (s : State) (k reason : Nat) (b : List Byte) : State :=
  let kind := leAt b 0 1
  let fsid := leAt b 4 6
  let c := { s.cmp with decFails := satInc s.cmp.decFails, decFail := true, keyReq := satInc s.cmp.keyReq
                        decLast := BitVec.ofNat 32 (fieldAt reason 16 3 + fieldAt kind 8 3 + k) }
  let t := s.setCmp c
  let t := if s.cmp.decFail then t else t.note 0x3102 (le 1 k ++ le 1 kind ++ le 1 reason ++ le 6 fsid)
  let t := t.send k 0 0x21 (le 1 kind ++ le 1 0 ++ le 6 fsid)
  let top := (Tab.get 0 t.inr.done (65 + k)).toNat
  if top = 0 then t
  else
    let h : DWord := BitVec.ofNat 64 (top - 1)
    let gone : KeptSample :=
      { die := BitVec.ofNat 6 k, clu := sampleClu kind fsid, heat := h, span := 1, items := [], stat := [], removed := true }
    let t := t.setRed { t.red with samples := t.red.samples ++ [gone] }
    if h.toNat < t.inr.next then t else t.setInr (t.inr.upd k h fun x => { x with late := true })

/-- An accepted frame with items becomes its source's reference (R210, R192). -/
def State.newRef (s : State) (d : Decoded) : State :=
  if d.hdr.nitem = 0 then s
  else
    let x : Source := { (default : Source) with items := d.items, stat := d.stat, tag := d.hdr.tag, haveKey := true }
    s.setCmp { s.cmp with dec := Tab.set default s.cmp.dec (srcKey d.hdr.fsid d.hdr.kind) x }

/-- The tray takes a frame of die `k` (R211). -/
def State.trayFrame (s : State) (k : Nat) (b : List Byte) : State :=
  let s := (s.take k 1 0x41).rawNorth k 0x41 b
  match decodeSample s.statics (s.pmodeOf k (readHdr b).fsid) s.decRef b with
  | .error r => s.frameRefused k r b
  | .ok d =>
    let h := d.hdr
    ((s.newRef d).intake k h.tag fun y => { y with got := y.got + 1, shared := if h.kind = 3 then b else y.shared }).keepSample k d

/-- FRAME (R32, R209, R211): the tray decodes a die's sample frame; a die takes the forwarded shared-sensor record. -/
def execFrame (k : BitVec 6) (bytes : List Byte) (s : State) : Host.Outcome State Fault Refusal :=
  .next (
    if !s.running then s
    else if s.isT then s.trayFrame k.toNat bytes
    else
      let s := s.take 0 1 0x41
      match decodeSample s.statics (fun _ => 0) s.decRef bytes with
      | .ok d =>
        if d.hdr.kind = 3 then
          let s := s.newRef d
          { s with sns := { s.sns with sharedNow := some (d.items.map fun (x : DWord) => x.setWidth 32) } }
        else s
      | .error _ => s)

/-- A trace block that does not enter the TRC queue (R45, R204, R205): TRC_UL_DROP and the queue's drop counter rise, and the
heat is an overload heat of ENC_PROD (R345). -/
def State.blockLost (s : State) : State :=
  let l := s.link 0
  let t := s.setLink 0 { l with tx := l.tx.set 2 { (l.txv 2) with drops := satInc (l.txv 2).drops } }
  ({ t with trc := { t.trc with ulDrop := satInc t.trc.ulDrop } } : State).overload (s.encProd.getD 0)

/-- A completed trace block is encoded and queued, on Exfin-D on TRC, on Exfin-T northbound; true when it entered the queue
(R172, R204, R205, R447); a block with an uncorrectable error is handled as dropped (R515). -/
def State.sendBlock (s : State) (blk : Nat) : State × Bool :=
  let b := Tab.get default s.trc.blocks blk
  let h : FrameHdr :=
    { kind := 4, flags := 0, table := 0, rdiv := 0, fsid := s.fsid, span := 0, nitem := 512, tag := BitVec.ofNat 64 blk,
      ref := b.gen }
  let words := (b.words ++ List.replicate 512 0).take 512
  if s.trc.bad.contains blk then (s.blockLost, false) else
  match encodeTrace (s.encCfg 4) h s.recPoison words with
  | .frame f =>
    let t := s.emitted 4 4128 f.length
    if s.isT then
      let body := le 1 0 ++ List.replicate 7 0 ++ f
      if t.northRoom 8 body.length then (t.north 8 body, true) else ((t.north 8 body).overload (s.encProd.getD 0), false)
    else if t.sendFull 0 2 then (t.blockLost, false)
    else (t.send 0 2 0x50 f, true)
  | .oversize n =>
    (({ s with cmp := { s.cmp with oversize := satInc s.cmp.oversize } } : State).blockLost.note 0x3103 (le 2 blk ++ le 2 n), false)
  | .noCode y =>
    (({ s with cmp := { s.cmp with noCode := satInc s.cmp.noCode } } : State).blockLost.note 0x3104 (le 2 blk ++ le 1 y), false)

/-- A completed block waits for the encoder (R172, R207). -/
def State.encodeDue (s : State) (blk : Nat) : State := { s with trc := { s.trc with encPend := s.trc.encPend ++ [blk] } }

/-- The encoder has taken the blocks that waited for it. -/
def State.encodeBlocks (s : State) : State :=
  s.trc.encPend.foldl (fun s b => (s.sendBlock b).1) { s with trc := { s.trc with encPend := [] } }

end Sys2Proof.Machine
end

