-- ==== Sys2Proof/Machine/Uplink.lean ====
section
/-! DEFINITION. The telemetry uplink (chapter 13): flits, slots, sequence and replay, credits, messages, training,
sessions, link down. -/

namespace Sys2Proof.Machine

/-- A field of the uplink block of LINK_PARAMS with its factory default (Table 13-12). -/
def State.ulf (s : State) (o n d : Nat) : Nat := s.img 0xB o n d
def State.ulRate (s : State) : Nat := s.ulf 0x100 1 (s.fd 0x14 1 1)
def State.crdFloor (s : State) : Nat := s.ulf 0x101 1 8
def State.crdGrace (s : State) : Nat := s.ulf 0x102 2 1000
def State.replayTmo (s : State) : Nat := s.ulf 0x104 2 8
def State.trainTmo (s : State) : Nat := s.ulf 0x106 2 2000
/-- CTRL, CNT, CTRL, BULK, four times: entry i in bits 2i + 1:2i. -/
def State.vcPat (s : State) : Nat := s.ulf 0x108 4 0xC4C4C4C4

/-- The links an instance has: link 0 on Exfin-D, 64 on Exfin-T. -/
def State.hasLink (s : State) (k : Nat) : Bool := s.isT || k == 0

/-- Receive buffer of virtual channel `v`, in flits (Table 13-9). -/
def State.rxCap (s : State) (v : Nat) : Nat :=
  if s.isT then [64, 96, 64, 32].getD v 0 else [64, 16, 0, 96].getD v 0

/-- Change the sticky uplink bit and write a record only for its first occurrence. -/
def State.ulStick (s : State) : State := s.stick 2 0

/-- Counter `i` of a link increases (TUL_CNT_k_i). -/
def Link.count (l : Link) (i : Nat) : Link := { l with cnt := Tab.upd 0 l.cnt i satInc }

/-- Enter DOWN: UL_PHY_RST is 1, and what training had found is forgotten (R413, R414). What stands about a NAK for the
expected number stays: only its change ends that (R420). -/
def Link.toDown (l : Link) : Link :=
  { l with
    tr := { l.tr with state := 0, phyRst := true, phaseFound := false, goodRun := 0, goodRunB := 0, badRun := 0,
                      gotCap := false, gotSeen := false, sentSeen := false, goodSinceUp := false }
    keepDue := false, replayAt := none }

/-- An UP link goes down (R429, R431; cause 9 by Table 16-1), asked for by a caller or by none (R441): RESUME_V is lost with
cause 9. -/
def State.linkDownBy (s : State) (k cause role path : Nat) : State :=
  let l := s.link k
  if l.tr.state = 4 then
    let d := (l.toDown.count 2)
    let d := { d with tr := { d.tr with cause := BitVec.ofNat 4 cause,
                                        haveSession := d.tr.haveSession && decide (cause ≠ 9) } }
    let s := s.setLink k d
    let s := if s.isD then { s with sys := { s.sys with trayValid := false } } else s
    s.ulStick.event 0x5602 (le 1 k ++ le 1 cause) role path
  else s

/-- An UP link goes down with no caller. -/
def State.linkDown (s : State) (k cause : Nat) : State := s.linkDownBy k cause 0 0

/-- PHY_RESET_TIMER (R403, R413): 1 µs of DOWN is over, UL_PHY_RST falls; UL_RATE has taken the code in force. A lock that
stands already takes the link to LOCK. On Exfin-T the terminations leave DOWN only once IMAGE has ended (R530). -/
def execPhyResetTimer (k : BitVec 6) (s : State) : Host.Outcome State Fault Refusal :=
  let l := s.link k.toNat
  .next (
    if s.running && s.hasLink k.toNat && (s.isD || decide (5 ≤ s.sys.phase.toNat)) && l.tr.state == 0 && l.tr.phyRst then
      let st := if l.tr.lock then 1 else 0
      s.setLink k.toNat { l with tr := { l.tr with phyRst := false, rate := BitVec.ofNat 2 s.ulRate, state := st } }
    else s)

/-- RX_LOCK_CHANGE (R413, R429). -/
def execRxLockChange (k : BitVec 6) (lock : Bool) (s : State) : Host.Outcome State Fault Refusal :=
  let l := s.link k.toNat
  let n := { l with tr := { l.tr with lock := lock } }
  .next (
    if !(s.running && s.hasLink k.toNat) then s
    else if lock then
      s.setLink k.toNat (if n.tr.state = 0 ∧ n.tr.phyRst = false then { n with tr := { n.tr with state := 1 } } else n)
    else if l.tr.state = 4 then (s.setLink k.toNat n).linkDown k.toNat 3
    else if 1 ≤ l.tr.state.toNat ∧ l.tr.state.toNat ≤ 3 then s.setLink k.toNat n.toDown
    else s.setLink k.toNat n)

/-- SESSION of this side (R416). -/
def State.session (s : State) : Nat := fieldAt s.evr.pcyc.toNat 16 16 + s.sys.resetCount.toNat

/-- The digest reported in capability words: 0 under a complement fault of IMG_DIGEST (R95, Table 16-1 item 6). -/
def State.digestShown (s : State) : DWord := if s.ld.digestC = ~~~ s.ld.digest then s.ld.digest else 0

/-- The capability words this side sends (Table 13-4); RATE is the code UL_RATE holds (R403). -/
def State.capWords (s : State) (l : Link) : List Byte :=
  le 1 1 ++ le 1 s.gradeCode ++ le 1 s.idx ++
  le 1 ((bit s.tb.valid 1).toNat + 2 * s.ld.srcForce.toNat + 8 * (bit l.tr.haveSession 1).toNat +
    16 * (bit s.trayValid 1).toNat + 32 * (bit l.tr.gotCap 1).toNat) ++
  le 4 blkVersion ++ le 8 s.digestShown.toNat ++ le 4 (if s.isT then s.trayNo else 0) ++
  le 4 (s.img 0xB 0x70 4 0) ++ le 4 (s.img 0xB 0x74 4 0) ++
  ((List.range 4).flatMap fun v => le 2 (s.rxCap v)) ++ le 2 ((l.rxExp - 1).toNat) ++ le 1 l.tr.rate.toNat ++ le 1 0 ++
  le 4 s.session ++ le 8 0

/-- A number in the partner's last capability words. -/
def Train.cap (t : Train) (o n : Nat) : Nat := leAt t.partner o n

/-- CAP (R415): the partner's capability words are taken. -/
def execCap (k : BitVec 6) (words : List Byte) (s : State) : Host.Outcome State Fault Refusal :=
  let l := s.link k.toNat
  .next (
    if l.tr.state = 2 ∨ l.tr.state = 3 then
      let seen := l.tr.gotSeen || (leAt words 3 1).testBit 5
      let t := { l.tr with partner := words, gotCap := true, gotSeen := seen, pidx := BitVec.ofNat 7 (leAt words 2 1) }
      s.setLink k.toNat { l with tr := { t with state := if t.state = 2 ∧ seen ∧ t.sentSeen then 3 else t.state } }
    else s)

/-- The first training check that fails (Table 13-8), 0 when all pass. -/
def State.trainFail (s : State) (k : Nat) (t : Train) (fofs : BitVec 16) : Nat :=
  let low (v : Nat) : Bool := t.cap (0x1C + 2 * v) 2 < 8
  if t.cap 0 1 ≠ 1 then 1
  else if t.cap 1 1 = s.gradeCode then 2
  else if s.isT ∧ t.cap 2 1 ≠ k then 3
  else if t.cap 0x26 1 ≠ t.rate.toNat then 4
  else if s.isT ∧ 2000 < fofs.toInt.natAbs then 5
  else if low 0 || low 1 || (s.isD && low 2) || low 3 then 6
  else 0

/-- Training fails (R417): FAILED, with the record for the first failure since the bit was cleared and for each whose
reason differs from the last. -/
def State.trainFailed (s : State) (k fail : Nat) : State :=
  let l := s.link k
  let d := l.toDown.count 1
  let t := s.setLink k { d with tr := { d.tr with state := 5, fail := BitVec.ofNat 4 fail, rptFail := BitVec.ofNat 4 fail } }
  let u := t.ulStick
  if s.due 2 0 0x5603 || l.tr.rptFail.toNat != fail then (u.noted 2 0 0x5603).note 0x5603 (le 1 k ++ le 1 fail ++ le 1 l.tr.pidx.toNat) else u

/-- TRAINING_TIMEOUT (R413): TRAIN_TMO µs since DOWN was left and UP not reached. -/
def execTrainingTimeout (k : BitVec 6) (s : State) : Host.Outcome State Fault Refusal :=
  let st := (s.link k.toNat).tr.state.toNat
  .next (if 1 ≤ st ∧ st ≤ 3 then s.trainFailed k.toNat 7 else s)

/-- FAILED_HOLD_END (R413): TRAIN_TMO µs of FAILED are over. -/
def execFailedHoldEnd (k : BitVec 6) (s : State) : Host.Outcome State Fault Refusal :=
  let l := s.link k.toNat
  .next (if l.tr.state = 5 then s.setLink k.toNat l.toDown else s)

/-- Remove the flits that an acknowledgement of `seq` covers (R421): those up to it, where it names a flit held. -/
def ackFlits (seq : BitVec 12) (r : List TxFlit) : List TxFlit :=
  if r.any fun f => f.seq == seq then (r.dropWhile fun f => f.seq != seq).drop 1 else r

/-- A flit of a message that goes by the insertion path of CTRL (R408, R410). -/
def TxFlit.inserted (f : TxFlit) : Bool :=
  f.first && f.last && f.vc == 0 && (f.mtype == 0x10 || f.mtype == 0x29 || f.mtype == 0x30)

/-- The message begun on `v` has a flit among the held ones and more to send (R433): the last held flit of the channel that
is none of the insertion path's is not the last of its message. -/
def restDropped (r : List TxFlit) (v : Nat) : Bool :=
  match (r.filter fun f => f.vc.toNat == v && !f.inserted).getLast? with
  | some f => !f.last
  | none => false

/-- Windows and credits at UP (R424): both to the partner's advertised CRD; flits sent before leave the credit account
(notes/assumptions/8). -/
def Link.openCredits (l : Link) : Link :=
  { l with tx := (List.range 4).map fun v =>
      let c := l.tr.cap (0x1C + 2 * v) 2
      { l.txv v with window := BitVec.ofNat 8 c, avail := BitVec.ofNat 8 c, advertised := BitVec.ofNat 16 c, unretired := [] } }

/-- A resumed session (R432): held flits up to the partner's RX_LAST leave, the rest is replayed. -/
def Link.resume (l : Link) : Link :=
  let r := ackFlits (BitVec.ofNat 12 (l.tr.cap 0x24 2)) l.replay
  { l with replay := r, replayAt := r.head?.map fun f => f.seq.toNat }

/-- A new session (R433): held flits are lost, the rest of their messages is dropped, open messages are discarded, and
sequence numbers restart. The expected number is a new one, for which no NAK has been sent. -/
def Link.newSession (l : Link) : Link :=
  { l with
    tx := (List.range 4).map fun v =>
      let t := l.txv v
      { t with begun := if restDropped l.replay v then none else t.begun }
    rx := l.rx.map fun r => { r with openMsg := none, openFlits := 0 }
    replay := [], replayAt := none, txNext := 0, rxExp := 0, ackV := false, nakOut := false }

/-- Answer a proxy access that completes (R462, R553): to the port with its tag, or to its request place. -/
def State.proxyDone (s : State) (src : ProxySrc) (status : Nat) (data : Word) : State :=
  let s := { s with nb := { s.nb with proxyCnt := Tab.upd 0 s.nb.proxyCnt (1 + status) satInc } }
  match src with
  | .port tag => { s with heat := { s.heat with rsp := s.heat.rsp ++ [⟨tag, data, BitVec.ofNat 3 status⟩] } }
  | .place i => s.reqDone i.toNat status data

/-- Every proxy request outstanding on link `k` completes with LINK_RESET (R433). -/
def State.proxiesReset (s : State) (k : Nat) : State :=
  s.nb.proxyOut.foldl (fun s p =>
    match p.2 with
    | some o =>
      if o.link.toNat = k then
        { s with nb := { s.nb with proxyOut := Tab.set none s.nb.proxyOut p.1 none } }.proxyDone o.src 2 0
      else s
    | none => s) s

/-- What a refused load does (R70, R71): the reason with sub-code, section and source, the sticky bit, the record; the
loader returns to IDLE. -/
def State.imgRefuse (s : State) (reason sub sec off role path : Nat) : State :=
  let w := fieldAt role 22 2 + fieldAt s.ld.srcLoad.toNat 20 2 + fieldAt sec 16 4 + fieldAt sub 8 8 + reason
  let src := s.ld.srcLoad.toNat
  let s := { s with ld := { s.ld with st := 0, srcLoad := 0, refuse := BitVec.ofNat 32 w, refuseOff := BitVec.ofNat 25 off } }
  (s.stick 0 1).event 0x2002 (le 1 reason ++ le 1 sub ++ le 1 sec ++ le 1 src) role path

/-- A refused tray delivery while factory defaults are in force (R91). -/
def State.deliveryRefused (s : State) : State :=
  if s.user then s
  else ({ s with ld := { s.ld with fdReason := 6 } }.stick 0 4).note 0x2003 (le 1 6)

/-- A tray delivery that a new session ends on the die's side (R82). -/
def State.deliveryEnds (s : State) : State :=
  if s.isD ∧ s.ld.st = 1 ∧ s.ld.srcLoad = 3 then
    let n := s.ld.shadow.len
    ((s.imgRefuse 0x0E 0 0xF 0 0 0).deliveryRefused).note 0x2009 (le 1 3 ++ le 4 n)
  else s

/-- The delivery on link `k` and its offer end at the tray. -/
def State.offerEnds (s : State) (k : Nat) : State :=
  { s with tray := { s.tray with
      deliveries := s.tray.deliveries.filter fun d => d.link.toNat != k
      offers := s.tray.offers.filter fun o => o.1.toNat != k } }

/-- Messages of type `m` leave the CTRL queues of a link, those waiting to be sent and those delivered. -/
def Link.without (l : Link) (m : Byte) : Link :=
  let t := l.txv 0
  let r := l.rx.getD 0 default
  { l with
    tx := l.tx.set 0 { t with queue := t.queue.filter fun x => x.mtype != m }
    rx := l.rx.set 0 { r with queue := r.queue.filter fun x => x.2.mtype != m } }

/-- Effects of a new session beyond the link layer (R82, R433). The tray answers every outstanding proxy request, so none of
them is sent any more; the die executes none of the old session, wherever it stands, and sends none of its responses. -/
def State.sessionEnds (s : State) (k : Nat) : State :=
  if s.isT then
    let s := s.setLink k ((s.link k).without 0x32)
    (s.proxiesReset k).offerEnds k
  else
    let s := s.setLink 0 (((s.link 0).without 0x33).without 0x32)
    ({ s with nb := { s.nb with proxyIn := [] } }.remoteFreed true).deliveryEnds

/-- Start a delivery of `DIE_IMG` on link `k` with an IMG_OFFER (R81), `asked` for by IMG_REDELIVER or by R81; without a cached
image nothing starts. -/
def State.deliver (s : State) (k : Nat) (asked : Bool) : State :=
  let e := s.dieImg k
  let im := Tab.get default s.tray.cache e
  if im.len = 0 then s
  else
    let d : Delivery := ⟨BitVec.ofNat 6 k, BitVec.ofNat 3 e, 0⟩
    let s := s.offerEnds k
    let s := { s with tray := { s.tray with
      deliveries := s.tray.deliveries ++ [d], offers := s.tray.offers ++ [(BitVec.ofNat 6 k, asked)] } }
    s.send k 0 0x20 (le 8 (im.num 0x18 8) ++ le 4 im.len ++ le 1 0 ++ le 3 0)

/-- What R81 asks for a delivery: digests differ, the die reports FACTORY or TRAY, and EXPECT marks it in service with an
image. -/
def State.wantsImage (s : State) (k : Nat) : Bool :=
  let r := Tab.get default s.tray.reports k
  s.isT && s.inService k && !s.noImage k && (r.src == 0 || r.src == 3) && r.digest != s.expDigest k

/-- R81 after a training or an activation. -/
def State.deliverIfDue (s : State) (k : Nat) : State :=
  if s.wantsImage k && !(s.tray.deliveries.any fun d => d.link.toNat == k) then s.deliver k false else s

/-- A link enters UP (R418, R432, R433, R508). -/
def State.linkUp (s : State) (k : Nat) : State :=
  let l := s.link k
  let res := l.tr.haveSession && (l.tr.cap 3 1).testBit 3 && l.tr.psess.toNat == l.tr.cap 0x28 4
  let lost := if res then 0 else l.replay.length
  let l := if res then l.resume else l.newSession
  let l := l.openCredits
  let up := { l.tr with state := 4, resumed := res, psess := BitVec.ofNat 32 (l.tr.cap 0x28 4), haveSession := true,
                        goodSinceUp := false, badRun := 0 }
  let l := ({ l with tr := up, patPos := 0 } : Link).count 0
  let s := (s.setLink k l).cplRestore 7 k
  let s := if res then s else
    { s with ul := { s.ul with lost := satAdd s.ul.lost lost } }.sessionEnds k
  let s := s.note 0x5601 (le 1 k ++ le 4 (l.tr.cap 0x28 4) ++ le 1 (bit res 1).toNat)
  let s := if res then s else s.note 0x5605 (le 1 k ++ le 4 lost)
  if s.isD then
    { s with sys := { s.sys with tray := BitVec.ofNat 18 (l.tr.cap 0x10 4), trayValid := (l.tr.cap 3 1).testBit 4 }
             cmp := { s.cmp with enc := Tab.mapV default s.cmp.enc fun x => { x with keyDue := true } } }
  else
    let r : DieReport := ⟨BitVec.ofNat 64 (l.tr.cap 8 8), BitVec.ofNat 32 (l.tr.cap 4 4),
      BitVec.ofNat 2 (bits (l.tr.cap 3 1) 2 1), true⟩
    let s := { s with tray := { s.tray with reports := Tab.set default s.tray.reports k r }
                      tt := { s.tt with
                        due := setBit s.tt.due k true
                        links := Tab.upd default s.tt.links k fun x => { x with out := [], valid := false } } }
    let s := s.deliverIfDue k
    let q : Verd := s.verd k
    if q.v = 3 then s.setVerd k { q with drainDue := true } else s

/-- TRAINING_CHECK (R417, R418): the checks are made on the partner's capability words. -/
def execTrainingCheck (k : BitVec 6) (fofsAvg : BitVec 16) (s : State) : Host.Outcome State Fault Refusal :=
  let t := (s.link k.toNat).tr
  .next (
    if t.state = 3 then
      let f := s.trainFail k.toNat t fofsAvg
      if f = 0 then s.oneCycle fun s => s.linkUp k.toNat else s.trainFailed k.toNat f
    else s)

/-- Fields of a flit's header words (Table 13-2). -/
def fSeq (f : List Byte) : BitVec 12 := BitVec.ofNat 12 (leAt f 0 4)
def fVc (f : List Byte) : Nat := bits (leAt f 0 4) 13 12
def fLcf (f : List Byte) : Bool := (leAt f 0 4).testBit 14
def fRpl (f : List Byte) : Bool := (leAt f 0 4).testBit 15
def fType (f : List Byte) : Nat := bits (leAt f 0 4) 23 16
def fLen (f : List Byte) : Nat := bits (leAt f 0 4) 29 24
def fFirst (f : List Byte) : Bool := (leAt f 0 4).testBit 30
def fLast (f : List Byte) : Bool := (leAt f 0 4).testBit 31

/-- The CRC of a flit is good (R405). -/
def flitGood (f : List Byte) : Bool := f.length == 64 && (crc32c (f.take 60)).toNat == leAt f 60 4

/-- The 64 bytes of a flit. -/
def flitBytes (w0 w1 : Nat) (p : List Byte) : List Byte :=
  let b := le 4 w0 ++ le 4 w1 ++ (p ++ List.replicate 52 0).take 52
  b ++ le 4 (crc32c b).toNat

/-- One of the two data words of a flit (R404): byte i of the 32 in bits 8i + 7 to 8i, lane 0 the lower half, lane 1 the
upper. -/
def dataWord (b : List Byte) : BitVec 256 := BitVec.ofNat 256 (unle (b.take 32))

/-- The data words in which a flit crosses the interface. -/
def flitWords (f : List Byte) : List (BitVec 256) := [dataWord f, dataWord (f.drop 32)]

/-- The 64 bytes of a flit received in two data words. -/
def flitOfWords (d0 d1 : BitVec 256) : List Byte := le 32 d0.toNat ++ le 32 d1.toNat

/-- One credit returned (R426): it retires the oldest sent flit, or is discarded and counted. -/
def Link.credit (l : Link) (v : Nat) : Link :=
  let t := l.txv v
  match t.unretired with
  | _ :: rest => { l with tx := l.tx.set v { t with unretired := rest, avail := t.avail + 1 } }
  | [] => l.count 7

/-- ACK and CRD of a good flit are honoured (R419, R421, R426). -/
def Link.honour (l : Link) (f : List Byte) : Link :=
  let w := leAt f 4 4
  let l := if w.testBit 12 then { l with replay := ackFlits (BitVec.ofNat 12 w) l.replay } else l
  (List.range 4).foldl (fun l v => (List.range (bits w (19 + 4 * v) (16 + 4 * v))).foldl (fun l _ => l.credit v) l) l

/-- A NAK falls due unless one was sent for this expected number (R420). -/
def Link.wantNak (l : Link) : Link := { l with nakDue := l.nakDue || !l.nakOut }

/-- What a flit leaves in a receive buffer. -/
def flitOf (f : List Byte) : TxFlit :=
  ⟨fSeq f, BitVec.ofNat 2 (fVc f), BitVec.ofNat 8 (fType f), fFirst f, fLast f, (f.drop 8).take (fLen f), 0⟩

/-- A sequenced flit with a good CRC in UP (R419). -/
def State.sequenced (s : State) (k : Nat) (f : List Byte) : State :=
  let l := s.link k
  let l := if fRpl f then l.count 5 else l
  let d := (fSeq f - l.rxExp).toNat
  if d = 0 then
    let r := l.rx.getD (fVc f) default
    if r.buf.length < s.rxCap (fVc f) then
      s.setLink k { l with rx := l.rx.set (fVc f) { r with buf := r.buf ++ [flitOf f] }
                           rxExp := l.rxExp + 1, ackV := true, nakOut := false }
    else (s.setLink k ((l.count 3).wantNak)).ulStick
  else if d < 2048 then s.setLink k l.wantNak
  else s.setLink k (l.count 6)

/-- FLIT_RECEIVE in LOCK (R414): each pairing has its run of good flits, and eight in a row on one of them fix the phase. -/
def Train.seek (t : Train) (pairing good : Bool) : Train :=
  let n := if good then (if pairing then t.goodRunB else t.goodRun) + 1 else 0
  if 8 ≤ n then { t with pairing := pairing, goodRun := 0, goodRunB := 0, phaseFound := true, state := 2 }
  else if pairing then { t with goodRunB := n }
  else { t with goodRun := n }

/-- A flit in CAP or CHECK (R419, R570): sequenced flits pass unseen, link-control flits are honoured. -/
def Link.beforeUp (l : Link) (flit : List Byte) : Link :=
  if !flitGood flit then (l.count 3).wantNak
  else if fLcf flit then l.honour flit
  else l

/-- A flit in UP (R414, R419, R570). -/
def State.flitUp (s : State) (k : Nat) (flit : List Byte) : State :=
  let l := s.link k
  if flitGood flit then
    let start := l.tr.goodSinceUp || !(fLcf flit && fType flit == 3)
    let s := s.setLink k ({ l with tr := { l.tr with badRun := 0, goodSinceUp := start } }.honour flit)
    if fLcf flit then s else s.sequenced k flit
  else
    let l := ({ l with tr := { l.tr with badRun := l.tr.badRun + 1 } }.count 3).wantNak
    let s := s.setLink k l
    if 16 ≤ l.tr.badRun then s.linkDown k 4 else s

/-- FLIT_RECEIVE (R404, R414, R419, R570): a flit is judged by its CRC and sequence number. What a NAK or CAP flit carries
beyond its header words is taken by the commands of those names. -/
def execFlitReceive (k : BitVec 6) (pairing : Bool) (d : BitVec 256 × BitVec 256) (s : State) : Host.Outcome State Fault Refusal :=
  let l := s.link k.toNat
  let st := l.tr.state.toNat
  let flit := flitOfWords d.1 d.2
  .next (
    if st = 1 then s.setLink k.toNat { l with tr := l.tr.seek pairing (flitGood flit) }
    else if l.tr.pairing ≠ pairing then s
    else if st = 4 then s.flitUp k.toNat flit
    else if st = 2 ∨ st = 3 then s.setLink k.toNat (l.beforeUp flit)
    else s)

/-- NAK (R420, R421): acknowledges what lies before NSEQ and begins a replay from it, where it names an unacknowledged
flit; otherwise it is ignored. -/
def execNak (k : BitVec 6) (nseq : BitVec 12) (s : State) : Host.Outcome State Fault Refusal :=
  let l := s.link k.toNat
  .next (
    if l.tr.state = 4 then
      let r := ackFlits (nseq - 1) l.replay
      s.setLink k.toNat { l with replay := r, replayAt := if r.any (fun f => f.seq == nseq) then some nseq.toNat else l.replayAt }
    else s)

/-- KEEPALIVE_DUE (R411). -/
def execKeepaliveDue (k : BitVec 6) (s : State) : Host.Outcome State Fault Refusal :=
  let l := s.link k.toNat
  .next (if l.tr.state = 4 then s.setLink k.toNat { l with keepDue := true } else s)

/-- KEEPALIVE_LOSS (Table 13-11): 16 intervals without a good flit. -/
def execKeepaliveLoss (k : BitVec 6) (s : State) : Host.Outcome State Fault Refusal := .next (s.linkDown k.toNat 1)

/-- FLIT_REPLAY_TIMEOUT (R422, R570): no acknowledgement has advanced for REPLAY_TMO µs. -/
def execFlitReplayTimeout (k : BitVec 6) (s : State) : Host.Outcome State Fault Refusal :=
  let l := s.link k.toNat
  .next (
    match l.replay with
    | f :: _ => if l.tr.state = 4 ∧ l.tr.goodSinceUp then s.setLink k.toNat { l with replayAt := some f.seq.toNat } else s
    | [] => s)

/-- CREDIT_LEAK (R427, R428): an acknowledged flit unretired CRD_GRACE µs later is declared leaked. -/
def execCreditLeak (k : BitVec 6) (vc : BitVec 2) (s : State) : Host.Outcome State Fault Refusal :=
  let l := s.link k.toNat
  let t := l.txv vc.toNat
  .next (
    match t.unretired with
    | q :: rest =>
      if l.tr.state = 4 ∧ l.tr.goodSinceUp ∧ !(l.replay.any fun f => f.seq == q) then
        let t := { t with unretired := rest, window := t.window - 1 }
        let s := s.setLink k.toNat ({ l with tx := l.tx.set vc.toNat t }.count 7)
        if t.window.toNat < t.advertised.toNat * s.crdFloor / 16 then s.linkDown k.toNat 5 else s
      else s
    | [] => s)

/-- The credits a flit returns: up to 15 per virtual channel (R425), as the CRD field. -/
def Link.crdField (l : Link) : Nat :=
  ((List.range 4).map fun v => fieldAt (min 15 (l.rx.getD v default).credits) (16 + 4 * v) 4).sum

/-- Those credits leave the account. -/
def Link.crdSent (l : Link) : Link :=
  { l with rx := l.rx.map fun r => { r with credits := r.credits - min 15 r.credits } }

/-- ACK, ACK_V and CRD of a flit sent now (R406). -/
def Link.word1 (l : Link) : Nat := (l.rxExp - 1).toNat + 2 ^ 12 * (bit l.ackV 1).toNat + l.crdField

/-- Send a link-control flit (R406, Table 13-3). -/
def Link.sendLcf (l : Link) (mtype : Nat) (p : List Byte) : Link :=
  let w0 := 2 ^ 14 + fieldAt mtype 16 8 + fieldAt p.length 24 6 + 2 ^ 30 + 2 ^ 31
  { l with out := flitWords (flitBytes w0 l.word1 p) }.crdSent

/-- Header word 0 of a sequenced flit. -/
def TxFlit.word0 (f : TxFlit) (rpl : Bool) : Nat :=
  f.seq.toNat + fieldAt f.vc.toNat 12 2 + 2 ^ 15 * (bit rpl 1).toNat + fieldAt f.mtype.toNat 16 8 +
    fieldAt f.payload.length 24 6 + 2 ^ 30 * (bit f.first 1).toNat + 2 ^ 31 * (bit f.last 1).toNat

/-- Send a new sequenced flit (R419, R421, R424). -/
def Link.sendNew (l : Link) (v : Nat) (mtype : Byte) (first last : Bool) (p : List Byte) : Link :=
  let f : TxFlit := ⟨l.txNext, BitVec.ofNat 2 v, mtype, first, last, p, 1⟩
  let t := l.txv v
  { l with out := flitWords (flitBytes (f.word0 false) l.word1 p), replay := l.replay ++ [f], txNext := l.txNext + 1
           tx := l.tx.set v { t with avail := t.avail - 1, unretired := t.unretired ++ [f.seq] } }.crdSent

/-- Virtual channel `v` has a flit ready and a credit for it (R409, R410, R421). -/
def Link.ready (l : Link) (v : Nat) : Bool :=
  let t := l.txv v
  (t.begun.isSome || !t.queue.isEmpty) && decide ((if v = 0 then 4 else 0) < t.avail.toNat) && decide (l.replay.length < 512)

/-- Send the next flit of `v`: of the message begun, or of the head of the queue. -/
def Link.sendVc (l : Link) (v : Nat) : Link :=
  let t := l.txv v
  match t.begun, t.queue with
  | some (m, p), _ =>
    let t := { t with begun := if p.length ≤ 52 then none else some (m, p.drop 52) }
    { l with tx := l.tx.set v t }.sendNew v m false (decide (p.length ≤ 52)) (p.take 52)
  | none, m :: rest =>
    let b := m.body
    let t := { t with queue := rest, begun := if b.length ≤ 52 then none else some (m.mtype, b.drop 52) }
    { l with tx := l.tx.set v t }.sendNew v m.mtype true (decide (b.length ≤ 52)) (b.take 52)
  | none, [] => l

/-- The first held flit at or after the replay position. -/
def Link.nextReplay (l : Link) : Option TxFlit :=
  match l.replayAt with
  | some a => l.replay.find? fun f => decide ((f.seq - BitVec.ofNat 12 a).toNat < 2048)
  | none => none

/-- Steps 5 to 7 of R409: the entry of VC_PAT, else the first channel in order, else IDLE; the pattern advances. -/
def Link.sendQueued (l : Link) (pat : Nat) : Link :=
  let v := bits pat (2 * l.patPos.toNat + 1) (2 * l.patPos.toNat)
  let l := { l with patPos := l.patPos + 1 }
  if l.ready v then l.sendVc v
  else
    match [0, 1, 2, 3].find? l.ready with
    | some w => l.sendVc w
    | none => l.sendLcf 0 []

/-- Steps 4 to 7 of R409: a message of the insertion path that has a credit and room in the replay buffer, else what the
queues hold (R46: CTRL without a credit holds back no other channel). -/
def Link.sendTraffic (l : Link) (pat : Nat) : Link :=
  match l.insertion with
  | m :: rest =>
    if 0 < (l.txv 0).avail.toNat ∧ l.replay.length < 512 then
      { l with insertion := rest }.sendNew 0 m.mtype true true (m.body.take 52)
    else l.sendQueued pat
  | [] => l.sendQueued pat

/-- A flit slot of an UP link (R409, R422, R570): until the partner's first good flit that is no CAP, KEEPALIVE and IDLE
alone; `ue` is an uncorrectable error of the replay buffer word read. -/
def State.slotUp (s : State) (k : Nat) (ue : Bool) : State :=
  let l := s.link k
  if l.nakDue && l.tr.goodSinceUp then
    s.setLink k (({ l with nakDue := false, nakOut := true }.count 4).sendLcf 2 (le 2 l.rxExp.toNat))
  else if l.keepDue then s.setLink k ({ l with keepDue := false }.sendLcf 1 [])
  else if !l.tr.goodSinceUp then s.setLink k (l.sendLcf 0 [])
  else
    match l.nextReplay with
    | some f =>
      if ue then s.oneCycle fun s => (s.memErr 8 true k).linkDown k 9
      else if 16 ≤ f.sends then s.linkDown k 8
      else
        let r := l.replay.map fun g => if g.seq = f.seq then { g with sends := g.sends + 1 } else g
        s.setLink k ({ l with replay := r, replayAt := some (f.seq.toNat + 1),
                              out := flitWords (flitBytes (f.word0 true) l.word1 f.payload) }.crdSent.count 5)
    | none => s.setLink k ({ l with replayAt := none }.sendTraffic s.vcPat)

/-- FLIT_SLOT (R409 to R415): one flit leaves in every slot. -/
def execFlitSlot (k : BitVec 6) (ue : Bool) (s : State) : Host.Outcome State Fault Refusal :=
  let l := s.link k.toNat
  let st := l.tr.state.toNat
  .next (
    if st = 1 then s.setLink k.toNat (l.sendLcf 0 [])
    else if st = 2 ∨ st = 3 then
      if l.rx.all fun r => r.buf.isEmpty then
        let n := l.sendLcf 3 (s.capWords l)
        let t := { n.tr with sentSeen := n.tr.sentSeen || n.tr.gotCap }
        s.setLink k.toNat { n with tr := { t with state := if t.state = 2 ∧ t.sentSeen ∧ t.gotSeen then 3 else t.state } }
      else s.setLink k.toNat (l.sendLcf 0 [])
    else if st = 4 then s.slotUp k.toNat ue
    else s)

/-- A message type as Table 13-6 gives it: virtual channel, up allowed, down allowed, and its lengths. -/
structure MsgKind where
  vc : Nat
  up : Bool
  down : Bool
  lenOk : List Byte → Bool

/-- A row of Table 13-6 of fixed length. -/
def fixedMsg (vc : Nat) (up down : Bool) (n : Nat) : Option MsgKind := some ⟨vc, up, down, fun b => b.length == n⟩

/-- Table 13-6. -/
def msgKind (m : Nat) : Option MsgKind :=
  match m with
  | 0x10 => fixedMsg 0 true false 24
  | 0x11 => fixedMsg 0 true false 48
  | 0x12 => some ⟨0, true, false, fun b => b.length == 16 + 4 * leAt b 8 2⟩
  | 0x13 => fixedMsg 0 true false 40
  | 0x14 => fixedMsg 0 true false 24
  | 0x15 => fixedMsg 0 true false 16
  | 0x16 => fixedMsg 0 true false 16
  | 0x17 => fixedMsg 0 true false 16
  | 0x18 => fixedMsg 0 true false 16
  | 0x19 => fixedMsg 0 true false 8
  | 0x1A => fixedMsg 0 true false 16
  | 0x1B => fixedMsg 0 true false 24
  | 0x20 => fixedMsg 0 false true 16
  | 0x21 => fixedMsg 0 false true 8
  | 0x22 => fixedMsg 0 false true 8
  | 0x23 => fixedMsg 0 false true 0
  | 0x24 => fixedMsg 0 false true 8
  | 0x25 => fixedMsg 0 false true 0
  | 0x26 => fixedMsg 0 false true 0
  | 0x27 => fixedMsg 0 false true 0
  | 0x28 => fixedMsg 0 false true 0
  | 0x29 => fixedMsg 0 false true 16
  | 0x2A => fixedMsg 0 false true 8
  | 0x2B => fixedMsg 0 false true 16
  | 0x30 => fixedMsg 0 true true 16
  | 0x31 => fixedMsg 0 true true 16
  | 0x32 => fixedMsg 0 false true 12
  | 0x33 => fixedMsg 0 true false 8
  | 0x40 => some ⟨1, true, false, fun b => 24 ≤ b.length && b.length == 24 + 16 * leAt b 0x12 1⟩
  | 0x41 => some ⟨1, true, true, fun b => 1 ≤ b.length && b.length ≤ 4096⟩
  | 0x42 => fixedMsg 1 true false 16
  | 0x43 => fixedMsg 1 true false 48
  | 0x50 => some ⟨2, true, false, fun b => 1 ≤ b.length && b.length ≤ 4096⟩
  | 0x60 => some ⟨3, false, true, fun b => 8 < b.length && b.length ≤ 4104⟩
  | 0x61 => some ⟨3, true, false, fun b => b.length == 8 + 32 * leAt b 0 2 && 1 ≤ leAt b 0 2 && leAt b 0 2 ≤ 128⟩
  | 0x62 => fixedMsg 3 true false 1488
  | _ => none

/-- Why a whole message is discarded (R408), 0 when it is not: 1 unknown type, 2 channel or direction, 3 length. -/
def State.badReason (s : State) (v : Nat) (m : Msg) : Nat :=
  match msgKind m.mtype.toNat with
  | none => 1
  | some q =>
    if q.vc ≠ v ∨ !(if s.isT then q.up else q.down) then 2
    else if !q.lenOk m.body ∨ 4264 < m.body.length then 3 else 0

/-- A message is discarded (R408). -/
def State.badMsg (s : State) (k mtype reason : Nat) : State :=
  let w := BitVec.ofNat 32 (fieldAt reason 24 3 + fieldAt mtype 16 8 + k)
  let s := { s with ul := { s.ul with badMsg := satInc s.ul.badMsg, lastBad := w } }
  s.stickNote 2 0 0x5604 (le 1 k ++ le 1 mtype ++ le 1 reason)

/-- A whole message of `n` flits joins the delivered messages of its channel, or is discarded (R408). -/
def State.deliverMsg (s : State) (k v n : Nat) (m : Msg) : State :=
  let l := s.link k
  let r := l.rx.getD v default
  let why := s.badReason v m
  if why ≠ 0 then s.badMsg k m.mtype.toNat why
  else s.setLink k { l with rx := l.rx.set v { r with queue := r.queue ++ [(n, m)] } }

/-- The flits in a channel's message queue: those of the delivered messages and of the open one. -/
def RxVc.held (r : RxVc) : Nat := (r.queue.map (·.1)).sum + r.openFlits

/-- The open message of a receive side. -/
def RxVc.opened (r : RxVc) (o : Option (Byte × List Byte)) (n : Nat) : RxVc := { r with openMsg := o, openFlits := n }

/-- A flit joins the message queue of channel `v`: it opens, continues or completes a message, or is a message of its own;
the open message that a new one cuts off is discarded first (R407, R408, R436). -/
def State.assemble (s : State) (k v : Nat) (f : TxFlit) : State :=
  let l := s.link k
  let r := l.rx.getD v default
  let put (o : Option (Byte × List Byte)) (n : Nat) : State := s.setLink k { l with rx := l.rx.set v (r.opened o n) }
  if f.inserted then s.deliverMsg k v 1 ⟨f.mtype, f.payload⟩
  else if f.first then
    let o := if f.last then none else some (f.mtype, f.payload)
    let t := put o (if f.last then 0 else 1)
    let t :=
      match r.openMsg with
      | some (m, _) => t.badMsg k m.toNat 5
      | none => t
    if f.last then t.deliverMsg k v 1 ⟨f.mtype, f.payload⟩ else t
  else
    match r.openMsg with
    | none => s.badMsg k f.mtype.toNat 4
    | some (m, p) =>
      if f.last then (put none 0).deliverMsg k v (r.openFlits + 1) ⟨m, p ++ f.payload⟩
      else put (some (m, p ++ f.payload)) (r.openFlits + 1)

/-- MESSAGE_DELIVERY (R407, R408, R425, R436): one flit moves from the receive buffer of a channel into its message queue,
or is dropped where that is full (R45); its credit becomes pending. -/
def execMessageDelivery (k : BitVec 6) (vc : BitVec 2) (s : State) : Host.Outcome State Fault Refusal :=
  let l := s.link k.toNat
  let v := vc.toNat
  let r := l.rx.getD v default
  .next (
    match r.buf with
    | [] => s
    | f :: rest =>
      let r := { r with buf := rest, credits := r.credits + 1 }
      if r.held < Config.rxDepth vc then (s.setLink k.toNat { l with rx := l.rx.set v r }).assemble k.toNat v f
      else s.setLink k.toNat { l with rx := l.rx.set v { r with drops := satInc r.drops } })

/-- TUL_STATE_READ (R442): the read of TUL_STATE_k latches the rest of the link's block. -/
def State.latchLink (s : State) (k : Nat) (block : Tab Word) : State :=
  let l := s.link k
  s.setLink k { l with latch := block }

end Sys2Proof.Machine
end

