-- ==== Sys2Proof/Machine/Recorder.lean ====
section
/-! DEFINITION. The event recorder (chapter 15, R489 to R504): the retention ring of Exfin-D, the buffer, odometer, head
and ring of Exfin-T, its flash operations, and the read of a record. -/

namespace Sys2Proof.Machine

/-- `n` bytes of flash from address `a` on. -/
def State.flashBytes (s : State) (a n : Nat) : List Byte := Tab.slice flashErased s.flash a n

/-- Program bytes at `a`. -/
def State.flashPut (s : State) (a : Nat) (l : List Byte) : State :=
  { s with flash := Tab.setAll flashErased s.flash a l }

/-- Erase the bytes from `a` up to `b`. -/
def State.flashErase (s : State) (a b : Nat) : State :=
  { s with flash := s.flash.filter fun c => decide (c.1 < a ∨ b ≤ c.1) }

/-- Where the NV slot's validity sector lies (R87). -/
def validBase : Nat := 0x01000000

/-- The flash device after the NV steps before `n` (R89): steps 1 to 4 and 6. -/
def State.nvSteps (s : State) (n : Nat) : State :=
  let im := s.ld.shadow
  let cnt := s.tray.nvCount.toNat + 1
  let d := im.num 0x18 8
  let s := if 1 < n then s.flashErase validBase (validBase + 0x1000) else s
  let s := if 2 < n then s.flashPut (validBase + 0x40) (le 4 0x4F4B4D42 ++ le 4 cnt) else s
  let s := if 3 < n then s.flashErase 0 ((im.num 0x10 4 + 4095) / 4096 * 4096) else s
  let s := if 4 < n then s.flashPut 0 (im.bytes 0 (im.num 0x10 4)) else s
  if 6 < n then
    s.flashPut validBase (le 4 0x564B4D42 ++ le 4 (im.num 0x10 4) ++ le 8 d ++ le 8 (2 ^ 64 - 1 - d) ++ le 4 cnt ++
      le 4 (2 ^ 32 - 1 - cnt % 2 ^ 32))
  else s

/-- An NV write that a reset or a power failure cuts short (R87, R502): the validity sector is erased at least, VALID is not
programmed, how many steps are done is a free value (notes/assumptions/3), and the write counts once OPEN was programmed. -/
def State.nvCut (s : State) : State :=
  if s.ld.st ≠ 4 then s
  else
    let n := 2 + (s.free 8).toNat % 5
    let t := (s.nvSteps n).freed
    { t with tray := { t.tray with nvCount := if 2 < n then t.tray.nvCount + 1 else t.tray.nvCount } }

/-- Change the recorder. -/
def State.setEvr (s : State) (r : Recorder) : State := { s with evr := r }

/-- Where the areas of Table 15-6 begin. -/
def odoBase : Nat := 0x01010000
def headBase : Nat := 0x01020000
def ringBase : Nat := 0x010A0000
def headPlaces : Nat := 16384
def ringPlaces : Nat := 16896

/-- The place at flash address `a` is empty: its CODE reads 0xFFFF (R497). -/
def State.placeEmpty (s : State) (a : Nat) : Bool := leAt (s.flashBytes a 2) 0 2 == 0xFFFF

/-- Odometer entry `i` (0 to 127 sector A, 128 to 255 sector B). -/
def State.odoBytes (s : State) (i : Nat) : List Byte := s.flashBytes (odoBase + 32 * i) 32

/-- An odometer entry is valid when its complement agrees (R499). -/
def odoValid (b : List Byte) : Bool := b.drop 16 == (b.take 16).map (~~~ ·)

/-- A place of the odometer reads erased. -/
def odoErased (b : List Byte) : Bool := b.all (· == 0xFF)

/-- The order of writing: a sector that is not full was written after one that is (R499); the later position breaks a tie
of PCYC (R500). -/
def State.odoRank (s : State) (i : Nat) : Nat :=
  let open_ := (List.range 128).any fun j => odoErased (s.odoBytes (128 * (i / 128) + j))
  i + if open_ then 256 else 0

/-- The valid entry with the highest PCYC, the later one of a tie: its index. -/
def State.odoLatest (s : State) : Option Nat :=
  (List.range 256).foldl (fun best i =>
    if odoValid (s.odoBytes i) then
      match best with
      | none => some i
      | some b =>
        let p := leAt (s.odoBytes i) 0 4
        let q := leAt (s.odoBytes b) 0 4
        if q < p ∨ (q = p ∧ s.odoRank b < s.odoRank i) then some i else best
    else best) none

/-- The place of the next entry after index `i`: the next erased place of its sector, else the first of the other. -/
def State.odoNext (s : State) (i : Nat) : Nat :=
  let lo := 128 * (i / 128)
  match (List.range 128).find? fun j => decide (i % 128 < j) && odoErased (s.odoBytes (lo + j)) with
  | some j => lo + j
  | none => (lo + 128) % 256

/-- The bytes of an odometer entry (R499). -/
def Recorder.odoEntry (r : Recorder) : List Byte :=
  let b := le 4 r.pcyc.toNat ++ le 4 r.hours.toNat ++ le 4 r.ovf.toNat ++ le 4 0
  b ++ b.map (~~~ ·)

/-- Write an odometer entry; one that falls due while the other sector's erase runs is owed until it ends (R499). -/
def State.odoWrite (s : State) : State :=
  if s.evr.odoErase then s.setEvr { s.evr with odoOwed := true }
  else
    let p := s.evr.odoPos % 256
    let t := s.flashPut (odoBase + 32 * p) s.evr.odoEntry
    t.setEvr { t.evr with odoPos := (p + 1) % 256, odoErase := p % 128 == 127 }

/-- Binary search for the first empty place of the head (R500), at most `n` halvings of the interval `lo` to `hi`. -/
def State.headSearch (s : State) : Nat → Nat → Nat → Nat
  | 0, lo, _ => lo
  | n + 1, lo, hi =>
    if hi ≤ lo then lo
    else
      let m := (lo + hi) / 2
      if s.placeEmpty (headBase + 32 * m) then s.headSearch n lo m else s.headSearch n (m + 1) hi

/-- The first empty place of the ring that follows a written one; place 0 of an empty ring (R500). -/
def State.ringSearch (s : State) : Nat :=
  ((List.range ringPlaces).find? fun i =>
    s.placeEmpty (ringBase + 32 * i) && !s.placeEmpty (ringBase + 32 * ((i + ringPlaces - 1) % ringPlaces))).getD 0

/-- B_PF, MARK and PF_SHORT (R503). -/
def Recorder.figures (r : Recorder) (tPP tSUS : Nat) : Recorder :=
  let b := (10000 - max tPP tSUS - tPP) / tPP
  { r with bPf := BitVec.ofNat 8 (min 255 b), mark := BitVec.ofNat 9 (if b < 2 then 8 else min 504 (8 * (b - 1))),
           pfShort := r.pfShort || decide (b < 2) }

/-- RECORDER_STARTUP_SCAN (R500, R503): odometer, head and ring are read, the power-up entry is written, READY is set. -/
def execRecorderStartupScan (s : State) : Host.Outcome State Fault Refusal :=
  .next (
    if s.isT && s.sys.phase == 3 && s.nb.flashReady && !s.sys.scanDone then
      let r := match s.odoLatest with
        | some i =>
          let b := s.odoBytes i
          { s.evr with pcyc := BitVec.ofNat 32 (leAt b 0 4 + 1), hours := BitVec.ofNat 32 (leAt b 4 4)
                       ovf := BitVec.ofNat 32 (leAt b 8 4), odoPos := s.odoNext i
                       odoErase := decide (s.odoNext i % 128 = 0) && !odoErased (s.odoBytes (s.odoNext i)) }
        | none =>
          { s.evr with pcyc := 1, hours := 0, ovf := 0, odoNew := true
                       odoPos := ((List.range 256).find? fun i => odoErased (s.odoBytes i)).getD 0
                       odoErase := !((List.range 256).any fun i => odoErased (s.odoBytes i)) }
      let s := (s.setEvr r).odoWrite
      let h := s.headSearch 15 0 headPlaces
      let w := if h = headPlaces then s.ringSearch else 0
      let r := { s.evr with headN := BitVec.ofNat 15 h, wptr := BitVec.ofNat 15 w, ready := true }
      let s := { s with sys := { s.sys with scanDone := true } }
      (s.setEvr (r.figures s.nb.tPP.toNat s.nb.tSUS.toNat)).note 0x1007 (le 2 s.sys.resetCount.toNat ++ le 4 s.evr.pcyc.toNat)
    else s)

/-- Erased places ahead of WPTR (R498), counted up to `n`. -/
def State.erasedAhead (s : State) : Nat → Nat → Nat
  | 0, _ => 0
  | n + 1, i => if s.placeEmpty (ringBase + 32 * (i % ringPlaces)) then s.erasedAhead n (i + 1) + 1 else 0

/-- The ring sector that an erase is due for, when fewer than 512 erased places lie ahead (R498). -/
def State.ringDue (s : State) : Option Nat :=
  let n := s.erasedAhead 512 s.evr.wptr.toNat
  if s.evr.headN.toNat = headPlaces ∧ n < 512 then some ((s.evr.wptr.toNat + n) % ringPlaces / 128) else none

/-- Write places in order to the head and then the ring (R497). -/
def State.storePlaces (s : State) : List (List Byte) → State
  | [] => s
  | p :: ps =>
    if s.evr.headN.toNat < headPlaces then
      let t := s.flashPut (headBase + 32 * s.evr.headN.toNat) p
      (t.setEvr { t.evr with headN := t.evr.headN + 1 }).storePlaces ps
    else
      let t := s.flashPut (ringBase + 32 * s.evr.wptr.toNat) p
      (t.setEvr { t.evr with wptr := BitVec.ofNat 15 ((t.evr.wptr.toNat + 1) % ringPlaces) }).storePlaces ps

/-- The places that the next page program covers: up to the end of the 256-byte page, of the head, of the flush. -/
def Recorder.pageRoom (r : Recorder) : Nat :=
  if r.headN.toNat < headPlaces then min r.flushLeft (8 - r.headN.toNat % 8) else min r.flushLeft (8 - r.wptr.toNat % 8)

/-- A trigger of a flush stands (R501). -/
def State.flushWanted (s : State) (older60s : Bool) : Bool :=
  let r := s.evr
  !r.buf.isEmpty && (r.urgentPend || (r.mark != 0 && decide (r.mark.toNat ≤ r.buf.length)) || older60s || r.flushReq)

/-- RECORDER_FLUSH (R498, R501): in a flash slot the recorder begins a flush that is due, and starts its next operation: a
ring-sector erase where fewer than 512 erased places lie ahead, else one page program. -/
def execRecorderFlush (older60s : Bool) (s : State) : Host.Outcome State Fault Refusal :=
  .next (
    if s.isT && s.evr.ready && !s.pwr.pf && s.running && s.evr.op.isNone then
      let s := if s.evr.flushLeft = 0 ∧ s.flushWanted older60s then
          s.setEvr { s.evr with flushLeft := s.evr.buf.length, urgentPend := false, flushReq := false }
        else s
      match s.ringDue with
      | some k => s.setEvr { s.evr with op := some .recErase, opN := k }
      | none =>
        if s.evr.flushLeft = 0 then s else s.setEvr { s.evr with op := some .recProgram, opN := s.evr.pageRoom }
    else s)

/-- Records a ring sector holds. -/
def State.sectorHeld (s : State) (k : Nat) : Nat :=
  ((List.range 128).filter fun i => !s.placeEmpty (ringBase + 32 * (128 * k + i))).length

/-- An operation of the recorder succeeded. -/
def State.opDone (s : State) (op : FlashOp) : State :=
  let n := s.evr.opN
  let s := s.setEvr { s.evr with op := none, opN := 0 }
  match op with
  | .recProgram =>
    let t := s.storePlaces (s.evr.buf.take n)
    t.setEvr { t.evr with buf := t.evr.buf.drop n, flushLeft := t.evr.flushLeft - n }
  | .recErase =>
    let h := s.sectorHeld n
    let t := s.flashErase (ringBase + 4096 * n) (ringBase + 4096 * (n + 1))
    (t.setEvr { t.evr with ovf := satAdd t.evr.ovf h }).odoWrite
  | .odoProgram => s.odoWrite
  | .odoErase =>
    let other := if s.evr.odoPos < 128 then 0 else 0x1000
    let t := s.flashErase (odoBase + other) (odoBase + other + 0x1000)
    let t := t.setEvr { t.evr with odoErase := false }
    if t.evr.odoOwed then (t.setEvr { t.evr with odoOwed := false }).odoWrite else t
  | .nvStep _ => s

/-- Step and address of a failed operation (EVR_FLASH_FAIL). -/
def State.opAddr (s : State) (op : FlashOp) : Nat × Nat :=
  match op with
  | .recProgram => (1, if s.evr.headN.toNat < headPlaces then headBase + 32 * s.evr.headN.toNat
                       else ringBase + 32 * s.evr.wptr.toNat)
  | .recErase => (2, ringBase + 4096 * s.evr.opN)
  | .odoProgram => (3, odoBase + 32 * s.evr.odoPos)
  | .odoErase => (3, odoBase + if s.evr.odoPos < 128 then 0 else 0x1000)
  | .nvStep _ => (0, 0)

/-- An operation of the recorder fails (R501). -/
def State.opFailed (s : State) (op : FlashOp) : State :=
  let (step, a) := s.opAddr op
  let t := s.setEvr { s.evr with op := none, opN := 0, flushLeft := 0, flashFail := true }
  (t.stick 2 7).note 0x100A (le 1 step ++ le 4 a)

/-- FLASH_OPERATION_DONE (R466, R501): status polling ends an operation of the recorder, or it fails on time; the steps of an
NV write end with NV_WRITE_COMPLETE. -/
def execFlashOperationDone (op : FlashOp) (ok : Bool) (s : State) : Host.Outcome State Fault Refusal :=
  .next (
    if s.evr.op ≠ some op then s
    else if ok then s.opDone op
    else s.opFailed op)

/-- ODOMETER_ENTRY (R499, R514): after each 1,024 units of HOURS an entry is programmed; the step stands for HOURS reaching the
next multiple of 1,024 (notes/assumptions/9). -/
def execOdometerEntry (s : State) : Host.Outcome State Fault Refusal :=
  .next (
    if s.isT && s.evr.ready && !s.pwr.pf && s.running && s.aonRuns && s.evr.op.isNone then
      s.setEvr { s.evr with hours := BitVec.ofNat 32 ((s.evr.hours.toNat / 1024 + 1) * 1024), op := some .odoProgram }
    else s)

/-- ODOMETER_SECTOR_ERASE (R499): the erase of the other odometer sector starts. -/
def execOdometerSectorErase (s : State) : Host.Outcome State Fault Refusal :=
  .next (
    if s.isT && s.evr.odoErase && !s.pwr.pf && s.running && s.evr.op.isNone then
      s.setEvr { s.evr with op := some .odoErase }
    else s)

/-- The unflushed places of the retention ring in order, cut before a record that would not fit whole in 128. -/
def Recorder.toFlush (r : Recorder) : List (List Byte) := ((r.ring.filter fun p => !p.2).map (·.1)).take 128

/-- A trigger of R494 stands. -/
def State.recTrigger (s : State) (older1s : Bool) : Bool :=
  s.evr.urgentPend || decide (32 ≤ s.evr.unflushed) || (older1s && decide (0 < s.evr.unflushed)) || s.evr.flushReq

/-- REC_FLUSH_SEND (R494): unflushed records leave in a REC_FLUSH on BULK when the link is UP and the queue has room. -/
def execRecFlushSend (older1s : Bool) (s : State) : Host.Outcome State Fault Refusal :=
  let l := s.evr.toFlush
  .next (
    if s.isD && s.running && (s.link 0).tr.state == 4 && !s.sendFull 0 3 && s.recTrigger older1s && !l.isEmpty then
      let t := s.send 0 3 0x61 (le 2 l.length ++ le 6 0 ++ l.flatten)
      t.setEvr { t.evr with ring := t.evr.ring.map fun p => (p.1, true), urgentPend := false, flushReq := false }
    else s)

/-- REC_FLUSH (R495): the tray buffers a die's records in arrival order, each head with its continuations, or drops it. -/
def takePlaces : Nat → Recorder → List (List Byte) → Recorder
  | 0, r, _ => r
  | _, r, [] => r
  | n + 1, r, p :: ps =>
    let c := bits (leAt p 2 1) 3 2
    takePlaces n (r.push true (p :: ps.take c)) (ps.drop c)

/-- REC_FLUSH: also marks an urgent record among them. -/
def execRecFlush (k : BitVec 6) (places : List (List Byte)) (s : State) : Host.Outcome State Fault Refusal :=
  let u := places.any fun p => leAt p 0 2 != 0 && s.urgent.testBit (leAt p 0 2 / 4096)
  .next (
    if s.isT && s.running then
      let t := s.take k.toNat 3 0x61
      t.setEvr { takePlaces places.length t.evr places with urgentPend := t.evr.urgentPend || u }
    else s)

/-- EVR_SEL_WRITE (R504): a read of one place starts; 17 bits hold AREA and PLACE. -/
def execEvrSelWrite (a : Acc) (s : State) : Host.Outcome State Fault Refusal :=
  .next (s.written a 0xB0040 1 fun s =>
    s.setEvr { s.evr with sel := BitVec.ofNat 17 (a.data.toNat % 2 ^ 15 + fieldAt (bits a.data.toNat 17 16) 15 2), held := none })

/-- The place that EVR_SEL names, when the area exists in the grade and holds it (R504). -/
def State.selected (s : State) : Option (List Byte) :=
  let area := bits s.evr.sel.toNat 16 15
  let place := s.evr.sel.toNat % 2 ^ 15
  let n := s.evr.ring.length
  if area = 0 then
    if s.isT then some (s.evr.buf.getD place (List.replicate 32 0))
    else if 128 ≤ place then none
    else
      let back := (s.evr.ringWr.toNat + 127 - place) % 128
      some (if back < n then (s.evr.ring.getD (n - 1 - back) ([], true)).1 else List.replicate 32 0)
  else if s.isT && s.nb.flashReady then
    if area = 1 ∧ place < headPlaces then some (s.flashBytes (headBase + 32 * place) 32)
    else if area = 2 ∧ place < ringPlaces then some (s.flashBytes (ringBase + 32 * place) 32)
    else none
  else none

/-- EVR_READ_DONE (R504): the selected record is held and READY rises; a place that does not exist never becomes READY. -/
def execEvrReadDone (s : State) : Host.Outcome State Fault Refusal :=
  .next (if s.running then s.setEvr { s.evr with held := if s.evr.held.isSome then s.evr.held else s.selected } else s)

/-- Boundary work of the recorder: EVR_DROP once room has returned (R493, R495). -/
def boundaryRecorder (s : State) : State :=
  let room := if s.isT then decide (s.evr.buf.length < 512) else decide (s.evr.unflushed < 128)
  if s.evr.dropPend && room then
    (s.setEvr { s.evr with dropPend := false }).note 0x1009 (le 2 (shown16 s.evr.drop))
  else s

/-- The power-fail flush (R502): a page program in progress finishes; the odometer entry, unless it is skipped, and the
records buffered up to the signal are written. No erase is made. -/
def State.pfFlush (s : State) : State :=
  match s.evr.pfLeft with
  | none => s
  | some n =>
    let m := if s.evr.op = some .recProgram then s.evr.opN else 0
    let s := if s.evr.op = some .recProgram then s.opDone .recProgram
             else if s.evr.op = some .odoProgram then s.opDone .odoProgram else s
    let s := if s.evr.odoErase then s.setEvr { s.evr with odoSkip := true } else s.odoWrite
    let t := s.storePlaces (s.evr.buf.take (n - m))
    t.setEvr { t.evr with buf := t.evr.buf.drop (n - m), flushLeft := 0, pfLeft := none, pfDone := true }

/-- POWER_FAIL_FLUSH_DONE (R502). -/
def execPowerFailFlushDone (s : State) : Host.Outcome State Fault Refusal := .next s.pfFlush

end Sys2Proof.Machine
end

