-- ==== Sys2Proof/Machine/Startup.lean ====
section
/-! DEFINITION. Resets, straps, fuses, self-test and the start-up phases up to STORE (chapters 16, 17 and 18). -/

namespace Sys2Proof.Machine

/-- Fuse words read in phase FUSE (R559). -/
def fuseWords : Nat := 137

/-- The maker key digest area, words 32 to 39, is not all zeros (ROLE_CFG.MAKER_SET). -/
def State.makerSet (s : State) : Bool := (List.range 8).any fun i => s.fuseWord (32 + i) != 0

/-- Repair entry `e` of the fuse words (R519, Table 18-8). -/
def State.repairEntry (s : State) (e : Nat) : Nat :=
  let b := 1280 + 24 * e
  ((s.fuseWord (b / 32)).toNat + (s.fuseWord (b / 32 + 1)).toNat * 2 ^ 32) / 2 ^ (b % 32) % 2 ^ 24

/-- The repair entries in use. -/
def State.repairsUsed (s : State) : List Nat := (List.range 128).filter fun e => s.repairEntry e != 0

/-- A fuse entry marks macro `mac` of memory `mem`. -/
def State.hardRepaired (s : State) (mem mac : Nat) : Bool :=
  s.repairsUsed.any fun e => s.repairEntry e % 64 == mem && bits (s.repairEntry e) 14 6 == mac

/-- STAGGER in force (R521): BIST_CFG, with the fuse record's value at reset. -/
def State.stagger (s : State) : Nat := min 8 (max 1 (s.rwd 0xA1000 (s.fd 0x15 1 1) % 16))

/-- What the block reset leaves (R526, R549): every field at its reset value, but for the always-on domain, the levels of
inputs, the flash and memory devices, and the queue of waiting commands. -/
def State.blockReset (s : State) : State :=
  let s := s.nvCut
  let r := State.resetOf s.sys.build
  { r with
    sys := { r.sys with
      aonHeld := s.sys.aonHeld, corePg := s.sys.corePg, pgRose := s.sys.pgRose, firstRelease := s.sys.firstRelease
      strapErr := s.sys.strapErr, resetCount := s.sys.resetCount, fresh := s.sys.fresh, powerup := s.sys.powerup }
    pwr := { r.pwr with pfIn := s.pwr.pfIn, pdReq := s.pwr.pdReq }
    heat := { r.heat with lpReq := s.heat.lpReq, lpAck := s.heat.lpReq }
    roles := { r.roles with nonces := s.roles.nonces }
    evr := if s.isT then { r.evr with hours := s.evr.hours, pcyc := s.evr.pcyc }
           else { r.evr with sq := s.evr.sq, hours := s.evr.hours, pcyc := s.evr.pcyc, ring := s.evr.ring,
                             ringWr := s.evr.ringWr, dropPend := s.evr.dropPend }
    test := { s.test with busy := false, queued := false }
    flash := s.flash
    lp5 := s.lp5
    pending := s.pending }

/-- What a reset of the always-on domain leaves (R479, R491, R493, R526): its counts start from 0 and the retention ring is
empty. -/
def State.aonReset (s : State) : State :=
  { s with
    sys := { s.sys with aonHeld := true, firstRelease := true, resetCount := 0, strapErr := false }
    roles := { s.roles with nonces := 0 }
    evr := if s.isT then s.evr
           else { s.evr with sq := 0, hours := 0, pcyc := 0, ring := [], ringWr := 0, dropPend := false } }

/-- AON_RESET (R526): AON_RST_N falls, or is released. -/
def execAonReset (release : Bool) (s : State) : Host.Outcome State Fault Refusal :=
  .next (if release then { s with sys := { s.sys with aonHeld := false } } else s.aonReset)

/-- BLOCK_RESET_ASSERT (R526): RST_N falls and acts at once. -/
def execBlockResetAssert (s : State) : Host.Outcome State Fault Refusal := .next s.blockReset

/-- CORE_PG_CHANGE (R526). -/
def execCorePgChange (level : Bool) (s : State) : Host.Outcome State Fault Refusal :=
  .next { s with sys := { s.sys with corePg := level, pgRose := s.sys.pgRose || (level && !s.sys.corePg) } }

/-- A release of RST_N with the straps as sampled (R269, R416, R526, R548): a power-up sets the reset count to 0, and every
release, this one included, increases it. -/
def State.released (s : State) (tray x2 : Bool) (pkg : BitVec 4) (die : BitVec 3) (lp5 : BitVec 2) : State :=
  let up := s.sys.pgRose || s.sys.firstRelease
  let bad := tray != s.isT
  let s := { s with
    sys := { s.sys with
      rstHeld := false, pgRose := false, firstRelease := false, powerup := up, strapErr := bad, x2 := x2, pkg := pkg
      die := die, lp5Grade := lp5, resetCount := (if up then 0 else s.sys.resetCount) + 1
      phase := if bad then 0 else 1 }
    evr := if up && s.isD then { s.evr with pcyc := s.evr.pcyc + 1 } else s.evr }
  let s := s.reseed 0
  if bad || s.isT then s else s.note 0x1007 (le 2 s.sys.resetCount.toNat ++ le 4 s.evr.pcyc.toNat)

/-- RESET_RELEASE (R526, R548, R550): straps that changed inside their window sample as free values. -/
def execResetRelease (gradeSel x2 : Bool) (pkg : BitVec 4) (die : BitVec 3) (lp5 : BitVec 2) (stable : Bool) (s : State) :
    Host.Outcome State Fault Refusal :=
  .next (
    if !s.sys.rstHeld || s.sys.aonHeld then s
    else if stable then s.released gradeSel x2 pkg die lp5
    else
      let f := s.free 11
      s.freed.released (f.getLsbD 0) (f.getLsbD 1) (f.extractLsb' 2 4) (f.extractLsb' 6 3) (f.extractLsb' 9 2))

/-- FUSE_WORD_READ (R559): words 0 to 136 in ascending order; one not answered in time is taken as 0. -/
def execFuseWordRead (answer : Option Word) (s : State) : Host.Outcome State Fault Refusal :=
  .next (
    if s.sys.phase = 1 ∧ s.fuse.next < fuseWords then
      { s with fuse := { s.fuse with map := Tab.set 0 s.fuse.map s.fuse.next (answer.getD 0), next := s.fuse.next + 1 } }
    else s)

/-- FUSE_PHASE_END (R94, R527, R560, R561): the fuse words are in, the digest of the fuse record stands, BIST begins, and
path 10 holds maker while no maker digest is set (R563). -/
def execFusePhaseEnd (us : Word) (s : State) : Host.Outcome State Fault Refusal :=
  .next (
    if s.sys.phase = 1 ∧ fuseWords ≤ s.fuse.next then
      let d := crc64 s.fdBytes
      let s := { s with
        sys := { s.sys with phase := 2, pht := Tab.set 0 s.sys.pht 1 us }
        ld := { s.ld with digest := d, digestC := ~~~ d }
        bist := { s.bist with busy := true, target := 0 } }
      if s.makerSet then s
      else s.setPath 10 { s.path 10 with role := 3, roleC := 0 }
    else s)

/-- The BIST group of macro `mac` of memory `mem` (R517). -/
def bistGroup (mem mac : Nat) : Nat := if mem = 3 ∨ mem = 7 ∨ mem = 8 then mac % 8 else 0

/-- The groups that run: the first STAGGER groups not done (R521). -/
def State.bistRunning (s : State) : List Nat :=
  ((List.range 8).filter fun g => !s.bist.done.getLsbD g).take s.stagger

/-- Does the spare assignment of R518 cover every failing cell? Two spare rows, then one spare column. -/
def softCovers : List (BitVec 12 × BitVec 8) → List (BitVec 12) → Option (BitVec 8) → Bool
  | [], _, _ => true
  | (r, c) :: t, rows, col =>
    if rows.contains r then softCovers t rows col
    else if rows.length < 2 then softCovers t (r :: rows) col
    else
      match col with
      | none => softCovers t rows (some c)
      | some d => d == c && softCovers t rows col

/-- One failing macro is repaired or marked unrepaired (R518). -/
def State.bistMacro (s : State) (verify : Bool) (m : MacroResult) : State :=
  if m.cells.isEmpty then s
  else if !verify && softCovers m.cells [] none then
    let hard := s.hardRepaired m.mem.toNat m.mac.toNat
    let b := s.bist
    { s with bist := { b with
        memRep := Tab.upd 0 b.memRep m.mem.toNat satInc
        repaired := if hard then b.repaired else satInc b.repaired
        soft := if hard then b.soft else b.soft ++ [(m.mem, m.mac)]
        verify := setBit b.verify (bistGroup m.mem.toNat m.mac.toNat) true } }
  else
    let b := s.bist
    let s := { s with bist := { b with memUnrep := Tab.upd 0 b.memUnrep m.mem.toNat satInc, unrepaired := satInc b.unrepaired } }
    ((s.stick 3 4).stick 3 5).event 0x6008 (le 1 m.mem.toNat ++ le 2 m.mac.toNat) (b.caller % 4) (b.caller / 4)

/-- MEMORY_BIST_GROUP_DONE (R517, R518, R521): a running group ends its March; with repairs it runs again to verify them,
and what still fails then is unrepaired. -/
def execMemoryBistGroupDone (group : BitVec 3) (failing : List MacroResult) (s : State) : Host.Outcome State Fault Refusal :=
  let g := group.toNat
  .next (
    if s.bist.busy && s.bist.target != 4 && s.bistRunning.contains g then
      let again := s.bist.verify.getLsbD g
      let mine := failing.filter fun m => bistGroup m.mem.toNat m.mac.toNat == g
      let t := mine.foldl (State.bistMacro · again ·) s
      if !again && t.bist.verify.getLsbD g then t
      else { t with bist := { t.bist with done := setBit t.bist.done g true } }
    else s)

/-- The failures of an analogue BIST are recorded (R522). -/
def State.abistRecord (s : State) (failures : List AbistFail) : State :=
  failures.foldl (fun s f =>
    let i := f.check.toNat
    let w := BitVec.ofNat 32 (2 ^ 31 + fieldAt f.chan.toNat 24 7 + f.value.toNat)
    let r := s.bist.abistRes
    let s := { s with bist := { s.bist with abistRes := if Tab.get 0 r i = 0 then Tab.set 0 r i w else r } }
    (s.stick 3 6).event 0x6009 (le 1 i ++ le 1 f.chan.toNat ++ le 2 f.value.toNat) (s.bist.caller % 4) (s.bist.caller / 4)) s

/-- ANALOGUE_BIST_DONE (R522). -/
def execAnalogueBistDone (failures : List AbistFail) (s : State) : Host.Outcome State Fault Refusal :=
  .next (
    if s.bist.busy && (s.sys.phase == 2 || s.bist.target == 4) && !s.bist.abistDone then
      let t := { s with bist := { s.bist with abistRes := [], abistDone := true } }.abistRecord failures
      t
    else s)

/-- The BIST_DONE record. -/
def State.bistRecord (s : State) : State :=
  let b := s.bist
  s.event 0x6007 (le 1 b.target.toNat ++ le 1 b.done.toNat ++ le 1 b.repaired.toNat ++ le 1 b.unrepaired.toNat)
    (b.caller % 4) (b.caller / 4)

/-- BIST_PHASE_END (R527, R528, R532, R536): memory and analogue BIST are done; heats begin under factory defaults, and a
region whose LP_REQ is 1 starts dormant. -/
def execBistPhaseEnd (us : Word) (s : State) : Host.Outcome State Fault Refusal :=
  .next (
    if s.sys.phase = 2 ∧ s.bist.done = 0xFF ∧ s.bist.abistDone then
      let s := s.bistRecord
      { s with
        sys := { s.sys with phase := if s.isT then 3 else 5, pht := Tab.set 0 s.sys.pht 2 us }
        bist := { s.bist with busy := false, abistDone := false }
        ld := { s.ld with fdReason := if s.isD then 1 else s.ld.fdReason }
        heat := { s.heat with dormant := s.heat.lpReq }
        integ := { s.integ with xingDorm := if s.isD then s.heat.lpReq.setWidth 40 else (s.heat.lpReq.setWidth 40) <<< 32 } }
    else s)

/-- SFDP_DISCOVERY (R465, R500): the flash device is accepted, or refused with SFDP_BAD; a refused device ends the
recorder's scan. -/
def execSfdpDiscovery (dev : SfdpResult) (s : State) : Host.Outcome State Fault Refusal :=
  let ok := dev.signature && decide (25 ≤ dev.densLog2.toNat) && dev.erase4k
  .next (
    if s.isT && s.sys.phase == 3 && !s.sys.sfdpDone then
      { s with
        sys := { s.sys with sfdpDone := true, scanDone := !ok }
        nb := { s.nb with flashReady := ok, sfdpBad := !ok, mode8d := ok && dev.xspi, densLog2 := dev.densLog2
                          susp := dev.eraseSuspend, tPP := dev.tPP, tSUS := dev.tSUS } }
    else s)

/-- LPDDR5X_INIT (R529, R566): initialisation ends; a failing step, or speed grade 3, sets MEM_FAIL with its record. -/
def execLpddr5xInit (failStep : Byte) (s : State) : Host.Outcome State Fault Refusal :=
  .next (
    if s.isT && s.sys.phase == 3 && !s.sys.lp5Done then
      let s := { s with sys := { s.sys with lp5Done := true } }
      if failStep = 0 ∧ s.sys.lp5Grade ≠ 3 then s
      else { s with pwr := { s.pwr with memFail := true } }.note 0x7006 (le 1 failStep.toNat)
    else s)

/-- BIST_RUN (R520): the target is free to be isolated. -/
def State.bistTargetOk (s : State) (target link : Nat) (nodeIdle : Bool) : Bool :=
  match target with
  | 1 => s.isD && !(s.trc.capEn.getD (s.img 6 0 4 0).bodd) && !s.trc.dumping
  | 2 => s.isT && nodeIdle
  | 3 => s.hasLink link && (s.link link).tr.state != 4 && (s.link link).replay.isEmpty
  | 4 => true
  | _ => false

/-- BIST_RUN's effect; none where R520 refuses it. TE_MODEL.STATE NONE or FAULT is 0 or 5. -/
def cmdBistRun (p : Post) (s : State) : Option State :=
  let t := p.a0.toNat % 8
  let k := p.a1.toNat % 64
  if !s.bist.busy && s.bistTargetOk t k (s.te.st == 0 || s.te.st == 5) then
    some { s with bist := { s.bist with
      busy := true, target := BitVec.ofNat 3 t, link := BitVec.ofNat 6 k, done := 0, repaired := 0, unrepaired := 0
      verify := 0, finishing := false, abistDone := false, caller := p.role.toNat + 4 * p.path.toNat } }
  else none

/-- BIST_ABORT's effect (R520): the BIST ends at the next heat boundary. -/
def cmdBistAbort (_ : Post) (s : State) : Option State :=
  if s.bist.busy && s.bist.target != 0 then some { s with bist := { s.bist with finishing := true } } else none

/-- The target is re-initialised (R520). -/
def State.bistReinit (s : State) : State :=
  match s.bist.target.toNat with
  | 1 => { s with trc := { s.trc with blocks := [], bad := [] } }
  | 2 => { s with te := { s.te with store := [] } }
  | 3 => let l := s.link s.bist.link.toNat; s.setLink s.bist.link.toNat { l with replay := [], replayAt := none }
  | 4 => { s with sns := { s.sns with pos := 0, first := none, roscOpen := 0, roscHave := 0 } }
  | _ => s

/-- CLK_SENSE's index in Table 1-6 and Table 1-7. -/
def State.senseDom (s : State) : Nat := if s.isT then 29 else 37

/-- Isolation of target 4 stops CLK_SENSE and makes its crossing dormant (R520, Table 16-4). -/
def State.senseIsolated (s : State) (on : Bool) : State :=
  if s.bist.target = 4 then
    { s with sns := { s.sns with stopped := on }, integ := { s.integ with xingDorm := setBit s.integ.xingDorm s.senseDom on } }
  else s

/-- Boundary work of an in-service BIST (R520): isolation begins, or ends after completion or abort. -/
def boundaryBist (s : State) : State :=
  let b := s.bist
  if b.target = 0 then s
  else if b.finishing then
    let t := if b.busy then s.bistReinit else s
    { t.senseIsolated false with bist := { t.bist with busy := false, finishing := false, isolated := false } }
  else if b.busy && !b.isolated then
    { s.senseIsolated true with bist := { s.bist with isolated := true } }
  else s

/-- IN_SERVICE_BIST_DONE (R520): the target's BIST completes, it is recorded, and the target is re-initialised. -/
def execInServiceBistDone (repaired unrepaired : Byte) (failures : List AbistFail) (s : State) :
    Host.Outcome State Fault Refusal :=
  .next (
    if s.bist.busy && s.bist.isolated && s.bist.target != 0 && !s.bist.finishing then
      let s := { s with bist := { s.bist with repaired := repaired, unrepaired := unrepaired } }
      s.oneCycle fun s =>
        let s := if s.bist.target = 4 ∧ !s.bist.abistDone then { s with bist := { s.bist with abistRes := [] } }.abistRecord failures
                 else s
        let s := if unrepaired = 0 then s else (s.stick 3 4).stick 3 5
        let s := s.bistRecord.bistReinit
        { s with bist := { s.bist with busy := false, finishing := true, abistDone := false } }
    else s)

/-- The number of a repair entry for rows of macro `mac` of memory `mem` (R519, worked example). -/
def repairValue (mem : BitVec 6) (mac : BitVec 9) : Nat := mem.toNat + 64 * mac.toNat

/-- The repair area with entries for the soft repairs written into the first free places. -/
def State.repairWant (s : State) : List (Nat × Nat) :=
  ((List.range 128).filter fun e => s.repairEntry e == 0).zip (s.bist.soft.map fun m => repairValue m.1 m.2)

/-- The map bits, ascending, that a burn must program: set in the staged value and not read back as 1 (R562). -/
def State.burnBits (s : State) (area : Nat) : List Nat :=
  if area = 1 then
    s.repairWant.flatMap fun p => ((List.range 24).filter fun i => p.2.testBit i).map fun i => 1280 + 24 * p.1 + i
  else
    let (lo, n) := if area = 2 then (0, 32) else (32, 8)
    (List.range n).flatMap fun w =>
      ((List.range 32).filter fun i => (s.rwd (0xA2000 + 4 * (lo + w)) 0).testBit i && !(s.fuseWord (lo + w)).getLsbD i).map
        fun i => 32 * (lo + w) + i

/-- The words of a burn's area: its first word and their number. -/
def burnArea (area : Nat) : Nat × Nat := if area = 1 then (40, 96) else if area = 2 then (0, 32) else (32, 8)

/-- What the area reads when every bit of the burn holds. -/
def State.burnWant (s : State) (area : Nat) (bits : List Nat) : Tab Word :=
  let (lo, n) := burnArea area
  (List.range n).foldl (fun t i =>
    let w := lo + i
    let have_ := if area = 1 then s.fuseWord w else 0
    let want := bits.foldl (fun v b => if b / 32 = w then setBit v (b % 32) true else v) have_
    Tab.set 0 t w want) []

/-- FUSE_BURN's effect (R519, R523, R562); a burn while one is in progress is refused as well (notes/assumptions/10). -/
def cmdFuseBurn (p : Post) (s : State) : Option State :=
  let area := p.a0.toNat % 4
  let (lo, n) := burnArea area
  let blank := (List.range n).all fun i => s.fuseWord (lo + i) == 0
  if area = 0 ∨ s.fuse.busy then none
  else if area ≠ 1 ∧ !blank then none
  else if area = 1 ∧ 128 - s.repairsUsed.length < s.bist.soft.length then none
  else
    let b := s.burnBits area
    let t := { s with fuse := { s.fuse with
      busy := true, fail := s.fuse.fail, area := BitVec.ofNat 2 area, bits := b, want := s.burnWant area b } }
    some (t.event 0x600A (le 1 area ++ le 1 (if area = 1 then s.bist.soft.length else 0)) p.role.toNat p.path.toNat)

/-- FUSE_BIT_PROGRAM (R562): the next bit is acknowledged, or errs and ends the burn with FAIL. -/
def execFuseBitProgram (err : Bool) (s : State) : Host.Outcome State Fault Refusal :=
  .next (
    match s.fuse.bits with
    | _ :: rest =>
      if !s.fuse.busy then s
      else if err then { s with fuse := { s.fuse with busy := false, fail := true, bits := [], want := [] } }
      else { s with fuse := { s.fuse with bits := rest } }
    | [] => s)

/-- FUSE_BURN_DONE (R523, R562): the area is read back; a difference from what was staged sets FAIL. -/
def execFuseBurnDone (readback : List Word) (s : State) : Host.Outcome State Fault Refusal :=
  .next (
    if s.fuse.busy && s.fuse.bits.isEmpty then
      let (lo, n) := burnArea s.fuse.area.toNat
      let bad := readback != (List.range n).map fun i => Tab.get 0 s.fuse.want (lo + i)
      { s with fuse := { s.fuse with busy := false, fail := s.fuse.fail || bad, want := [] } }
    else s)

end Sys2Proof.Machine
end

