-- ==== Sys2Proof/Machine/Sense.lean ====
section
/-! DEFINITION. The analogue sense front end (R123 to R127): the conversion sequence, ring-oscillator windows, droop
detectors, the analogue sample latched in slot 1, and the bus figures and hold-up abort that share the converter (R538,
R545). -/

namespace Sys2Proof.Machine

/-- Change the front end. -/
def State.setSns (s : State) (x : Sense) : State := { s with sns := x }

/-- SENSE fields (Table 3-7). -/
def State.snf (s : State) (o n : Nat) : Nat := s.img 3 o n 0
def State.nSeq (s : State) : Nat := min 64 (s.snf 0 4)
def State.roscEn (s : State) (r : Nat) : Bool := s.isD && (s.snf 4 4).testBit r
def State.droopTh (s : State) (r : Nat) : Nat := if s.isD then s.snf (0x10 + r) 1 else 0

/-- BUS block fields (Table 17-5). -/
def State.vdiv (s : State) : Nat := s.snf 0xB0 2
def State.iscale (s : State) : Nat := s.snf 0xB2 2
def State.pfMv (s : State) : Nat := s.snf 0xB4 2
def State.huLen (s : State) : Nat := s.snf 0xBA 2
def State.busFlags (s : State) : Nat := s.img 3 0xBC 1 8

/-- Bus voltage in mV and current in mA of a code (R538). -/
def State.busMv (s : State) (c : Nat) : Nat := c * 3 * s.vdiv / 8192
def State.busMa (s : State) (c : Nat) : Nat := c * s.iscale / 256

/-- A comparator code of R540 from a level in mV; 2,560 under factory defaults. -/
def State.busCode (s : State) (mv : Nat) : Nat :=
  if s.user ∧ s.vdiv ≠ 0 then (mv * 8192 + 3 * s.vdiv - 1) / (3 * s.vdiv) else 2560

/-- PF_CODE and RA_CODE (R540). -/
def State.pfCode (s : State) : Nat := s.busCode (10 * s.pfMv)
def State.raCode (s : State) : Nat := s.busCode (10 * s.pfMv + 50 * s.snf 0xB6 1)

/-- The hold-up test ends early (R545): 1 BELOW, 2 PF, 3 SMALL; `code` is the last VBUS code. -/
def State.holdupAbort (s : State) (why code : Nat) : State :=
  ({ s with pwr := { s.pwr with huIso := false, huDue := false, huAbort := BitVec.ofNat 2 why } } : State).note 0x7003
    (le 1 why ++ le 4 (s.busMv code))

/-- CLK_SENSE runs: no analogue BIST isolation, and its crossing not declared stopped (Table 16-4). -/
def State.senseRuns (s : State) : Bool := !s.sns.stopped && !s.integ.xingStop.getLsbD s.senseDom

/-- A converted value, new: age 0. -/
def conv (fault : Bool) (v : BitVec 16) : Conv := ⟨true, fault, v, 0⟩

/-- A temperature clamped to −40 °C to +150 °C in 1/16 °C, with whether it was beyond (R126). -/
def clampTemp (t : Int) : Int × Bool := if t < -640 then (-640, true) else if 2400 < t then (2400, true) else (t, false)

/-- The sequence goes on to its next entry (R124). -/
def Sense.next (x : Sense) (n : Nat) : Sense :=
  { x with first := none, pos := if x.pos.toNat + 1 < n then x.pos + 1 else 0 }

/-- One conversion of the sequence (R124, R126). -/
def State.seqConversion (s : State) (code : BitVec 12) (bad : Bool) : State :=
  let x := s.sns
  let n := s.nSeq
  let e := s.snf (0x70 + x.pos.toNat) 1
  let skip (shared : Bool) : Bool := shared && !s.warden
  if n = 0 then s
  else if e < 0x14 then
    match x.first with
    | none => s.setSns { x with first := some (code, bad) }
    | some (c, b) =>
      if skip (decide (16 ≤ e)) then s.setSns (x.next n)
      else
        let (t, beyond) := clampTemp (Config.thermal c code)
        s.setSns { (x.next n) with
          temp := Tab.set default x.temp e (conv (b || bad || beyond) (BitVec.ofNat 16 (wrapI 16 t))) }
  else if 0x20 ≤ e ∧ e < 0x2C then
    let k := e - 0x20
    if skip (decide (8 ≤ k)) then s.setSns (x.next n)
    else s.setSns { (x.next n) with rail := Tab.set default x.rail k (conv false (code.setWidth 16)) }
  else if e = 0x30 then
    let mv := BitVec.ofNat 32 (s.busMv code.toNat)
    let s := if s.pwr.pf && mv.toNat < s.pwr.pfLowMv.toNat then { s with pwr := { s.pwr with pfLowMv := mv } } else s
    s.setSns { (x.next n) with vbus := conv false (code.setWidth 16) }
  else if e = 0x31 then s.setSns { (x.next n) with ibus := conv false (code.setWidth 16) }
  else s.setSns (x.next n)

/-- One conversion of the hold-up test (R544, R545): VBUS and IBUS in turn, VBUS first. -/
def State.huConversion (s : State) (code : BitVec 12) : State :=
  let p := s.pwr
  if p.huV.length ≤ p.huI.length then
    let t : State := { s with pwr := { p with huV := p.huV ++ [code] } }
    if code.toNat ≤ s.raCode then t.holdupAbort 1 code.toNat else t
  else { s with pwr := { p with huI := p.huI ++ [code] } }

/-- SENSE_CONVERSION (R124, R544): the converter completes one conversion of the sequence, or of the hold-up test that
preempts it. -/
def execSenseConversion (code : BitVec 12) (openOrShort : Bool) (s : State) : Host.Outcome State Fault Refusal :=
  .next (
    if !s.running || !s.user || !s.senseRuns then s
    else if s.pwr.huIso then s.huConversion code
    else s.seqConversion code openOrShort)

/-- ROSC_WINDOW_OPEN (R126): at slot 2, where none is open. -/
def execRoscWindowOpen (r : BitVec 5) (s : State) : Host.Outcome State Fault Refusal :=
  .next (
    if s.running && s.senseRuns && s.roscEn r.toNat && !s.sns.roscOpen.getLsbD r.toNat then
      s.setSns { s.sns with roscOpen := setBit s.sns.roscOpen r.toNat true }
    else s)

/-- ROSC_WINDOW_CLOSE (R126, R127): 256 CLK_SENSE cycles later, with the count. -/
def execRoscWindowClose (r : BitVec 5) (count : BitVec 16) (s : State) : Host.Outcome State Fault Refusal :=
  .next (
    if s.running && s.senseRuns && s.sns.roscOpen.getLsbD r.toNat then
      s.setSns { s.sns with
        roscOpen := setBit s.sns.roscOpen r.toNat false, roscHave := setBit s.sns.roscHave r.toNat true
        roscClosed := Tab.set 0 s.sns.roscClosed r.toNat count }
    else s)

/-- DROOP_EXCURSION (R126): the rail of a region fell below NOM_MV − depth × TH. An excursion below the first step counts
as an event; the deepest step of the heat is kept. -/
def execDroopExcursion (r : BitVec 5) (depth : BitVec 3) (s : State) : Host.Outcome State Fault Refusal :=
  .next (
    if s.running && s.senseRuns && s.droopTh r.toNat != 0 then
      let d : BitVec 3 := if 4 < depth.toNat then 4 else depth
      let old := Tab.get 0 s.sns.droopDeep r.toNat
      s.setSns { s.sns with
        droopEv := if depth = 0 then s.sns.droopEv else Tab.upd 0 s.sns.droopEv r.toNat satInc
        droopDeep := Tab.set 0 s.sns.droopDeep r.toNat (if old.toNat < d.toNat then d else old) }
    else s)

/-- The register word of a converted channel (SNS_TEMP_k, SNS_RAIL_k). -/
def Conv.word (c : Conv) : Word :=
  BitVec.ofNat 32 (fieldAt (bit c.valid 1).toNat 31 1 + fieldAt (bit c.fault 1).toNat 30 1 + fieldAt c.age.toNat 16 8 +
    c.value.toNat)

/-- One heat older (R127). -/
def Conv.older (c : Conv) : Conv := if c.valid then { c with age := satInc c.age } else c

/-- The boundary's part: ages grow, and the droop words of the heat that ends are formed (R126, R127). The spec does not say
whether a conversion of the heat that ends has AGE 0 or 1 in that heat's sample: DESIGN CHOICE, ages grow before the latch of
slot 1, so it has 1 (notes/assumptions/90). -/
def boundarySense (s : State) : State :=
  let x := s.sns
  let word (r : Nat) : Word :=
    if s.droopTh r = 0 ∨ !s.senseRuns then 0
    else BitVec.ofNat 32 (2 ^ 31 + fieldAt (Tab.get 0 x.droopDeep r).toNat 16 3 + (Tab.get 0 x.droopEv r).toNat)
  let older (t : Tab Conv) : Tab Conv := Tab.mapV default t Conv.older
  s.setSns { x with
    temp := older x.temp, rail := older x.rail, vbus := x.vbus.older, ibus := x.ibus.older
    droopLast := Tab.setAll 0 [] 0 ((List.range 32).map word), droopEv := [], droopDeep := [] }

/-- SNS_ROSC_r as a latch made now takes it (R127). -/
def State.roscWord (s : State) (r : Nat) : Word :=
  if s.senseRuns && s.sns.roscHave.getLsbD r then BitVec.ofNat 32 (2 ^ 31 + (Tab.get 0 s.sns.roscClosed r).toNat) else 0

/-- Slot 1 latches the analogue sample of the heat that has ended (R127): the 96 words of Table 6-1, KIND 2. In the first
heat of an image there is none (notes/assumptions/22). -/
def State.latchSense (s : State) : State :=
  let x := s.sns
  if !s.user || s.heat.heat = s.heat.first || s.heat.heat = BitVec.allOnes 64 then s
  else
    let l := (List.range 20).map (fun k => (Tab.get default x.temp k).word) ++
      (List.range 12).map (fun k => (Tab.get default x.rail k).word) ++
      (List.range 32).map s.roscWord ++ (List.range 32).map fun r => Tab.get 0 x.droopLast r
    s.setSns { x with sample := l, sampleHeat := s.heat.heat - 1, sampleSent := false, roscHave := 0 }

/-- Image activation (R79): conversions, windows and counts are forgotten and the sequence starts at entry 0. -/
def activateSense (s : State) : State :=
  s.setSns { s.sns with
    pos := 0, first := none, temp := [], rail := [], vbus := default, ibus := default, roscOpen := 0, roscClosed := []
    roscHave := 0, droopEv := [], droopDeep := [], droopLast := [], sample := [], sampleHeat := BitVec.allOnes 64, sampleSent := false }

end Sys2Proof.Machine
end

