-- ==== Sys2Proof/Machine/Timebase.lean ====
section
/-! DEFINITION. Strokes and jumps (R129 to R136), the stroke-to-TAI mapping (R137 to R139), the IEEE 1588 exchange and the
servo (R140 to R146), and the uplink time transfer with slip detection (R147 to R152). Times are in units of 2^-40 ns. -/

namespace Sys2Proof.Machine

/-- Change the timebase, the IEEE 1588 exchange, the time transfer. -/
def State.setTb (s : State) (t : Timebase) : State := { s with tb := t }
def State.setPtp (s : State) (p : Ptp) : State := { s with ptp := p }
def State.setTt (s : State) (t : TimeTransfer) : State := { s with tt := t }

/-- Fields of the timebase block (Table 4-6). -/
def State.tbf (s : State) (o n : Nat) : Nat := s.img 0xB o n 0

/-- TB_STATE. -/
def State.tbStateWord (s : State) : Word :=
  let t := s.tb
  let b (x : Bool) (i : Nat) : Nat := fieldAt (bit x 1).toNat i 1
  BitVec.ofNat 32 (b t.jumped 13 + b t.phaseFault 12 + b (s.isD && t.slipNoted) 11 + b t.refStopped 10 + b s.sys.x2 9 +
    b t.valid 8 + b (s.tt.selfK != 0) 5 + b t.taiValid 4 + b t.stepped 3 + t.state.toNat)

/-- Is `v` a stroke at which a heat boundary falls (R34)? -/
def State.onBoundary (s : State) (v : Nat) : Bool := decide (s.phaseS ≤ v) && (v - s.phaseS) % max 1 s.period == 0

/-- A phase fault (R130). -/
def State.phaseFaulted (s : State) : State :=
  (s.setTb { s.tb with phaseFault := true }).stickNote 0 5 0x4002 (le 8 s.tb.stroke.toNat)

/-- The cycle's STROKE_PHASE against the cycle before (R130). -/
def State.phaseCycle (s : State) (phase : Bool) : State :=
  let t := s.setTb { s.tb with lastPhase := some phase }
  if s.tb.lastPhase = some phase then t.phaseFaulted else t

/-- STROKE_ADVANCE (R129, R130): one STROKE_CLK cycle without a load. -/
def execStrokeAdvance (phase : Bool) (s : State) : Host.Outcome State Fault Refusal :=
  .next (
    if s.sys.rstHeld then s
    else
      let s := if s.sys.x2 then s.phaseCycle phase else s
      if s.sys.x2 && !phase then s
      else { s with tb := { s.tb with stroke := s.tb.stroke + 1 }, heat := { s.heat with taken := false } })

/-- The heat in progress is numbered from a loaded count (R134, R34): on a boundary, the heat that this boundary ends. -/
def State.renumber (s : State) (v : DWord) : State :=
  if !s.heat.begun || s.heat.inGap then s
  else
    let h := s.heatOf v.toNat
    { s with heat := { s.heat with heat := if s.onBoundary v.toNat then h - 1 else h } }

/-- A jump of `j` strokes to the count `v` (R134, R135); past the stroke of IMG_ACT it sets activation-late. -/
def State.jump (s : State) (j : Int) (v : DWord) : State :=
  let jw : DWord := BitVec.ofNat 64 (wrapI 64 j)
  let past := s.ld.st == 5 && s.ld.latAct == 1 && decide (s.ld.latStroke.toNat < v.toNat) &&
    decide ((v - jw).toNat ≤ s.ld.latStroke.toNat)
  let s := if past then ({ s with ld := { s.ld with late := true } } : State).stick 0 2 else s
  let s := (s.setTb { s.tb with jumped := true }).note 0x4001 (le 8 jw.toNat ++ le 8 v.toNat)
  if s.isD then s.send 0 0 0x14 (le 8 jw.toNat ++ le 8 v.toNat ++ le 8 s.heat.heat.toNat)
  else s.setTb { s.tb with shift := some (s.tb.shift.getD 0 + j) }

/-- The counter takes the loaded value (R131, R132, R134, R136, R152); the expected value has no effect while STROKE_VALID is 1.
HOLDOVER goes on to be timed from its entry. A load that is no jump leaves open which number the heat in progress has: DESIGN
CHOICE, it is numbered from the loaded count as after a jump (notes/assumptions/92). -/
def State.load (s : State) (v : DWord) : State :=
  let first := !s.tb.valid
  let want := s.tb.stroke + 1
  let s : State := { s with
    tb := { s.tb with stroke := v, valid := true, substitute := false }, heat := { s.heat with taken := false } }
  if !first && v == want then s
  else
    let s : State := { s with
      tt := { s.tt with selfK := 0 }, ptp := { s.ptp with hoStroke := s.ptp.hoStroke + (v - want) } }
    let s := if v = want then s else s.renumber v
    if first then s else s.jump (v - want).toInt v

/-- STROKE_LOAD (R130, R131): a STROKE_CLK cycle with STROKE_LOAD = 1; in a cycle without an advance it is ignored and
counts as a phase fault. -/
def execStrokeLoad (phase : Bool) (value : DWord) (s : State) : Host.Outcome State Fault Refusal :=
  .next (
    if s.sys.rstHeld then s
    else if !s.sys.x2 then s.load value
    else if phase then (s.phaseCycle phase).load value
    else (s.setTb { s.tb with lastPhase := some phase }).phaseFaulted)

/-- The nominal stroke (R137). An activation that changes F_STROKE begins no segment: DESIGN CHOICE, the segment in force is
read with the new nominal stroke as a whole (notes/assumptions/94). -/
def State.nom (s : State) : Int := ((2 * 10 ^ 6 * 2 ^ 40 + s.fStroke) / (2 * max 1 s.fStroke) : Nat)

/-- T(s) under the segment in force (R137), `k` being s − S_k. -/
def State.timeAt (s : State) (k : Int) : BitVec 128 :=
  let r := s.nom + s.nom * s.tb.segAdj.toInt / 2 ^ 40
  BitVec.ofNat 128 (wrapI 128 ((s.tb.segT.toNat : Int) + k * r))

/-- s − S_k of the present stroke, as a signed 64-bit number. -/
def State.sinceSeg (s : State) : Int := (s.tb.stroke - s.tb.segS).toInt

/-- B − J − S_k at the present stroke, as a signed 64-bit number (R137, R139). -/
def State.sinceShift (s : State) (j : Int) : Int := (s.tb.stroke - BitVec.ofInt 64 j - s.tb.segS).toInt

/-- TB_TAI of a time (R138): NS, SEC and FRAC. -/
def taiOf (t : BitVec 128) : BitVec 96 :=
  let ns := t.toNat / 2 ^ 40
  BitVec.ofNat 96 (ns % 10 ^ 9 + fieldAt (ns / 10 ^ 9) 32 48 + fieldAt (t.toNat / 2 ^ 24) 80 16)

/-- ±219,902,325 (R137). -/
def clampAdj (v : Int) : Int := max (-219902325) (min 219902325 v)

/-- Rounding of a quotient, halves up (R137). -/
def roundDiv (a b : Int) : Int := (2 * a + b) / (2 * b)

/-- An integer as a word. -/
def wordOf (v : Int) : Word := BitVec.ofNat 32 (wrapI 32 v)

/-- TIME_SEGMENT (Table 14-3) of the segment in force. -/
def State.segmentNorth (s : State) : State :=
  s.north 1 (le 8 s.tb.segS.toNat ++ le 16 s.tb.segT.toNat ++ le 4 s.tb.segAdj.toNat ++ le 4 s.tbStateWord.toNat)

/-- A rate takes force: the segment's ADJ, and the stored pair unless it is in complement fault (R139, R508). -/
def State.takeRate (s : State) (v : Int) : State :=
  let w := wordOf v
  if s.cpl 5 0 then s.setTb { s.tb with segAdj := w } else s.setTb { s.tb with segAdj := w, adj := w, adjC := ~~~ w }

/-- θ as TB_MEAS and records show it, 1/16 ns. -/
def thetaWord (theta : Int) : Word := wordOf (max (-(2 ^ 31 - 1)) (min (2 ^ 31 - 1) (theta / 2 ^ 36)))

/-- The state becomes HOLDOVER (R144). -/
def State.holdover (s : State) : State :=
  ((s.setTb { s.tb with state := 5, runIn := 0, rateDue := none }).setPtp
    { s.ptp with hoStroke := s.tb.stroke, hoMs := 0 }).note 0x4005
      (le 4 (thetaWord s.ptp.lastTheta).toNat ++ le 4 s.tb.segAdj.toNat)

/-- The single step takes effect by `d`, with the first rate `a0` (R139, R143): the servo is SLEWING after it, and in HOLDOVER
where the master has gone meanwhile. -/
def State.stepTaken (s : State) (d a0 : Int) : State :=
  let t := s.tb
  (s.setTb { t with
    segT := BitVec.ofNat 128 (wrapI 128 ((t.segT.toNat : Int) - d)), stepped := true, taiValid := !s.cpl 5 0
    state := if t.state = 1 ∨ t.state = 2 then 3 else t.state, runIn := 0, runOut := 0, outliers := 0 }).note 0x4004
      (le 16 (wrapI 128 d) ++ le 4 (wordOf a0).toNat)

/-- The boundary's part (R139, R143, R144): a new segment where an event falls due, in the order shift, step, rate; and the
holdover figures. -/
def boundaryTime (s : State) : State :=
  if s.isD then s
  else
    let t := s.tb
    let s :=
      if t.shift.isNone && t.stepDue.isNone && t.rateDue.isNone then s
      else
        let base := s.timeAt (s.sinceShift (t.shift.getD 0))
        let s := s.setTb { t with segS := t.stroke, segT := base, shift := none, stepDue := none, rateDue := none }
        let s := match t.stepDue with
          | some d => s.stepTaken d (t.rateDue.getD 0)
          | none => s
        let s := match t.rateDue with
          | some a => s.takeRate a
          | none => s
        let s := s.segmentNorth
        if t.stepDue.isSome && s.tb.state == 3 && s.ptp.master.isNone then s.holdover else s
    if s.tb.state = 5 then
      let ns := (s.tb.stroke - s.ptp.hoStroke).toNat * 10 ^ 6 / max 1 s.fStroke
      let b := s.ptp.lastTheta.natAbs / 2 ^ 40 + s.tbf 0x54 4 * ns / 10 ^ 9
      s.setPtp { s.ptp with hoBound := BitVec.ofNat 32 (min (2 ^ 32 - 1) b), hoMs := BitVec.ofNat 32 (min (2 ^ 32 - 1) (ns / 10 ^ 6)) }
    else s

/-- TB_STROKE_READ (R157): the low word is returned; the high word and TB_TAI are latched for the same stroke. -/
def execTbStrokeRead (a : Acc) (s : State) : Host.Outcome State Fault Refusal :=
  .next (s.readBy a 0x2000 (s.tb.stroke.setWidth 32) fun s =>
    s.setTb { s.tb with
      latHi := BitVec.ofNat 32 (s.tb.stroke.toNat / 2 ^ 32)
      latTai := if s.isT && s.tb.taiValid then taiOf (s.timeAt s.sinceSeg) else 0 })

/-- The state the servo takes on entering or leaving MANUAL (R143). Which it takes on leaving once STEPPED is 1 is not said:
DESIGN CHOICE, SLEWING with a master, HOLDOVER with its record without one (notes/assumptions/95). -/
def State.servoStart (s : State) : State :=
  if !s.isT || !s.user then s
  else if s.tb.manual then s.setTb { s.tb with state := 6 }
  else
    let m := s.ptp.master.isSome
    let t := s.setTb { s.tb with
      state := if s.tb.stepped then 3 else if m then 2 else 1
      acc := s.tb.segAdj.toInt, outliers := 0, runIn := 0, runOut := 0 }
    if s.tb.stepped && !m then t.holdover else t

/-- With the first image in force the servo leaves OFF (Table 4-3); a later image leaves its state as it is. -/
def State.servoImage (s : State) : State := if s.tb.state = 0 then s.servoStart else s

/-- TB_CTRL_WRITE (R143, R146): MANUAL suspends the servo, whose effects still due are dropped, or lets it go on. -/
def execTbCtrlWrite (a : Acc) (s : State) : Host.Outcome State Fault Refusal :=
  .next (
    if s.isD then s.written a 0x200C 1 id
    else s.written a 0x200C 2 fun s =>
      let m := a.data.getLsbD 0
      let s := s.cfgWrite a 0x200C a.data
      if m = s.tb.manual then s
      else
        let b := if m then { s.tb with manual := m, stepDue := none, rateDue := none } else { s.tb with manual := m }
        ((s.setTb b).setPtp { s.ptp with acquire := [] }).servoStart)

/-- TB_RATE_COMMIT (R146, R508, R509): refused with STATE while MANUAL = 0 or beyond ±219,902,325; otherwise the pair is
stored and the rate takes effect at the next boundary. -/
def execTbRateCommit (a : Acc) (s : State) : Host.Outcome State Fault Refusal :=
  .next (
    if s.isD then s.written a 0x2024 1 id
    else s.wc2Commit a 0x2020
      (fun s v => if s.tb.manual && v.toInt.natAbs ≤ 219902325 then 0 else 4)
      fun s v =>
        let was := s.cpl 5 0
        let s := (s.setTb { s.tb with adj := v, adjC := ~~~ v, rateDue := some v.toInt }).cplRestore 5 0
        let s := if was then s.setTb { s.tb with taiValid := s.tb.stepped } else s
        s.event 0x400B (le 4 v.toNat) (s.roleOf a) a.path.toNat)

/-- A message passes the tests of the profile (Table 4-2). -/
def State.ptpOk (s : State) (h : PtpHdr) : Bool :=
  s.isT && s.running && s.user && h.domain.toNat == s.tbf 0x41 1 && h.version == 2 && decide (h.minor.toNat ≤ 1)

/-- It comes from the selected master. -/
def State.fromMaster (s : State) (h : PtpHdr) : Bool := (s.ptp.master.map fun m => m.port == h.portId).getD false

/-- A correctionField, of units 2^-16 ns. -/
def ptpCorr (h : PtpHdr) : Int := h.correction.toInt * 2 ^ 24

/-- logMessageInterval. -/
def ptpInt (h : PtpHdr) : Int := h.interval.toInt

/-- The latencies that correct a time-stamp of port `p` (R141): the PCS's and TB_LAT_p's. -/
def State.portLat (s : State) (p : Nat) (tx : Bool) : Int :=
  let o := if tx then 4 else 0
  let ps := s.rwd (0x2060 + 8 * p + o) (s.tbf (0x60 + 8 * p + o) 4)
  (Config.pcsLatency p (s.port p).fecLock + ps * 2 ^ 40 / 1000 : Nat)

/-- A message of the exchange is discarded and counted. -/
def State.ptpDiscard (s : State) : State := s.setPtp { s.ptp with discards := satInc s.ptp.discards }

/-- PTP_SYNC (R140 to R142): an accepted Sync is time-stamped; a one-step Sync carries t1 itself. -/
def execPtpSync (port : BitVec 1) (h : PtpHdr) (t2 originTs : BitVec 128) (s : State) : Host.Outcome State Fault Refusal :=
  .next (
    if !s.isT || !s.running || !s.user then s
    else if !s.ptpOk h || port.toNat != s.tbf 0x40 1 || ptpInt h < -7 || 1 < ptpInt h || !s.fromMaster h then s.ptpDiscard
    else s.setPtp { s.ptp with
      syncSeq := some h.seq, syncT2 := (t2.toNat : Int) - s.portLat port.toNat false, syncC := ptpCorr h
      syncT1 := if h.twoStep then none else some originTs.toNat, syncInt := ptpInt h, reqReady := !h.twoStep })

/-- PTP_FOLLOW_UP (R142): t1 of the two-step Sync of the same sequence number. -/
def execPtpFollowUp (h : PtpHdr) (preciseTs : BitVec 128) (s : State) : Host.Outcome State Fault Refusal :=
  .next (
    if !s.isT || !s.running || !s.user then s
    else if s.ptpOk h && s.fromMaster h && s.ptp.syncSeq == some h.seq && s.ptp.syncT1.isNone then
      s.setPtp { s.ptp with syncT1 := some preciseTs.toNat, syncC := s.ptp.syncC + ptpCorr h, reqReady := true }
    else s.ptpDiscard)

/-- A number of `n` octets as IEEE 1588 orders it, where octet 0 lies in the lowest bits (TB_GM_ID). -/
def octets (n v : Nat) : Nat := unle (le n v).reverse

/-- A Delay_Req (Table 4-2, IEEE 1588-2019): originTimestamp 0; the clockIdentity is not the spec's
(notes/assumptions/93). -/
def State.delayReq (s : State) (seq : Nat) : List Byte :=
  [0x01, 0x12] ++ (le 2 44).reverse ++ le 1 (s.tbf 0x41 1) ++ List.replicate 15 0 ++
    le 8 (Config.ptpIdentity (s.tbf 0x40 1)).toNat ++ (le 2 1).reverse ++ (le 2 seq).reverse ++ [0x01, 0x7F] ++ List.replicate 10 0

/-- PTP_DELAY_REQ_SEND (R140, R142, R450): one after each accepted Sync joins class 7 of PTP_PORT; its egress is time-stamped. A
frame that finds the class full is dropped, and nothing is measured with it. -/
def execPtpDelayReqSend (t3 : BitVec 128) (s : State) : Host.Outcome State Fault Refusal :=
  .next (
    match s.ptp.syncT1 with
    | some t1 =>
      let p := s.tbf 0x40 1
      if s.isT && s.running && s.user && s.ptp.reqReady && s.ptp.master.isSome && s.portOn p then
        let seq := s.ptp.reqSeq + 1
        let q := (s.port p).push (s.vlan.testBit 15) 7 ⟨0, 0x000000191B01, s.delayReq seq.toNat, s.tb.stroke⟩
        let sent := ((s.port p).cls.getD 7 []).length < (q.cls.getD 7 []).length
        (s.setPort p q).setPtp { s.ptp with
          reqReady := false, reqSeq := seq, reqSync := (t1, s.ptp.syncT2, s.ptp.syncC, s.ptp.syncInt)
          reqT3 := if sent then some ((t3.toNat : Int) + s.portLat p true) else none }
      else s
    | none => s)

/-- Order of quotients at the step: the middle two of four numbers, sorted, halved (R143). -/
def middleTwo (l : List Int) : Int :=
  let m := l.mergeSort (· ≤ ·)
  (m.getD 1 0 + m.getD 2 0) / 2

/-- The step and the first rate of four measurements (R143); where t1 did not move the rate has no stated value and is a
free one. -/
def State.servoStep (s : State) (l : List Meas) : State :=
  let first : Meas := l.headD default
  let last : Meas := l.getLastD default
  let step := middleTwo (l.map (·.theta))
  let d1 := last.t1 - first.t1
  let d2 := last.t2 - first.t2
  let a0 := if d1 = 0 then (s.free 32).toInt
    else s.tb.segAdj.toInt - (if 0 < d1 then roundDiv ((d2 - d1) * 2 ^ 40) d1 else roundDiv ((d1 - d2) * 2 ^ 40) (-d1))
  let s := if d1 = 0 then s.freed else s
  (s.setTb { s.tb with stepDue := some step, rateDue := some (clampAdj a0), acc := clampAdj a0 }).setPtp
    { s.ptp with acquire := [] }

/-- θ × 2^40 / (2^k × τ × 10^9) for θ in 2^-40 ns and τ = 2^li s, rounded (R143). -/
def gain (theta : Int) (k : Nat) (li : Int) : Int :=
  if li < 0 then roundDiv (theta * 2 ^ (-li).toNat) (2 ^ k * 10 ^ 9) else roundDiv theta (2 ^ (k + li.toNat) * 10 ^ 9)

/-- The rate loop (R143) and the moves between SLEWING and LOCKED (Table 4-3). After 16 consecutive outliers the pseudocode
begins the count again at 0 and the prose passes every measurement until one is no outlier: DESIGN CHOICE, the prose holds
(notes/assumptions/96). -/
def State.rateLoop (s : State) (theta li : Int) : State :=
  let t := s.tb
  let big (ns : Nat) : Bool := decide ((ns : Int) * 2 ^ 40 < theta.natAbs)
  let out := if big (s.tbf 0x4C 4) then t.runOut + 1 else 0
  let t := { t with runOut := out }
  let (t, ok) :=
    if big (s.tbf 0x50 4) && decide (t.outliers < 16) then ({ t with outliers := t.outliers + 1 }, false)
    else
      let acc := clampAdj (t.acc - gain theta (s.tbf 0x43 1) li)
      let a := clampAdj (acc - gain theta (s.tbf 0x42 1) li)
      ({ t with
          outliers := if big (s.tbf 0x50 4) then t.outliers else 0, acc := acc, rateDue := some a
          runIn := if big (s.tbf 0x4C 4) then 0 else t.runIn + 1 }, true)
  let t : Timebase :=
    if t.state = 3 ∧ 16 ≤ t.runIn then { t with state := 4, runOut := 0 }
    else if t.state = 4 ∧ 16 ≤ t.runOut then { t with state := 3, runIn := 0 }
    else t
  let s := s.setTb t
  if ok then s.setPtp { s.ptp with lastTheta := theta } else s

/-- A measurement is complete (R142 to R144). -/
def State.measured (s : State) (m : Meas) (mpd li : Int) : State :=
  let s := s.setPtp { s.ptp with
    measTheta := thetaWord m.theta, measMpd := BitVec.ofNat 32 (max 0 (min (2 ^ 32 - 1) (mpd / 2 ^ 36))).toNat }
  if s.cpl 5 0 then s
  else
    match s.tb.state.toNat with
    | 2 =>
      if s.tb.stepDue.isSome then s
      else
        let l := s.ptp.acquire ++ [m]
        if l.length < 4 then s.setPtp { s.ptp with acquire := l } else s.servoStep l
    | 3 => s.rateLoop m.theta li
    | 4 => s.rateLoop m.theta li
    | 5 =>
      if s.tb.runIn + 1 < 8 || s.ptp.master.isNone then s.setTb { s.tb with runIn := s.tb.runIn + 1 }
      else
        (s.setTb { s.tb with state := 3, runIn := 0, runOut := 0, outliers := 0, acc := s.tb.segAdj.toInt }).note 0x4006
          (le 4 s.ptp.hoMs.toNat ++ le 4 s.ptp.hoBound.toNat)
    | _ => s

/-- PTP_DELAY_RESP (R142): the answer to the last Delay_Req completes a measurement. -/
def execPtpDelayResp (h : PtpHdr) (forUs : Bool) (t4 : BitVec 128) (s : State) : Host.Outcome State Fault Refusal :=
  .next (
    if !s.isT || !s.running || !s.user then s
    else
      match s.ptp.reqT3 with
      | some t3 =>
        if s.ptpOk h && s.fromMaster h && forUs && h.seq == s.ptp.reqSeq then
          let (t1, t2, cs, li) := s.ptp.reqSync
          let a := t2 - t1 - cs
          let b := (t4.toNat : Int) - t3 - ptpCorr h
          let asym := sgn 32 (s.tbf 0x5C 4) * 2 ^ 40 / 1000
          (s.setPtp { s.ptp with reqT3 := none }).measured ⟨(a - b) / 2 - asym, t1, t2⟩ ((a + b) / 2) li
        else s.ptpDiscard
      | none => s.ptpDiscard)

/-- A cause of HOLDOVER (R144): the state becomes HOLDOVER, or its run of measurements starts again. -/
def State.enterHoldover (s : State) : State :=
  if s.tb.state = 3 ∨ s.tb.state = 4 then s.holdover
  else if s.tb.state = 5 then s.setTb { s.tb with runIn := 0 }
  else s

/-- Dataset comparison (R140: clause 9.3): `a` is better than `b`. -/
def Foreign.better (a b : Foreign) : Bool :=
  let key (x : Foreign) : List Nat :=
    if a.ds.gm = b.ds.gm then [x.ds.stepsRemoved.toNat, octets 10 x.port.toNat]
    else [x.ds.priority1.toNat, x.ds.clockClass.toNat, x.ds.accuracy.toNat, x.ds.variance.toNat, x.ds.priority2.toNat,
      octets 8 x.ds.gm.toNat]
  decide (key a < key b)

/-- The best of the foreign masters. -/
def bestForeign : List Foreign → Option Foreign
  | [] => none
  | f :: t =>
    match bestForeign t with
    | some g => some (if g.better f then g else f)
    | none => some f

/-- A foreign master's parent port and grandmaster. -/
def Foreign.who (f : Foreign) : BitVec 80 × DWord := (f.port, f.ds.gm)

/-- The algorithm selects anew (R140, R143, R144): a master of another grandmaster or parent port than the one selected last is
a change of master. -/
def State.selectMaster (s : State) (foreign : List Foreign) : State :=
  let m := bestForeign foreign
  let old := s.ptp.lastMaster
  let same := s.ptp.master.map Foreign.who == m.map Foreign.who
  let changed := old.isSome && m.isSome && old.map Foreign.who != m.map Foreign.who
  let gm (f : Option Foreign) : DWord := (f.map (·.ds.gm)).getD 0
  let s := s.setPtp { s.ptp with foreign := foreign, master := m, lastMaster := m.orElse fun _ => old, gm := gm m }
  if same then s
  else
    let s := s.setPtp { s.ptp with syncSeq := none, syncT1 := none, reqT3 := none, reqReady := false, acquire := [] }
    if s.tb.state = 0 ∨ s.tb.state = 6 then s
    else if !s.tb.stepped then s.setTb { s.tb with state := if m.isSome then 2 else 1 }
    else if changed then s.enterHoldover.note 0x4007 (le 8 (gm old).toNat ++ le 8 (gm m).toNat)
    else s.enterHoldover

/-- PTP_ANNOUNCE (R140, R144): the Announce enters the foreign masters, at most 8, and the best is selected. -/
def execPtpAnnounce (h : PtpHdr) (ds : PtpDataset) (utcValid : Bool) (utcOfs : BitVec 16) (s : State) :
    Host.Outcome State Fault Refusal :=
  .next (
    if !s.isT || !s.running || !s.user then s
    else if !s.ptpOk h || 255 ≤ ds.stepsRemoved.toNat then s.ptpDiscard
    else
      let f : Foreign := ⟨h.portId, ds⟩
      let l := s.ptp.foreign
      if l.any fun x => x.port == h.portId then
        (s.setPtp { s.ptp with utcValid := utcValid, utcOfs := utcOfs }).selectMaster
          (l.map fun x => if x.port == h.portId then f else x)
      else if l.length < 8 then
        (s.setPtp { s.ptp with utcValid := utcValid, utcOfs := utcOfs }).selectMaster (l ++ [f])
      else s.ptpDiscard)

/-- HOLDOVER_ENTRY (R144): SYNC_TMO intervals without a measurement, or ANN_TMO intervals without an Announce of the
selected master, which then leaves the foreign masters. Before the step the four measurements are no longer consecutive. -/
def execHoldoverEntry (syncTmo : Bool) (s : State) : Host.Outcome State Fault Refusal :=
  .next (
    if !s.isT || !s.running || !s.user then s
    else
      let s := if s.tb.stepped then s.enterHoldover else s.setPtp { s.ptp with acquire := [] }
      if syncTmo then s
      else
        let p := (s.ptp.master.map (·.port)).getD 0
        s.selectMaster (s.ptp.foreign.filter fun f => f.port != p))

/-- The trained links (R147). -/
def State.trained (s : State) : List Nat := (List.range 64).filter fun k => (s.link k).tr.state == 4

/-- One TT_REQ on a link. -/
def State.ttSend (s : State) (k : Nat) (round : Bool) : State :=
  let n := s.tt.xn
  let t : State := s.setTt { s.tt with
    xn := n + 1, links := Tab.upd default s.tt.links k fun x => { x with out := x.out ++ [(n, round)] } }
  t.send k 0 0x2A (le 2 n.toNat ++ le 6 0)

/-- The boundary's part: the links that came up in the last heat get their TT_REQ (R418). -/
def boundaryTt (s : State) : State :=
  let ks := (maskList s.tt.due).filter fun k => (s.link k).tr.state == 4
  let s := s.setTt { s.tt with due := 0, sent := false }
  if s.isT && s.user then ks.foldl (fun s k => s.ttSend k false) s else s

/-- SLIP_NOTICE to die `k` (R151). -/
def State.slipSend (s : State) (k : Nat) (set : Bool) (strokes : Int) : State :=
  s.send k 0 0x22 (le 1 (bit set 1).toNat ++ le 3 0 ++ le 4 (wordOf strokes).toNat)

/-- Die `k` in a judged round (R150, R151): `theta` is θ_k + 16 × SELF_K. -/
def State.judgeSlip (s : State) (k : Nat) (theta : Int) : State :=
  let x := Tab.get default s.tt.links k
  let isOver := decide (s.tbf 0x4A 2 < theta.natAbs)
  let x := if isOver then { x with overs := x.overs + 1, unders := 0 } else { x with overs := 0, unders := x.unders + 1 }
  let put (y : TtLink) : State := s.setTt { s.tt with links := Tab.set default s.tt.links k y }
  let strokes := roundDiv x.roundTheta 16
  if !x.slip && decide (s.tbf 0x46 1 ≤ x.overs) then
    ((put { x with slip := true }).noteLeft.note 0x4008 (le 1 k ++ le 4 (wordOf strokes).toNat)).slipSend k true strokes
  else if x.slip && decide (s.tbf 0x46 1 ≤ x.unders) then
    ((put { x with slip := false }).note 0x4009 (le 1 k)).slipSend k false strokes
  else put x

/-- A round is judged (R150 to R152). -/
def State.judgeRound (s : State) : State :=
  let ks := (maskList s.tt.roundLinks).filter fun k => (Tab.get default s.tt.links k).got
  let s := s.setTt { s.tt with roundOpen := false }
  let th (k : Nat) : Int := (Tab.get default s.tt.links k).roundTheta + 16 * s.tt.selfK.toInt
  let m := ((ks.map th).mergeSort (· ≤ ·)).getD ((ks.length - 1) / 2) 0
  if 8 ≤ ks.length ∧ s.tbf 0x4A 2 < m.natAbs then
    let n := s.tt.trayRounds + 1
    if n < s.tbf 0x46 1 then s.setTt { s.tt with trayRounds := n }
    else
      let k := -(roundDiv m 16)
      let s := s.setTt { s.tt with trayRounds := 0, selfK := wordOf k }
      (s.setTb { s.tb with shift := some (s.tb.shift.getD 0 - k) }).note 0x400A (le 4 (wordOf k).toNat)
  else
    let ths := ks.map fun k => (k, th k)
    ths.foldl (fun s p => s.judgeSlip p.1 p.2) (s.setTt { s.tt with trayRounds := 0 })

/-- TT_ROUND (R147): in a heat that is a multiple of TT_PERIOD. What the round before still waits for is discarded, and it
is judged on what came. -/
def execTtRound (s : State) : Host.Outcome State Fault Refusal :=
  .next (
    if !s.isT || !s.running || !s.user || s.heat.heat == BitVec.allOnes 64 ||
        s.heat.heat.toNat % max 1 (s.tbf 0x48 2) != 0 || s.tt.sent then s
    else
      let s := if s.tt.roundOpen then s.oneCycle State.judgeRound else s
      let ks := s.trained
      let s := s.setTt { s.tt with
        links := Tab.mapV default s.tt.links fun x => { x with out := [], got := false }
        sent := true, roundOpen := !ks.isEmpty
        roundLinks := ks.foldl (fun (x : DWord) k => setBit x k true) 0 }
      ks.foldl (fun s k => s.ttSend k true) s)

/-- TT_REQ (R147, R438): the die answers with its two stamps. -/
def execTtReq (xn : BitVec 16) (t2 t3 : DWord) (s : State) : Host.Outcome State Fault Refusal :=
  .next (
    if !s.isD || !s.running then s
    else (s.take 0 0 0x2A).send 0 0 0x1B (le 8 t2.toNat ++ le 8 t3.toNat ++ le 2 xn.toNat ++ le 6 0))

/-- LEN_MM × 1 of R149: from RTT in 1/16 stroke and the four latencies in ps. -/
def State.linkLength (s : State) (k : Nat) (rtt : Int) : Int :=
  let t := (s.link k).tr
  let fixed : Nat := s.tbf 0x70 4 + s.tbf 0x74 4 + t.cap 0x14 4 + t.cap 0x18 4
  ((rtt * 10 ^ 9 - 16 * s.fStroke * fixed) * 1000).tdiv (32 * s.fStroke * max 1 (s.tbf 0x58 4))

/-- TT_RESP (R148 to R152): the exchange is complete; a length outside LEN_MM's field has no stated value and is free. Neither
saturation nor wrap is stated for a θ_k or RTT beyond its register: DESIGN CHOICE, the registers wrap, and slip is judged on
θ_k in full (notes/assumptions/97). -/
def execTtResp (k : BitVec 6) (xn : BitVec 16) (t1 t2 t3 t4 : DWord) (s : State) : Host.Outcome State Fault Refusal :=
  let k := k.toNat
  .next (
    if !s.isT || !s.running || !s.user then s
    else
      let s := s.take k 0 0x1B
      let x := Tab.get default s.tt.links k
      match x.out.find? fun p => p.1 == xn with
      | none => s
      | some (_, inRound) =>
        let rtt := (t4 - t1).toInt - (t3 - t2).toInt
        let theta := ((t2 - t1).toInt - (t4 - t3).toInt) / 2 - sgn 16 (s.tbf (0x80 + 2 * k) 2)
        let len := s.linkLength k rtt
        let bad := decide (len < 0) || decide (2 ^ 24 ≤ len)
        let lw : BitVec 24 := if bad then s.free 24 else BitVec.ofNat 24 len.toNat
        let s := if bad then s.freed else s
        let y : TtLink := { x with
          out := x.out.filter fun p => p.1 != xn
          got := x.got || inRound, roundTheta := if inRound then theta else x.roundTheta
          theta := wordOf theta, rtt := wordOf rtt, lenMm := lw, valid := true, haveLen := true }
        let s := s.setTt { s.tt with links := Tab.set default s.tt.links k y }
        s.oneCycle fun s =>
          let s := if x.haveLen && decide (100 < ((lw.toNat : Int) - x.lenMm.toNat).natAbs) then
              s.note 0x400C (le 1 k ++ le 3 x.lenMm.toNat ++ le 3 lw.toNat)
            else s
          if s.tt.roundOpen && ((maskList s.tt.roundLinks).all fun j => (Tab.get default s.tt.links j).got) then s.judgeRound
          else s)

/-- SLIP_NOTICE (R151). -/
def execSlipNotice (set : Bool) (_theta : Word) (s : State) : Host.Outcome State Fault Refusal :=
  .next (
    if !s.isD || !s.running then s
    else
      let s := s.take 0 0 0x22
      s.setTb { s.tb with slipNoted := set })

/-- STROKE_JUMP (R134): the heat named is late for the die; after a backward jump every heat up to the highest reported
before is. -/
def execStrokeJump (k : BitVec 6) (j _loaded heat : DWord) (s : State) : Host.Outcome State Fault Refusal :=
  let k := k.toNat
  .next (
    if !s.isT || !s.running then s
    else
      let s := s.take k 0 0x14
      let r := s.inr
      let r := if j.toInt < 0 then
          let top := Tab.get 0 r.done (65 + k)
          { r with
            done := Tab.set 0 r.done (1 + k) (if (Tab.get 0 r.done (1 + k)).toNat < top.toNat then top else Tab.get 0 r.done (1 + k)) }
        else r
      s.setInr (if heat = BitVec.allOnes 64 then r else r.upd k heat fun x => { x with late := true }))

end Sys2Proof.Machine
end

