-- ==== Sys2Proof/Machine/Trace.lean ====
section
/-! DEFINITION. The trace unit (chapter 5): tap transfers, the writer and its blocks, the stop-after-count trigger, dumps,
the tray's partitions and spill ring, the event machine, buoys and gaps. -/

namespace Sys2Proof.Machine

/-- Change the trace unit and its tray side. -/
def State.setTrc (s : State) (t : Trace) : State := { s with trc := t }
def State.setTtr (s : State) (t : TrayTrace) : State := { s with ttrc := t }

/-- TRACE_PROG fields (Table 5-6). -/
def State.tpf (s : State) (o n : Nat) : Nat := s.img 6 o n 0
def State.upmode (s : State) : Nat := bits (s.tpf 0 4) 2 1
def State.spillBlocks (s : State) : Nat := if s.isT then s.tpf 0x18 4 else 0

/-- TRC_WPTR as a word. -/
def State.trcWptr (s : State) : Nat := fieldAt s.trc.word 16 9 + s.trc.blk.toNat

/-- A buoy read back from its words. -/
def buoyOf (w0 w1 : DWord) : Buoy :=
  { slot := BitVec.ofNat 23 (bits w0.toNat 54 32), heat := w1, step := w0.setWidth 32, stepValid := w0.getLsbD 55,
    sv := w0.getLsbD 56 }

/-- The trigger reaches STOPPED (R178): the block is padded, capture stops, and a stop dump begins where UPMODE asks. -/
def State.trcStop (s : State) : State :=
  let t := s.trc
  let wptr := s.trcWptr
  let full := t.word ≠ 0
  let b := t.blk.toNat
  let pad (x : TrcBlock) : TrcBlock := { x with words := x.words.take t.word ++ List.replicate (512 - t.word) 0 }
  let blocks := if full then Tab.upd default t.blocks b pad else t.blocks
  let order := ((blocks.filter fun p => p.2.gen != 0).mergeSort fun p q => p.2.gen.toNat ≤ q.2.gen.toNat).map (·.1)
  let dump := s.upmode == 2
  let t := { t with blocks := blocks, tstate := 3, counting := false, fifo := [], lossPend := 0, word := 0
                    blk := if full then BitVec.ofNat 14 ((b + 1) % s.ownBlocks) else t.blk
                    dumping := dump, dumpLeft := if dump then order else [], dumpSent := 0, dumpDrop := 0 }
  let s := (s.setTrc t)
  let s := if full && s.upmode == 1 then s.encodeDue b else s
  s.note 0x3002 (le 4 wptr)

/-- A packet has been put into the buffer (PAD excluded): the stop count or the freeze count goes down (R178, R183). -/
def State.countPut (s : State) : State :=
  let s := match s.ttrc.freezeLeft with
    | some n => s.setTtr { s.ttrc with freezeLeft := some (n - 1) }
    | none => s
  if s.trc.tstate == 2 && s.trc.counting then
    let s := s.setTrc { s.trc with remain := s.trc.remain - 1 }
    if s.trc.remain = 0 then s.trcStop else s
  else s

/-- The writer may put another packet: capture is on, the trigger is not STOPPED, no freeze is complete. -/
def State.mayWrite (s : State) : Bool := s.capOn && s.trc.tstate != 3 && s.ttrc.freezeLeft != some 0

/-- The own partition is about to overwrite block `b`: without its copy in the spill ring it is lost (R174). -/
def State.ownOverwrite (s : State) (b : Nat) : State :=
  if s.spillBlocks = 0 ∨ (Tab.get default s.trc.blocks b).gen = 0 then s
  else
    s.setTtr { s.ttrc with copiedOwn := false
                           spillDrop := if s.ttrc.copiedOwn then s.ttrc.spillDrop else satInc s.ttrc.spillDrop }

/-- The next generation (R170). -/
def nextGen (g : Word) : Word := if g = BitVec.allOnes 32 then 1 else g + 1

/-- Words written into a block from word `w` on; the words behind them stay as they were. -/
def TrcBlock.put (x : TrcBlock) (w : Nat) (ws : List DWord) : TrcBlock :=
  { x with words := x.words.take w ++ ws ++ x.words.drop (w + ws.length) }

/-- A block begins with its next generation and a REPEAT buoy (R169, R170). -/
def State.beginBlock (s : State) : State :=
  if s.trc.word ≠ 0 then s
  else
    let b := s.trc.blk.toNat
    let s := s.ownOverwrite b
    let t := s.trc
    let x := Tab.get default t.blocks b
    (s.setTrc { t with
      bad := t.bad.filter (· != b)
      blocks := Tab.set default t.blocks b (({ x with gen := nextGen x.gen } : TrcBlock).put 0 (buoyWords 2 t.buoy)), word := 2 }).countPut

/-- A block is complete: the writer goes on to the next, and in STREAM the block goes up (R169, R172, R447). -/
def State.endBlock (s : State) : State :=
  if s.trc.word < 512 then s
  else
    let b := s.trc.blk.toNat
    let s := s.setTrc { s.trc with blk := BitVec.ofNat 14 ((b + 1) % s.ownBlocks), word := 0 }
    if s.isD && s.upmode == 1 || s.isT && s.nbExp 0 then s.encodeDue b else s

/-- Words written into the block in fill. -/
def Trace.append (t : Trace) (ws : List DWord) : Trace :=
  { t with blocks := Tab.upd default t.blocks t.blk.toNat fun x => x.put t.word ws
           word := t.word + ws.length }

/-- The writer puts one packet into the buffer (R168, R169, R178). -/
def State.putPacket (s : State) (p : List DWord) : State :=
  let s := if p.length = 2 ∧ s.trc.word = 511 then (s.setTrc (s.trc.append [0])).endBlock else s
  let s := s.beginBlock
  if !s.mayWrite then s
  else
    let ty := ((p.headD 0) >>> 60).toNat
    let t := s.trc.append p
    let t := if ty = 1 then { t with buoy := buoyOf (p.headD 0) (p.getD 1 0) } else t
    let s := s.setTrc t
    let s :=
      if ty = 8 ∧ s.trc.tstate = 2 ∧ !s.trc.counting then
        let s := s.setTrc { s.trc with counting := true }
        if s.trc.remain = 0 then s.trcStop else s
      else s.countPut
    s.endBlock

/-- The writer's slot: packets of at most `room` words in all, in FIFO order. -/
def State.writeSlot : Nat → Nat → State → State
  | 0, _, s => s
  | f + 1, room, s =>
    match s.trc.fifo with
    | [] => s
    | p :: rest =>
      if s.mayWrite && decide (p.length ≤ room) then
        State.writeSlot f (room - p.length) ((s.setTrc { s.trc with fifo := rest }).putPacket p)
      else s

/-- The trace writer runs in the present heat. -/
def State.writerRuns (s : State) : Bool :=
  match s.prodAt 6 4 with
  | some p => s.running && s.runsNow p
  | none => false

/-- TRACE_WRITER_SLOT (R168): up to 32 words move from the capture FIFO to the buffer blocks; a LOSS packet that fits then
is captured (R167). A block that was complete before the slot has been encoded (R172). -/
def execTraceWriterSlot (s : State) : Host.Outcome State Fault Refusal :=
  .next (if s.writerRuns then
    let t := (State.writeSlot 32 32 s.encodeBlocks).later
    if t.capActive then t.setTrc t.trc.lossPacket else t
  else s)

/-- TRACE_DUMP (R172): one block of the stop dump, oldest generation first, is compressed and queued; the last one ends
the dump. -/
def execTraceDump (s : State) : Host.Outcome State Fault Refusal :=
  .next (
    if !s.isD || !s.running || !s.trc.dumping then s
    else
      let s := s.encodeBlocks
      match s.trc.dumpLeft with
      | [] => (s.setTrc { s.trc with dumping := false }).note 0x3003 (le 2 s.trc.dumpSent.toNat ++ le 2 s.trc.dumpDrop.toNat)
      | b :: rest =>
        let (t, ok) := s.sendBlock b
        let r := if ok then { t.trc with dumpSent := t.trc.dumpSent + 1 } else { t.trc with dumpDrop := t.trc.dumpDrop + 1 }
        let t := t.setTrc { r with dumpLeft := rest, dumping := !rest.isEmpty }
        if rest.isEmpty then t.note 0x3003 (le 2 t.trc.dumpSent.toNat ++ le 2 t.trc.dumpDrop.toNat) else t)

/-- Blocks of the die partition (R173). -/
def State.dieBlocksN (s : State) : Nat := 16384 - s.ownBlocks

/-- A block is copied to the spill ring (R174): its 4 KiB at its place in LPDDR5X, its partition, number and generation
beside it (notes/assumptions/83). -/
def State.spill (s : State) (die : Bool) (b : Nat) (x : TrcBlock) : State :=
  let t := s.ttrc
  let i := t.spillWr.toNat % s.spillBlocks
  let w := (x.words ++ List.replicate (512 - x.words.length) 0).flatMap fun (w : DWord) => le 8 w.toNat
  ({ s with lp5 := Tab.setAll (0 : Byte) s.lp5 (s.tpf 0x10 8 + 4096 * i) w } : State).setTtr { t with
    spilled := Tab.set default t.spilled i (die, BitVec.ofNat 14 b, x.gen)
    spillWr := t.spillWr + 1, copiedDie := t.copiedDie || die, copiedOwn := t.copiedOwn || !die }

/-- TRACE_SPILL (R174): in a slot of the trace writer the block that a partition overwrites next is copied to the spill
ring. -/
def execTraceSpill (die : Bool) (s : State) : Host.Outcome State Fault Refusal :=
  .next (
    if !s.isT || !s.writerRuns || s.spillBlocks == 0 || s.workStopped || s.pwr.memFail || !s.lp5Runs then s
    else
      let t := s.ttrc
      let n := if s.trc.word = 0 then s.trc.blk.toNat else (s.trc.blk.toNat + 1) % s.ownBlocks
      let b := if die then s.ownBlocks + t.dieBlk else n
      let x := if die then Tab.get default t.dieBlocks t.dieBlk else Tab.get default s.trc.blocks n
      if x.gen = 0 ∨ (if die then t.copiedDie else t.copiedOwn) then s else s.spill die b x)

/-- The words of a byte string. -/
def wordsOf (b : List Byte) : List DWord := (List.range ((b.length + 7) / 8)).map fun i => BitVec.ofNat 64 (leAt b (8 * i) 8)

/-- TRC_BLOCK (R173, R174, R175, R447): the tray stores a die's compressed block whole, or drops it while frozen. -/
def execTrcBlock (k : BitVec 6) (frame : List Byte) (s : State) : Host.Outcome State Fault Refusal :=
  .next (
    if !s.isT || !s.running then s
    else
      let s := s.take k.toNat 2 0x50
      let t := s.ttrc
      if t.frozen || t.freezeLeft == some 0 then s.setTtr { t with dieDrop := satInc t.dieDrop }
      else if s.dieBlocksN = 0 then s
      else
        let b := t.dieBlk
        let old := Tab.get default t.dieBlocks b
        let lost := s.spillBlocks != 0 && old.gen != 0 && !t.copiedDie
        let s := s.setTtr { t with
          dieBlocks := Tab.set default t.dieBlocks b ⟨nextGen old.gen, wordsOf frame⟩, dieBlk := (b + 1) % s.dieBlocksN
          copiedDie := false, spillDrop := if lost then satInc t.spillDrop else t.spillDrop }
        if s.nbExp 1 then s.north 8 (le 1 1 ++ List.replicate 7 0 ++ frame) else s)

/-- The transfer in the crossing slot of tap `t` is taken (R160): captured as an EVENT packet, matched by the trigger (R177), and
seen by the event machine (R182); what has merged meanwhile goes into the slot. -/
def State.tapTransfer (s : State) (t : Nat) : State :=
  let x := Tab.get default s.trc.taps t
  match x.slot with
  | none => s
  | some (level, edges) =>
    let kind := s.tapKind t
    let ek := if kind = 3 then 2 else if kind = 1 ∨ level.getLsbD 0 then 0 else 1
    let tr := s.tpf 0x20 4
    let edgeOk := match bits tr 3 2 with
      | 0 => ek == 0
      | 1 => ek == 1
      | 2 => ek != 2
      | _ => ek == 2
    let hit := s.isD && s.trc.tstate == 1 && tr % 4 == 1 && bits tr 24 16 == t && edgeOk && s.capFits
    let s := s.setTrc { s.trc with taps := Tab.set default s.trc.taps t { x with slot := none }.launch }
    let s := s.capture (fieldAt 3 60 4 + fieldAt t 40 9 + fieldAt ek 38 2 + fieldAt edges.toNat 32 6 +
      (if ek = 2 then level.toNat else 0))
    (if hit then s.fire 0 else s).emFeed (.tap (BitVec.ofNat 9 t))

/-- TAP_TRANSFER (R158, R160, R184, R185): the transfer that a tap's crossing slot holds, of this level or value and this number of
edges, is taken; none while the crossing is disabled. -/
def execTapTransfer (tap : BitVec 9) (value : BitVec 16) (edges : BitVec 6) (ofs : BitVec 11) (s : State) : Host.Outcome State Fault Refusal :=
  let t := tap.toNat
  .next (
    if !s.running || !s.user || s.tapKind t == 0 || s.integ.xingStop.getLsbD (s.regionDom (s.tapRegion t)) ||
        (Tab.get default s.trc.taps t).slot != some (value, edges) then s
    else (s.laterTo ofs).tapTransfer t)

/-- Every transfer pending with region `r` completes, those of its taps with packets of their own (R53, R184). -/
def State.regionComplete (s : State) (r : Nat) : State :=
  let take (s : State) (t : Nat) : State := if (Tab.get default s.trc.taps t).slot.isNone then s else s.later.tapTransfer t
  ((s.regionTaps r).foldl (fun s t => take (take s t) t) s).transferRegion r

/-- The transfers of region `r`'s taps are withdrawn (R185). -/
def State.tapsWithdrawn (s : State) (r : Nat) : State :=
  s.setTrc { s.trc with taps := s.trc.taps.filter fun (p : Nat × TapStage) => s.tapRegion p.1 != r }

/-- TRC_FIRE_FLIT (R177, R179): the tray's fire; outside ARMED it is ignored and counted. -/
def execTrcFireFlit (ofs : BitVec 11) (s : State) : Host.Outcome State Fault Refusal :=
  .next (
    if !s.isD || !s.running then s
    else
      let s := s.take 0 0 0x23
      if s.trc.tstate = 1 then (s.laterTo ofs).fire 3 else s.setTrc { s.trc with armIgn := satInc s.trc.armIgn })

/-- The trigger can be armed now (R179). -/
def State.canArm (s : State) : Bool := s.trc.tstate == 0 || (s.trc.tstate == 3 && !s.trc.dumping)

/-- An arm (R176, R179): from STOPPED writing resumes with a RESUME buoy. -/
def State.arm (s : State) : State :=
  s.setTrc { s.trc with tstate := 1, resume := s.trc.resume || s.trc.tstate == 3 }

/-- The umpire's arm (R179, R355): ignored and counted where it has no effect. -/
def State.umpireArm (s : State) : State :=
  if s.canArm then s.arm else s.setTrc { s.trc with armIgn := satInc s.trc.armIgn }

/-- TRC_ARM (R179); refused under factory defaults, where trace is idle (R94). -/
def cmdTrcArm (_ : Post) (s : State) : Option State := if s.isD && s.user && s.canArm then some s.arm else none

/-- TRC_FIRE (R177, R179). -/
def cmdTrcFire (_ : Post) (s : State) : Option State :=
  if s.isD && s.user && s.trc.tstate == 1 then some (s.later.fire 1) else none

/-- TRC_EM_RESUME (R183). -/
def cmdTrcEmResume (_ : Post) (s : State) : Option State :=
  if !s.ttrc.frozen then none
  else
    let s := s.setTtr { s.ttrc with frozen := false, freezeLeft := none, emState := 0, emCnt := [0, 0, 0, 0], emHeats := 0, emFire := none }
    some (s.setTrc { s.trc with resume := true })

/-- FREEZE with POST (R183): a second one keeps the smaller remaining count. -/
def TrayTrace.freeze (t : TrayTrace) (post : Nat) : TrayTrace :=
  if t.frozen then t
  else { t with freezeLeft := some (match t.freezeLeft with
    | some n => min n post
    | none => post) }

/-- The actions of transition `i`, which fired on the event of die `die` where it was a die's (R183). -/
def State.emActions (s : State) (i : Nat) (die : Option (BitVec 6)) : State :=
  let a := s.trans i 6 2
  let t := s.ttrc
  let t := if a.testBit 1 then { t with emCap := some false } else if a.testBit 0 then { t with emCap := some true } else t
  let t := if a.testBit 2 then t.freeze (s.trans i 8 4 % 2 ^ 24) else t
  let on := a.testBit 0 && !a.testBit 1 && s.ttrc.emCap == some false
  let s := (s.setTtr t).setTrc { s.trc with resume := s.trc.resume || on }
  let s := if a.testBit 3 then s.note 0x3004 (le 1 s.ttrc.emState.toNat ++ le 1 i) else s
  if !a.testBit 4 then s
  else
    let m := s.trans i 2 2
    let to_ : List Nat :=
      if a.testBit 5 then s.dies
      else if s.trans i 0 1 = 3 then
        (if m = 0xFFFF then (die.map fun d => [d.toNat]).getD [] else if m < 64 then [m] else [])
      else []
    to_.foldl (fun s k => s.send k 0 0x23 []) s

/-- EVENT_MACHINE_TRANSITION (R181, R182): in the cycle after the counter of transition `n` reached COUNT the machine enters NEXT,
a STATE packet is captured, and the actions are carried out. -/
def execEventMachineTransition (n : BitVec 5) (ofs : BitVec 11) (s : State) : Host.Outcome State Fault Refusal :=
  .next (
    match s.ttrc.emFire with
    | some (i, die) =>
      if !s.isT || !s.running || !s.user || i != n.toNat then s
      else
        let nx := s.trans i 1 1 % 8
        let t := s.setTtr { s.ttrc with emState := BitVec.ofNat 3 nx, emCnt := [0, 0, 0, 0], emHeats := 0, emFire := none }
        ((t.laterTo ofs).capture (fieldAt 7 60 4 + fieldAt (i / 4) 46 3 + fieldAt nx 43 3 + fieldAt i 38 5)).emActions i die
    | none => s)

/-- The first cycle of a heat's slot 0, as the event machine sees it (R182). -/
def boundaryEm (s : State) : State := (s.setTtr { s.ttrc with emHeats := s.ttrc.emHeats + 1 }).emFeed .slot0

/-- TRACE_FREEZE (R183): the POST count has run out and both partitions freeze. -/
def execTraceFreeze (s : State) : Host.Outcome State Fault Refusal :=
  .next (
    if s.isT && s.ttrc.freezeLeft == some 0 && !s.ttrc.frozen then
      let s := s.note 0x3005 (le 4 s.trcWptr ++ le 2 (s.ownBlocks + s.ttrc.dieBlk))
      s.setTtr { s.ttrc with frozen := true, freezeLeft := none }
    else s)

/-- PERIODIC_BUOY (R163): at every 64th slot. -/
def execPeriodicBuoy (slot : BitVec 23) (s : State) : Host.Outcome State Fault Refusal :=
  .next (if s.running && slot.toNat % 64 == 0 && decide (slot ≠ 0) && !s.heat.inGap then s.buoy 1 slot s.heat.heat else s)

/-- ACTIVATE_BUOY (R163): between A and the first new heat. -/
def execActivateBuoy (s : State) : Host.Outcome State Fault Refusal :=
  .next (if s.running && s.heat.inGap then s.buoy 3 gapSlot s.heat.heat else s)

/-- A GAP packet (R161, R184, R185). -/
def State.gap (s : State) (region kind : Nat) : State :=
  s.later.capture (fieldAt 6 60 4 + fieldAt region 44 5 + fieldAt kind 42 2)

/-- A STEP packet (R161). -/
def State.stepPacket (s : State) (finish : Bool) (step : Word) : State :=
  s.later.capture (fieldAt 2 60 4 + fieldAt (bit finish 1).toNat 48 1 + step.toNat)

/-- CAP_EN_WRITE (R180): capture stops, or resumes with a RESUME buoy. -/
def execCapEnWrite (a : Acc) (s : State) : Host.Outcome State Fault Refusal :=
  .next (s.written a 0x30000 1 fun s =>
    let on := a.data.getLsbD 0
    let was := s.trc.capEn.getD (s.img 6 0 4 0).bodd
    s.setTrc { s.trc with capEn := some on, resume := s.trc.resume || (on && !was) })

/-- A block of the buffer: own blocks, then the die partition on Exfin-T. -/
def State.blockAt (s : State) (b : Nat) : TrcBlock :=
  if s.isT ∧ s.ownBlocks ≤ b then Tab.get default s.ttrc.dieBlocks (b - s.ownBlocks) else Tab.get default s.trc.blocks b

/-- TRC_RD_SEL_WRITE (R171): the generation of the block is latched. -/
def execTrcRdSelWrite (a : Acc) (s : State) : Host.Outcome State Fault Refusal :=
  .next (s.written a 0x30030 1 fun s =>
    let b := a.data.toNat % 2 ^ 14
    s.setTrc { s.trc with rdSel := BitVec.ofNat 14 b, rdGen := (s.blockAt b).gen })

/-- TRC_RD_CHK.SAME (R171): the generation is the one latched, and the block is not the one being filled, which the write
pointer names. -/
def State.rdSame (s : State) : Bool :=
  let b := s.trc.rdSel.toNat
  (s.blockAt b).gen == s.trc.rdGen && s.trc.blk.toNat != b

/-- Image activation (R79, R163, R176, R180, R181): the trigger and the event machine start anew, the buffer is kept, and
capture that was off before it resumes with a RESUME buoy. -/
def activateTrace (wasOn : Bool) (s : State) : State :=
  let s := s.setTrc { s.trc with
    capEn := none, tstate := if s.isD && (s.tpf 0 4).testBit 3 then 1 else 0, counting := false, remain := 0
    resume := s.trc.resume || !wasOn, taps := [] }
  s.setTtr { s.ttrc with
    emState := 0, emCnt := [0, 0, 0, 0], emHeats := 0, emFire := none, emCap := none, freezeLeft := none, frozen := false }

end Sys2Proof.Machine
end

