-- ==== Sys2Proof/Machine/Detect.lean ====
section
/-! DEFINITION. Detectors (R334 to R344): their inputs, their update, the alarm, and the threshold registers. -/

namespace Sys2Proof.Machine

/-- Change the umpire's part of the state. -/
def State.setUmp (s : State) (u : Umpire) : State := { s with ump := u }

/-- R338: results saturate at ±2^62. -/
def sat62 (v : Int) : Int := min (2 ^ 62) (max (-(2 ^ 62)) v)

/-- Detector `n` as it stands for die `k`. -/
def State.det (s : State) (n k : Nat) : Det := Tab.get default s.ump.det (65 * n + k)

/-- Change detector `n` for die `k`. -/
def State.setDet (s : State) (n k : Nat) (d : Det) : State :=
  s.setUmp { s.ump with det := Tab.set default s.ump.det (65 * n + k) d }

/-- The heat whose samples the detectors of heat u use (R335). -/
def State.detHeat (s : State) : Nat := (s.heat.heat - (if s.isT then 2 else 1)).toNat

/-- Die `k` has a sample in the heat evaluated (R304, R337). -/
def State.hasSample (s : State) (k : Nat) : Bool :=
  s.isD || (s.inr.used.getLsbD k && s.inr.next == s.detHeat + 1)

/-- A count of fingerprint outcomes of kind `o` for die `k` in this heat. -/
def State.fpInputs (s : State) (k o : Nat) : Nat := (s.fpc.inputs.filter fun x => x.1.toNat == k && x.2.toNat == o).length

/-- The scores of die `k` that the link stage had formed when the detectors of this heat began; one formed later is M for
detectors and umpire alike (R328, R334). -/
def State.scoreNow (s : State) (k : Nat) : Option DieScore :=
  s.ump.scores.bind fun x => (x.dies.find? fun p => p.1.toNat == k).map (·.2)

/-- The input of detector `n` for die `k` (Table 11-2); `k` is `own` on Exfin-D and for tray scope. -/
def State.detInput (s : State) (n k : Nat) : Ext :=
  let src := s.detf n 2 1
  let arg := s.detf n 4 2
  let fin (ok : Bool) (v : Int) : Ext := if ok then .fin v else .miss
  if k ≠ own ∧ !s.hasSample k then .miss
  else if src = 0xF then
    let d := s.det arg k
    fin (d.upd && d.init && !s.cpl 2 arg) d.v
  else if src ≤ 0xE then s.source k s.detHeat src arg
  else if src = 0x20 then
    match s.scoreNow k with
    | some x => fin (!x.poison) (x.score.getD arg 0).toInt
    | none => .miss
  else if src = 0x21 then .fin s.ump.drops.toNat
  else if src = 0x22 then
    let o := (Tab.get 0 s.cmp.lastOut arg).toNat
    fin (o != 0) (16 * (Tab.get 0 s.cmp.lastIn arg).toNat / o : Nat)
  else if src = 0x23 then .fin s.heat.overrun.length
  else if 0x24 ≤ src ∧ src ≤ 0x26 then .fin (s.fpInputs k (src - 0x24))
  else if src = 0x27 then
    match Tab.get none s.inr.detrec k with
    | some r => .fin r.1.toNat
    | none => .miss
  else if src = 0x28 then
    match Tab.get none s.inr.detrec k with
    | some r => .fin (bit (r.2.getLsbD arg) 1).toNat
    | none => .miss
  else if src = 0x29 then .fin (Tab.get 0 s.ump.repl k).toNat
  else if src = 0x2A then .fin s.ump.red.toNat
  else .miss

/-- The alarm after an update (R341); no alarm in complement fault (Table 16-1). -/
def State.alarmOf (s : State) (n : Nat) (v : Int) (old : Bool) : Bool :=
  let kind := s.detKind n
  let neg := (s.detf n 1 1).testBit 0 && (kind == 1 || kind == 2 || kind == 5)
  let x := if neg then -v else v
  let sh := 2 ^ s.detf n 6 1
  if s.cpl 2 n then false
  else if s.detHi n * sh < x then true else if x ≤ s.detLo n * sh then false else old

/-- EWMA of R338: A the shift. -/
def ewma (init : Bool) (e x : Int) (a : Nat) : Int := if init then sat62 (e + (x * 2 ^ 16 - e) / 2 ^ a) else sat62 (x * 2 ^ 16)

/-- One update of a THRESH, EWMA or CUSUM detector with input `x` (R338). -/
def State.detStep (s : State) (n : Nat) (d : Det) (x : Int) : Det :=
  let kind := s.detKind n
  let fl := s.detf n 1 1
  let mu := sgn 64 (s.detf n 0x10 8)
  let kk : Int := s.detf n 0x18 4
  let d :=
    if kind = 1 then { d with v := sat62 x }
    else if kind = 2 then
      let e := ewma d.init d.e x (s.detf n 3 1)
      { d with e := e, v := e / 2 ^ 16 }
    else
      let p := sat62 (max 0 (d.sp + x - mu - kk))
      let m := sat62 (max 0 (d.sn + mu - x - kk))
      { d with sp := p, sn := m, v := if fl.testBit 2 then max p m else if fl.testBit 0 then m else p }
  { d with init := true, upd := true, alarm := s.alarmOf n d.v d.alarm }

/-- The dies a detector is evaluated for. -/
def State.detDies (s : State) (n : Nat) : List Nat := if s.isD || s.detTray n then [own] else List.range 64

/-- STRAG (R339): one update per publication with VALID = 1 for a present die. -/
def State.stragStep (s : State) (n k : Nat) : State :=
  let row := Tab.get (0, 0, 0) s.red.pub.die k
  if !s.ump.strag || !s.red.pub.valid || row.1 != 0 then s
  else
    let d := s.det n k
    let a := max 1 (s.detf n 3 1)
    let hit := decide (sgn 32 (s.detf n 0x1C 4) ≤ sgn 16 row.2.2.toNat)
    let win := (d.win ++ [hit]).reverse.take a |>.reverse
    let v : Int := ((win.filter id).length : Nat)
    s.setDet n k { d with win := win, v := v, init := true, upd := true, alarm := s.alarmOf n v d.alarm }

/-- DRIFT (R340): every die's E, then V against the lower median over the dies whose input was not M. -/
def State.driftStep (s : State) (n : Nat) : State :=
  let xs := (List.range 64).filterMap fun k => (s.detInput n k).det.map fun x => (k, x)
  let s := xs.foldl (fun s p =>
    let d := s.det n p.1
    s.setDet n p.1 { d with e := ewma d.init d.e p.2 (s.detf n 3 1), init := true, upd := true }) s
  if xs.length < 3 then s
  else
    let es := (xs.map fun p => (s.det n p.1).e / 2 ^ 16).mergeSort (· ≤ ·)
    let m := es.getD ((es.length - 1) / 2) 0
    xs.foldl (fun s p =>
      let d := s.det n p.1
      let v := sat62 (d.e / 2 ^ 16 - m)
      s.setDet n p.1 { d with v := v, alarm := s.alarmOf n v d.alarm }) s

/-- Detector `n` in this heat. -/
def State.detRun (s : State) (n : Nat) : State :=
  let kind := s.detKind n
  if kind = 0 then s
  else if kind = 4 then (s.detDies n).foldl (fun s k => s.stragStep n k) s
  else if kind = 5 then s.driftStep n
  else
    (s.detDies n).foldl (fun s k =>
      match (s.detInput n k).det with
      | some x => s.setDet n k (s.detStep n (s.det n k) x)
      | none => s) s

/-- DETECTOR_UPDATE (R334, R338 to R341): DET_PROD evaluates every detector in ascending index, once in a heat, on the scores
that the link stage has formed by now (R328). -/
def execDetectorUpdate (s : State) : Host.Outcome State Fault Refusal :=
  .next (
    if !s.running || !s.user || s.ump.detDone then s
    else
      let s := s.setUmp { s.ump with detDone := true, scores := s.te.now, det := Tab.mapV default s.ump.det fun d => { d with upd := false } }
      (List.range s.nDet).foldl State.detRun s)

/-- The alarm bits of Exfin-D's own detectors (R337). -/
def State.alarmBits (s : State) : Nat :=
  ((List.range s.nDet).filter fun n => (s.det n own).alarm && !s.cpl 2 n).foldl (fun a n => a + 2 ^ n) 0

/-- A DET_HI or DET_LO word keeps the ranges of R373: an entry below NDET, LO ≤ HI, and HI ≤ A for STRAG. -/
def State.detWordOk (s : State) (n : Nat) (hi : Bool) (w : Word) : Bool :=
  if s.nDet ≤ n then w == 0
  else
    let h := if hi then w.toInt else s.detHi n
    let l := if hi then s.detLo n else w.toInt
    decide (l ≤ h) && (s.detKind n != 4 || decide (h ≤ (s.detf n 3 1 : Int)))

/-- DET_THRESHOLD_COMMIT (R342, R374, R508). -/
def execDetThresholdCommit (a : Acc) (n : BitVec 8) (hi : Bool) (s : State) : Host.Outcome State Fault Refusal :=
  let off := 0x61000 + 16 * n.toNat + (if hi then 0 else 8)
  .next (s.wc2Commit a off (fun s w => if s.detWordOk n.toNat hi w then 0 else 3) fun s w =>
    let s := s.storePair off w
    if hi then s.cplRestore 2 n.toNat else s)

/-- DET_SEL_WRITE (R376): the per-die detector states of the selected die are copied into the view. -/
def execDetSelWrite (a : Acc) (s : State) : Host.Outcome State Fault Refusal :=
  .next (s.written a 0x63000 1 fun s =>
    if s.isT then
      let k := a.data.toNat % 64
      s.setUmp { s.ump with detSel := BitVec.ofNat 6 k, detView := (List.range 256).map fun n => s.det n k }
    else s)

end Sys2Proof.Machine
end

