-- ==== Sys2Proof/Machine/Umpire.lean ====
section
/-! DEFINITION. The umpire and its policy (R345 to R376): rules and counts, the rating governor, verdicts and their
publication, actions, drain requests, liveness, start and abort fan-out. -/

namespace Sys2Proof.Machine

/-- The fields of rule `i` in force (Table 11-3). -/
def State.ruleKind (s : State) (i : Nat) : Nat := s.polWord i 0 % 16
def State.ruleAnd (s : State) (i : Nat) : Bool := (s.polWord i 0).testBit 4
def State.ruleTray (s : State) (i : Nat) : Bool := s.isT && (s.polWord i 0).testBit 5
def State.ruleReplace (s : State) (i : Nat) : Bool := (s.polWord i 0).testBit 6
def State.ruleArg (s : State) (i : Nat) : Nat := bits (s.polWord i 0) 15 8
def State.ruleLevel (s : State) (i : Nat) : Nat := bits (s.polWord i 0) 17 16
def State.ruleEnter (s : State) (i : Nat) : Nat := bits (s.polWord i 2) 7 0
def State.ruleExit (s : State) (i : Nat) : Nat := bits (s.polWord i 2) 15 8
def State.ruleHold (s : State) (i : Nat) : Nat := bits (s.polWord i 2) 31 16
def State.ruleAct (s : State) (i b : Nat) : Bool := (s.polWord i 3).testBit b
def State.ruleTgt (s : State) (i : Nat) : Nat := bits (s.polWord i 3) 25 16
def State.ruleRt (s : State) (i : Nat) : Nat := 2 ^ bits (s.polWord i 3) 28 26

/-- The compound rules from rule `i` on, `run` being the members gathered (R348). -/
def State.compoundsFrom (s : State) : Nat → Nat → List Nat → List (List Nat)
  | 0, _, run => if run.isEmpty then [] else [run]
  | f + 1, i, run =>
    let run := run ++ [i]
    if s.ruleAnd i then s.compoundsFrom f (i + 1) run else run :: s.compoundsFrom f (i + 1) []

/-- The compound rules, each as its members. -/
def State.compounds (s : State) : List (List Nat) := s.compoundsFrom s.nRule 0 []

/-- The rule whose LEVEL, counts and actions a compound uses (R348). -/
def lastOf (m : List Nat) : Nat := m.getLastD 0

/-- The dies a compound is judged for. -/
def State.ruleDies (s : State) (m : List Nat) : List Nat :=
  if s.isD || s.ruleTray (lastOf m) then [own] else List.range 64

/-- A condition's truth as a code: 0 undetermined, 1 true, 2 false. -/
def condOf (b : Bool) : BitVec 2 := if b then 1 else 2

/-- An alarm condition (R349): judged only in a heat in which its detector was updated. -/
def State.alarmCond (s : State) (n k : Nat) : BitVec 2 :=
  let d := s.det n k
  if s.nDet ≤ n || !d.init || !d.upd || s.cpl 2 n then 0 else condOf d.alarm

/-- The condition of rule `i` for die `k` (Table 11-3, R349, R361, R363). -/
def State.ruleCond (s : State) (i k : Nat) : BitVec 2 :=
  let a := s.ruleArg i
  let kind := s.ruleKind i
  if kind = 4 then
    if s.ump.disagree.getLsbD k then 0
    else
      let live := (s.verd k).live.toNat
      condOf (live != 0 && decide (a ≤ live))
  else if kind = 6 then s.alarmCond a own
  else if !s.hasSample k && k != own then 0
  else if kind = 1 then s.alarmCond a k
  else if kind = 2 then
    match s.scoreNow k with
    | some x => if x.poison || decide (s.nOut ≤ a) then 0 else condOf (decide (sgn 32 (s.polWord i 1) ≤ (x.score.getD a 0).toInt))
    | none => 0
  else if kind = 3 then condOf (decide (s.fpInputs k a ≠ 0))
  else if kind = 5 then
    match Tab.get none s.inr.detrec k with
    | some r => condOf (decide (a ≤ r.1.toNat))
    | none => 0
  else 0

/-- Rule `i` is treated as unused: CKIND 0 or a complement fault in one of its words (Table 16-1). -/
def State.ruleUnused (s : State) (i : Nat) : Bool :=
  s.ruleKind i == 0 || (List.range 4).any fun w => s.cpl 3 (4 * i + w)

/-- Verdicts and rule states of die `k` stay frozen (R353, Table 16-1 item 6). -/
def State.frozen (s : State) (k : Nat) : Bool :=
  s.isT && ((k < 64 && s.inr.out.getLsbD k) || s.cpl 6 0)

/-- The condition of a compound for die `k` (R349); 3 where a member is unused. -/
def State.compoundCond (s : State) (m : List Nat) (k : Nat) : BitVec 2 :=
  if m.any s.ruleUnused then 3
  else if s.frozen k then 0
  else
    let cs := m.map fun i => s.ruleCond i k
    if cs.any (· == 2) then 2 else if cs.any (· == 0) then 0 else 1

/-- UMPIRE_EVALUATION (R334, R349): after the detectors of the heat, UMP_PROD judges every compound for every die; the
boundary that ends the heat takes the result. -/
def execUmpireEvaluation (s : State) : Host.Outcome State Fault Refusal :=
  .next (
    if !s.running || !s.user || !s.ump.detDone || s.ump.work.isSome then s
    else
      let conds := s.compounds.foldl (fun t m =>
        (s.ruleDies m).foldl (fun t k => Tab.set 0 t (65 * lastOf m + k) (s.compoundCond m k)) t) []
      s.setUmp { s.ump with work := some { heat := s.heat.heat, conds := conds } })

/-- The counts of rule `i` for die `k`. -/
def State.cnt (s : State) (i k : Nat) : RuleCnt := Tab.get default s.ump.counts (65 * i + k)

/-- Counts and ACTIVE after a condition (R349). -/
def RuleCnt.next (c : RuleCnt) (enter exit_ : Nat) (cond : BitVec 2) : RuleCnt :=
  if cond = 3 then { c with active := false }
  else
    let c := if cond = 1 then { c with cin := satInc c.cin, cout := 0 }
      else if cond = 2 then { c with cout := satInc c.cout, cin := 0 } else c
    let c := if enter ≤ c.cin.toNat then { c with active := true } else c
    if exit_ ≤ c.cout.toNat then { c with active := false } else c

/-- The compounds ACTIVE for die `k`, as their last rules. -/
def State.activeRules (s : State) (k : Nat) : List Nat :=
  (s.compounds.map lastOf).filter fun i => (s.cnt i k).active

/-- The greatest of a list of numbers, 0 for none. -/
def maxNat (l : List Nat) : Nat := l.foldl max 0

/-- The new counts of every compound and die; the rules that became ACTIVE, as (rule, die) (R349). -/
def State.applyConds (s : State) (w : UmpWork) : State × List (Nat × Nat) :=
  s.compounds.foldl (fun (p : State × List (Nat × Nat)) m =>
    let i := lastOf m
    (s.ruleDies m).foldl (fun (p : State × List (Nat × Nat)) k =>
      if s.frozen k then p
      else
        let c := p.1.cnt i k
        let c' := c.next (s.ruleEnter i) (s.ruleExit i) (Tab.get 0 w.conds (65 * i + k))
        (p.1.setUmp { p.1.ump with counts := Tab.set default p.1.ump.counts (65 * i + k) c' },
          if c'.active && !c.active then p.2 ++ [(i, k)] else p.2)) p) (s, [])

/-- The die index that records and messages use for key `k`. -/
def State.dieOf (s : State) (k : Nat) : Nat := if k = own then s.idx else k

/-- The FSID of die `k` of this tray. -/
def State.dieFsid (s : State) (k : Nat) : BitVec 48 :=
  BitVec.ofNat 48 (fieldAt (if s.trayValid then s.trayNo else 0) 24 18 + fieldAt (k / 8) 20 4 + fieldAt (k % 8) 17 3)

/-- The northbound VERDICT of die `k` (Table 14-3). -/
def State.verdictBody (s : State) (k old : Nat) (heat : DWord) : List Byte :=
  let v := s.verd k
  le 6 (s.dieFsid k).toNat ++ le 1 old ++ le 1 v.v.toNat ++ le 1 v.cause.toNat ++ le 1 (bit v.replace 1).toNat ++
    le 2 v.vseq.toNat ++ le 8 heat.toNat ++ le 4 0

/-- A change of the verdict of key `k` from `old` is published (R353, R369): VSEQ rises, ACKED clears, the messages and the
record go out, the record with the caller that asked for it, if one did (R375). `u` is the ending heat. -/
def State.verdictChanged (s : State) (k old : Nat) (u : DWord) (role path : Nat) : State :=
  let v := s.verd k
  if v.v.toNat = old then s
  else
    let s := s.setVerd k { v with vseq := v.vseq + 1, acked := false, repAt := if 2 ≤ v.v.toNat then some (s.heat.count + 1) else none
                                  drainDue := v.drainDue || (s.isT && v.v == 3)
                                  old := BitVec.ofNat 2 old, chHeat := u }
    let v := s.verd k
    let s :=
      if s.isD then s.send 0 0 0x1A (le 1 v.v.toNat ++ le 1 v.cause.toNat ++ le 6 0 ++ le 8 u.toNat)
      else
        (s.send k 0 0x2B (le 1 v.v.toNat ++ le 1 v.cause.toNat ++ le 1 (bit v.replace 1).toNat ++ le 1 0 ++
          le 2 v.vseq.toNat ++ le 2 0 ++ le 8 u.toNat)).north 4 (s.verdictBody k old u)
    let s := if 2 ≤ old ∨ 2 ≤ v.v.toNat then
        s.event 0x5401 (le 1 (s.dieOf k) ++ le 1 old ++ le 1 v.v.toNat ++ le 1 v.cause.toNat ++ le 2 v.vseq.toNat) role path
      else s
    s.emFeed (.verdict v.v)

/-- VERD_RESET takes effect at the boundary (R351, R360): the verdict, H, counts and ACTIVE bits of the die. -/
def State.resetVerdict (s : State) (k : Nat) (u : DWord) : State :=
  let v := s.verd k
  match v.resetDue with
  | none => s
  | some (role, path) =>
    let old := v.v.toNat
    let s := s.setVerd k { v with v := 0, h := 0, cause := 0x41, replace := false, resetDue := none
                                  drain := 0, drainDue := false, drainAt := none }
    let s := s.setUmp { s.ump with counts := s.ump.counts.filter fun (p : Nat × RuleCnt) => p.1 % 65 != k }
    let s := if old = 3 then s.send k 0 0x26 [] else s
    (s.event 0x540A (le 1 (s.dieOf k) ++ le 1 old) role.toNat path.toNat).verdictChanged k old u role.toNat path.toNat

/-- R350 for key `k`, given the rules that became ACTIVE, with the cap of R352. -/
def State.moveVerdict (s : State) (k : Nat) (became : List (Nat × Nat)) (u : DWord) : State :=
  let v := s.verd k
  let old := v.v.toNat
  let act := s.activeRules k
  let t := maxNat (act.map s.ruleLevel)
  let top := act.filter fun i => s.ruleLevel i == t
  let die : BitVec 6 := BitVec.ofNat 6 k
  if s.isT && k != own && s.ump.fpDue.contains die then
    ((s.setUmp { s.ump with fpDue := s.ump.fpDue.filter (· != die) }).setVerd k
      { v with v := 3, cause := 0x40, replace := true }).verdictChanged k old u 0 0
  else if old = 3 then s
  else if old < t then
    let h := maxNat (top.map s.ruleHold)
    let low := top.foldl min 64
    if t = 3 ∧ s.condemnCap ≤ s.ump.capUsed.toNat then
      let s := if old < 2 then s.setVerd k { v with v := 2, h := h, cause := 0x42 } else s
      (s.note 0x5402 (le 1 (s.dieOf k) ++ le 1 low)).verdictChanged k old u 0 0
    else
      let s := s.setVerd k { v with v := BitVec.ofNat 2 t, h := h, cause := BitVec.ofNat 8 low
                                    replace := decide (t = 3) && s.ruleReplace low }
      let s := if t = 3 then s.setUmp { s.ump with capUsed := satInc s.ump.capUsed } else s
      s.verdictChanged k old u 0 0
  else
    let same := (became.filter fun p => p.2 == k && s.ruleLevel p.1 == old).map fun p => s.ruleHold p.1
    let h := max v.h (maxNat same) - 1
    if t < old ∧ h = 0 then
      (s.setVerd k { v with v := v.v - 1, h := h, cause := 0x43, replace := false }).verdictChanged k old u 0 0
    else s.setVerd k { v with h := h }

/-- The keys of the verdicts this instance forms. -/
def State.verdKeys (s : State) : List Nat := if s.isD then [own] else List.range 64

/-- The actions at activation (Table 11-4): TRACE once per die (R357), REPLAY once per record, NOTIFY. -/
def State.ruleStarts (s : State) (became : List (Nat × Nat)) : State :=
  let tr := (became.filter fun p => s.ruleAct p.1 2).map (·.2) |>.eraseDups
  let s := tr.foldl (fun s k => if s.isD then s.umpireArm else if k = own then s else s.send k 0 0x23 []) s
  let re := ((became.filter fun p => s.ruleAct p.1 3 && p.2 != own).map (·.2)).eraseDups
  let s := if s.isT then (s.fpc.unres.filter fun r => re.contains r.die.toNat).foldl (fun s r =>
      s.fpRequest { r with heat := s.heat.count, left := false, accepted := false, closed := none, result := none }) s
    else s
  became.foldl (fun s p => if s.ruleAct p.1 5 then s.note 0x5403 (le 1 p.1 ++ le 1 (s.dieOf p.2)) else s) s

/-- LEND follows the ACTIVE rules (R355, R356). -/
def State.lendLevels (s : State) : State :=
  s.verdKeys.foldl (fun s k =>
    let on := (s.activeRules k).any fun i => s.ruleAct i 4
    if s.isD then { s with pwr := { s.pwr with lendPolicy := on } }
    else
      let v := s.verd k
      if v.lend == on then s else (s.setVerd k { v with lend := on }).send k 0 (if on then 0x27 else 0x28) []) s

/-- The least RT of the ACTIVE rules whose RATE action names a target (R346, R357). -/
def State.requested (s : State) (region : Bool) (tgt d : Nat) : Nat :=
  match ((s.activeRules own).filter fun i => s.ruleAct i 0 && s.ruleAct i 1 == region && s.ruleTgt i == tgt).map s.ruleRt with
  | [] => d
  | r :: t => t.foldl min r

/-- The state of the governor of producer `p`; a level of 0 stands for the initial 1 (R345). -/
def State.gov (s : State) (p : Nat) : Gov :=
  let g : Gov := Tab.get default s.ump.gov p
  if g.g = 0 then { g with g := 1 } else g

/-- The divisor set last for producer `p` (R346): pending, else in force. -/
def State.divSet (s : State) (p : Nat) : Nat :=
  match (Tab.get (0 : BitVec 7) s.heat.divNext p).toNat with
  | 0 => s.divOf p
  | d => d

/-- Set the divisor that takes effect by R122; equal to the one in force, nothing waits. -/
def State.setDiv (s : State) (p d : Nat) : State :=
  { s with heat := { s.heat with divNext := Tab.set 0 s.heat.divNext p (BitVec.ofNat 7 (if d = s.divOf p then 0 else d)) } }

/-- The governor and the divisor of one producer in the heat that ends (R345, R346). -/
def State.govStep (s : State) (r : ProdRec) : State :=
  let p := r.prod
  let g := s.gov p
  let over_ := s.ump.overPrev.contains (BitVec.ofNat 10 p)
  let calm := if over_ then 0 else g.calm.toNat + 1
  let fall := !over_ && decide (s.rateCalm ≤ calm)
  let lvl := if over_ then (if g.holdG = 0 then min r.dMax (2 * max g.g.toNat (s.divOf p)) else g.g.toNat)
    else if fall then max 1 (g.g.toNat / 2) else g.g.toNat
  let g' : Gov := { g with g := BitVec.ofNat 7 lvl, calm := if fall then 0 else BitVec.ofNat 16 calm
                           holdG := if lvl = g.g.toNat then g.holdG else s.rateHold }
  let want := min r.dMax (max r.dMin (max (s.requested false p r.dProved) lvl))
  let set := want ≠ s.divSet p ∧ g'.holdD = 0
  let g' := if set then { g' with holdD := s.rateHold } else g'
  let s := s.setUmp { s.ump with gov := Tab.set default s.ump.gov p g' }
  if set then s.setDiv p want else s

/-- log2 of the divisor set last for region `r`. -/
def State.rdivSetLog (s : State) (r : Nat) : Nat :=
  if s.heat.rdivPend.getLsbD r then (Tab.get (0 : BitVec 3) s.heat.rdivNext r).toNat else s.rdivLog r

/-- The request of one region (R346). -/
def State.regStep (s : State) (r : Nat) : State :=
  let want := Nat.log2 (s.requested true r (2 ^ s.rdivInit r))
  if want = s.rdivSetLog r ∨ Tab.get 0 s.ump.regHold r ≠ 0 then s
  else
    let s := s.setUmp { s.ump with regHold := Tab.set 0 s.ump.regHold r s.rateHold }
    let h := s.heat
    { s with heat := { h with rdivNext := Tab.set 0 h.rdivNext r (BitVec.ofNat 3 want)
                              rdivPend := setBit h.rdivPend r (want != s.rdivLog r) } }

/-- A heat passes for the holds of R345 and R346. -/
def Umpire.holdTick (u : Umpire) : Umpire :=
  { u with gov := Tab.mapV default u.gov fun g => { g with holdG := g.holdG - 1, holdD := g.holdD - 1 }
           regHold := Tab.mapV 0 u.regHold fun n => n - 1 }

/-- Committed rule words come into force, with their rules' counts and ACTIVE bits at 0 (R354). -/
def State.rulesInForce (s : State) : State :=
  let ch := s.ump.rulePend.map fun p => p.1 / 4
  if ch.isEmpty then s
  else
    let hitBy (t : State) : List Nat := (t.compounds.filter fun m => m.any ch.contains).map lastOf
    let t := s.setUmp { s.ump with
      rulePend := [], ruleNow := s.ump.rulePend.foldl (fun r p => Tab.set none r p.1 (some p.2)) s.ump.ruleNow }
    let ls := ch ++ hitBy s ++ hitBy t
    t.setUmp { t.ump with counts := t.ump.counts.filter fun (p : Nat × RuleCnt) => !ls.contains (p.1 / 65) }

/-- The sum of the queue drop counters of the instance (R45, DROPS of Table 11-2). -/
def State.dropSum (s : State) : Word :=
  let sumW (l : List Word) : Nat := (l.map BitVec.toNat).sum
  let links := (s.ul.links.map fun (p : Nat × Link) => sumW (p.2.tx.map (·.drops)) + sumW (p.2.rx.map (·.drops)) + p.2.insDrops.toNat).sum
  let port (q : NbPort) : Nat := (q.drops.map fun (p : Nat × Word) => p.2.toNat).sum
  BitVec.ofNat 32 (links + s.trc.loss.toNat + s.led.drop.toNat + s.evr.drop.toNat + port s.nb.port0 + port s.nb.port1 +
    (Tab.get 0 s.nb.t1s.cnt 7).toNat + (Tab.get 0 s.fpc.counts 9).toNat + (Tab.get 0 s.te.cnt 6).toNat)

/-- The figures of the heat that ends, which the detectors of the next read (DROPS, REDLOSS, LREPLAY of Table 11-2). -/
def State.heatFigures (s : State) : State :=
  let drops := s.dropSum
  let red := (List.range 3).foldl (fun (a : Word) i => a + Tab.get 0 s.red.cnt (2 + i)) 0
  let repl : Tab Word := (s.ul.links.map fun (p : Nat × Link) => (p.1, Tab.get 0 p.2.cnt 5)).filter fun p => p.2 != 0
  s.setUmp { s.ump with
    drops := drops - s.ump.dropsPrev, dropsPrev := drops, red := red - s.ump.redPrev, redPrev := red
    repl := (List.range 64).foldl (fun t k => Tab.set 0 t k (Tab.get 0 repl k - Tab.get 0 s.ump.replPrev k)) []
    replPrev := repl }

/-- What the instance counted outside any heat is no heat's figure (R78, Table 11-2). -/
def State.umpireAnew (s : State) : State :=
  let t := s.heatFigures
  t.setUmp { t.ump with drops := 0, red := 0, repl := [], overNow := [], fast := 0 }

/-- The job's view and Exfin-T's view of each in-service die, heat by heat (R362). -/
def State.viewTick (s : State) : State :=
  if s.isD || !s.ump.jobWritten then s
  else
    s.dies.foldl (fun s k =>
      let v := s.verd k
      let alive := v.live == 1 || v.live == 2
      if alive == s.ump.jobLive.getLsbD k then s.setVerd k { v with differ := 0, agree := v.agree + 1 }
      else s.setVerd k { v with differ := v.differ + 1, agree := 0 }) s

/-- Boundary (R334, R336, R345 to R354): `u` ends, `next` begins; the umpire's work is taken unless it was discarded. -/
def boundaryUmpire (u next : DWord) (unfinished : List (BitVec 10)) (s : State) : State :=
  let s := s.setUmp { s.ump.holdTick with
    capUsed := if next.toNat / s.capWin = u.toNat / s.capWin then s.ump.capUsed else 0 }
  let s := if s.user then s.verdKeys.foldl (fun (s : State) k => s.resetVerdict k u) s else s
  let s :=
    match s.ump.work with
    | none => s
    | some w =>
      let (s, became) := s.applyConds w
      let s := s.verdKeys.foldl (fun (s : State) k => if s.frozen k then s else s.moveVerdict k became u) s
      let s := s.ruleStarts became
      let s := s.prods.foldl State.govStep s
      if s.isD then (List.range 32).foldl State.regStep s else s
  let s := (s.rulesInForce.lendLevels).viewTick.heatFigures
  let over_ := unfinished.filter fun p => !s.ump.overNow.contains p
  { s with
      ump := { s.ump with work := none, detDone := false, scores := none, overPrev := s.ump.overNow ++ over_, overNow := [], fast := 0 }
      fpc := { s.fpc with inputs := [], unres := [] } }

/-- DIVISOR_CHANGE (R122): a changed divisor takes effect at a boundary that begins a heat whose number is a multiple of
both. -/
def execDivisorChange (region : Bool) (idx : BitVec 10) (s : State) : Host.Outcome State Fault Refusal :=
  let i := idx.toNat
  let h := s.heat
  .next (
    if !s.running || !s.user then s
    else if region then
      let b := (Tab.get (0 : BitVec 3) h.rdivNext (i % 32)).toNat
      if s.isD && h.rdivPend.getLsbD (i % 32) && h.heat.toNat % 2 ^ max b (s.rdivLog (i % 32)) == 0 then
        { s with heat := { h with rdiv := Tab.set 0 h.rdiv (i % 32) (BitVec.ofNat 3 b), rdivSet := setBit h.rdivSet (i % 32) true
                                  rdivPend := setBit h.rdivPend (i % 32) false, rdivNext := Tab.set 0 h.rdivNext (i % 32) 0 } }
      else s
    else
      let b := (Tab.get (0 : BitVec 7) h.divNext i).toNat
      if b ≠ 0 ∧ h.heat.toNat % max b (s.divOf i) = 0 then
        { s with heat := { h with div := Tab.set 0 h.div i (BitVec.ofNat 7 b), divNext := Tab.set 0 h.divNext i 0 } }
      else s)

/-- What a policy rule's words must keep to (R374): grade, NRULE, which producers exist, the rule's index and words. -/
def ruleOk (tray : Bool) (nRule : Nat) (hasProd : Nat → Bool) (i w0 w1 w2 w3 : Nat) : Bool :=
  let kind := w0 % 16
  let a := bits w0 15 8
  let lvl := bits w0 17 16
  let scope := w0.testBit 5
  let act (b : Nat) : Bool := w3.testBit b
  let tgt := bits w3 25 16
  if nRule ≤ i then w0 == 0 && w1 == 0 && w2 == 0 && w3 == 0
  else
    !w0.testBit 7 && bits w0 31 18 == 0 && bits w3 15 6 == 0 && bits w3 31 29 == 0 && decide (bits w3 28 26 ≤ 6) &&
    decide (kind ≤ if tray then 6 else 1) && (kind == 2 || w1 == 0) && (kind != 3 || decide (a ≤ 2)) &&
    (kind != 4 || decide (2 ≤ a ∧ a ≤ 4)) && (!scope || (tray && kind == 6 && lvl == 0)) &&
    (tray || lvl != 3) && (!w0.testBit 6 || (tray && lvl == 3)) &&
    (!act 0 || !tray || scope) && (!act 1 || (!tray && act 0)) && (!act 2 || !scope) && (!act 3 || (tray && !scope)) &&
    (!act 4 || !scope) && (!act 0 || (if act 1 then decide (tgt ≤ 31) else hasProd tgt)) &&
    (if w0.testBit 4 then i + 1 != nRule && lvl == 0 && w2 == 0 && bits w3 5 0 == 0 && !w0.testBit 6
     else decide (1 ≤ bits w2 7 0 ∧ 1 ≤ bits w2 15 8))

/-- What the fields of an unused rule's words must keep to, each by itself: R354 writes them one after the other, so that the
checks across words come with the word that gives the rule its CKIND (notes/assumptions/84). -/
def ruleFieldsOk (tray : Bool) (nRule : Nat) (hasProd : Nat → Bool) (i w0 w1 w2 w3 : Nat) : Bool :=
  let act (b : Nat) : Bool := w3.testBit b
  let tgt := bits w3 25 16
  if nRule ≤ i then w0 == 0 && w1 == 0 && w2 == 0 && w3 == 0
  else
    !w0.testBit 7 && bits w0 31 18 == 0 && bits w3 15 6 == 0 && bits w3 31 29 == 0 && decide (bits w3 28 26 ≤ 6) &&
    (tray || (bits w0 17 16 != 3 && !w0.testBit 5 && !w0.testBit 6 && !act 3)) && (!tray || !act 1) &&
    (!act 0 || (if act 1 then decide (tgt ≤ 31) else hasProd tgt)) && (!w0.testBit 4 || i + 1 != nRule)

/-- The word of a rule as stored (R354): the last commit, else the image's. -/
def State.polStored (s : State) (i w : Nat) : Nat := s.wc2v (0x60000 + 32 * i + 8 * w) (s.polImage i w)

/-- POL_RULE_COMMIT (R354, R374, R508). -/
def execPolRuleCommit (a : Acc) (i : BitVec 6) (w : BitVec 2) (s : State) : Host.Outcome State Fault Refusal :=
  let r := i.toNat
  .next (s.wc2Commit a (0x60000 + 32 * r + 8 * w.toNat)
    (fun s v =>
      let f (j : Nat) : Nat := if j = w.toNat then v.toNat else s.polStored r j
      let ok := if f 0 % 16 = 0 then ruleFieldsOk else ruleOk
      if ok s.isT s.nRule (fun p => (s.prod? p).isSome) r (f 0) (f 1) (f 2) (f 3) then 0 else 3)
    fun s v =>
      let s := s.storePair (0x60000 + 32 * r + 8 * w.toNat) v
      (s.setUmp { s.ump with rulePend := s.ump.rulePend ++ [(4 * r + w.toNat, v)] }).cplRestore 3 (4 * r + w.toNat))

/-- DRN_EN_COMMIT (R358, R374, R508); on Exfin-D only bit 0 exists and DRN_EN_HI does not. -/
def execDrnEnCommit (a : Acc) (hi : Bool) (s : State) : Host.Outcome State Fault Refusal :=
  .next (
    if hi && s.isD then s.written a 0x62814 0 id
    else s.wc2Commit a (if hi then 0x62810 else 0x62808) (fun s v => if s.isD && decide (1 < v.toNat) then 3 else 0)
      fun s v => (s.storePair (if hi then 0x62810 else 0x62808) v).cplRestore 4 (bit hi 1).toNat)

/-- DRAIN_SEND (R358, R360): in the heat after a CONDEMN, DRAIN is sent, or suppressed by DRN_EN. -/
def execDrainSend (die : BitVec 6) (s : State) : Host.Outcome State Fault Refusal :=
  let k := die.toNat
  let v := s.verd k
  .next (
    if !s.isT || !s.running || !v.drainDue || v.v != 3 then s
    else if s.drnEn k then
      (s.setVerd k { v with drainDue := false, drain := 1, drainAt := some s.heat.count }).send k 0 0x25 []
    else (s.setVerd k { v with drainDue := false, drain := 3, drainAt := none }).note 0x5404 (le 1 k))

/-- DRAIN_STATE to the tray (R359). -/
def State.sendDrainState (s : State) : State :=
  let u := s.ump
  s.send 0 0 0x18 (le 1 ((bit u.drainReq 1).toNat + 2 * (bit u.drainAck 1).toNat + 4 * (bit u.suppressed 1).toNat) ++
    List.replicate 7 0 ++ le 8 s.tb.stroke.toNat)

/-- DRAIN (R359): DRAIN_REQ rises, or the request is answered SUPPRESSED. -/
def execDrain (s : State) : Host.Outcome State Fault Refusal :=
  .next (
    if !s.isD || !s.running then s
    else
      let s := s.take 0 0 0x25
      if s.drnEn 0 then s.setUmp { s.ump with drainReq := true, suppressed := false }
      else ((s.setUmp { s.ump with suppressed := true }).sendDrainState).note 0x5404 (le 1 s.dieIdx))

/-- DRAIN_ACK_CHANGE (R359). -/
def execDrainAckChange (level : Bool) (s : State) : Host.Outcome State Fault Refusal :=
  .next (if !s.isD || !s.running || s.ump.drainAck == level then s
    else (s.setUmp { s.ump with drainAck := level }).sendDrainState)

/-- DRAIN_STATE (R359): the tray takes a die's report. -/
def execDrainState (k : BitVec 6) (st : Byte) (_stroke : DWord) (s : State) : Host.Outcome State Fault Refusal :=
  .next (
    if !s.isT || !s.running then s
    else
      let s := s.take k.toNat 0 0x18
      let v := s.verd k.toNat
      if v.v ≠ 3 then s
      else if st.getLsbD 2 then s.setVerd k.toNat { v with drain := 3, drainAt := none }
      else if st.getLsbD 1 then s.setVerd k.toNat { v with drain := 2, drainAt := none }
      else s)

/-- DRAIN_TIMEOUT (R359): DRAIN_TMO heats without DRAIN_ACK. -/
def execDrainTimeout (die : BitVec 6) (s : State) : Host.Outcome State Fault Refusal :=
  let v := s.verd die.toNat
  .next (
    match v.drainAt with
    | some h =>
      if s.isT && s.running && v.drain == 1 && decide (s.drainTmo ≤ s.heatsSince h) then
        (s.setVerd die.toNat { v with drainAt := none }).note 0x5405 (le 1 die.toNat)
      else s
    | none => s)

/-- DRAIN_CLEAR (R360): DRAIN_REQ falls. -/
def execDrainClear (s : State) : Host.Outcome State Fault Refusal :=
  .next (if !s.isD || !s.running then s
    else let s := s.take 0 0 0x26; s.setUmp { s.ump with drainReq := false })

/-- LEND_SET (R356). -/
def execLendSet (s : State) : Host.Outcome State Fault Refusal :=
  .next (if !s.isD || !s.running then s
    else let s := s.take 0 0 0x27; { s with pwr := { s.pwr with lendTray := true } })

/-- LEND_CLR (R356). -/
def execLendClr (s : State) : Host.Outcome State Fault Refusal :=
  .next (if !s.isD || !s.running then s
    else let s := s.take 0 0 0x28; { s with pwr := { s.pwr with lendTray := false } })

/-- VERDICT_REPEAT (R369): the record of an unacknowledged SUSPECT or CONDEMN is sent again every VREP heats, with REPEAT = 1
(R447). -/
def execVerdictRepeat (die : BitVec 6) (s : State) : Host.Outcome State Fault Refusal :=
  let v := s.verd die.toNat
  .next (
    match v.repAt with
    | some h =>
      if s.isT && s.running && decide (2 ≤ v.v.toNat) && !v.acked && s.vrep != 0 && decide (s.vrep ≤ s.heatsSince h) then
        (s.setVerd die.toNat { v with repAt := some s.heat.count }).northRep 4
          (s.verdictBody die.toNat v.old.toNat v.chHeat) true
      else s
    | none => s)

/-- A liveness report northbound (Table 14-3). -/
def State.livenessBody (s : State) (k : Nat) (begins : Bool) : List Byte :=
  le 1 k ++ le 1 (s.verd k).live.toNat ++ le 1 (bit (s.ump.jobLive.getLsbD k) 1).toNat ++ le 1 (bit begins 1).toNat ++ le 4 0

/-- LIVENESS_DISAGREE (R362): DISAGREE_H consecutive heats of differing views. -/
def execLivenessDisagree (die : BitVec 6) (s : State) : Host.Outcome State Fault Refusal :=
  let k := die.toNat
  .next (
    if s.isT && s.running && s.inService k && !s.ump.disagree.getLsbD k && s.ump.jobWritten &&
        decide (max 1 s.disagreeH ≤ (s.verd k).differ) then
      ((s.setUmp { s.ump with disagree := setBit s.ump.disagree k true }).note 0x5406
        (le 1 k ++ le 1 (s.verd k).live.toNat ++ le 1 (bit (s.ump.jobLive.getLsbD k) 1).toNat)).north 0xA (s.livenessBody k true)
    else s)

/-- LIVENESS_AGREE (R362): DISAGREE_H consecutive heats of agreement. -/
def execLivenessAgree (die : BitVec 6) (s : State) : Host.Outcome State Fault Refusal :=
  let k := die.toNat
  .next (
    if s.isT && s.running && s.ump.disagree.getLsbD k && decide (max 1 s.disagreeH ≤ (s.verd k).agree) then
      ((s.setUmp { s.ump with disagree := setBit s.ump.disagree k false }).note 0x5407 (le 1 k)).north 0xA
        (s.livenessBody k false)
    else s)

/-- UMP_JOBLIVE_WRITE (R362). -/
def execUmpJobliveWrite (a : Acc) (hi : Bool) (s : State) : Host.Outcome State Fault Refusal :=
  .next (s.written a (if hi then 0x62834 else 0x62830) 1 fun s =>
    if s.isT then
      let old := s.ump.jobLive
      let w : DWord := if hi then a.data ++ (old.setWidth 32 : Word) else ((old >>> 32).setWidth 32 : Word) ++ a.data
      s.setUmp { s.ump with jobLive := w, jobWritten := true }
    else s)

/-- VERD_RESET (R351): the verdict named is set to CALM at the boundary that ends this heat. -/
def cmdVerdReset (p : Post) (s : State) : Option State :=
  let n := p.a0.toNat % 64
  let k := if s.isD then own else n
  let v := s.verd k
  if (s.isD && n != 0) || v.v == 0 then none else some (s.setVerd k { v with resetDue := some (p.role, p.path) })

/-- VERD_ACK (R370). -/
def cmdVerdAck (p : Post) (s : State) : Option State :=
  let k := p.a0.toNat % 64
  let v := s.verd k
  if v.vseq.toNat ≠ p.a1.toNat % 2 ^ 16 then none else some (s.setVerd k { v with acked := true })

/-- The start closes when every die that was sent one has answered, or at its timeout (R366); the record names the caller
where a START closes at once (R375). -/
def State.closeStart (s : State) (timeout : Bool) (role path : Nat) : State :=
  let u := s.ump
  if u.startOpen && (timeout || u.startMask == u.startDone ||| u.startLate) then
    let t := (s.setUmp { u with startOpen := false }).event 0x5408
      (le 4 u.startId.toNat ++ le 8 u.startDone.toNat ++ le 8 u.startLate.toNat) role path
    t.north 0xB (le 4 u.startId.toNat ++ le 4 0 ++ le 8 u.startDone.toNat ++ le 8 u.startLate.toNat)
  else s

/-- START (R364): START goes on the insertion path of every trained link in the mask. -/
def cmdStart (p : Post) (s : State) : Option State :=
  let m : DWord := p.a2 ++ p.a1
  if s.ump.startOpen || m == 0 then none
  else
    let ks := (maskList m).filter fun k => (s.link k).tr.state == 4
    let dl := s.tb.stroke + BitVec.ofNat 64 (s.startTmo * s.period)
    let s := ks.foldl (fun s k => s.insert k 0x29 (le 4 p.a0.toNat ++ le 4 0 ++ le 8 dl.toNat)) s
    let sent := ks.foldl (fun (x : DWord) k => setBit x k true) 0
    some ((s.setUmp { s.ump with startOpen := true, startId := p.a0, startMask := sent, startHeat := s.heat.count
                                 startDone := 0, startLate := 0 }).closeStart false p.role.toNat p.path.toNat)

/-- START_ACK (R366). -/
def execStartAck (k : BitVec 6) (id : Word) (late : Bool) (s : State) : Host.Outcome State Fault Refusal :=
  .next (
    if !s.isT || !s.running then s
    else
      let s := s.take k.toNat 0 0x19
      let u := s.ump
      if !u.startOpen || u.startId != id || !u.startMask.getLsbD k.toNat then s
      else
        (s.setUmp (if late then { u with startLate := setBit u.startLate k.toNat true }
          else { u with startDone := setBit u.startDone k.toNat true })).closeStart false 0 0)

/-- START_TIMEOUT (R366): START_TMO heats after the start was sent. -/
def execStartTimeout (s : State) : Host.Outcome State Fault Refusal :=
  .next (if s.isT && s.running && decide (s.startTmo ≤ s.heatsSince s.ump.startHeat) then s.closeStart true 0 0 else s)

/-- START_FLIT (R365): JOB_START is pulsed in time, or the answer is LATE. -/
def execStartFlit (id : Word) (deadline : DWord) (s : State) : Host.Outcome State Fault Refusal :=
  .next (
    if !s.isD || !s.running then s
    else
      let s := s.take 0 0 0x29
      if s.tb.valid && decide (s.tb.stroke.toNat ≤ deadline.toNat) then
        ((s.setUmp { s.ump with jobStartId := id, jobStarts := s.ump.jobStarts + 1 }).send 0 0 0x19
          (le 4 id.toNat ++ le 4 0)).bindEvent 6 0
      else s.send 0 0 0x19 (le 4 id.toNat ++ le 1 1 ++ le 3 0))

/-- The payload of an ABORT (Table 13-6). -/
def abortBody (coll : Nat) (origin : BitVec 48) (stroke : DWord) : List Byte :=
  le 1 coll ++ le 1 0 ++ le 6 origin.toNat ++ le 8 stroke.toNat

/-- ABORT_REQ (R367): the die sends ABORT on the insertion path. -/
def execAbortReq (coll : BitVec 6) (s : State) : Host.Outcome State Fault Refusal :=
  .next (if s.isD && s.running then s.insert 0 0x30 (abortBody coll.toNat s.fsid s.tb.stroke) else s)

/-- ABT_MASK_c and bit c of ABT_NB. -/
def State.abtMask (s : State) (c : Nat) : DWord := BitVec.ofNat 64 (s.rwd (0x62A00 + 8 * c) 0 + 2 ^ 32 * s.rwd (0x62A04 + 8 * c) 0)
def State.abtNb (s : State) (c : Nat) : Bool := (s.rwd 0x62C00 0 + 2 ^ 32 * s.rwd 0x62C04 0).testBit c

/-- The tray's fan-out of an abort (R367): to every member but the originator, and northbound where asked; the record names
the caller of an ABORT_POST (R375). -/
def State.fanOut (s : State) (c : Nat) (origin : BitVec 48) (stroke : DWord) (but : Option Nat) (nb : Bool) (role path : Nat) :
    State :=
  let ks := (maskList (s.abtMask c)).filter fun k => but != some k
  let body := abortBody c origin stroke
  let s := ks.foldl (fun s k => s.insert k 0x30 body) s
  let s := if nb && s.abtNb c then s.north 0xC body else s
  let sent := ks.foldl (fun (x : DWord) k => setBit x k true) 0
  (s.setUmp { s.ump with abtCnt := satInc s.ump.abtCnt }).event 0x5409 (le 1 c ++ le 6 origin.toNat ++ le 8 sent.toNat) role path

/-- ABORT_FLIT (R367): the tray fans it out; the die drives ABORT_IN_COLL and pulses ABORT_IN. -/
def execAbortFlit (k coll : BitVec 6) (origin : BitVec 48) (stroke : DWord) (s : State) : Host.Outcome State Fault Refusal :=
  .next (
    if !s.running then s
    else if s.isT then (s.take k.toNat 0 0x30).fanOut coll.toNat origin stroke (some k.toNat) true 0 0
    else
      let s := s.take 0 0 0x30
      s.setUmp { s.ump with abortColl := coll, abortIns := s.ump.abortIns + 1 })

/-- ABORT_FRAME (R367): a northbound abort frame goes to every member and never north again. -/
def execAbortFrame (_port : BitVec 2) (coll : BitVec 6) (origin : BitVec 48) (stroke : DWord) (s : State) :
    Host.Outcome State Fault Refusal :=
  .next (if s.isT && s.running then s.fanOut coll.toNat origin stroke none false 0 0 else s)

/-- ABORT_POST (R367). -/
def cmdAbortPost (p : Post) (s : State) : Option State :=
  let c := p.a0.toNat % 64
  if s.abtMask c == 0 && !s.abtNb c then none else some (s.fanOut c s.fsid s.tb.stroke none true p.role.toNat p.path.toNat)

/-- FAST_EVT (R19, R182): the tray takes a fast event into its detector input and its event machine. -/
def execFastEvt (k : BitVec 6) (_n : BitVec 16) (_stroke _heat : DWord) (s : State) : Host.Outcome State Fault Refusal :=
  .next (
    if !s.isT || !s.running then s
    else
      let s := s.take k.toNat 0 0x10
      (s.setUmp { s.ump with fast := setBit s.ump.fast k.toNat true }).emFeed (.fast k))

/-- Image activation (R79, R342, R345, R508): verdicts are kept; detectors, counts, hold-down and governors start anew. -/
def activateUmpire (s : State) : State :=
  let faults := (s.integ.cplStat.map (·.1)).filter fun i => 2 ≤ i / 256 && i / 256 ≤ 4
  let s := faults.foldl (fun s i => s.cplRestore (i / 256) (i % 256)) s
  let s := s.setUmp { s.ump with
    det := [], detView := [], ruleNow := [], rulePend := [], counts := [], gov := [], regHold := [], work := none
    detDone := false, scores := none, jobWritten := false
    verd := Tab.mapV default s.ump.verd fun v => { v with h := 0, differ := 0, agree := 0 } }
  let s := { s with wc2 := s.wc2.filter fun (p : Nat × Option (Word × Word)) => p.1 < 0x60000 / 4 || 0x62818 / 4 ≤ p.1 }
  s.lendLevels

end Sys2Proof.Machine
end

