-- ==== Sys2Proof/Machine/Checks.lean ====
section
/-! DEFINITION. The checks of an image (R58 to R70, R92, R93, R569): header, digest, directory, section check values, the
fields of every section, the proof, EXPECT and DIESET. Where a rule names several fields, the lowest offset is reported. -/

namespace Sys2Proof.Machine

/-- Checks of a section: the offset a failing check reports, and whether it fails. -/
abbrev Chk := List (Nat × Bool)

/-- The lowest offset of a failing check. -/
def lowestBad (c : Chk) : Option Nat := ((c.filter (·.2)).map (·.1)).min?

/-- A field of `n` bytes at `o` of a section is 0. -/
def Image.zeros (im : Image) (t o n : Nat) : Chk := [(o, (im.bytes (im.base t + o) n).any (· != 0))]

/-- Fields that are 0, each beginning at an offset of the list and ending where the next begins, the last at `fin`. -/
def Image.blank (im : Image) (t fin : Nat) : List Nat → Chk
  | [] => []
  | [o] => im.zeros t o (fin - o)
  | o :: p :: l => im.zeros t o (p - o) ++ im.blank t fin (p :: l)

/-- A field of a section lies from `lo` to `hi`. -/
def Image.within (im : Image) (t o n lo hi : Nat) : Nat × Bool :=
  (o, decide (im.sec t o n < lo) || decide (hi < im.sec t o n))

/-- The producer record of a number. -/
def Image.prod? (im : Image) (p : Nat) : Option ProdRec := im.prods.find? fun r => r.prod == p

/-- A producer field: 10 bits, the rest reserved, with a producer record in PROOF. -/
def Image.prodField (im : Image) (t o : Nat) : Nat × Bool :=
  (o, decide (1024 ≤ im.sec t o 4) || (im.prod? (im.sec t o 4 % 1024)).isNone)

/-- NDEP dependency records of PROOF, as (BEFORE, AFTER). -/
def Image.deps (im : Image) : List (Nat × Nat) :=
  let o := im.base 5 + 64 + 4 * im.sec 5 0x18 4 + 8 * im.sec 5 0x1C 4
  (List.range (im.sec 5 0x20 4)).map fun i => (im.num (o + 4 * i) 2, im.num (o + 4 * i + 2) 2)

/-- Each counter entry of COUNTER_PROG. -/
def Image.cntProg (im : Image) (n : Nat) : Nat := im.sec 2 (8 * n) 8

/-- PROBE_MAP (R98, R99). -/
def Image.chkProbeMap (im : Image) : Chk :=
  let w (o : Nat) := im.sec 1 o 4
  let reg := (List.range 32).map fun r => (4 * r, decide (6 < w (4 * r)))
  let clu := (List.range 64).flatMap fun c =>
    let o := 0x80 + 4 * c
    let e := w o
    [(o, bits e 6 5 != 0 || bits e 31 18 != 0 || (e.testBit 7 && (im.prod? (bits e 17 8)).isNone))]
  let unit := (List.range 4096).flatMap fun n =>
    let o := 0x180 + 4 * n
    let u := w o
    let oc := 0x80 + 4 * (n / 64)
    let e := w oc
    let p := im.cntProg n
    let mode := p % 8
    [(o, u.testBit 14 || bits u 31 30 != 0), (oc, e.testBit 7 && mode != 0 && (bits u 13 0 / 512 != e % 32)),
     (oc, e.testBit 7 && mode != 0 && p.testBit 5 && (bits u 29 16 / 512 != e % 32)),
     (o, decide (2 ≤ mode ∧ mode ≤ 4) && bits u 13 0 % 16 != 0), (o, u.testBit 15 && mode != 1), (oc, !e.testBit 7 && mode != 0)]
  let fast := (List.range 4096).filter fun n => (w (0x180 + 4 * n)).testBit 15
  reg ++ clu ++ unit ++ [(0x180, decide (256 < fast.length))]

/-- COUNTER_PROG (R101). Of CHATTER_MAX Table 3-2 says "COUNT only" and not "0 in other modes": DESIGN CHOICE, a value in
another mode is refused as its neighbours' are (notes/assumptions/88). -/
def Image.chkCounters (im : Image) : Chk :=
  (List.range 4096).map fun n =>
    let p := im.cntProg n
    let m := p % 8
    (8 * n, decide (4 < m) || (p.testBit 3 && m != 1) || (p.testBit 4 && m != 1 && m != 2 && m != 4) ||
      (p.testBit 5 && m == 1) || bits p 7 6 != 0 || (bits p 31 16 != 0 && m != 1) || (bits p 47 32 != 0 && m != 4) ||
      bits p 63 48 != 0)

/-- SENSE (R125, R539). -/
def Image.chkSense (im : Image) (t : Bool) : Chk :=
  let f (o n : Nat) := im.sec 3 o n
  let nseq := f 0 4
  let seq (i : Nat) := f (0x70 + i) 1
  let used (c : Nat) := (List.range (min 64 nseq)).any fun i => seq i == c
  let temps := if t then 4 else 20
  let rails := if t then 4 else 12
  let entry (i : Nat) : Chk :=
    let c := seq i
    if i < nseq then
      [(0, c == 0xFF), (8, decide (c < 0x14) && !(f 8 4).testBit c),
       (0xC, decide (0x20 ≤ c ∧ c < 0x2C) && !(f 0xC 4).testBit (c - 0x20)),
       (0x70 + i, c != 0xFF && !(decide (c < 0x14) || decide (0x20 ≤ c ∧ c < 0x2C) || (t && (c == 0x30 || c == 0x31))))]
    else [(0, c != 0xFF)]
  let bus : Chk :=
    if !t then []
    else
      let fl := f 0xBC 1
      [im.within 3 0xB0 2 20480 65535, im.within 3 0xB2 2 1 65535, im.within 3 0xB4 2 3000 5500, im.within 3 0xB6 1 1 100,
       im.within 3 0xB7 1 1 64, (0xB8, decide (f 0xB8 2 < 1000)), (0xB4, decide (f 0xB4 2 ≤ f 0xB8 2)),
       im.within 3 0xBA 2 100 4000, (0xBA, f 0xBA 2 % 2 != 0), im.within 3 0xBC 1 0 15,
       (0xBC, fl.testBit 2 && !(fl.testBit 0 && fl.testBit 1)), (0x70, fl.testBit 0 != used 0x30),
       (0x70, fl.testBit 1 != used 0x31),
       (0xB0, decide (4095 * 3 * f 0xB0 2 ≤ (10 * f 0xB4 2 + 50 * f 0xB6 1) * 8192))] ++ im.zeros 3 0xBD 3
  [im.within 3 0 4 1 64, (4, t && f 4 4 != 0), (8, decide (2 ^ temps ≤ f 8 4)), (0xC, decide (2 ^ rails ≤ f 0xC 4))] ++
    ((List.range 32).map fun r => (0x10 + r, decide ((if t then 0 else 60) < f (0x10 + r) 1))) ++
    (if t then im.blank 3 0x70 ((List.range 32).map fun r => 0x30 + 2 * r) else []) ++ (List.range 64).flatMap entry ++
    ((List.range temps).map fun k => (8, (f 8 4).testBit k && !used k)) ++
    ((List.range rails).map fun k => (0xC, (f 0xC 4).testBit k && !used (0x20 + k))) ++ bus

/-- TRACE_PROG (R187). TRIG_TAP is judged whatever TRIG_KIND is; the all-zero trigger block of Exfin-T names no tap
(notes/assumptions/26). -/
def Image.chkTrace (im : Image) (t : Bool) : Chk :=
  let f (o n : Nat) := im.sec 6 o n
  let fl := f 0 4
  let kind (x : Nat) := bits (f (0x40 + 4 * x) 4) 15 14
  let tap (x : Nat) : Chk :=
    let o := 0x40 + 4 * x
    let e := f o 4
    [(o, decide (2 ^ 16 ≤ e) || (t && bits e 13 0 != 0) || (kind x == 3 && (if t then x % 16 != 0 else e % 16 != 0)))]
  let trans (i : Nat) : Chk :=
    let o := 0x840 + 16 * i
    [(o, decide (5 < f o 1)), (o + 1, decide (7 < f (o + 1) 1)), (o, f o 1 != 0 && f (o + 4) 2 == 0),
     (o + 6, decide (63 < f (o + 6) 2)), (o + 8, decide (2 ^ 24 ≤ f (o + 8) 4))] ++ im.zeros 6 (o + 12) 4
  [(0, bits fl 2 1 == 3 || (t && bits fl 3 1 != 0) || decide (16 ≤ fl)), im.prodField 6 4, (8, decide (2 ^ 16 ≤ f 8 4))] ++
    im.zeros 6 0x1C 4 ++
    (if t then
       [im.within 6 0xC 4 256 16128, (0x10, f 0x10 8 % 4096 != 0), (0x10, decide (2 ^ 37 < f 0x10 8 + 4096 * f 0x18 4)),
        (0x18, f 0x18 4 != 0 && (decide (f 0x18 4 < 256) || decide (16777216 < f 0x18 4)))] ++ im.blank 6 0x40 [0x20, 0x24, 0x28, 0x2C] ++
       (List.range 32).flatMap trans
     else
       im.blank 6 0x1C [0xC, 0x10, 0x18] ++
       [(0x20, f 0x20 4 % 4 == 3 || bits (f 0x20 4) 15 4 != 0 || bits (f 0x20 4) 31 25 != 0),
        (0x20, kind (bits (f 0x20 4) 24 16) == 0), (0x24, decide (2 ^ 16 ≤ f 0x24 4)),
        (0x28, decide (2 ^ 24 ≤ f 0x28 4))] ++ im.zeros 6 0x2C 20 ++ im.blank 6 0xA40 ((List.range 32).flatMap fun i => [0, 1, 2, 4, 6, 8, 12].map fun x => 0x840 + 16 * i + x)) ++
    (List.range 512).flatMap tap

/-- COMP_TABLES (R212). -/
def Image.chkComp (im : Image) (t : Bool) : Chk :=
  let f (o n : Nat) := im.sec 7 o n
  let ns := f 3 1
  let tbl (i : Nat) : Chk :=
    let v := f (8 + i) 1
    [(8 + i, decide (8 ≤ v) && v != 0xFF), (3, decide (v < 8) && decide (ns ≤ v))]
  let static (j : Nat) : Chk :=
    let o := 0x1020 + 40 * j
    let b := im.bytes (im.base 7 + o) 37
    if j < ns then [(3, !lensOk (tableLens b)), (o + 36, decide (16 ≤ f (o + 36) 1))] ++ im.zeros 7 (o + 37) 3
    else [(3, b.any (· != 0))] ++ im.zeros 7 (o + 37) 3
  [im.within 7 0 1 0 2, im.within 7 3 1 0 8, (4, f 4 2 != 0 && (decide (f 4 2 < 16) || decide (1024 < f 4 2))),
   im.within 7 6 2 64 65535, (0, f 0xA 1 == 0xFF && decide (f 0 1 < 2)), im.prodField 7 0xC] ++
    (List.range 4).flatMap tbl ++ [if t then im.prodField 7 0x10 else (0x10, f 0x10 4 != 0)] ++ im.zeros 7 0x14 12 ++
    ((List.range 4096).map fun n => (0x20 + n, decide ((if t then 0 else 2) < f (0x20 + n) 1))) ++
    (List.range 8).flatMap static

/-- R334: the producer at a field runs in every heat. -/
def Image.everyHeat (im : Image) (t o : Nat) : Bool :=
  match im.prod? (im.sec t o 4 % 1024) with
  | some r => r.dMin == 1 && r.dMax == 1
  | none => false

/-- R334: PROOF carries the dependency pairs of detectors and umpire, and on Exfin-T with a model of the tree producer. -/
def Image.pairOk (im : Image) : Bool := im.deps.contains (im.sec 8 0 4 % 1024, im.sec 9 0 4 % 1024)
def Image.treePairOk (im : Image) : Bool := im.num 0x28 8 == 0 || im.deps.contains (im.sec 10 6 2 % 1024, im.sec 8 0 4 % 1024)

/-- The sources of Table 10-4 and their arguments. -/
def srcArgOk (code arg : Nat) : Bool :=
  match code with
  | 1 => decide (arg < 4096)
  | 2 => decide (arg < 4096)
  | 3 => decide (arg < 4096)
  | 4 => decide (arg < 20)
  | 5 => decide (arg < 12)
  | 6 => decide (arg < 32)
  | 7 => decide (arg < 32)
  | 0xB => decide (arg < 16)
  | 0xC => decide (arg < 16)
  | 0xD => decide (arg < 16)
  | 0xE => decide (arg < 16)
  | 0xF => decide (arg < 256)
  | _ => arg == 0

/-- A detector source is valid for the grade and scope (Table 11-2). -/
def detSrcOk (t scope : Bool) (src : Nat) : Bool :=
  if !t then decide (1 ≤ src ∧ src ≤ 7) || src == 0xA || src == 0xF || decide (0x21 ≤ src ∧ src ≤ 0x23)
  else if scope then src == 0xF || decide (0x21 ≤ src ∧ src ≤ 0x23) || src == 0x2A
  else decide (1 ≤ src ∧ src ≤ 0xF) || src == 0x20 || decide (0x24 ≤ src ∧ src ≤ 0x29)

/-- DET_GRAPH (R296, R334, R373). -/
def Image.chkDet (im : Image) (t : Bool) : Chk :=
  let f (o n : Nat) := im.sec 8 o n
  let nd := f 4 2
  let red : Chk :=
    if !t then im.blank 8 0x220 ([0x20, 0x24, 0x26, 0x27, 0x28, 0x2C] ++
      ((List.range 24).flatMap fun i => [0, 1, 2, 4, 6].map fun x => 0x40 + 16 * i + x) ++ [0x1C0])
    else
      let nf := f 0x27 1
      let fig (i : Nat) : Chk :=
        let o := 0x40 + 16 * i
        let c := f o 1
        let src := f (o + 2) 2
        if nf ≤ i then [(0x27, (im.bytes (im.base 8 + o) 16).any (· != 0))]
        else
          [(0x27, decide (c < 1 ∨ 8 < c)), (o, src != 0 && c != 7 && c != 8), (o + 2, decide (4095 < src)),
           im.within 8 (o + 4) 2 1 1024,
           (0x27, (List.range i).any fun j => f (0x40 + 16 * j) 1 == c && f (0x42 + 16 * j) 2 == src)] ++
            im.zeros 8 (o + 1) 1 ++ im.zeros 8 (o + 6) 10
      [im.prodField 8 0x20, im.within 8 0x24 2 1 65535, im.within 8 0x26 1 3 64, im.within 8 0x27 1 0 24,
       im.within 8 0x28 4 1 1000000] ++ im.zeros 8 0x2C 20 ++ (List.range 24).flatMap fig ++ im.zeros 8 0x1C0 96
  let det (n : Nat) : Chk :=
    let o := 0x220 + 32 * n
    if nd ≤ n then [(4, (im.bytes (im.base 8 + o) 32).any (· != 0))]
    else
      let k := f o 1
      let fl := f (o + 1) 1
      let scope := fl.testBit 1
      let src := f (o + 2) 1
      let a := f (o + 3) 1
      let arg := f (o + 4) 2
      let hi := sgn 32 (f (o + 8) 4)
      let lo := sgn 32 (f (o + 12) 4)
      [(4, k == 0), (o, decide (5 < k)), (o + 1, decide (8 ≤ fl) || (!t && scope)),
       (o, decide (4 ≤ k) && (!t || scope)), (o + 1, t && k != 4 && !detSrcOk t scope src),
       (o + 2, !t && k != 4 && !detSrcOk t scope src),
       (o + 2, k != 4 && (if src < 0x10 then !srcArgOk src arg else if src = 0x20 then decide (3 < arg)
         else if src = 0x22 then decide (arg < 1 ∨ 4 < arg) else if src = 0x28 then decide (255 < arg) else false)),
       (o + 2, k != 4 && src == 0xF && decide (n ≤ arg)),
       (o + 1, k != 4 && src == 0xF && (f (0x220 + 32 * arg + 1) 1).testBit 1 != scope),
       im.within 8 (o + 6) 1 0 32, (o + 7, f (o + 7) 1 != 0), (o + 8, decide (hi < lo)),
       (o, (k == 2 || k == 5) && decide (a < 1 ∨ 16 < a)), (o, k == 4 && decide (a < 1 ∨ 64 < a)),
       (o, k == 4 && decide ((a : Int) < hi)), (o + 0x18, decide (2 ^ 31 ≤ f (o + 0x18) 4))]
  [(0, decide (1024 ≤ f 0 4) || !im.everyHeat 8 0 || !im.pairOk || (t && !im.treePairOk)), im.within 8 4 2 0 256] ++
    im.zeros 8 6 26 ++ red ++ (List.range 256).flatMap det

/-- POLICY (R334, R374). -/
def Image.chkPolicy (im : Image) (t : Bool) : Chk :=
  let f (o n : Nat) := im.sec 9 o n
  let tr (o n lo hi : Nat) : Nat × Bool := if t then im.within 9 o n lo hi else (o, f o n != 0)
  let nr := f 4 1
  let rule (i : Nat) : Chk :=
    let o := 0x40 + 16 * i
    let w (j : Nat) := f (o + 4 * j) 4
    if nr ≤ i then [(4, w 0 != 0 || w 1 != 0 || w 2 != 0 || w 3 != 0)]
    else
      let join := (w 0).testBit 4
      let tgt := bits (w 3) 25 16
      [(o, !ruleOk t nr (fun _ => true) i (w 0) (w 1) (if join then w 2 else 0x0101) (bits (w 3) 5 0)),
       (o + 8, !join && (bits (w 2) 7 0 == 0 || bits (w 2) 15 8 == 0)),
       (o + 12, bits (w 3) 15 6 != 0 || decide (2 ^ 29 ≤ w 3) || decide (6 < bits (w 3) 28 26) ||
         ((w 3).testBit 0 && (if (w 3).testBit 1 then decide (31 < tgt) else (im.prod? tgt).isNone)))]
  [(0, decide (1024 ≤ f 0 4) || !im.everyHeat 9 0 || !im.pairOk), im.within 9 4 1 0 64, im.within 9 5 1 1 255,
   im.within 9 6 2 1 65535, tr 8 2 1 65535, tr 0xA 2 1 65535, tr 0xC 2 0 65535, tr 0xE 1 1 64, (0xF, f 0xF 1 != 0),
   tr 0x10 4 1 16777216, tr 0x14 4 1 65535, tr 0x18 4 1 65535, (0x20, !t && decide (1 < f 0x20 8))] ++
    im.zeros 9 0x1C 4 ++ im.zeros 9 0x28 24 ++ (List.range 64).flatMap rule

/-- The entries of a producer in a class with a resource. -/
def Image.entries (im : Image) (p c : Nat) (res : Nat → Bool) : List SchedEntry :=
  im.schedule.filter fun e => e.prod == p && e.cls == c && res e.res

/-- The sum of the greatest depths of the waves of R314: `l` the depths of the dispatch list in order. -/
def waveSlots (wave : Nat) : Nat → List Nat → Nat
  | 0, _ => 0
  | n + 1, l => if l.isEmpty then 0 else maxNat (l.take wave) + waveSlots wave n (l.drop wave)

/-- TREE_DESC (R299, R300, R310, R320, R322); `lanes` is GRADE_CAP.TREE_LN. -/
def Image.chkTree (im : Image) (lanes : Nat) : Chk :=
  let f (o n : Nat) := im.sec 10 o n
  let nf := f 0 2
  let nt := f 4 2
  let lp := f 3 1
  let p := f 6 2 % 1024
  let swin := f 0x10 4
  let ns := f 0x14 1
  let ts := (List.range (min 4096 nt)).map fun t => treeRec (f (0x1080 + 8 * t) 8)
  let h := max 1 (im.sec 5 0x18 4)
  let d := ((im.prod? p).map (·.dProved)).getD 1
  let run := (List.range h).filter fun c => c % max 1 d == 0
  let streamed := ((ts.filter fun r => !r.res).map (·.nodes)).sum
  let inServ := ((List.range 64).filter fun k => (im.sec 13 (16 + 16 * k + 8) 4).testBit 0).length
  let link (o : Nat) : Chk := if o < f 2 1 then [(0x28 + o, decide (1 < f (0x28 + o) 1))] else [(2, f (0x28 + o) 1 != 0)]
  let base (o : Nat) : Chk :=
    let v := sgn 64 (f (0x30 + 8 * o) 8)
    if o < f 2 1 then [(0x30 + 8 * o, decide (2 ^ 47 ≤ v.natAbs))] else [(2, v != 0)]
  let feat (j : Nat) : Chk :=
    let o := 0x80 + 16 * j
    let c := f o 1
    let arg := f (o + 4) 2
    if nf ≤ j then [(0, (im.bytes (im.base 10 + o) 16).any (· != 0))]
    else
      [(0, decide (c < 1 ∨ 0x12 < c)), (o, if c < 0x10 then !srcArgOk c arg else false),
       (o + 4, decide (0x10 ≤ c) && (decide (j ≤ arg % 256) || decide (j ≤ arg / 256))), (o + 1, decide (1 < f (o + 1) 1)),
       (o + 2, decide (63 < f (o + 2) 1)), (o + 3, decide (63 < f (o + 3) 1)), (o, f (o + 3) 1 != 0 && c != 0x11)] ++
        im.zeros 10 (o + 6) 2
  let tree (t : Nat) : Chk :=
    let o := 0x1080 + 8 * t
    let v := f o 8
    if nt ≤ t then [(4, v != 0)]
    else
      let r := treeRec v
      [(o, decide (2 ^ 51 ≤ v) || r.nodes == 0), (2, decide (f 2 1 ≤ r.out)), (0x10, !r.res && decide (swin < r.nodes)),
       (0x20, decide ((f 0x20 8 - 64) / 8 < r.start + r.nodes))]
  [im.within 10 0 2 1 256, im.within 10 2 1 1 4, (3, lp != 16 && lp != 24 && lp != 32), im.within 10 4 2 1 4096,
   (6, decide (1024 ≤ f 6 2) || (im.prod? p).isNone), im.within 10 8 4 1 (2 ^ 23 - 1), im.within 10 0xC 4 0 131072,
   (0x10, swin != 0 && decide (swin < 256 ∨ 65536 < swin)), im.within 10 0x14 1 1 64, (0x18, f 0x18 8 % 4096 != 0),
   im.within 10 0x20 8 72 (2 ^ 31), (3, decide (lanes < lp)), (0x14, decide (ns < inServ)),
   (6, im.schedule.any fun e => (e.res == 0x48 || e.res == 0x73) && e.prod != p),
   (6, run.any fun c => (im.entries p c (· == 0x48)).length != f 8 4),
   (6, im.num 0x28 8 != 0 && run.any fun c => (im.entries p c (· == 0x68)).isEmpty),
   (0xC, ((ts.filter (·.res)).map (·.nodes)).sum != f 0xC 4), (0xC, decide (131072 < f 0xC 4 + 2 * swin)),
   (6, run.any fun c => decide (256 * (im.entries p c (· == 0x68)).length < streamed)),
   (0x18, im.sec 6 0x18 4 != 0 && decide (f 0x18 8 < im.sec 6 0x10 8 + 4096 * im.sec 6 0x18 4) &&
     decide (im.sec 6 0x10 8 < f 0x18 8 + f 0x20 8)),
   (0, decide (f 8 4 < (ns * nf + 255) / 256 +
     waveSlots (32 * max 1 lp) (ts.length * ns) (ts.flatMap fun r => List.replicate ns r.depth) + 2))] ++
    im.zeros 10 0x15 3 ++ im.zeros 10 0x2C 4 ++ im.zeros 10 0x50 48 ++ (List.range 4).flatMap link ++
    (List.range 4).flatMap base ++ (List.range 256).flatMap feat ++ (List.range 4096).flatMap tree

/-- The timebase block of LINK_PARAMS (R155). -/
def Image.chkTimebase (im : Image) (t : Bool) : Chk :=
  let f (o n : Nat) := im.sec 11 o n
  let sd : Chk := [im.within 11 0x70 4 0 1000000, im.within 11 0x74 4 0 1000000]
  if !t then sd ++ im.blank 11 0x70 [0x40, 0x41, 0x42, 0x43, 0x44, 0x45, 0x46, 0x47, 0x48, 0x4A, 0x4C, 0x50, 0x54, 0x58, 0x5C, 0x60,
    0x64, 0x68, 0x6C] ++ im.zeros 11 0x78 8 ++ im.blank 11 0x100 ((List.range 64).map fun k => 0x80 + 2 * k)
  else
    let asym := sgn 32 (f 0x5C 4)
    sd ++ [im.within 11 0x40 1 0 1, im.within 11 0x41 1 0 127, im.within 11 0x42 1 0 8, (0x42, decide (f 0x43 1 ≤ f 0x42 1)),
      (0x43, decide (16 < f 0x43 1)), im.within 11 0x44 1 2 32, im.within 11 0x45 1 2 10, im.within 11 0x46 1 1 15,
      im.within 11 0x48 2 1 1000, im.within 11 0x4A 2 48 4096, im.within 11 0x4C 4 1 10000,
      (0x4C, decide (f 0x50 4 < f 0x4C 4)), (0x50, decide (1000000000 < f 0x50 4)), im.within 11 0x54 4 1 200000,
      im.within 11 0x58 4 3000 10000, (0x5C, decide (1000000 < asym.natAbs))] ++
      ((List.range 4).map fun i => im.within 11 (0x60 + 4 * i) 4 0 1000000) ++ im.zeros 11 0x47 1 ++ im.zeros 11 0x78 8

/-- The types a northbound CLASS entry may not give to the rack bus, and the downward-only type (Table 14-3). -/
def noT1s (m : Nat) : Bool := [2, 3, 6, 7, 8, 9, 0xD, 0x15].contains m

/-- The northbound block of LINK_PARAMS (R467). -/
def Image.chkNorth (im : Image) (t : Bool) : Chk :=
  let f (o n : Nat) := im.sec 11 o n
  if !t then im.blank 11 0x220 ([0x120, 0x126, 0x128, 0x12E, 0x130, 0x131, 0x132, 0x134, 0x136, 0x138, 0x13E, 0x140, 0x146] ++
    ((List.range 38).map (0x148 + ·)) ++ [0x16E, 0x170, 0x176, 0x178, 0x17E] ++
    ((List.range 16).flatMap fun i => [0, 6, 7].map fun x => 0x180 + 8 * i + x) ++ [0x200, 0x206, 0x208])
  else
    let en := f 0x130 1
    let cls (m : Nat) : Chk :=
      let v := f (0x148 + m) 1
      [(0x148 + m, v.testBit 3 || v.testBit 7 || (v.testBit 2 && noT1s m) || (v % 8 != 0 && m == 0x10)),
       (0x130, v % 8 &&& (7 - en % 8) != 0)]
    let mac (o : Nat) (group : Bool) : Chk := (o, (f o 1).testBit 0 != group) :: im.zeros 11 (o + 6) 2
    let allow (i : Nat) : Chk :=
      let o := 0x180 + 8 * i
      [(o, (f o 1).testBit 0), (o + 6, decide (1 < f (o + 6) 1)), (o + 7, f (o + 7) 1 != 0)]
    mac 0x120 false ++ mac 0x128 false ++ mac 0x138 false ++ mac 0x140 false ++ mac 0x170 false ++ mac 0x178 true ++
      mac 0x200 true ++ [(0x130, en.testBit 3 || decide (64 ≤ en)), im.within 11 0x131 1 0 63, im.within 11 0x132 2 0x600 0xFFFF,
      (0x134, bits (f 0x134 2) 14 12 != 0), im.within 11 0x136 2 0 10000, im.within 11 0x169 1 1 255, im.within 11 0x16A 1 20 255,
      im.within 11 0x16D 1 1 15] ++ im.zeros 11 0x16E 2 ++ (List.range 32).flatMap cls ++ (List.range 16).flatMap allow ++
      im.zeros 11 0x208 24

/-- LINK_PARAMS (R63, R129, R155, R439, R467). -/
def Image.chkLink (im : Image) (t x2 : Bool) : Chk :=
  let f (o n : Nat) := im.sec 11 o n
  let pat (i : Nat) := f 0x108 4 / 4 ^ i % 4
  [(0, decide ((if x2 then 1000000 else 2000000) < f 0 4))] ++ im.zeros 11 8 56 ++ im.chkTimebase t ++
    [im.within 11 0x100 1 1 2, im.within 11 0x101 1 1 15, im.within 11 0x102 2 16 65535, im.within 11 0x104 2 2 1000,
     im.within 11 0x106 2 1000 65535, (0x108, decide (((List.range 16).filter fun i => pat i == 0).length < 2)),
     (0x108, t && (List.range 16).any fun i => pat i == 2)] ++ im.zeros 11 0x10C 20 ++ im.chkNorth t

/-- ROLE_PARAMS (R63, R505). -/
def Image.chkRole (im : Image) (t : Bool) : Chk :=
  [(0, decide ((if t then 2 ^ 18 else 2) ≤ im.sec 12 0 4)), im.within 12 4 2 10 65535, im.prodField 12 8] ++ im.zeros 12 0xC 20

/-- The exact length of a section (0 where its own header gives it, or where no rule fixes one). -/
def Image.wantLen (t : Bool) (ty : Nat) : Nat :=
  match ty with
  | 1 => 16768
  | 2 => 32768
  | 3 => if t then 0xC0 else 0xB0
  | 6 => 2624
  | 7 => 4448
  | 8 => 8736
  | 9 => 1088
  | 10 => 36992
  | 11 => 0x220
  | 12 => 64
  | _ => 0

/-- The layout of SLOT_SCHED and PROOF (step 1 of R569). -/
def Image.chkSched (im : Image) (i : Nat) : Chk :=
  let n := im.sec 4 0xC 4
  if im.secLen i ≠ 32 + 8 * n then [(0xC, true)]
  else im.zeros 4 0x10 16 ++ (List.range n).map fun j =>
    let v := im.sec 4 (32 + 8 * j) 8
    (32 + 8 * j, v.testBit 23 || bits v 47 42 != 0 || bits v 63 54 != 0)
def Image.chkProofLayout (im : Image) (i : Nat) : Chk :=
  let h := im.sec 5 0x18 4
  let np := im.sec 5 0x1C 4
  let nd := im.sec 5 0x20 4
  if im.secLen i ≠ 64 + 4 * h + 8 * np + 4 * nd then [(0x18, true)]
  else [im.within 5 0x1C 4 1 1024, im.within 5 0x20 4 0 4096] ++ im.zeros 5 0x2C 20 ++
    (List.range (min 1024 np)).map fun j => (64 + 4 * h + 8 * j + 5, im.sec 5 (64 + 4 * h + 8 * j + 5) 1 != 0)

/-- The fields of the section of directory index `i` (step 2 of R569). A wrong fixed length has no field in the section: DESIGN
CHOICE, section offset 0 is reported (notes/assumptions/87). -/
def Image.chkSection (im : Image) (t x2 : Bool) (lanes i : Nat) : Chk :=
  let ty := im.secType i
  if Image.wantLen t ty ≠ 0 ∧ im.secLen i ≠ Image.wantLen t ty then [(0, true)]
  else
    match ty with
    | 1 => im.chkProbeMap
    | 2 => im.chkCounters
    | 3 => im.chkSense t
    | 6 => im.chkTrace t
    | 7 => im.chkComp t
    | 8 => im.chkDet t
    | 9 => im.chkPolicy t
    | 10 => im.chkTree lanes
    | 11 => im.chkLink t x2
    | 12 => im.chkRole t
    | _ => []

/-- Powers of two up to 64. -/
def pow2 (n : Nat) : Bool := [1, 2, 4, 8, 16, 32, 64].contains n

/-- A resource of Table 2-5 present in the grade. -/
def resOk (t : Bool) (r : Nat) : Bool :=
  (!t && decide (r < 0x40)) || decide (0x40 ≤ r ∧ r ≤ 0x44) || (t && (r == 0x48 || r == 0x68 || r == 0x69 || r == 0x73)) ||
    decide (0x70 ≤ r ∧ r ≤ 0x72)

/-- A work slot under R37 for `n` slots. -/
def workSlot (n s : Nat) : Bool := decide (2 ≤ s) && decide (s + 1 < n) && s % 16 != 15

/-- A schedule entry's place in the order of R65. -/
def SchedEntry.key (e : SchedEntry) : Nat := e.cls * 2 ^ 31 + e.slot * 2 ^ 8 + e.res

/-- Check `n` of Table 2-6, as checks of PROOF: each failing condition with the lowest field of PROOF that it names (R569). A
condition on the schedule's entries alone names the N or H that it holds them to, else the header (notes/assumptions/86). -/
def Image.proofCheck (im : Image) (t : Bool) (n : Nat) : Chk :=
  let pf (o : Nat) := im.sec 5 o 4
  let sc (o : Nat) := im.sec 4 o 4
  let h := pf 0x18
  let sch := im.schedule
  let cls := List.range h
  let rec0 := 64 + 4 * h
  let prods := im.prods.zipIdx
  let used (p c : Nat) : List Nat := (sch.filter fun e => e.prod == p && e.cls == c).map (·.slot)
  match n with
  | 1 =>
    [(0, pf 0 != 1), (8, pf 8 != sc 0), (0xC, pf 0xC != sc 4), (0x10, pf 0x10 != im.sec 11 4 4), (0x14, pf 0x14 != im.sec 11 0 4),
     (0x18, h != sc 8), (0x28, pf 0x28 != sc 0xC)]
  | 2 =>
    [(4, pf 4 != slotsPerHeat (pf 8) (pf 0x10) (pf 0x14) || decide (pf 4 < 64)),
     (8, !periodOk (pf 8) (pf 0x14) || decide (pf 8 ≤ pf 0xC))]
  | 3 => [(0x24, pf 0x24 != (crc32c (im.bytes (im.base 4) (32 + 8 * sc 0xC))).toNat)]
  | 4 =>
    (0x18, !pow2 h) :: (rec0, sch.any fun e => (im.prod? e.prod).isNone) :: prods.flatMap fun x =>
      let r := x.1
      let o := rec0 + 8 * x.2
      [(o, (im.prods.drop (x.2 + 1)).any fun q => q.prod == r.prod), (0x18, h % r.dProved != 0),
       (o + 2, !pow2 r.dProved || decide (r.dProved < r.dMin) || decide (r.dMax < r.dProved)), (o + 3, !pow2 r.dMin),
       (o + 4, !pow2 r.dMax)]
  | 5 =>
    [(4, sch.any fun e => !workSlot (pf 4) e.slot), (0x18, sch.any fun e => decide (h ≤ e.cls)),
     (0, (sch.any fun e => !resOk t e.res) || !decide ((sch.map SchedEntry.key).Pairwise (· ≤ ·)))]
  | 6 => [(0, !decide (sch.map SchedEntry.key).Nodup)]
  | 7 =>
    prods.map fun x => (rec0 + 8 * x.2 + 2, cls.any fun c =>
      (used x.1.prod c).length != (if c % max 1 x.1.dProved = 0 then x.1.slotsRun else 0))
  | 8 => cls.map fun c => (64 + 4 * c, ((sch.filter fun e => e.cls == c).map (·.slot)).dedup.length != im.sec 5 (64 + 4 * c) 4)
  | 9 =>
    im.deps.zipIdx.map fun x => (rec0 + 8 * pf 0x1C + 4 * x.2, cls.any fun c =>
      match (used x.1.1 c).max?, (used x.1.2 c).min? with
      | some a, some b => decide (b ≤ a)
      | _, _ => false)
  | _ => [(0x28, sch.length != pf 0x28)]

/-- The first of the ten proof checks that fails (R69), and the offset in PROOF that it reports. -/
def Image.proofFail (im : Image) (t : Bool) : Option (Nat × Nat) :=
  (List.range 10).findSome? fun i => (lowestBad (im.proofCheck t (i + 1))).map fun o => (i + 1, o)

/-- The digest of an image (R60). -/
def Image.digest (im : Image) (n : Nat) : DWord := crc64 (im.bytes 0 0x18 ++ List.replicate 8 0 ++ im.bytes 0x20 (n - 0x20))

/-- `n` bytes at `o` as an image of their own. -/
def Image.part (im : Image) (o n : Nat) : Image :=
  { len := n, mem := im.mem.filterMap fun (p : Nat × Byte) => if o ≤ p.1 ∧ p.1 < o + n then some (p.1 - o, p.2) else none }

/-- Die image `e` of DIESET (R80). -/
def Image.dieImage (im : Image) (e : Nat) : Image :=
  let o := 16 + 16 * e
  im.part (im.base 14 + im.sec 14 o 4) (im.sec 14 (o + 4) 4)

/-- COUNT of DIESET, 0 where the section is absent. No check of the spec refuses a COUNT outside 1 to 8: DESIGN CHOICE, a
larger one is taken as 8 (notes/assumptions/85). -/
def Image.dieCount (im : Image) : Nat := if (im.secIdx 14).isSome then min 8 (im.sec 14 0 4) else 0

/-- The first failing check of Table 2-7 on what the header says of itself, (reason, offset), of an image of grade code
`grade`. -/
def Image.identFail (im : Image) (grade : Nat) : Option (Nat × Nat) :=
  let t := grade == 2
  let n := im.num 6 2
  let bad : Chk := [(4, im.num 4 2 != 0x40), (6, n != 11 && !(t && n == 12)), (0x28, im.num 0xC 1 == 1 && im.num 0x28 8 != 0)] ++
    [(0xD, im.num 0xD 3 != 0), (0x14, im.num 0x14 4 != 0), (0x34, im.num 0x34 12 != 0)]
  if im.num 0 4 ≠ 0x364B4D42 then some (1, 0)
  else
    match lowestBad bad with
    | some o => some (2, o)
    | none =>
      if im.num 0xC 1 ≠ grade then some (3, 0xC)
      else if im.num 8 4 ≠ blkVersion then some (4, 8)
      else none

/-- The first failing check of Table 2-7 on the header and the length, with `host` the length that IMG_CTRL gave a host load:
a byte beyond IMG_LEN is reported at its own offset, and each check comes as soon as its bytes have arrived (R70): past the
header's 64 bytes a byte beyond comes after the checks of the header. -/
def Image.headerFail (im : Image) (grade : Nat) (host : Option Nat) : Option (Nat × Nat) :=
  let len := im.num 0x10 4
  (im.identFail grade).orElse fun _ =>
    if (if grade = 2 then 2 ^ 24 else 2 ^ 22) < len ∨ len % 64 ≠ 0 ∨ (host.getD len) ≠ len then some (5, 0x10)
    else if len < min im.len 64 then some (5, len)
    else if len < 0x40 + 16 * im.num 6 2 then some (6, 0x10)
    else if len < im.len then some (5, len)
    else none

/-- The directory (R61, R62): the offset of the first failing field, entry by entry. A missing mandatory type has no field:
DESIGN CHOICE, the first directory entry is reported (notes/assumptions/87). -/
def Image.dirFail (im : Image) (t : Bool) : Option Nat :=
  let n := im.secCount
  let must : List Nat := if t then [3, 4, 5, 6, 7, 8, 9, 10, 11, 12, 13] else [1, 2, 3, 4, 5, 6, 7, 8, 9, 11, 12]
  let bad (i : Nat) : Chk :=
    let o := 0x40 + 16 * i
    let ty := im.secType i
    let from_ := if i = 0 then 0x40 + 16 * n else im.secOff (i - 1) + im.secLen (i - 1)
    [(o, !(must.contains ty || (t && ty == 14)) || (i != 0 && decide (ty ≤ im.secType (i - 1)))),
     (o + 2, im.secFlags i != 0), (o + 4, im.secOff i % 64 != 0 || decide (im.secOff i < from_)),
     (o + 8, im.secLen i == 0 || decide (im.num 0x10 4 < im.secOff i + im.secLen i))]
  match lowestBad ((List.range n).flatMap bad) with
  | some o => some o
  | none => if must.all fun ty => (im.secIdx ty).isSome then none else some 0x40

/-- EXPECT (R92): sub-code and image offset. -/
def Image.expectFail (im : Image) : Option (Nat × Nat) :=
  let b := im.base 13
  let fl (k : Nat) := im.sec 13 (16 + 16 * k + 8) 4
  let rsv := (im.zeros 13 4 12) ++ (List.range 64).flatMap fun k =>
    [(16 + 16 * k + 8, bits (fl k) 3 2 != 0 || decide (256 ≤ fl k))] ++ im.zeros 13 (16 + 16 * k + 12) 4
  let serv := (List.range 64).filter fun k => (fl k).testBit 0 && !(fl k).testBit 7
  match lowestBad rsv with
  | some o => some (1, b + o)
  | none =>
    match (List.range 8).find? fun p => decide (1 < ((List.range 8).filter fun i => (fl (8 * p + i)).testBit 1).length) with
    | some p => some (2, b + 16 + 128 * p + 8)
    | none =>
      match serv.find? fun k => decide (im.dieCount ≤ bits (fl k) 6 4) with
      | some k => some (3, b + 16 + 16 * k + 8)
      | none => (serv.find? fun k => im.sec 13 (16 + 16 * k) 8 != im.sec 14 (16 + 16 * bits (fl k) 6 4 + 8) 8).map
          fun k => (4, b + 16 + 16 * k)

/-- DIESET (R93): the failing reason of the first die image that fails, and its index; its digest covers the IMG_LEN bytes
from its OFFSET on (R60). -/
def Image.dieSetFail (im : Image) : Option (Nat × Nat) :=
  (List.range im.dieCount).findSome? fun e =>
    let o := im.base 14 + im.sec 14 (16 + 16 * e) 4
    let d := im.part o (im.num (o + 0x10) 4)
    match (im.part o 64).identFail 1 with
    | some (r, _) => some (r, e)
    | none => if d.digest d.len ≠ BitVec.ofNat 64 (d.num 0x18 8) then some (7, e) else none

/-- Every check of Table 2-7 of a whole image of `n` received bytes: (reason, sub-code, section, offset). `host` is the length
that IMG_CTRL gave a host load. -/
def Image.fail (im : Image) (t x2 : Bool) (lanes : Nat) (host : Option Nat) : Option (Nat × Nat × Nat × Nat) :=
  let len := im.num 0x10 4
  let secs := List.range im.secCount
  let at_ (ty : Nat) : Nat := (im.secIdx ty).getD 0xF
  let chk (i : Nat) (c : Chk) : Option (Nat × Nat × Nat × Nat) := (lowestBad c).map fun o => (0xA, 0, i, im.secOff i + o)
  match im.headerFail (if t then 2 else 1) host with
  | some (r, o) => some (r, 0, 0xF, o)
  | none =>
    if im.len < len then some (6, 0, 0xF, 0x10)
    else if im.digest len ≠ BitVec.ofNat 64 (im.num 0x18 8) then some (7, 0, 0xF, 0x18)
    else
      match im.dirFail t with
      | some o => some (8, 0, 0xF, o)
      | none =>
        match secs.find? fun i => (crc32c (im.bytes (im.secOff i) (im.secLen i))).toNat != im.secCrc i with
        | some i => some (9, 0, i, 0x4C + 16 * i)
        | none =>
          let step1 := (chk (at_ 4) (im.chkSched (at_ 4))).orElse fun _ => chk (at_ 5) (im.chkProofLayout (at_ 5))
          let step2 := step1.orElse fun _ => secs.findSome? fun i => chk i (im.chkSection t x2 lanes i)
          match step2 with
          | some r => some r
          | none =>
            match im.proofFail t with
            | some (c, o) => some (0xB, c, at_ 5, im.base 5 + o)
            | none =>
              if !t then none
              else
                match im.expectFail with
                | some (c, o) => some (0xC, c, at_ 13, o)
                | none => im.dieSetFail.map fun x => (0xD, x.1, at_ 14, x.2)

end Sys2Proof.Machine
end

