-- ==== Sys2Proof/Machine/Roles.lean ====
section
/-! DEFINITION. The role gate and the posting of commands (R470 to R484): nonces, responses, falls, host sessions. -/

namespace Sys2Proof.Machine

/-- The paths that hold a role state of their own (Table 15-1). -/
def State.statePaths (s : State) : List Nat := if s.isT then [0, 1, 2, 3, 4, 5, 6, 7, 8, 10] else [0, 10]

/-- The paths that have a mailbox (R483). -/
def State.mailPaths (s : State) : List Nat := if s.isT then [0, 1, 2, 3, 4, 5, 6, 7, 8, 10] else [0, 9, 10]

/-- INST_KEYD in force, all zeros where none is given (R477, R505). -/
def State.instKeyd (s : State) : List Byte :=
  match s.ld.cur with
  | some im => im.bytes (im.base 12 + 0x20) 32
  | none => if s.fdUsed then (s.fdBytes.drop 0x30).take 32 else List.replicate 32 0

/-- The key digest of a role (R477): the maker's is held in fuse words 32 to 39. -/
def State.keyd (s : State) (role : Nat) : List Byte :=
  if role = 3 then (List.range 8).flatMap fun i => le 4 (s.fuseWord (32 + i)).toNat else s.instKeyd

/-- ROLE_TMO and ROLE_CFG. -/
def State.roleCfg (s : State) : Nat :=
  fieldAt (s.img 0xC 4 2 600) 16 16 + 2 * (bit s.makerSet 1).toNat + (bit (s.instKeyd.any (· != 0)) 1).toNat

/-- Nonce requests are refused on path `p` (R481). -/
def State.roleLocked (s : State) (p : Nat) : Bool := s.roles.lockAll || (s.path p).lock1

/-- Path `p` takes a role: the pair is stored anew, which ends a complement fault of it (R508). -/
def State.takeRole (s : State) (p role : Nat) : State :=
  let r := BitVec.ofNat 2 role
  (s.setPath p { s.path p with role := r, roleC := ~~~ r }).cplRestore 1 p

/-- A fall of a path's role with its cause; only a request has a caller (R482, R506). -/
def State.roleDrop (s : State) (p new cause : Nat) : State :=
  let old := (s.path p).held
  s.oneCycle fun s => (s.takeRole p new).event 0x1003 (le 1 p ++ le 1 old ++ le 1 new ++ le 1 cause) (if cause = 1 then old else 0) p

/-- A write of ROLE_STATE.REQ by a path that has a role state, which is ignored while a check runs (R480). -/
def State.roleReq (s : State) (a : Acc) (f : State → State) : State :=
  s.written a 0x10 1 fun s =>
    let p := a.path.toNat
    if !s.statePaths.contains p || (s.path p).busy then s
    else f (s.setPath p { s.path p with lastFail := false })

/-- REQ of a write to ROLE_STATE. -/
def Acc.req (a : Acc) : Nat := bits a.data.toNat 5 4

/-- ROLE_REQUEST_HIGHER (R479, R481): a nonce is issued, unless the path is locked or the last one is less than 1 µs old. -/
def execRoleRequestHigher (a : Acc) (tooSoon : Bool) (s : State) : Host.Outcome State Fault Refusal :=
  let p := a.path.toNat
  .next (
    if (s.path p).held < Acc.req a then
      s.roleReq a fun s =>
        if s.roleLocked p || tooSoon then s
        else
          let n := s.roles.nonces + 1
          let nonce : DWord := BitVec.ofNat 64 (fieldAt s.evr.pcyc.toNat 48 16 + n.toNat)
          { s with roles := { s.roles with nonces := n } }.setPath p
            { s.path p with nonceV := true, nonce := nonce, req := BitVec.ofNat 2 (Acc.req a) }
    else s)

/-- ROLE_REQUEST_LOWER (R482): the role falls at once; a request equal to the present role, or 0, has no such effect. -/
def execRoleRequestLower (a : Acc) (s : State) : Host.Outcome State Fault Refusal :=
  let p := a.path.toNat
  .next (
    if 0 < Acc.req a ∧ Acc.req a ≤ (s.path p).held then
      s.roleReq a fun s => if Acc.req a < (s.path p).held then s.roleDrop p (Acc.req a) 1 else s
    else s)

/-- A write of ROLE_RESP_i (R480): kept, unless a check runs. -/
def State.respWord (s : State) (p i : Nat) (v : Word) : State :=
  let q := s.path p
  if !s.statePaths.contains p || q.busy then s else s.setPath p { q with resp := Tab.set 0 q.resp i v }

/-- ROLE_RESPONSE_WRITE (R480): a write of ROLE_RESP_7 starts the check, which takes the nonce. -/
def execRoleResponseWrite (a : Acc) (s : State) : Host.Outcome State Fault Refusal :=
  let p := a.path.toNat
  .next (s.written a 0x3C 1 fun s =>
    if !s.statePaths.contains p || (s.path p).busy then s
    else
      let s := s.respWord p 7 a.data
      let q := s.path p
      s.setPath p { q with busy := true, checkNonce := q.nonce, checkValid := q.nonceV, nonceV := false, nonce := 0 })

/-- The response of path `p` is right (R477, R478). -/
def State.roleMatch (s : State) (p : Nat) : Bool :=
  let q := s.path p
  let k := s.keyd q.req.toNat
  let mac := (List.range 8).flatMap fun i => le 4 (Tab.get 0 q.resp i).toNat
  q.checkValid && k.any (· != 0) && mac == hmac k (le 8 q.checkNonce.toNat ++ le 1 q.req.toNat)

/-- ROLE_CHECK_DONE (R480, R481): the path is elevated, or the failure is counted and bars nonces. -/
def execRoleCheckDone (path : BitVec 4) (s : State) : Host.Outcome State Fault Refusal :=
  let p := path.toNat
  let q := s.path p
  .next (
    if s.statePaths.contains p && q.busy then
      let old := q.held
      if s.roleMatch p then
        s.oneCycle fun s =>
          let s := (s.setPath p { q with busy := false }).takeRole p q.req.toNat
          { s with roles := { s.roles with fails := 0 } }.event 0x1001 (le 1 p ++ le 1 old ++ le 1 q.req.toNat) old p
      else
        let n := satInc s.roles.fails
        let s := s.setPath p { q with busy := false, lastFail := true, lock1 := true }
        { s with roles := { s.roles with fails := n, lockAll := s.roles.lockAll || decide (8 ≤ n.toNat) } }.event 0x1002
          (le 1 p ++ le 1 q.req.toNat ++ le 1 n.toNat) old p
    else s)

/-- ROLE_TIMEOUT (R482, R514): ROLE_TMO seconds passed with no access on the path. -/
def execRoleTimeout (path : BitVec 4) (s : State) : Host.Outcome State Fault Refusal :=
  let p := path.toNat
  .next (if s.running && s.aonRuns && s.statePaths.contains p && decide (1 < (s.path p).held) then s.roleDrop p 1 2 else s)

/-- NONCE_EXPIRY (R479, R514): 1 s after it was issued the nonce is no longer valid. -/
def execNonceExpiry (path : BitVec 4) (s : State) : Host.Outcome State Fault Refusal :=
  let p := path.toNat
  .next (if s.aonRuns && s.statePaths.contains p then s.setPath p { s.path p with nonceV := false, nonce := 0 } else s)

/-- ROLE_LOCK_END (R481, R514): the 60 s period of every path, or the 1 s period of one, is over. -/
def execRoleLockEnd (all : Bool) (path : BitVec 4) (s : State) : Host.Outcome State Fault Refusal :=
  let p := path.toNat
  .next (
    if !s.aonRuns then s
    else if all then { s with roles := { s.roles with lockAll := false } }
    else if s.statePaths.contains p then s.setPath p { s.path p with lock1 := false } else s)

/-- SESSION_FREE (R472, R482): a session at operator without a REG_REQ for 60 s is freed; its mailbox is forgotten. Freeing is
one of the falls that write ROLE_DROP, with cause 4. -/
def execSessionFree (i : BitVec 4) (s : State) : Host.Outcome State Fault Refusal :=
  let p := i.toNat
  .next (
    if s.isT && s.aonRuns && decide (1 ≤ p ∧ p ≤ 8) && (Tab.get none s.roles.sessions p).isSome && (s.path p).held == 1 then
      let t := { s with roles := { s.roles with sessions := Tab.set none s.roles.sessions p none } }
      t.oneCycle fun t =>
        ((t.setPath p PathState.init).cplRestore 1 p).event 0x1003 (le 1 p ++ le 1 1 ++ le 1 1 ++ le 1 4) 0 p
    else s)

/-- The session of a port and source address, binding the lowest free one (R472): its path, 15 when all are bound. -/
def State.bindSession (s : State) (port : BitVec 2) (mac : BitVec 48) : State × Nat :=
  let is (o : Option Session) : Bool := match o with
    | some x => x.port == port && x.mac == mac
    | none => false
  let ps := [1, 2, 3, 4, 5, 6, 7, 8]
  match ps.find? fun p => is (Tab.get none s.roles.sessions p) with
  | some p => (s, p)
  | none =>
    match ps.find? fun p => (Tab.get none s.roles.sessions p).isNone with
    | some p =>
      let t := { s with roles := { s.roles with sessions := Tab.set none s.roles.sessions p (some ⟨port, mac⟩) } }
      ((t.setPath p PathState.init).event 0x100B (le 1 p ++ le 1 port.toNat ++ le 4 mac.toNat) 1 p, p)
    | none => (s, 15)

/-- Paths that hold installer fall when an activation changes INST_KEYD, `old` before it (R482). -/
def State.keyChange (s : State) (old : List Byte) : State :=
  if s.instKeyd = old then s
  else (s.statePaths.filter fun p => (s.path p).held == 2).foldl (fun s p => s.roleDrop p 1 3) s

/-- CMD_REFUSED (R487, R506). -/
def State.cmdRefused (s : State) (code result path token role : Nat) : State :=
  let s := if result = 3 then s.stick 2 5 else if result = 6 then s else s.stick 2 6
  s.event 0x1005 (le 2 code ++ le 1 result ++ le 1 path ++ le 2 token) role path

/-- COMMAND_POST (R483, R484): the mailbox latches the command, or the post is refused as BUSY, or as ROLE where the path
has no mailbox. -/
def execCommandPost (a : Acc) (s : State) : Host.Outcome State Fault Refusal :=
  let p := a.path.toNat
  let code := bits a.data.toNat 15 0
  let token := bits a.data.toNat 31 16
  .next (s.written a 0xC0020 1 fun s =>
    let q := s.path p
    if !s.mailPaths.contains p then s.cmdRefused code 3 p token (s.roleOf a)
    else if q.pend then (s.setPath p { q with busyHit := true }).cmdRefused code 6 p token (s.roleOf a)
    else s.setPath p { q with
      pend := true, code := BitVec.ofNat 16 code, token := BitVec.ofNat 16 token, postRole := BitVec.ofNat 2 (s.roleOf a)
      posted := Tab.slice 0 q.args 0 8 })

end Sys2Proof.Machine
end

