-- ==== Sys2Proof/Machine/Loader.lean ====
section
/-! DEFINITION. The image loader up to a ready image (R70 to R96): host loads, tray deliveries, the checks' outcome, the NV
slot, and the choice at start-up. -/

namespace Sys2Proof.Machine

/-- Change the loader. -/
def State.setLd (s : State) (l : Loader) : State := { s with ld := l }

/-- A load begins (R74): what it latches, with an empty shadow store. -/
def State.loadBegin (s : State) (src : Nat) (nv : Bool) (act len : Nat) (stroke : DWord) (role path : Nat) : State :=
  s.setLd { s.ld with
    st := 1, srcLoad := BitVec.ofNat 2 src, latNv := nv, latAct := BitVec.ofNat 2 act, latLen := len, latStroke := stroke
    latRole := BitVec.ofNat 2 role, latPath := BitVec.ofNat 4 path, shadow := default, goNow := false, late := false
    startup := false }

/-- IMG_CTRL as written. -/
def State.imgCtrl (s : State) : Nat := s.rwd 0x1000 0

/-- IMG_BEGIN (R73, R74, R76, R541). -/
def cmdImgBegin (p : Post) (s : State) : Option State :=
  let c := s.imgCtrl
  if s.ld.st ≠ 0 ∨ bits c 27 26 = 3 ∨ s.pwr.pf then none
  else some (s.loadBegin 2 (s.isT && c.testBit 28) (bits c 27 26) (c % 2 ^ 25)
    (BitVec.ofNat 64 (s.rwd 0x1008 0 + 2 ^ 32 * s.rwd 0x100C 0)) p.role.toNat p.path.toNat)

/-- The load in progress is refused under the caller it began with (R71, R91). -/
def State.loadRefuse (s : State) (f : Nat × Nat × Nat × Nat) : State :=
  let tray := s.ld.srcLoad == 3
  let t := s.imgRefuse f.1 f.2.1 f.2.2.1 f.2.2.2 s.ld.latRole.toNat s.ld.latPath.toNat
  if tray then t.deliveryRefused else t

/-- Bytes appended to an image that is being received. -/
def Image.append (im : Image) (b : List Byte) : Image :=
  { len := im.len + b.length, mem := Tab.setAll (0 : Byte) im.mem im.len b }

/-- The length that IMG_CTRL gave a host load. -/
def State.hostLen (s : State) : Option Nat := if s.ld.srcLoad = 2 then some s.ld.latLen else none

/-- The first check of Table 2-7 that fails on what has arrived, where its bytes have (R70). -/
def State.arrivedFail (s : State) : Option (Nat × Nat × Nat × Nat) :=
  let im := s.ld.shadow
  if 4 ≤ im.len ∧ im.num 0 4 ≠ 0x364B4D42 then some (1, 0, 0xF, 0)
  else if im.len < 64 then none
  else (im.headerFail s.gradeCode s.hostLen).map fun f => (f.1, 0, 0xF, f.2)

/-- Image bytes arrive (R70, R74, R82). -/
def State.imgBytes (s : State) (b : List Byte) : State :=
  let t := s.setLd { s.ld with shadow := s.ld.shadow.append b }
  match t.arrivedFail with
  | some f => t.loadRefuse f
  | none => t

/-- IMG_DATA_WRITE (R74). -/
def execImgDataWrite (a : Acc) (s : State) : Host.Outcome State Fault Refusal :=
  .next (s.written a 0x1004 1 fun s =>
    if s.ld.st = 1 ∧ s.ld.srcLoad = 2 then s.imgBytes (le 4 a.data.toNat) else s)

/-- IMG_COMMIT (R77): the checks begin, or a short load is refused. -/
def cmdImgCommit (_ : Post) (s : State) : Option State :=
  if s.ld.st = 1 ∧ s.ld.srcLoad = 2 then
    let im := s.ld.shadow
    some (if im.len < 64 ∨ im.len < im.num 0x10 4 then s.loadRefuse (6, 0, 0xF, 0x10) else s.setLd { s.ld with st := 2 })
  else none

/-- A load ends as ABORTED with its LOAD_ABORTED record (R77, R541). -/
def State.loadAbort (s : State) (role path : Nat) : State :=
  let n := s.ld.shadow.len
  let src := s.ld.srcLoad.toNat
  let tray := s.ld.srcLoad == 3
  let t := s.imgRefuse 0x0E 0 0xF 0 role path
  (if tray then t.deliveryRefused else t).event 0x2009 (le 1 src ++ le 4 n) role path

/-- IMG_ABORT (R77). -/
def cmdImgAbort (p : Post) (s : State) : Option State :=
  let st := s.ld.st.toNat
  if s.ld.srcLoad = 2 ∧ (st = 1 ∨ st = 2 ∨ st = 3 ∨ st = 5) then some (s.loadAbort p.role.toNat p.path.toNat) else none

/-- IMG_ACTIVATE (R76): a held image comes into force at the next old boundary. -/
def cmdImgActivate (p : Post) (s : State) : Option State :=
  if s.ld.st = 3 then some (s.setLd { s.ld with st := 5, goNow := true, latRole := p.role, latPath := p.path }) else none

/-- IMG_REDELIVER (R81). -/
def cmdImgRedeliver (p : Post) (s : State) : Option State :=
  let k := p.a0.toNat % 64
  some (if s.noImage k then s else s.deliver k true)

/-- An image has passed every check (R76): held, or awaiting its boundary; an activation stroke that has passed makes it
late. -/
def State.imageReady (s : State) : State :=
  let late := s.ld.latAct == 1 && decide (s.ld.latStroke.toNat < s.tb.stroke.toNat)
  let t := s.setLd { s.ld with st := if s.ld.latAct = 2 then 3 else 5, late := late }
  if late then t.stick 0 2 else t

/-- Phase IMAGE ends (R530); its time is not modelled, so PWR_PHT_4 takes a free value (notes/assumptions/3). -/
def State.imageEnds (s : State) : State :=
  if s.sys.phase = 4 then
    { s with sys := { s.sys with phase := 5, pht := Tab.set 0 s.sys.pht 4 (s.free 32) } }.freed
  else s

/-- Factory defaults stay in force at start-up (R90). -/
def State.defaultsStay (s : State) (reason : Nat) : State :=
  ((s.setLd { s.ld with fdReason := BitVec.ofNat 4 reason }).stick 0 4 |>.note 0x2003 (le 1 reason)).imageEnds

/-- The check that fails on the whole image in the shadow stores (Table 2-7). -/
def State.shadowFail (s : State) : Option (Nat × Nat × Nat × Nat) :=
  s.ld.shadow.fail s.isT s.sys.x2 (if s.isT then s.treeLanes else s.checkChannels)
    s.hostLen

/-- IMAGE_CHECK_DONE (R70, R76, R89, R90). -/
def execImageCheckDone (s : State) : Host.Outcome State Fault Refusal :=
  .next (
    if s.ld.st = 2 then
      match s.shadowFail with
      | some f =>
        let up := s.ld.startup
        let t := s.loadRefuse f
        if up then t.defaultsStay 4 else t
      | none => if s.ld.latNv then s.setLd { s.ld with st := 4, nvFail := false } else s.imageReady
    else s)

/-- An NV write ends (R89): step `f` failed, or 0, and the image is ready. -/
def State.nvEnds (s : State) (f : Nat) : State :=
  let role := s.ld.latRole.toNat
  let path := s.ld.latPath.toNat
  let t := s.nvSteps (if f = 0 then 7 else f)
  let t : State := { t with tray := { t.tray with nvCount := if f = 0 ∨ 2 < f then t.tray.nvCount + 1 else t.tray.nvCount } }
  if f = 0 then
    (t.event 0x2004 (le 8 (t.ld.shadow.num 0x18 8) ++ le 4 t.tray.nvCount.toNat) role path).imageReady
  else (t.setLd { t.ld with st := 0, srcLoad := 0, nvFail := true }).event 0x2005 (le 1 f) role path

/-- NV_WRITE_COMPLETE (R89): step `failStep` failed, or 0, and the image is ready. -/
def execNvWriteComplete (failStep : Byte) (s : State) : Host.Outcome State Fault Refusal :=
  .next (if s.isT && s.ld.st == 4 && decide (failStep.toNat ≤ 6) then s.nvEnds failStep.toNat else s)

/-- The slot's image as flash holds it, `n` bytes. -/
def State.slotImage (s : State) (n : Nat) : Image :=
  { len := n, mem := (List.range n).filterMap fun i =>
      let b := Tab.get flashErased s.flash i
      if b = 0 then none else some (i, b) }

/-- The choice of the start-up image from the validity sector (R88, R90). -/
def State.startImage (s : State) : State :=
  let v := s.flashBytes validBase 32
  let o := s.flashBytes (validBase + 0x40) 8
  let valid := leAt v 0 4 == 0x564B4D42
  let isOpen := leAt o 0 4 == 0x4F4B4D42
  let good := leAt v 8 8 + leAt v 16 8 == 2 ^ 64 - 1 && leAt v 24 4 + leAt v 28 4 == 2 ^ 32 - 1
  let cnt := if valid then leAt v 24 4 else if isOpen then leAt o 4 4 else 0
  if !s.nb.flashReady then s.defaultsStay 2
  else
    let s : State := { s with tray := { s.tray with nvCount := BitVec.ofNat 32 cnt } }
    if valid && good then
      let t := s.loadBegin 1 false 0 0 0 0 0
      t.setLd { t.ld with st := 2, startup := true, shadow := s.slotImage (min 0x01000000 (leAt v 4 4)) }
    else if valid then s.defaultsStay 3
    else if isOpen then s.defaultsStay 5
    else s.defaultsStay 2

/-- STORE_PHASE_END (R90, R527): discovery, the recorder's scan and LPDDR5X initialisation are over. -/
def execStorePhaseEnd (us : Word) (s : State) : Host.Outcome State Fault Refusal :=
  .next (
    if s.isT && s.sys.phase == 3 && s.sys.sfdpDone && s.sys.scanDone && s.sys.lp5Done then
      State.startImage { s with sys := { s.sys with phase := 4, pht := Tab.set 0 s.sys.pht 3 us } }
    else s)

/-- IMG_OFFER (R73, R81, R541): the die takes the offer, or refuses it while a load is in progress. -/
def execImgOffer (digest : DWord) (len : Word) (s : State) : Host.Outcome State Fault Refusal :=
  .next (
    if s.isD then
      let s := s.take 0 0 0x20
      if s.ld.st ≠ 0 ∨ s.pwr.pf then s
      else
        let t := s.loadBegin 3 false 0 len.toNat 0 0 0
        t.setLd { t.ld with latDigest := digest }
    else s)

/-- IMG_SECT (R70, R82): a section in sequence is received; the last byte begins the checks. -/
def execImgSect (off : Word) (bytes : List Byte) (s : State) : Host.Outcome State Fault Refusal :=
  .next (
    if s.isD then
      let s := s.take 0 3 0x60
      if s.ld.st = 1 ∧ s.ld.srcLoad = 3 then
        if off.toNat ≠ s.ld.shadow.len then s.loadRefuse (0xF, 0, 0xF, s.ld.shadow.len)
        else
          let t := s.imgBytes bytes
          if t.ld.st = 1 ∧ 64 ≤ t.ld.shadow.len ∧ t.ld.shadow.len = t.ld.shadow.num 0x10 4 then t.setLd { t.ld with st := 2 }
          else t
      else s
    else s)

/-- IMG_OFFER_REPEAT (R73): at a boundary an offer that the die refused goes out again, and its delivery starts anew; it is
not known to be taken, and the die's state has not changed under R81. -/
def execImgOfferRepeat (k : BitVec 6) (s : State) : Host.Outcome State Fault Refusal :=
  .next (
    if s.isT && s.user && (s.link k.toNat).tr.state == 4 then
      match s.tray.offers.find? fun o => o.1 == k with
      | some (_, asked) => if asked || s.wantsImage k.toNat then s.deliver k.toNat asked else s.offerEnds k.toNat
      | none => s
    else s)

/-- The delivery whose turn it is (R531): the next link at or after the rotation's place that is UP and takes a section. -/
def State.deliveryTurn (s : State) : Option Delivery :=
  let r := s.tray.rotate.toNat
  ((List.range 64).map fun i => (r + i) % 64).findSome? fun k =>
    if (s.link k).tr.state = 4 ∧ s.sendFull k 3 = false then s.tray.deliveries.find? fun d => d.link.toNat == k else none

/-- DELIVERY_SECTION_SEND (R82, R531): one section of the next link in the rotation goes out on BULK. -/
def execDeliverySectionSend (s : State) : Host.Outcome State Fault Refusal :=
  .next (
    if s.isT && !s.pwr.selfRefresh && !s.pwr.memFail then
      match s.deliveryTurn with
      | some d =>
        let im := Tab.get default s.tray.cache d.entry.toNat
        let n := min 4096 (im.len - d.sent)
        let s := s.send d.link.toNat 3 0x60 (le 4 d.sent ++ le 4 0 ++ im.bytes d.sent n)
        let left := s.tray.deliveries.filterMap fun x =>
          if x.link = d.link then (if d.sent + n < im.len then some { x with sent := d.sent + n } else none) else some x
        { s with tray := { s.tray with deliveries := left, rotate := d.link + 1 } }
      | none => s
    else s)

/-- IMAGE_ACTIVE at the tray (R83): the die's last report; it ends an offer that was taken, or that R81 no longer makes. -/
def execImageActive (k : BitVec 6) (digest : DWord) (ver : Word) (src : BitVec 2) (_heat : DWord) (_period _phase : Word)
    (_stroke : DWord) (s : State) : Host.Outcome State Fault Refusal :=
  .next (
    if s.isT then
      let s := s.take k.toNat 0 0x13
      let s := { s with tray := { s.tray with reports := Tab.set default s.tray.reports k.toNat ⟨digest, ver, src, true⟩ } }
      let asked := s.tray.offers.contains (k, true)
      if digest = s.expDigest k.toNat ∨ (!asked ∧ !s.wantsImage k.toNat) then s.offerEnds k.toNat else s
    else s)

end Sys2Proof.Machine
end

