-- ==== Sys2Proof/Machine/Ledger.lean ====
section
/-! DEFINITION. Exfin-D's fingerprint ledger (R240 to R247), the shard ledger (R249 to R251), the step markers (R269, R273,
R274) and the replay handshake (R259, R260). -/

namespace Sys2Proof.Machine

/-- Change the ledger. -/
def State.setLed (s : State) (l : Ledger) : State := { s with led := l }

/-- R241: a reserved KIND or a non-zero reserved bit. -/
def tagBad (l : DWord) : Bool := decide (5 ≤ bits l.toNat 47 44) || bits l.toNat 62 52 != 0

/-- The EVD of a step: that of the newest history pair of the step (R247). -/
def Ledger.evdOf (l : Ledger) (step : Word) : Option Word := (l.hist.reverse.find? fun p => p.1 == step).map (·.2)

/-- A completion joins the ledger queue, or is dropped and counted (R243). -/
def State.ledgerPush (s : State) (e : LedgerIn) : State :=
  if s.led.queue.length < 64 then s.setLed { s.led with queue := s.led.queue ++ [e] }
  else
    let d := satInc s.led.drop
    (s.setLed { s.led with drop := d }).stickNote 1 3 0x5108 (le 2 d.toNat)

/-- The 40 bytes of a ledger entry (Table 8-2): `seq` its sequence number, `rpsn` whether R27 applies. -/
def entryBytes (e : LedgerIn) (seq : Nat) (rpsn : Bool) : List Byte :=
  le 8 e.value.toNat ++ le 8 e.ltag.toNat ++ le 6 (min (2 ^ 48 - 1) e.bytes.toNat) ++ le 2 seq ++ le 8 e.stroke.toNat ++
    le 4 e.evd.toNat ++ le 2 ((setBit e.flags 7 rpsn).toNat) ++ le 2 e.idL.toNat

/-- Shard `i`. -/
def Ledger.shard (l : Ledger) (i : Nat) : Shard := Tab.get default l.shards i

/-- Change shard `i`. -/
def Ledger.setShard (l : Ledger) (i : Nat) (x : Shard) : Ledger := { l with shards := Tab.set default l.shards i x }

/-- SHD_EXP_i. -/
def State.shardExp (s : State) (i : Nat) : Nat := s.rwd (0x4C000 + 16 * i) 0 + 2 ^ 32 * s.rwd (0x4C004 + 16 * i) 0

/-- The state of Table 8-3 that an entry gives an armed shard expecting `want`. -/
def shardJudge (x : Shard) (want : Nat) (e : LedgerIn) : BitVec 3 :=
  let f := e.flags.toNat
  if f % 4 ≠ 0 ∨ f.testBit 2 then 5
  else if bits f 5 4 ≠ x.pset.toNat ∨ min (2 ^ 48 - 1) e.bytes.toNat ≠ x.bytes.toNat then 4
  else if e.value.toNat ≠ want then 3
  else 2

/-- A SHARD entry is judged (R250). -/
def State.shardEntry (s : State) (e : LedgerIn) : State :=
  let l := e.ltag.toNat
  let i := bits l 43 32
  if bits l 47 44 ≠ 4 ∨ tagBad e.ltag ∨ l.testBit 63 then s
  else if 1024 ≤ i ∨ (s.led.shard i).state = 0 then
    s.setLed { s.led with unexp := if s.led.unexp.toNat < 31 then s.led.unexp + 1 else 31 }
  else
    let x := s.led.shard i
    s.setLed (s.led.setShard i { x with state := shardJudge x (s.shardExp i) e })

/-- One entry is written to the ring, reported, and judged (R241, R243, R244, R250). -/
def State.ledgerWrite (s : State) (e : LedgerIn) : State :=
  let n := s.led.count.toNat
  let b := entryBytes e n s.recPoison
  let s := s.setLed { s.led with
    ring := Tab.set [] s.led.ring (n % 4096) b, count := s.led.count + 1, tagBad := s.led.tagBad || tagBad e.ltag }
  let s := (s.send 0 0 0x11 (b ++ le 6 s.fsid.toNat ++ le 2 0)).shardEntry e
  s.bindEvent 5 0

/-- LEDGER_SLOT (R243): up to 4 entries in completion order. -/
def execLedgerSlot (s : State) : Host.Outcome State Fault Refusal :=
  .next (
    if !s.isD || !s.running then s
    else
      let es := s.led.queue.take 4
      es.foldl State.ledgerWrite (s.setLed { s.led with queue := s.led.queue.drop 4 }))

/-- LEDGER_RD_READ (R244): the read of word 0 latches the selected entry. -/
def execLedgerRdRead (a : Acc) (s : State) : Host.Outcome State Fault Refusal :=
  let b := Tab.get [] s.led.ring (s.rwd 0x48010 0 % 4096)
  .next (s.readBy a 0x48020 (if s.isD then BitVec.ofNat 32 (leAt b 0 4) else 0) fun s =>
    if s.isD then s.setLed { s.led with latch := b } else s)

/-- A marker is stamped (R273); a fifth of a heat is dropped and counted (R274). -/
def State.mark (s : State) (finish : Bool) (step : Word) : State :=
  let l := s.led
  (s.setLed (
    if l.marks.length < 4 then { l with marks := l.marks ++ [(s.tb.stroke, step, finish)] }
    else { l with markOvf := satInc l.markOvf })).stepPacket finish step

/-- The staged epochs, by layer (FP_EPOCH_j). -/
def State.stagedEpoch (s : State) (i : Nat) : BitVec 16 :=
  BitVec.ofNat 16 (s.rwd (0x48400 + 4 * (i / 2)) 0 >>> (16 * (i % 2)))

/-- The table in force as its 512 bytes, layer 0 first (R246). -/
def Ledger.epochBytes (l : Ledger) : List Byte :=
  (List.range 256).flatMap fun i => le 2 (Tab.get (0 : BitVec 16) l.epForce i).toNat

/-- CATCH (R245, R246, R269, R273): the marker is stamped, the staged epochs take force, the EVD joins the history, and the
generators are reseeded. -/
def execCatchMark (step : Word) (s : State) : Host.Outcome State Fault Refusal :=
  .next (
    if !s.isD || !s.running then s
    else
      let s := s.mark false step
      let ep := (List.range 256).foldl (fun t i => Tab.set 0 t i (s.stagedEpoch i)) []
      let l : Ledger := { s.led with epForce := ep, step := step, stepValid := true }
      let h := l.hist ++ [(step, crc32c l.epochBytes)]
      ((s.setLed { l with hist := h.drop (h.length - 16) }).reseed step).bindEvent 1 0)

/-- FINISH (R273). -/
def execFinishMark (step : Word) (s : State) : Host.Outcome State Fault Refusal :=
  .next (if !s.isD || !s.running then s else (s.mark true step).bindEvent 2 0)

/-- The low word of SHD_ARM_i only stores BYTES[31:0] (R249). -/
def State.shardLow (s : State) (i : Nat) (w : Word) : State :=
  let x := s.led.shard i
  s.setLed (s.led.setShard i { x with bytes := BitVec.ofNat 48 (fieldAt (x.bytes.toNat / 2 ^ 32) 32 16 + w.toNat) })

/-- SHD_ARM_WRITE (R249): the high word stores BYTES[47:32] and PSET, and arms or idles the shard. -/
def execShdArmWrite (a : Acc) (i : BitVec 10) (s : State) : Host.Outcome State Fault Refusal :=
  .next (s.written a (0x4C00C + 16 * i.toNat) 1 fun s =>
    if s.isD then
      let x := s.led.shard i.toNat
      let w := a.data.toNat
      s.setLed (s.led.setShard i.toNat
        { bytes := BitVec.ofNat 48 (fieldAt w 32 16 + x.bytes.toNat % 2 ^ 32), pset := BitVec.ofNat 2 (bits w 17 16),
          state := if w.testBit 31 then 1 else 0 })
    else s)

/-- The shards in one of some states. -/
def Ledger.inStates (l : Ledger) (p : Nat → Bool) : List Nat := (l.shards.filter fun x => p x.2.state.toNat).map (·.1)

/-- SHD_SUM (R251). -/
def Ledger.shardSum (l : Ledger) : Nat :=
  let n (p : Nat → Bool) := (l.inStates p).length
  fieldAt (n (· == 1)) 48 11 + fieldAt (n (· == 6)) 32 11 + fieldAt (n fun v => 3 ≤ v && v ≤ 5) 16 11 +
    fieldAt l.unexp.toNat 11 5 + n (· == 2)

/-- SHARD_CLOSE (R251). -/
def cmdShardClose (p : Post) (s : State) : Option State :=
  if (s.led.inStates (· != 0)).isEmpty then none
  else
    let l : Ledger := { s.led with shards := s.led.shards.map fun (x : Nat × Shard) =>
      if x.2.state = 1 then (x.1, { x.2 with state := 6 }) else x }
    let bad := l.inStates fun v => 3 ≤ v && v ≤ 6
    let n (q : Nat → Bool) := (l.inStates q).length
    let s := (s.setLed l).send 0 0 0x12 (le 8 l.shardSum ++ le 2 bad.length ++ le 6 0 ++
      bad.flatMap fun i => le 2 i ++ le 1 (l.shard i).state.toNat ++ le 1 0)
    some (s.event 0x5106 (le 2 (n (· == 2)) ++ le 2 (n fun v => 3 ≤ v && v ≤ 5) ++ le 2 (n (· == 6)) ++ le 2 (bad.headD 0xFFFF))
      p.role.toNat p.path.toNat)

/-- REPLAY_REQ (R259): the request joins the queued one of its step, or takes a place. -/
def execReplayReq (step : Word) (_obj : BitVec 12) (_kind num : Byte) (s : State) : Host.Outcome State Fault Refusal :=
  .next (
    if !s.isD || !s.running then s
    else
      let s := s.take 0 0 0x24
      let l := s.led
      let drop : Ledger := { l with rplDrop := satInc l.rplDrop }
      s.setLed (
        match l.rq.find? fun r => r.step == step with
        | some r =>
          if 32 ≤ r.nums.length then drop
          else { l with rq := l.rq.map fun x => if x.step == step then { x with nums := x.nums ++ [num] } else x }
        | none => if 8 ≤ l.rq.length then drop else { l with rq := l.rq ++ [⟨step, [num]⟩] }))

/-- REPLAY_HANDSHAKE (R259): REPLAY_STEP and REPLAY_REQ are driven for the step at the head of the queue. -/
def execReplayHandshake (s : State) : Host.Outcome State Fault Refusal :=
  .next (
    match s.led.rq with
    | r :: _ =>
      if s.isD && s.running && !s.led.req && !s.led.ackHigh then s.setLed { s.led with req := true, reqStep := r.step } else s
    | [] => s)

/-- The numbers of an answer, 8 to a message. -/
def chunks8 : Nat → List Byte → List (List Byte)
  | 0, _ => []
  | n + 1, l => if l.isEmpty then [] else l.take 8 :: chunks8 n (l.drop 8)

/-- The handshake ends and its answer is queued; `cause` 0 accepts (R259, R260). -/
def State.replayAnswer (s : State) (cause : Nat) : State :=
  match s.led.rq with
  | r :: rest =>
    let s := s.setLed { s.led with rq := rest, req := false
                                   refused := if cause = 0 then s.led.refused else satInc s.led.refused }
    let s := (chunks8 r.nums.length r.nums).foldl (fun s c =>
      s.send 0 0 (if cause = 0 then 0x16 else 0x17) (le 4 r.step.toNat ++ le 1 c.length ++
        (c ++ List.replicate 8 0).take 8 ++ le 1 cause ++ le 2 0)) s
    if cause = 0 then s else s.note 0x5107 (le 4 r.step.toNat ++ le 1 cause)
  | [] => s.setLed { s.led with req := false }

/-- REPLAY_ACK_RISE (R260): REPLAY_OK is sampled; without a request the rise is ignored and counted. -/
def execReplayAckRise (ok : Bool) (s : State) : Host.Outcome State Fault Refusal :=
  .next (
    if !s.isD || !s.running || s.led.ackHigh then s
    else
      let t := s.setLed { s.led with ackHigh := true }
      if s.led.req then (t.setLed { t.led with lastOk := ok }).replayAnswer (if ok then 0 else 1)
      else t.setLed { t.led with lateAck := satInc t.led.lateAck })

/-- REPLAY_NO_ACK (R260): 65,536 cycles without REPLAY_ACK. -/
def execReplayNoAck (s : State) : Host.Outcome State Fault Refusal :=
  .next (if s.isD && s.running && s.led.req then s.replayAnswer 2 else s)

/-- REPLAY_ACK_FALL (R259). -/
def execReplayAckFall (s : State) : Host.Outcome State Fault Refusal :=
  .next (if s.isD then s.setLed { s.led with ackHigh := false } else s)

/-- Image activation (R79, R246, R269): the history empties and every generator is seeded with step number 0. -/
def activateLedger (s : State) : State := (s.setLed { s.led with hist := [] }).reseed 0

end Sys2Proof.Machine
end

