-- ==== Sys2Proof/Machine/Scan.lean ====
section
/-! DEFINITION. The scan engine of Exfin-D (R215 to R239): posts, channels, reads, check values by segments, contexts,
completions. -/

namespace Sys2Proof.Machine

/-- Init of Table 7-1. -/
def scanInit (pset : BitVec 2) : DWord := if pset.toNat < 2 then 0xFFFFFFFF else if pset = 2 then 0 else BitVec.allOnes 64

/-- The running value R of R217 after the bytes `m` from the running value `r`. -/
def scanRun (pset : BitVec 2) (r : DWord) (m : List Byte) : DWord :=
  if pset = 0 then ((m.foldl (crcByteR (0xEDB88320 : Word)) (r.setWidth 32 : Word).reverse).reverse).setWidth 64
  else if pset = 1 then ((m.foldl (crcByteR (0x82F63B78 : Word)) (r.setWidth 32 : Word).reverse).reverse).setWidth 64
  else if pset = 2 then m.foldl (crcByteN 0x42F0E1EBA9EA3693) r
  else (m.foldl (crcByteR (0xC96C5795D7870F42 : DWord)) r.reverse).reverse

/-- The check value C of a running value (R217). -/
def scanFinal (pset : BitVec 2) (r : DWord) : DWord :=
  if pset.toNat < 2 then (~~~ (r.setWidth 32 : Word).reverse).setWidth 64 else if pset = 2 then r else ~~~ r.reverse

/-- The fold of R229: `r` shifted past `n` bytes, plus the segment's own value. -/
def scanFold (pset : BitVec 2) (r : DWord) (n : Nat) (v : DWord) : DWord := scanRun pset r (List.replicate n 0) ^^^ v

/-- Descriptor fields (Table 7-3). -/
def Desc.pset (d : Desc) : BitVec 2 := d.w0.setWidth 2
def Desc.restore (d : Desc) : Bool := d.w0.getLsbD 2
def Desc.save (d : Desc) : Bool := d.w0.getLsbD 3
def Desc.ledger (d : Desc) : Bool := d.w0.getLsbD 4
def Desc.ctx (d : Desc) : Nat := bits d.w0.toNat 12 8
def Desc.win (d : Desc) : Nat := bits d.w0.toNat 19 16
def Desc.segs (d : Desc) : Nat := (d.len.toNat + 1) / 2
def Desc.names (d : Desc) (k : Nat) : Bool := (d.restore || d.save) && d.ctx == k

/-- Bytes of segment `j` (R226). -/
def Desc.segLen (d : Desc) (j : Nat) : Nat := if j + 1 = d.segs ∧ d.len.toNat % 2 = 1 then 128 else 256

/-- Channel `c`, and changing it. -/
def State.chan (s : State) (c : Nat) : Channel := Tab.get default s.scn.chans c
def State.setScn (s : State) (x : Scan) : State := { s with scn := x }
def State.setChan (s : State) (c : Nat) (x : Channel) : State :=
  s.setScn { s.scn with chans := Tab.set default s.scn.chans c x }

/-- The slot of an entry of a channel. -/
def Channel.slot (x : Channel) (e : Nat) : SlotSt := Tab.get .free x.slots e
def Channel.setSlot (x : Channel) (e : Nat) (v : SlotSt) : Channel := { x with slots := Tab.set .free x.slots e v }

/-- The descriptors of a channel, running then queued, in post order. -/
def Channel.descs (x : Channel) : List Desc := x.run.map (·.d) ++ x.queue

/-- Context `k`. -/
def State.ctx (s : State) (k : Nat) : Ctx := Tab.get default s.scn.ctx k

/-- The staged descriptor. -/
def State.staged (s : State) : Desc :=
  let w (o : Nat) : Word := BitVec.ofNat 32 (s.rwd (0x40000 + o) 0)
  { w0 := w 0, len := w 4, addr := w 0xC ++ w 8, ltag := w 0x14 ++ w 0x10, id := w 0x18 }

/-- Window bounds. -/
def State.winBase (s : State) (k : Nat) : Nat := s.rwd (0x40100 + 16 * k) 0 + 2 ^ 32 * s.rwd (0x40104 + 16 * k) 0
def State.winLim (s : State) (k : Nat) : Nat := s.rwd (0x40108 + 16 * k) 0 + 2 ^ 32 * s.rwd (0x4010C + 16 * k) 0

/-- The PSET of a context as it will stand behind channel `c`'s own queue, if it will be filled (Table 7-4). -/
def State.ctxWill (s : State) (c k : Nat) : Option (BitVec 2) :=
  match (((s.chan c).descs.filter fun d => d.save && d.ctx == k).map Desc.pset).getLast? with
  | some p => some p
  | none => if (s.ctx k).valid then some (s.ctx k).pset else none

/-- The first check of Table 7-4 that refuses a post to the channel that `w` names, 0 for none. -/
def State.postCheck (s : State) (w : Nat) : Nat :=
  let d := s.staged
  let c := w % 8
  let f := d.w0.toNat
  if !s.user then 1
  else if bits f 7 5 ≠ 0 ∨ bits f 15 13 ≠ 0 ∨ bits f 31 20 ≠ 0 ∨ w / 8 ≠ 0 ∨ (d.save ∧ d.ledger) then 2
  else if d.addr.toNat % 128 ≠ 0 then 3
  else if s.winLim d.win ≤ s.winBase d.win ∨ d.addr.toNat < s.winBase d.win ∨
      s.winLim d.win < d.addr.toNat + 128 * d.len.toNat then 4
  else if d.restore ∧ s.ctxWill c d.ctx ≠ some d.pset then 5
  else if (d.restore ∨ d.save) ∧ ((List.range 8).any fun e => e != c && (s.chan e).descs.any fun x => x.names d.ctx) then 6
  else if 16 ≤ (s.chan c).queue.length then 7
  else 0

/-- SCN_POST (R222, R223). -/
def execScnPost (a : Acc) (s : State) : Host.Outcome State Fault Refusal :=
  .next (s.written a 0x4001C 1 fun s =>
    if s.isT then s
    else
      let w := a.data.toNat
      let c := w % 8
      let r := s.postCheck w
      let s := s.setScn { s.scn with postStat := BitVec.ofNat 8 (fieldAt c 4 3 + r) }
      if r = 0 then let x := s.chan c; s.setChan c { x with queue := x.queue ++ [s.staged] }
      else (s.stick 1 1).event 0x5001 (le 1 r ++ le 1 c ++ le 4 s.staged.id.toNat) (s.roleOf a) a.path.toNat)

/-- The head of the running descriptors of channel `c` completes with a status (R237, R242). -/
def State.complete (s : State) (c : Nat) (x : Running) (status : BitVec 2) : State :=
  let d := x.d
  let ok := status == 0
  let saved := ok && d.save
  let v := if ok then scanFinal d.pset x.r else 0
  let sv := s.tb.valid
  let sts := fieldAt (bit sv 1).toNat 7 1 + fieldAt (bit saved 1).toNat 6 1 + fieldAt d.pset.toNat 4 2 +
    fieldAt (bit x.psn 1).toNat 3 1 + status.toNat
  let s := if saved then
      s.setScn { s.scn with ctx := Tab.set default s.scn.ctx d.ctx ⟨true, d.pset, x.psn, x.r, x.bytes⟩ } else s
  let ch := s.chan c
  let s := s.setChan c { ch with done := ch.done + 1, last := ⟨d.id, BitVec.ofNat 32 sts, v, x.bytes, s.tb.stroke⟩ }
  let s :=
    if d.ledger then
      let evd := s.led.evdOf (d.ltag.setWidth 32)
      let fl := status.toNat + fieldAt (bit x.psn 1).toNat 2 1 + fieldAt (bit sv 1).toNat 3 1 + fieldAt d.pset.toNat 4 2 +
        fieldAt (bit saved 1).toNat 6 1 + fieldAt (bit evd.isSome 1).toNat 8 1 + fieldAt c 9 3 +
        fieldAt (bit (tagBad d.ltag) 1).toNat 12 1
      s.ledgerPush { value := v, ltag := d.ltag, bytes := x.bytes, stroke := s.tb.stroke, evd := evd.getD 0,
                     flags := BitVec.ofNat 16 fl, idL := d.id.setWidth 16 }
    else s
  if ok then s.bindEvent 4 c else s

/-- Running descriptors that are over complete, in post order. -/
def State.completeReady (c : Nat) : Nat → State → State
  | 0, s => s
  | n + 1, s =>
    let ch := s.chan c
    match ch.run with
    | [] => s
    | x :: rest =>
      match x.ended with
      | some st => State.completeReady c n ((s.setChan c { ch with run := rest }).complete c x st)
      | none =>
        if x.built = x.d.segs ∧ x.slots.isEmpty then
          State.completeReady c n ((s.setChan c { ch with run := rest }).complete c x 0)
        else s

/-- The running descriptors of channel `c` that are over complete. -/
def State.finishRuns (s : State) (c : Nat) : State := State.completeReady c (s.chan c).run.length s

/-- DESCRIPTOR_START (R225, R229, R231, R232): the next descriptor starts from Init or from its context. -/
def execDescriptorStart (c : BitVec 3) (s : State) : Host.Outcome State Fault Refusal :=
  let k := c.toNat
  let x := s.chan k
  .next (
    match x.queue with
    | [] => s
    | d :: rest =>
      let may := match x.run.getLast? with
        | none => true
        | some p => !d.restore && (p.built == p.d.segs || p.ended.isSome)
      if !s.isD || !s.running || !may then s
      else
        let cx := s.ctx d.ctx
        let bad := d.restore && (!cx.valid || cx.pset != d.pset)
        let run : Running :=
          if bad then ⟨d, 0, [], some 3, 0, false, 0⟩
          else if d.restore then ⟨d, 0, [], none, cx.value, cx.poison, cx.bytes⟩
          else ⟨d, 0, [], none, scanInit d.pset, false, 0⟩
        (s.setChan k { x with queue := rest, run := x.run ++ [run] }).finishRuns k)

/-- Change the last running descriptor. -/
def mapLast (f : Running → Running) : List Running → List Running
  | [] => []
  | [x] => [f x]
  | x :: y :: l => x :: mapLast f (y :: l)

/-- SCAN_READ_BUILD (R226, R227): a quarantined entry is passed over; else the next segment's read is built. -/
def execScanReadBuild (c : BitVec 3) (s : State) : Host.Outcome State Fault Refusal :=
  let k := c.toNat
  let x := s.chan k
  let e := x.q.toNat % 64
  .next (
    if !s.isD || !s.running || s.workStopped then s
    else
      match x.slot e with
      | .quarantined _ => s.setChan k { x with q := x.q + 1 }
      | .free =>
        match x.run.getLast? with
        | some p =>
          if p.ended.isSome ∨ p.d.segs ≤ p.built ∨ 32 ≤ s.scn.issue.length then s
          else
            let sz := p.d.segLen p.built == 256
            let eb : BitVec 6 := BitVec.ofNat 6 e
            let t := s.setChan k { (x.setSlot e (.built sz)) with
              q := x.q + 1, run := mapLast (fun r => { r with built := r.built + 1, slots := r.slots ++ [eb] }) x.run }
            t.setScn { t.scn with issue := t.scn.issue ++ [(c, eb, p.d.addr + BitVec.ofNat 64 (256 * p.built), sz)] }
        | none => s
      | _ => s)

/-- The scan port's crossing is disabled (R52): no read leaves and no return is taken. -/
def State.scanOff (s : State) : Bool := s.integ.xingStop.getLsbD 35

/-- SCAN_READ_ISSUE (R218, R220, R221): the granted lane takes the head of the issue FIFO, or the grant goes unused. -/
def execScanReadIssue (lane : BitVec 1) (s : State) : Host.Outcome State Fault Refusal :=
  let l := lane.toNat
  .next (
    if !s.isD || !s.running || s.scanOff then s
    else
      match s.scn.issue with
      | [] => s.setScn { s.scn with gntIdle := Tab.upd 0 s.scn.gntIdle l satInc }
      | (c, e, addr, sz) :: rest =>
        let x := s.chan c.toNat
        let v : SlotSt := match x.slot e.toNat with
          | .built z => .issued (l == 1) z
          | .quarantined _ => .quarantined (some (l == 1))
          | o => o
        let t := s.setChan c.toNat (x.setSlot e.toNat v)
        t.setScn { t.scn with issue := rest, reqs := t.scn.reqs ++ [(l == 1, addr, sz, c ++ e)] })

/-- SCAN_RETURN (R219, R228, R233 to R235, R515): the read returns on its lane and joins the take queue; a quarantined one is
discarded and its entry freed; any other is counted, one to a read built before the last reset, in FUSE or BIST, as well.
`psn` marks poisoned halves, `perr` halves with a parity error. -/
def execScanReturn (lane : BitVec 1) (tag : BitVec 9) (data : List Byte) (psn perr : BitVec 2) (s : State) :
    Host.Outcome State Fault Refusal :=
  let c : BitVec 3 := tag.extractLsb' 6 3
  let e : BitVec 6 := tag.setWidth 6
  let x := s.chan c.toNat
  let l := lane == 1
  let stray (s : State) : State :=
    (s.setScn { s.scn with badTag := satInc s.scn.badTag }).stickNote 1 2 0x5003 (le 1 lane.toNat ++ le 2 tag.toNat)
  .next (
    if !s.isD || s.sys.phase = 0 || 6 < s.sys.phase.toNat || s.scanOff then s
    else
      match x.slot e.toNat with
      | .issued m sz =>
        if m ≠ l then stray s
        else
          let n := if sz then 2 else 1
          let halves (w : BitVec 2) : Nat := ((List.range n).filter w.getLsbD).length
          let t := s.setChan c.toNat (x.setSlot e.toNat (.taken ((data ++ List.replicate 256 0).take (128 * n))
            (halves psn != 0 || halves perr != 0)))
          let t := t.setScn { t.scn with take := t.scn.take ++ [(c, e)], psnCnt := satAdd t.scn.psnCnt (halves psn) }
          (List.range (halves perr)).foldl (fun s _ => s.memErr 4 true tag.toNat) t
      | .quarantined (some m) => if m = l then s.setChan c.toNat (x.setSlot e.toNat .free) else stray s
      | _ => stray s)

/-- CHECK_UNIT_DONE (R228): the head of the take queue becomes the value R(0, B) of its segment. -/
def execCheckUnitDone (s : State) : Host.Outcome State Fault Refusal :=
  .next (
    match s.scn.take with
    | [] => s
    | (c, e) :: rest =>
      let x := s.chan c.toNat
      let t := s.setScn { s.scn with take := rest }
      match x.slot e.toNat, x.run.find? fun r => r.slots.contains e with
      | .taken b psn, some r => t.setChan c.toNat (x.setSlot e.toNat (.value (scanRun r.d.pset 0 b) psn))
      | _, _ => t)

/-- SEGMENT_FOLD (R229): the combine unit folds the next segment of the channel's first running descriptor. -/
def execSegmentFold (c : BitVec 3) (s : State) : Host.Outcome State Fault Refusal :=
  let k := c.toNat
  let x := s.chan k
  .next (
    if !s.isD || !s.running then s
    else
      match x.run with
      | r :: rest =>
        match r.slots with
        | e :: es =>
          match x.slot e.toNat with
          | .value v psn =>
            let n := r.d.segLen (r.built - r.slots.length)
            let r' := { r with slots := es, r := scanFold r.d.pset r.r n v, psn := r.psn || psn
                               bytes := r.bytes + BitVec.ofNat 64 n }
            (s.setChan k { (x.setSlot e.toNat .free) with run := r' :: rest }).finishRuns k
          | _ => s
        | [] => s
      | [] => s)

/-- What becomes of an entry whose descriptor ends early: an outstanding read is quarantined, the rest is freed (R234). -/
def SlotSt.ended : SlotSt → SlotSt
  | .built _ => .quarantined none
  | .issued l _ => .quarantined (some l)
  | .quarantined l => .quarantined l
  | _ => .free

/-- A running descriptor ends early with a status: its entries and its places in the take queue go (R234, R236). -/
def State.endRun (s : State) (c : BitVec 3) (i : Nat) (status : BitVec 2) : State :=
  let x := s.chan c.toNat
  match x.run[i]? with
  | none => s
  | some r =>
    if r.ended.isSome then s
    else
      let y := r.slots.foldl (fun (y : Channel) e => y.setSlot e.toNat (y.slot e.toNat).ended) x
      let y := { y with run := x.run.set i { r with ended := some status, slots := [] } }
      let t := s.setChan c.toNat y
      t.setScn { t.scn with take := t.scn.take.filter fun p => !(p.1 == c && r.slots.contains p.2) }

/-- A read built and not returned. -/
def SlotSt.outstanding : SlotSt → Bool
  | .built _ => true
  | .issued _ _ => true
  | _ => false

/-- Running descriptor `i` of channel `c` ends with TIMEOUT because the read of `entry` has not returned (R234, R239). -/
def State.timedOut (s : State) (c : BitVec 3) (i : Nat) (entry : BitVec 6) : State :=
  let id := ((s.chan c.toNat).run[i]?.map fun r => r.d.id.toNat).getD 0
  (s.endRun c i 1).stickNote 1 2 0x5002 (le 1 c.toNat ++ le 4 id ++ le 2 (64 * c.toNat + entry.toNat))

/-- SCAN_TIMEOUT (R234): a read outstanding beyond SCN_TMO ends its descriptor. -/
def execScanTimeout (c : BitVec 3) (entry : BitVec 6) (s : State) : Host.Outcome State Fault Refusal :=
  let x := s.chan c.toNat
  .next (
    match x.run.findIdx? fun r => r.slots.contains entry with
    | some i =>
      if !s.isD || !s.running || !(x.slot entry.toNat).outstanding then s else (s.timedOut c i entry).finishRuns c.toNat
    | none => s)

/-- SCAN_ABORT in one channel (R236): the running descriptors end, then the queued ones, in post order. -/
def State.abortChan (s : State) (c : BitVec 3) : State :=
  let x := s.chan c.toNat
  let s := (List.range x.run.length).foldl (fun s i => s.endRun c i 2) s
  let y := s.chan c.toNat
  let s := s.setChan c.toNat { y with
    queue := [], run := y.run ++ y.queue.map fun d => (⟨d, 0, [], some 2, 0, false, 0⟩ : Running) }
  s.finishRuns c.toNat

/-- SCAN_ABORT (R236). -/
def cmdScanAbort (p : Post) (s : State) : Option State :=
  let cs := (List.range 8).filter p.a0.getLsbD
  let n := (cs.map fun c => (s.chan c).descs.length).sum
  if n = 0 then none
  else
    let s := cs.foldl (fun s c => s.abortChan (BitVec.ofNat 3 c)) s
    some (s.event 0x5004 (le 1 (p.a0.toNat % 256) ++ le 2 n) p.role.toNat p.path.toNat)

/-- SCN_CH_LAST_ID_READ (R237): the other SCN_CH_LAST registers of the channel are latched. -/
def execScnChLastIdRead (a : Acc) (c : BitVec 3) (s : State) : Host.Outcome State Fault Refusal :=
  let x := s.chan c.toNat
  .next (s.readBy a (0x4040C + 64 * c.toNat) (if s.isD then x.last.id else 0) fun s =>
    if s.isD then s.setChan c.toNat { x with latch := x.last } else s)

/-- SCN_CH_STAT_c (R225, R227, R234). -/
def Channel.stat (x : Channel) : Nat :=
  let quar := (x.slots.filter fun p => match p.2 with
    | .quarantined _ => true
    | _ => false).length
  fieldAt quar 16 7 + fieldAt ((x.run.map fun r => r.slots.length).sum) 8 7 + fieldAt (bit (!x.run.isEmpty) 1).toNat 5 1 +
    x.queue.length

/-- SCN_CTX_INFO_k (R232). -/
def State.ctxInfo (s : State) (k : Nat) : Nat :=
  let x := s.ctx k
  let busy := (List.range 8).any fun c => (s.chan c).descs.any fun d => d.names k
  fieldAt (bit busy 1).toNat 4 1 + fieldAt (bit x.poison 1).toNat 3 1 + fieldAt x.pset.toNat 1 2 + (bit x.valid 1).toNat

/-- SCN_CLK declared stopped: the reads waiting to cross are withdrawn (R52, R221) and every outstanding read times out
(Table 16-4); the record names the descriptor's oldest outstanding read. -/
def State.scanStopped (s : State) : State :=
  (List.range 8).foldl (fun s c =>
    let s := (List.range (s.chan c).run.length).foldl (fun (s : State) i =>
      let x := s.chan c
      match ((x.run[i]?.map (·.slots)).getD []).find? fun e => (x.slot e.toNat).outstanding with
      | some e => s.timedOut (BitVec.ofNat 3 c) i e
      | none => s) s
    s.finishRuns c) (s.setScn { s.scn with issue := [] })

end Sys2Proof.Machine
end

