-- ==== Sys2Proof/Machine/Tree.lean ====
section
/-! DEFINITION. The tree engine of Exfin-T (chapter 10): features, traversal, link functions, scores and their publication,
the blob's check, copy and host load. -/

namespace Sys2Proof.Machine

/-- Change the tree engine. -/
def State.setTe (s : State) (t : Tree) : State := { s with te := t }

/-- TE_CNT_i counts `n` more. -/
def Tree.count (t : Tree) (i n : Nat) : Tree := { t with cnt := Tab.upd 0 t.cnt i fun c => satAdd c n }

/-- `n` bytes of LPDDR5X at `a`; what nothing has written reads 0. -/
def State.lp5Bytes (s : State) (a n : Nat) : List Byte := Tab.slice (0 : Byte) s.lp5 a n

/-- Write bytes to LPDDR5X. -/
def State.lp5Put (s : State) (a : Nat) (l : List Byte) : State := { s with lp5 := Tab.setAll (0 : Byte) s.lp5 a l }

/-- Node `i` of the blob's node array (R301). -/
def State.blobNode (s : State) (i : Nat) : Nat := leAt (s.lp5Bytes (s.blobBase + 64 + 8 * i) 8) 0 8

/-- The scaled values of features `j ..`, given those before, for die `k` and heat `h` (R306 to R308). -/
def State.featVals (s : State) (k h : Nat) : Nat → Nat → List Ext → List Ext
  | 0, _, ys => ys
  | f + 1, j, ys =>
    let x := s.feat j
    let a := ys.getD (x.arg % 256) .miss
    let b := ys.getD (x.arg / 256) .miss
    let r :=
      if x.code = 0x10 then Ext.diff a b
      else if x.code = 0x11 then Ext.prod x.psh a b
      else if x.code = 0x12 then Ext.ratio a b
      else s.source k h x.code x.arg
    s.featVals k h f (j + 1) (ys ++ [Ext.scale x.scale r])

/-- The feature codes of die `k` for heat `h` (R309). -/
def State.featCodes (s : State) (k h : Nat) : List (BitVec 16) :=
  ((s.featVals k h s.nFeat 0 []).zipIdx).map fun p => let x := s.feat p.2; Ext.code x.lo x.shift p.1

/-- Store index of node 0 of tree `t` among the resident trees (R318). -/
def resBase (ts : List TreeRec) (t : Nat) : Nat := (((ts.take t).filter (·.res)).map (·.nodes)).sum

/-- Stream windows (R319): the window and the place in it of every tree from the one at hand on, (0, 0) for a resident one; `n`
windows are open so far, the last filled by `fill` nodes. -/
def placeTrees (swin : Nat) : List TreeRec → Nat → Nat → List (Nat × Nat)
  | [], _, _ => []
  | t :: ts, fill, n =>
    if t.res then (0, 0) :: placeTrees swin ts fill n
    else if n = 0 ∨ swin < fill + t.nodes then (n, 0) :: placeTrees swin ts t.nodes (n + 1)
    else (n - 1, fill) :: placeTrees swin ts (fill + t.nodes) n

/-- The window of tree `t` and its place in it. -/
def State.placeOf (s : State) (ts : List TreeRec) (t : Nat) : Nat × Nat := (placeTrees s.sWin ts 0 0).getD t (0, 0)

/-- The streamed trees of window `w`. -/
def State.windowTrees (s : State) (ts : List TreeRec) (w : Nat) : List Nat :=
  (List.range ts.length).filter fun t => !(ts.getD t default).res && (s.placeOf ts t).1 == w

/-- The windows that the streamed trees fill. -/
def State.windowCount (s : State) (ts : List TreeRec) : Nat :=
  ((List.range ts.length).map fun t => if (ts.getD t default).res then 0 else (s.placeOf ts t).1 + 1).foldl max 0

/-- Store index of the half of the stream area that window `w` takes (R319). -/
def State.halfBase (s : State) (w : Nat) : Nat := s.resNodes + w % 2 * s.sWin

/-- Where node `i` of tree `t` stands in the node store: among the resident trees, or in its stream window (R313, R319). -/
def State.nodeAddr (s : State) (ts : List TreeRec) (t i : Nat) : Nat :=
  let p := s.placeOf ts t
  if (ts.getD t default).res then resBase ts t + i else s.halfBase p.1 + p.2 + i

/-- Node `i` of tree `t`. -/
def State.nodeOf (s : State) (ts : List TreeRec) (t i : Nat) : Nat := (Tab.get 0 s.te.store (s.nodeAddr ts t i)).toNat

/-- One traversal of `d` visits (R312, R313): the leaf value and the nodes visited. -/
def traverse (node : Nat → Nat) (code : Nat → BitVec 16) : Nat → Nat → Int → List Nat → Int × List Nat
  | 0, _, v, seen => (v, seen)
  | d + 1, i, _, seen =>
    let n := node i
    if n.testBit 63 then traverse node code d i (sgn 32 n) (seen ++ [i])
    else
      let c := code (bits n 55 48)
      let left := if c = 0xFFFF then n.testBit 62 else decide (c.toNat ≤ bits n 47 32)
      traverse node code d (bits n 31 16 + (if left then 0 else 1)) (sgn 32 n) (seen ++ [i])

/-- e^(m/64) in units of 2^-200, by repeated multiplication. -/
def expStep : Nat → Nat → Nat
  | 0, x => x
  | m + 1, x => expStep m ((x * 0x104080ab55de3917ab864b3e9044e6b456f21041f46276ecb06) >>> 200)

/-- T[j] = round(2^24 σ(−16 + j / 64)), halves rounded up (R316). -/
def sigmaT (j : Nat) : Nat :=
  let x := expStep (if j ≤ 1024 then 1024 - j else j - 1024) (2 ^ 200)
  let n := if j ≤ 1024 then 2 ^ 200 else x
  (2 ^ 25 * n + (2 ^ 200 + x)) / (2 * (2 ^ 200 + x))

/-- The link functions (R316): the score of a sum in units of 2^-24. -/
def linkScore (link : Nat) (v : Int) : Word :=
  if link = 0 then BitVec.ofInt 32 (min (2 ^ 31 - 1) (max (-(2 ^ 31)) ((v + 128) / 256)))
  else
    let u := (min (2 ^ 28 - 1) (max (-(2 ^ 28)) v) + 2 ^ 28).toNat
    let i := u / 2 ^ 18
    let t := sigmaT i
    let p := t + ((sigmaT (i + 1) - t) * (u % 2 ^ 18)) / 2 ^ 18
    BitVec.ofNat 32 (min 65535 ((p + 128) / 256))

/-- The tree engine sets its sticky bit and writes a record. -/
def State.treeNote (s : State) (code : Nat) (data : List Byte) : State := (s.stick 1 5).note code data

/-- A node of tree `t` met an uncorrectable error (R330, R515). -/
def State.nodeError (s : State) (ts : List TreeRec) (t i : Nat) : State :=
  let r := ts.getD t default
  let idx := if r.res then resBase ts t + i else r.start + i
  let s := (s.setTe (s.te.count 4 1)).treeNote 0x5304 (le 4 idx ++ le 1 (bit (!r.res) 1).toNat)
  let s := s.memErr 7 true (s.nodeAddr ts t i)
  if r.res then s.setTe { s.te with recheck := true } else s

/-- The tree producer has a heat to score: it runs, the heat began READY, and no scores stand yet (R323, R328). -/
def State.scoreDue (s : State) : Bool :=
  s.isT && s.running && s.user && !s.workStopped && s.te.began && s.te.now.isNone && s.runsNow s.treeProd && decide (2 ≤ s.heat.heat.toNat) &&
    s.heat.heat != BitVec.allOnes 64

/-- The entries of a wave (R314). -/
def State.waveSize (s : State) : Nat := 32 * s.treeLanes

/-- The waves of a heat's dispatch list (R314). -/
def State.waveCount (s : State) (ts : List TreeRec) : Nat := (ts.length * s.nSamp + s.waveSize - 1) / s.waveSize

/-- The entries (tree, position) of wave `w` of the dispatch list (R314). -/
def State.waveEntries (s : State) (ts : List TreeRec) (w : Nat) : List (Nat × Nat) :=
  ((List.range (ts.length * s.nSamp)).drop (w * s.waveSize) |>.take s.waveSize).map fun n => (n / s.nSamp, n % s.nSamp)

/-- Every window that the wave reads has been loaded (R319). -/
def State.waveReady (s : State) (ts : List TreeRec) (w : Nat) : Bool :=
  (s.waveEntries ts w).all fun e => (ts.getD e.1 default).res || decide ((s.placeOf ts e.1).1 < s.te.windows)

/-- The scoring of the present heat, begun by its front stage (R304, R311) where it has not begun. -/
def State.scoring (s : State) : TreeRun :=
  match s.te.run with
  | some r => r
  | none =>
    let h := (s.heat.heat - 2).toNat
    let ps := ((List.range 64).filter s.inService).take s.nSamp
    let at_ (k : Nat) : Option (BitVec 6 × List (BitVec 16)) :=
      if s.inr.used.getLsbD k && s.inr.next == h + 1 then some (BitVec.ofNat 6 k, s.featCodes k h) else none
    { (default : TreeRun) with pos := ps.map at_ }

/-- One entry of a wave (R312 to R315, R330): its traversal adds a leaf value; `ues` names (die, tree, node) with an uncorrectable
error. -/
def State.visit (s : State) (ts : List TreeRec) (ues : List (Nat × Nat × Nat)) (r : TreeRun) (e : Nat × Nat) : State × TreeRun :=
  match (r.pos[e.2]?).getD none with
  | none => (s, r)
  | some (k, codes) =>
    let x := ts.getD e.1 default
    let v := traverse (s.nodeOf ts e.1) (fun f => codes.getD f 0xFFFF) x.depth 0 0 []
    let hit := ues.filter fun u => u.1 == k.toNat && u.2.1 == e.1 && v.2.contains u.2.2
    (hit.foldl (fun s u => s.nodeError ts u.2.1 u.2.2) s,
     { r with acc := Tab.upd 0 r.acc (4 * e.2 + x.out) (· + v.1)
              poison := if hit.isEmpty then r.poison else setBit r.poison k.toNat true })

/-- The waves that can start make their visits, in order (R314, R319). -/
def State.runWaves (ts : List TreeRec) (ues : List (Nat × Nat × Nat)) : Nat → State → TreeRun → State × TreeRun
  | 0, s, r => (s, r)
  | n + 1, s, r =>
    if !s.waveReady ts r.waves then (s, r)
    else
      let x := (s.waveEntries ts r.waves).foldl (fun (p : State × TreeRun) e => p.1.visit ts ues p.2 e) (s, r)
      State.runWaves ts ues n x.1 { x.2 with waves := r.waves + 1 }

/-- The link stage: the scores of every position (R315, R316); a poisoned sample's are 0 (R330). -/
def State.linkStage (s : State) (r : TreeRun) : List (BitVec 6 × DieScore) :=
  r.pos.zipIdx.filterMap fun p => p.1.map fun x =>
    let bad := r.poison.getLsbD x.1.toNat
    (x.1, { nmiss := BitVec.ofNat 9 (x.2.filter (· == 0xFFFF)).length, poison := bad
            score := (List.range s.nOut).map fun o =>
              if bad then 0 else linkScore (s.teLink o) (s.teBase o + Tab.get 0 r.acc (4 * p.2 + o))
            codes := x.2 })

/-- TREE_SCORING (R306 to R316, R321, R328, R330): the samples of heat u − 2 are scored by the waves whose windows are loaded; a
wave whose window is not stays for a later TREE_SCORING of the heat, and the link stage follows the last. `late` says that a
streamed model's wave was due and waited, `ces` counts corrected node errors, `ues` names (die, tree, node) with an
uncorrectable one. -/
def execTreeScoring (late : Bool) (ces : BitVec 16) (ues : List (BitVec 6 × BitVec 12 × BitVec 16)) (s : State) :
    Host.Outcome State Fault Refusal :=
  .next (
    let ts := s.trees
    if !s.scoreDue then s
    else
      let s := if late && !s.te.waited && s.windowCount ts != 0 then
          (s.setTe { (s.te.count 2 1) with waited := true }).stickNote 1 5 0x5303 (le 8 s.heat.heat.toNat) else s
      let s := (s.setTe (s.te.count 3 ces.toNat)).memCes 7 ces.toNat
      let r := s.scoring
      let ue := ues.map fun e => (e.1.toNat, e.2.1.toNat, e.2.2.toNat)
      let (s, r) := State.runWaves ts ue (s.waveCount ts - r.waves) s r
      if r.waves < s.waveCount ts then s.setTe { s.te with run := some r }
      else
        let sc := s.linkStage r
        let t := (s.te.count 5 sc.length).count 7 ((sc.map fun p => p.2.nmiss.toNat).sum)
        s.setTe { t with run := none, now := some { heat := s.heat.heat - 2, dies := sc } })

/-- Window `w` may be loaded: every wave that reads window w − 2 has made its last visit (R319). -/
def State.windowFree (s : State) (ts : List TreeRec) (w : Nat) : Bool :=
  decide (w < 2) ||
    (s.windowTrees ts (w - 2)).all fun t => decide (((t + 1) * s.nSamp - 1) / s.waveSize < (s.te.run.map (·.waves)).getD 0)

/-- STREAM_WINDOW_LOAD (R319): the next window of streamed trees is read from LPDDR5X into its half of the stream area. -/
def execStreamWindowLoad (s : State) : Host.Outcome State Fault Refusal :=
  .next (
    let ts := s.trees
    let w := s.te.windows
    if !s.scoreDue || !s.lp5Runs || decide (s.windowCount ts ≤ w) || !s.windowFree ts w then s
    else
      let nodes := (s.windowTrees ts w).flatMap fun t =>
        let r := ts.getD t default
        (List.range r.nodes).map fun i => (BitVec.ofNat 64 (s.blobNode (r.start + i)) : DWord)
      s.setTe { s.te with windows := w + 1, store := Tab.setAll 0 s.te.store (s.halfBase w) nodes })

/-- A node keeps to R302. -/
def nodeOk (nFeat n : Nat) : Bool :=
  if n.testBit 63 then bits n 62 32 == 0
  else bits n 61 56 == 0 && bits n 15 0 == 0 && decide (bits n 55 48 < nFeat) && decide (bits n 47 32 ≤ 0xFFFE)

/-- R303: the first node of a tree that breaks the parent or depth rule; `dp` holds (depth, parents) by index. -/
def shapeFail (node : Nat → Nat) (nodes depth : Nat) : Nat → Nat → Tab (Nat × Nat) → Option Nat
  | 0, _, _ => none
  | f + 1, i, dp =>
    let n := node i
    let (d, par) := Tab.get (0, 0) dp i
    let d := if i = 0 then 1 else d
    if i ≠ 0 ∧ par ≠ 1 then some i
    else if n.testBit 63 then (if depth < d then some i else shapeFail node nodes depth f (i + 1) dp)
    else
      let l := bits n 31 16
      if l ≤ i ∨ nodes ≤ l + 1 then some i
      else
        let up (t : Tab (Nat × Nat)) (j : Nat) := Tab.set (0, 0) t j (d + 1, (Tab.get (0, 0) t j).2 + 1)
        shapeFail node nodes depth f (i + 1) (up (up dp l) (l + 1))

/-- The structure checks of one tree, in the order of Table 10-9: the first that fails as (REASON, node of the tree). -/
def State.treeFail (s : State) (nn : Nat) (r : TreeRec) : Option (Nat × Nat) :=
  let node (i : Nat) : Nat := s.blobNode (r.start + i)
  if nn < r.start + r.nodes then some (4, 0)
  else
    match (List.range r.nodes).find? fun i => !nodeOk s.nFeat (node i) with
    | some i => some (5, i)
    | none => (shapeFail node r.nodes r.depth r.nodes 0 []).map fun i => (6, i)

/-- The blob check (R324, Table 10-9), its structure checks tree by tree in ascending index: the first failure as (REASON, tree, blob node), none when it passes. -/
def State.blobFail (s : State) (readErr : Option Nat) : Option (Nat × Nat × Nat) :=
  let b := s.lp5Bytes s.blobBase 64
  let nn := leAt b 8 4
  let bl := leAt b 0x10 8
  let rsv := (b.drop 0xC).take 4 ++ b.drop 0x20
  if s.pwr.memFail || !s.lp5Runs then some (7, 0, 0)
  else if b.take 4 != [0x42, 0x4D, 0x4B, 0x54] || leAt b 4 4 != 1 || rsv.any (· != 0) then some (1, 0, 0)
  else if bl ≠ 64 + 8 * nn ∨ bl ≠ s.blobLen ∨ (s.te.hostLoad ∧ (s.te.beyond ∨ s.te.recv.toNat ≠ s.blobLen)) then some (2, 0, 0)
  else
    match readErr with
    | some n => some (7, 0, n)
    | none =>
      let all := s.lp5Bytes s.blobBase bl
      let dg := leAt b 0x18 8
      if (crc64 (all.take 0x18 ++ List.replicate 8 0 ++ all.drop 0x20)).toNat ≠ dg ∨ dg ≠ s.treeDigest.toNat then some (3, 0, 0)
      else s.trees.zipIdx.findSome? fun x => (s.treeFail nn x.1).map fun f => (f.1, x.2, x.1.start + f.2)

/-- BLOB_CHECK_DONE (R324, Table 10-9): the check passes into COPYING or fails into FAULT. -/
def execBlobCheckDone (readErr : Option (BitVec 32)) (s : State) : Host.Outcome State Fault Refusal :=
  .next (
    if s.te.st ≠ 2 ∨ !s.running then s
    else
      match s.blobFail (readErr.map BitVec.toNat) with
      | none => s.setTe { s.te with st := 3, copyDone := false, readyDue := false }
      | some (r, t, n) =>
        (s.setTe { s.te with st := 5, chkReason := BitVec.ofNat 4 r, chkTree := BitVec.ofNat 16 t, chkNode := BitVec.ofNat 32 n }).treeNote
          0x5302 (le 1 r ++ le 2 t ++ le 4 n))

/-- BLOB_COPY_DONE (R318): the resident trees stand in the node store. -/
def execBlobCopyDone (s : State) : Host.Outcome State Fault Refusal :=
  .next (
    if s.te.st ≠ 3 ∨ !s.running ∨ !s.lp5Runs then s
    else
      let nodes := (s.trees.filter (·.res)).flatMap fun r =>
        (List.range r.nodes).map fun i => (BitVec.ofNat 64 (s.blobNode (r.start + i)) : DWord)
      s.setTe { s.te with copyDone := true, store := Tab.setAll 0 [] 0 nodes })

/-- TE_MODEL_READY (R323): at the boundary after the copy the engine enters READY. -/
def execTeModelReady (s : State) : Host.Outcome State Fault Refusal :=
  .next (
    if s.te.st = 3 ∧ s.te.readyDue then
      (s.setTe { s.te with st := 4, copyDone := false, readyDue := false, began := true }).note 0x5301
        (le 8 s.treeDigest.toNat ++ le 2 s.nTree)
    else s)

/-- A score record (Table 10-10). -/
def State.scoreRecord (s : State) (x : Scored) : List Byte :=
  let ent (p : BitVec 6 × DieScore) : List Byte :=
    le 1 p.1.toNat ++ le 1 (bit p.2.poison 1).toNat ++ le 2 p.2.nmiss.toNat ++ le 4 0 ++
      (List.range 4).flatMap fun o => le 4 (p.2.score.getD o 0).toNat
  let pre := le 2 (32 + 24 * x.dies.length) ++ le 1 x.dies.length ++ le 1 s.nOut
  let post := le 8 x.heat.toNat ++ le 8 s.treeDigest.toNat ++ le 6 s.fsidSys.toNat ++ le 2 0 ++ x.dies.flatMap ent
  pre ++ le 4 (crc32c (pre ++ le 4 0 ++ post)).toNat ++ post

/-- Boundary: the scores of the heat are published (R328, R329) or, the work being unfinished, discarded (R331); the copy's
end makes the model ready, and an uncorrectable resident node starts the check anew (R323, R330). -/
def boundaryTree (unfinished : List (BitVec 10)) (s : State) : State :=
  let s :=
    match s.te.now with
    | some x =>
      let t := s.te.count 0 1
      let t := { t with pub := some x, now := none }
      let s := if t.recQ.length < 16 then s.setTe { t with recQ := t.recQ ++ [s.scoreRecord x] }
        else (s.setTe (t.count 6 1)).overload s.treeProd
      s.drainOne.bindEvent 9 0
    | none =>
      if s.scoreDue && unfinished.any fun u => u.toNat == s.treeProd then
        let s := s.setTe (s.te.count 1 1)
        if s.due 1 5 0x5305 then (s.noted 1 5 0x5305).note 0x5305 (le 8 s.heat.heat.toNat) else s
      else s
  let t := s.te
  let t := if t.recheck ∧ t.st = 4 then { t with st := 2, hostLoad := false, copyDone := false } else t
  let t := { t with recheck := false }
  let t := if t.st = 3 ∧ t.copyDone then { t with readyDue := true } else t
  s.setTe { t with began := t.st == 4, windows := 0, waited := false, run := none }

/-- TE_SCORE_HEAT_READ (R333): the published scores are latched. -/
def execTeScoreHeatRead (a : Acc) (s : State) : Host.Outcome State Fault Refusal :=
  .next (s.readBy a 0x70100 (if s.isT then (s.te.pub.map fun x => x.heat.setWidth 32).getD 0 else 0) fun s =>
    if s.isT then s.setTe { s.te with latch := some s.te.pub } else s)

/-- TE_FSEL_WRITE (R333): the feature codes of a die from the last published heat are copied into the view. -/
def execTeFselWrite (a : Acc) (s : State) : Host.Outcome State Fault Refusal :=
  let k : BitVec 6 := a.data.setWidth 6
  .next (s.written a 0x70800 1 fun s =>
    if s.isT then
      let codes := ((s.te.pub.bind fun x => (x.dies.find? fun p => p.1 == k).map fun p => p.2.codes)).getD (List.replicate 256 0xFFFF)
      s.setTe { s.te with fsel := k, view := codes }
    else s)

/-- TE_BLOB_DATA_WRITE (R325): 4 bytes of the host load go to LPDDR5X. -/
def execTeBlobDataWrite (a : Acc) (s : State) : Host.Outcome State Fault Refusal :=
  .next (s.written a 0x70018 1 fun s =>
    if s.te.st ≠ 1 ∨ s.isD then s
    else if s.blobLen < s.te.recv.toNat + 4 then s.setTe { s.te with beyond := true }
    else (s.lp5Put (s.blobBase + s.te.recv.toNat) (le 4 a.data.toNat)).setTe { s.te with recv := s.te.recv + 4 })

/-- TE_BLOB_BEGIN (R325, R326); refused in the power-fail state (R541). -/
def cmdTeBlobBegin (p : Post) (s : State) : Option State :=
  if !s.user || s.pwr.pf || s.treeDigest == 0 || (1 ≤ s.te.st.toNat && s.te.st.toNat ≤ 3) then none
  else some ((s.setTe { s.te with st := 1, recv := 0, beyond := false, hostLoad := true }).event 0x5306
    (le 8 s.blobBase ++ le 8 s.blobLen) p.role.toNat p.path.toNat)

/-- TE_BLOB_END (R325, R326). -/
def cmdTeBlobEnd (_ : Post) (s : State) : Option State := if s.te.st ≠ 1 then none else some (s.setTe { s.te with st := 2 })

/-- TE_BLOB_CHECK (R325, R326). -/
def cmdTeBlobCheck (_ : Post) (s : State) : Option State :=
  if s.te.st.toNat ≤ 3 then none else some (s.setTe { s.te with st := 2, hostLoad := false })

end Sys2Proof.Machine
end

