-- ==== Sys2Proof/Machine/Power.lean ====
section
/-! DEFINITION. Power (chapter 17): the power-fail state, block power-down, and the hold-up measurement. -/

namespace Sys2Proof.Machine

/-- Change the power unit. -/
def State.setPwr (s : State) (p : Power) : State := { s with pwr := p }

/-- Scan reads issued and not returned (R234, R537). -/
def State.scanOut (s : State) : Nat :=
  (s.scn.chans.map fun c => (c.2.slots.filter fun p => match p.2 with
    | .issued _ _ => true
    | _ => false).length).sum

/-- Loads and NV writes end (R502, R541): an image load as ABORTED, an NV write where it stands, left to R90, a blob load with
no model (notes/assumptions/31). -/
def State.pfEndsLoads (s : State) : State :=
  let st := s.ld.st.toNat
  let s :=
    if st = 1 ∨ st = 2 then
      let up := s.ld.startup
      let t := s.loadAbort s.ld.latRole.toNat s.ld.latPath.toNat
      if up then t.defaultsStay 4 else t
    else if st = 4 then
      let t := s.nvCut
      { t with ld := { t.ld with st := 0, srcLoad := 0 } }
    else s
  if s.te.st = 1 then s.setTe { s.te with st := 0, hostLoad := false } else s

/-- The power-fail signal rises on Exfin-T (R502, R541, R542). -/
def State.powerFails (s : State) (pfIn : Bool) : State :=
  let s := s.note 0x1008 (le 2 s.evr.buf.length ++ le 1 s.evr.bPf.toNat)
  let e := s.evr
  let s := if e.ready then { s with evr := { e with pfLeft := some e.buf.length, pfDone := false } } else s
  let s := s.setPwr { s.pwr with
    pf := true, pfOut := true, pfIn := s.pwr.pfIn || pfIn, selfRefresh := true, pfLowMv := BitVec.allOnes 32 }
  let s := s.pfEndsLoads
  if s.pwr.huIso then s.holdupAbort 2 ((s.pwr.huV.getLast?).getD 0).toNat else s

/-- POWER_FAIL_SIGNAL (R541, R543): the signal rises on Exfin-T, by the comparator or by PF_IN where PF_IN_EN is 1; on Exfin-D a rising PF_IN is a flush trigger. -/
def execPowerFailSignal (pfIn : Bool) (s : State) : Host.Outcome State Fault Refusal :=
  .next (
    if s.sys.rstHeld || s.sys.phase == 0 || s.sys.phase == 7 then s
    else if s.isD then
      if pfIn then { s with pwr := { s.pwr with pfIn := true }, evr := { s.evr with flushReq := true } } else s
    else if s.pwr.pf then s
    else if pfIn && !(s.busFlags.testBit 3) then s.setPwr { s.pwr with pfIn := true }
    else s.powerFails pfIn)

/-- POWER_FAIL_END (R543): the flush is done, PF_IN is 0, and the bus has been above the re-arm level for 100 ms; on Exfin-D,
PF_IN falls. -/
def execPowerFailEnd (ms : Word) (s : State) : Host.Outcome State Fault Refusal :=
  .next (
    if s.isD then s.setPwr { s.pwr with pfIn := false }
    else if s.pwr.pf && s.evr.pfDone then
      let none_ := s.pwr.pfLowMv == BitVec.allOnes 32
      let low : Word := if none_ then s.free 32 else s.pwr.pfLowMv
      let t := s.setPwr { s.pwr with pf := false, pfOut := false, pfIn := false, selfRefresh := s.pwr.pdStopped }
      let t := t.note 0x7004 (le 4 low.toNat ++ le 4 ms.toNat)
      if none_ then t.freed else t
    else s)

/-- BLK_PD_REQ changes (R537). -/
def execBlkPdReq (level : Bool) (s : State) : Host.Outcome State Fault Refusal := .next (s.setPwr { s.pwr with pdReq := level })

/-- The boundary's part (R537): the request stops work and starts a flush; its withdrawal lets the work resume. -/
def boundaryPower (s : State) : State :=
  let p := s.pwr
  if p.pdReq && !p.pdStopped then
    let t := (s.setPwr { p with pdStopped := true, selfRefresh := p.selfRefresh || s.isT }).note 0x7005
      (le 8 s.heat.heat.toNat ++ le 2 s.scanOut)
    { t with evr := { t.evr with flushReq := true } }
  else if !p.pdReq && p.pdStopped && !p.pdAck then s.setPwr { p with pdStopped := false, selfRefresh := p.pf }
  else s

/-- The flush of block power-down is queued or written (R537): on Exfin-D only a link that is UP can carry it. -/
def State.pdFlushed (s : State) : Bool :=
  if s.isD then !s.evr.flushReq || (s.link 0).tr.state != 4
  else !s.evr.flushReq && s.evr.flushLeft == 0 && s.evr.op.isNone

/-- BLK_PD_ACK (R537): at a boundary with nothing outstanding the instance enters POWER_DOWN; every output takes its reset
value. -/
def execBlkPdAck (outstanding : Bool) (s : State) : Host.Outcome State Fault Refusal :=
  .next (
    if s.running && s.heat.taken && s.pwr.pdReq && s.pwr.pdStopped && !s.pwr.pdAck && !outstanding && s.scanOut == 0 && s.pdFlushed then
      { s with
        pwr := { s.pwr with pdAck := true, pfOut := false, huIso := false }
        sys := { s.sys with phase := 7 }
        ul := { s.ul with links := [] }
        led := { s.led with req := false }
        ump := { s.ump with drainReq := false } }
    else s)

/-- HOLDUP_MEASUREMENT (R544, R545): the bus, as code `code`, lies above the re-arm level and the isolation opens, or the
test ends as BELOW. -/
def execHoldupMeasurement (code : BitVec 12) (s : State) : Host.Outcome State Fault Refusal :=
  .next (
    if s.isT && s.running && s.pwr.huDue && !s.pwr.huIso && !s.pwr.pf then
      if s.raCode < code.toNat then s.setPwr { s.pwr with huIso := true, huDue := false, huV := [], huI := [] }
      else s.holdupAbort 1 code.toNat
    else s)

/-- The figures of R546 from the samples: c_uf, p_mw, and t_us where p_mw is not 0. -/
def State.holdupFigures (s : State) : Nat × Nat × Option Nat :=
  let v := s.pwr.huV.map BitVec.toNat
  let mv4 (l : List Nat) : Nat := l.sum * 3 * s.vdiv / (4 * 8192)
  let i := s.pwr.huI.map fun c => s.busMa c.toNat
  let v1 := mv4 (v.take 4)
  let v2 := mv4 (v.drop (v.length - 4))
  let c := 2 * i.sum / max 1 (v1 - v2)
  let p := v1 * i.sum / (1000 * max 1 i.length)
  let br := (10 * s.pfMv) ^ 2 - (10 * s.snf 0xB8 2) ^ 2
  (c, p, if p = 0 then none else some (c * br / (2000 * p)))

/-- The last four VBUS codes lie fewer than 16 codes below the first four (R545, R546). -/
def State.holdupSmall (s : State) : Bool :=
  let v := s.pwr.huV.map BitVec.toNat
  decide ((v.take 4).sum < (v.drop (v.length - 4)).sum + 64)

/-- HOLDUP_MEASUREMENT_END (R544 to R546): a VBUS sample at or below the re-arm level, or the full length. -/
def execHoldupMeasurementEnd (below : Bool) (s : State) : Host.Outcome State Fault Refusal :=
  .next (
    if !s.pwr.huIso then s
    else if below then s.holdupAbort 1 ((s.pwr.huV.getLast?).getD 0).toNat
    else if s.pwr.huV.length < s.huLen / 2 ∨ s.pwr.huI.length < s.huLen / 2 then s
    else if s.holdupSmall then s.holdupAbort 3 ((s.pwr.huV.getLast?).getD 0).toNat
    else
      let (c, p, t) := s.holdupFigures
      let tw : Word := match t with
        | some n => BitVec.ofNat 32 (min (2 ^ 32 - 1) n)
        | none => s.free 32
      let need := 10000 + s.snf 0xB7 1
      let ok := decide (need ≤ tw.toNat)
      let s := if t.isNone then s.freed else s
      let s := s.setPwr { s.pwr with
        huIso := false, huValid := true, huOk := ok, huAbort := 0, huCap := BitVec.ofNat 32 c, huTime := tw
        huLoad := BitVec.ofNat 32 p }
      let s := s.note 0x7001 (le 4 c ++ le 4 tw.toNat ++ le 4 p)
      if ok then s
      else
        let s := s.note 0x7002 (le 4 tw.toNat ++ le 4 need)
        { s with evr := { s.evr with pfShort := true } })

end Sys2Proof.Machine
end

