-- ==== Sys2Proof/Machine/North.lean ====
section
/-! DEFINITION. The northbound ports (R443, R444, R450 to R455), the rack bus (R456 to R461), request places (R448, R449)
and the proxy window (R462). Times are in 2^-40 ns. -/

namespace Sys2Proof.Machine

/-- Change the northbound unit, the rack bus. -/
def State.setNb (s : State) (n : North) : State := { s with nb := n }
def State.setT1s (s : State) (t : T1s) : State := s.setNb { s.nb with t1s := t }

/-- The MAC address of port 0 or 1, and of the rack bus (2). -/
def State.portMac (s : State) (p : Nat) : BitVec 48 :=
  BitVec.ofNat 48 (if p = 0 then s.nbf 0x120 6 (s.fd 0x1A 6 0) else if p = 1 then s.nbf 0x128 6 0 else s.nbf 0x170 6 0)
def State.etype (s : State) : Nat := s.nbf 0x132 2 0x88B5
def State.abortGrp (s : State) : BitVec 48 := BitVec.ofNat 48 (s.nbf 0x200 6 0)
def State.ovh (s : State) : Nat := s.nbf 0x131 1 24
def State.t1sGrp (s : State) : BitVec 48 := BitVec.ofNat 48 (s.nbf 0x178 6 0)

/-- The node ID in force (R456, NB_T1S_ID). -/
def State.nodeId (s : State) : Nat := if s.nb.t1s.idOvr then s.nb.t1s.id.toNat else s.nbf 0x168 1 255

/-- Count on a port (NB_PCNT_p_i). -/
def State.portCount (s : State) (p i : Nat) : State :=
  let q := s.port p
  s.setPort p { q with cnt := Tab.upd 0 q.cnt i satInc }

/-- Count on the rack bus (NB_T1S_CNT_i). -/
def T1s.count (t : T1s) (i : Nat) : T1s := { t with cnt := Tab.upd 0 t.cnt i satInc }

/-- A northbound header is well formed (Table 14-2). -/
def nbHeaderOk (p : List Byte) : Bool := decide (32 ≤ p.length) && leAt p 0 1 == 1 && decide (32 + leAt p 2 2 ≤ p.length)

/-- A PTP frame that the profile takes (Table 4-2): to 01-1B-19-00-00-00, Sync, Follow_Up, Delay_Resp or Announce, version 2.0 or
2.1, of PTP_DOMAIN. -/
def State.ptpFrameOk (s : State) (f : EthFrame) : Bool :=
  let b (o : Nat) := leAt f.payload o 1
  f.dst == 0x000000191B01 && [0, 8, 9, 0xB].contains (b 0 % 16) && b 1 % 16 == 2 && decide (b 1 / 16 ≤ 1) && b 4 == s.tbf 0x41 1

/-- What becomes of a frame on an Ethernet port: the index of NB_PCNT that counts it (R443, R444). -/
def State.ethVerdict (s : State) (p : Nat) (f : EthFrame) : Nat :=
  let m := leAt f.payload 1 1
  if !f.fcsOk then 2
  else if 9216 < f.len.toNat then 3
  else if f.etype = 0x8808 then 4
  else if 2 ≤ f.tags.toNat ∨ f.len.toNat < 64 then 5
  else if f.etype = 0x88F7 then (if s.user ∧ p = s.tbf 0x40 1 ∧ s.ptpFrameOk f then 1 else 5)
  else if f.etype.toNat ≠ s.etype then 5
  else if f.dst = s.portMac p then (if nbHeaderOk f.payload ∧ (m = 0x10 ∨ m = 0x0C) then 1 else 6)
  else if f.dst = s.abortGrp ∧ s.user then (if nbHeaderOk f.payload ∧ m = 0x0C then 1 else 6)
  else 5

/-- ETH_FRAME_RECEIVE (R444): accepted by kind, or discarded and counted. What an accepted frame carries is taken by the
command of its kind. -/
def execEthFrameReceive (port : BitVec 1) (f : EthFrame) (s : State) : Host.Outcome State Fault Refusal :=
  let p := port.toNat
  .next (if s.isT && s.running && s.portOn p && (s.port p).up then s.portCount p (s.ethVerdict p f) else s)

/-- NB_PORT_STATE (R443): a change of UP is recorded. -/
def execNbPortState (port : BitVec 1) (up fecLock : Bool) (s : State) : Host.Outcome State Fault Refusal :=
  let p := port.toNat
  .next (
    if s.isT && s.running && s.portOn p then
      let q := s.port p
      let t := s.setPort p { q with up := up, fecLock := fecLock }
      if q.up = up then t else t.note 0x5701 (le 1 p ++ le 1 (bit up 1).toNat)
    else s)

/-- TAI is valid (R138, Table 16-1 item 5). -/
def State.taiOk (s : State) : Bool := s.tb.taiValid

/-- The oper list in force: one open entry at reset and while TAI is not valid (R451). -/
def State.operList (s : State) (p : Nat) : GateList :=
  match (s.port p).oper with
  | some l => if s.taiOk then l else ⟨[(0xFF, l.cyc)], l.cyc⟩
  | none => ⟨[(0xFF, 0)], 0⟩

/-- The gates in force. -/
def State.gatesNow (s : State) (p : Nat) : Byte :=
  if (s.port p).oper.isNone || !s.taiOk then 0xFF else (s.port p).gates

/-- Edges of one cycle: the ns at which each entry that runs begins, with its gates (R451). -/
def gateEdges (cyc : Nat) : List (Byte × Word) → Nat → List (Nat × Byte)
  | [], _ => []
  | (g, d) :: l, t => if cyc ≤ t then [] else (t, g) :: gateEdges cyc l (t + d.toNat)

/-- The next moment after `t` at which the gate of class `c` closes, if any (R452): within two cycles of the list, or the
pending change time. -/
def State.nextClose (s : State) (p c : Nat) (t : Nat) : Option Nat :=
  let q := s.port p
  let pend := if q.pendList.isSome then some q.cht.toNat else none
  let ns := 2 ^ 40
  let own : Option Nat :=
    match q.oper with
    | some l =>
      if !s.taiOk ∨ l.cyc = 0 then none
      else
        let n := (t - q.operStart.toNat) / (l.cyc.toNat * ns)
        let edges := gateEdges l.cyc.toNat l.entries 0
        let at_ (k : Nat) := edges.filterMap fun e =>
          if e.2.getLsbD c then none else some (q.operStart.toNat + ((n + k) * l.cyc.toNat + e.1) * ns)
        (at_ 0 ++ at_ 1 ++ at_ 2).find? fun u => decide (t < u)
    | none => none
  match own, pend with
  | some a, some b => some (min a b)
  | some a, none => some a
  | none, b => b

/-- A head frame fits (R452): (L + OVH) × 0.08 ns from `t` on. -/
def State.frameFits (s : State) (p c : Nat) (t : Nat) (f : NbFrame) : Bool :=
  match s.nextClose p c t with
  | some u => decide (t * 100 + (nbLen (s.vlan.testBit 15) f.bytes.length + s.ovh) * 8 * 2 ^ 40 ≤ u * 100)
  | none => true

/-- A frame as it leaves port `p` in traffic class `c` (R445, Table 14-1): destination, source, the tag with VID and PCP of
an Ethernet port whose TAG_EN is on, EtherType (that of PTP for a Delay_Req, which has no MTYPE), header and payload, padding to
the 64-byte minimum, FCS. Numbers of IEEE 802.3 have their high byte first. -/
def State.wire (s : State) (p c : Nat) (f : NbFrame) : List Byte :=
  let be2 (n : Nat) : List Byte := le 1 (n / 256) ++ le 1 n
  let pcp := if c < 8 then c else bits (s.nbClass f.mtype.toNat) 6 4
  let tag := if p < 2 ∧ s.vlan.testBit 15 then be2 0x8100 ++ be2 (fieldAt pcp 13 3 + s.vlan % 4096) else []
  let b := le 6 f.dst.toNat ++ le 6 (s.portMac p).toNat ++ tag ++ be2 (if f.mtype = 0 then 0x88F7 else s.etype) ++ f.bytes
  let b := b ++ List.replicate (60 - b.length) 0
  b ++ le 4 (checkValue 0 b).toNat

/-- A frame leaves a port. -/
def State.frameSent (s : State) (p c : Nat) (f : NbFrame) : State :=
  let s := s.portCount p 0
  let q := s.port p
  let w := BitVec.ofNat 32 (min (2 ^ 32 - 1) (s.tb.stroke - f.stroke).toNat)
  let old := Tab.get 0 q.lastDly c
  s.setPort p { q with sent := q.sent ++ [s.wire p c f], lastDly := if c < 8 then Tab.set 0 q.lastDly c (if old.toNat < w.toNat then w else old) else q.lastDly }

/-- EGRESS_FRAME_SELECT (R450, R452): at a frame boundary at time `t`, the abort queue, or the highest class whose gate is
open and whose head frame fits. -/
def execEgressFrameSelect (port : BitVec 1) (t : BitVec 128) (s : State) : Host.Outcome State Fault Refusal :=
  let p := port.toNat
  let q := s.port p
  .next (
    if !(s.isT && s.running && s.portOn p && q.up) then s
    else
      match q.abortQ with
      | f :: rest => (s.setPort p { q with abortQ := rest }).frameSent p 8 f
      | [] =>
        let pick := [7, 6, 5, 4, 3, 2, 1, 0].find? fun c =>
          (s.gatesNow p).getLsbD c && ((q.cls.getD c []).head?.map (s.frameFits p c t.toNat)).getD false
        match pick with
        | some c =>
          match q.cls.getD c [] with
          | f :: rest => (s.setPort p { q with cls := q.cls.set c rest }).frameSent p c f
          | [] => s
        | none => s)

/-- A frame in transmission whose gate closes under it completes and is counted (R454): R452 starts no frame that an
unshifted gate would close under. -/
def State.overrun (s : State) (p : Nat) (old new : Byte) (busy : Option (BitVec 3)) : State :=
  match busy with
  | some c => if old.getLsbD c.toNat && !new.getLsbD c.toNat then s.portCount p 7 else s
  | none => s

/-- GATE_ENTRY_START (R451, R454): an entry that runs begins. -/
def execGateEntryStart (port : BitVec 1) (entry : BitVec 7) (busy : Option (BitVec 3)) (s : State) : Host.Outcome State Fault Refusal :=
  let p := port.toNat
  let q := s.port p
  .next (
    match q.oper with
    | some l =>
      match (gateEdges l.cyc.toNat l.entries 0)[entry.toNat]? with
      | some e => if s.taiOk then (s.setPort p { q with gates := e.2 }).overrun p q.gates e.2 busy else s
      | none => s
    | none => s)

/-- GATE_CHANGE_TIME (R453, R454): at CHT the pending list becomes the oper list. -/
def execGateChangeTime (port : BitVec 1) (busy : Option (BitVec 3)) (s : State) : Host.Outcome State Fault Refusal :=
  let p := port.toNat
  let q := s.port p
  .next (
    match q.pendList with
    | some l =>
      let g := (l.entries.head?.map (·.1)).getD 0xFF
      ((s.setPort p { q with pendList := none, oper := some l, operStart := q.cht, gates := g }).overrun p (s.gatesNow p) g
        busy).note 0x5702 (le 1 p ++ le 12 (taiOf q.cht).toNat)
    | none => s)

/-- The admin entries of a port as written. -/
def State.admList (s : State) (p n : Nat) : List (Byte × Word) :=
  (List.range n).map fun i =>
    let o := 0x90400 + 0x1000 * p + 8 * i
    (BitVec.ofNat 8 (s.rwd o 0), BitVec.ofNat 32 (s.rwd (o + 4) 0))

/-- NB_GATE_BASE_p and NB_GATE_CYC_p: the base in 2^-40 ns, the cycle in ns. -/
def State.admBase (s : State) (p : Nat) : Nat :=
  let o := 0x90004 + 0x1000 * p
  ((s.rwd (o + 4) 0 + 2 ^ 32 * (s.rwd (o + 8) 0 % 2 ^ 16)) * 10 ^ 9 + s.rwd o 0 % 2 ^ 30) * 2 ^ 40
def State.admCyc (s : State) (p : Nat) : Nat := s.rwd (0x90010 + 0x1000 * p) 0 % 2 ^ 30

/-- The change time for a write at `now` (R453). -/
def changeTime (base cyc now : Nat) : Nat := if now < base then base else base + ((now - base) / cyc + 1) * cyc

/-- A list change is requested (R453). -/
def State.gateChange (s : State) (a : Acc) (p : Nat) : State :=
  let q := s.port p
  let n := q.admLen.toNat
  let l := s.admList p n
  let cyc := s.admCyc p
  let why := if q.pendList.isSome then 1
    else if n = 0 ∨ (l.any fun e => e.2 == 0) ∨ cyc = 0 then 2
    else if !s.taiOk then 3 else 0
  if why ≠ 0 then
    ((s.setPort p { q with chgErr := true, reason := BitVec.ofNat 3 why }).stick 2 1).event 0x5703 (le 1 p ++ le 1 why)
      (s.roleOf a) a.path.toNat
  else
    let now := (s.timeAt s.sinceSeg).toNat
    s.setPort p { q with
      pendList := some ⟨l, BitVec.ofNat 32 cyc⟩, cht := BitVec.ofNat 128 (changeTime (s.admBase p) (cyc * 2 ^ 40) now) }

/-- A write to NB_GATE_p: ADM_LEN is kept, CHG_ERR is cleared by a 1, and CHG requests a change (R453, R469). -/
def State.gateWrite (s : State) (a : Acc) (p : Nat) : State :=
  s.written a (0x90000 + 0x1000 * p) 2 fun s =>
    if s.isD then s
    else
      let q := s.port p
      let v := a.data.toNat
      let s := s.cfgWrite a (0x90000 + 0x1000 * p) a.data
      let s := s.setPort p { q with admLen := BitVec.ofNat 7 (bits v 22 16), chgErr := q.chgErr && !v.testBit 29 }
      if v.testBit 31 then s.gateChange a p else s

/-- NB_GATE_CHG_WRITE (R453). -/
def execNbGateChgWrite (a : Acc) (p : BitVec 1) (s : State) : Host.Outcome State Fault Refusal := .next (s.gateWrite a p.toNat)

/-- The boundary's sample of every class queue (R455): FRAMES, DROP, BYTES, HOLDLY, MAXDLY as NB_Q_p_c shows them. -/
def State.queueSample (s : State) (p c : Nat) : BitVec 128 :=
  let q := s.port p
  let l := q.cls.getD c []
  let bytes := (l.map fun f => nbLen (s.vlan.testBit 15) f.bytes.length).sum
  let hol := (l.head?.map fun f => min (2 ^ 32 - 1) (s.tb.stroke - f.stroke).toNat).getD 0
  BitVec.ofNat 128 (l.length + fieldAt bytes 32 32 + fieldAt hol 64 32 + fieldAt (Tab.get 0 q.lastDly c).toNat 96 32)

/-- The boundary's part of the ports (R455). -/
def boundaryNorth (s : State) : State :=
  if s.isD then s
  else [0, 1].foldl (fun s p =>
    let q := s.port p
    s.setPort p { q with sampled := Tab.setAll 0 [] 0 ((List.range 8).map (s.queueSample p)), lastDly := [] }) s

/-- A port restarts (R454): its queues are emptied into the drop counts, and it is no longer UP. -/
def State.portRestart (s : State) (p : Nat) : State :=
  let q := s.port p
  let drops := (List.range 8).foldl (fun d c => Tab.upd 0 d c fun n => satAdd n (q.cls.getD c []).length) q.drops
  let t := s.setPort p { q with
    up := false, fecLock := false, cls := List.replicate 8 [], abortQ := []
    drops := Tab.upd 0 drops 8 fun n => satAdd n q.abortQ.length }
  if q.up then t.note 0x5701 (le 1 p ++ le 1 0) else t

/-- The rack-bus port restarts (R454): its queue is emptied into the drop count, and answers due are not sent. -/
def T1s.restart (t : T1s) : T1s :=
  { t with queue := [], echoDue := [], cnt := Tab.upd 0 t.cnt 7 fun c => satAdd c t.queue.length }

/-- Activation at the ports (R454, R460, R467): `old` is PORT_EN before it. -/
def activateNorth (old : Nat) (s : State) : State :=
  if s.isD then s
  else
    let ch (i : Nat) : Bool := s.portEn.testBit i != old.testBit i
    let s := [0, 1].foldl (fun s p => if ch p || ch (4 + p) then s.portRestart p else s) s
    let t := if ch 2 then s.nb.t1s.restart else s.nb.t1s
    s.setT1s { t with clash := false, evidence := [] }

/-- A frame from a stranger on the rack bus (R458, R459). -/
def State.stranger (s : State) (src : BitVec 48) : State :=
  (s.setT1s (s.nb.t1s.count 2)).stickNote 2 1 0x5706 (le 4 src.toNat)

/-- A type that the rack bus may carry (Table 14-3). -/
def t1sType (m : Nat) : Bool := [1, 4, 5, 0xA, 0xB, 0xC, 0x10, 0x11, 0x12, 0x13, 0x14].contains m

/-- A source address held in a valid ALLOW entry. -/
def State.allowed (s : State) (src : BitVec 48) : Bool :=
  (List.range 16).any fun i => s.nbf (0x180 + 8 * i) 6 0 == src.toNat && (s.nbf (0x186 + 8 * i) 1 0).testBit 0

/-- T1S_FRAME_RECEIVE (R458): known, not ours, or stranger. -/
def execT1sFrameReceive (f : EthFrame) (s : State) : Host.Outcome State Fault Refusal :=
  let m := leAt f.payload 1 1
  let meet := m == 0x12 || m == 0x13 || m == 0x14
  .next (
    if !(s.isT && s.running && s.portOn 2) || !f.fcsOk || decide (f.len.toNat < 64) || decide (1522 < f.len.toNat) then s
    else if f.dst ≠ s.portMac 2 ∧ f.dst ≠ s.t1sGrp ∧ f.dst ≠ s.abortGrp then s.setT1s (s.nb.t1s.count 3)
    else if f.etype.toNat = s.etype && nbHeaderOk f.payload && t1sType m && decide (f.tags.toNat ≤ 1) &&
        (if meet then (s.nb.t1s.peers.any fun p => p.mac == f.src) || f.dst == s.t1sGrp else s.allowed f.src) then
      s.setT1s (s.nb.t1s.count 1)
    else s.stranger f.src)

/-- A node-ID clash is declared (R460). -/
def State.t1sClash (s : State) (kind : Nat) (mac : BitVec 48) : State :=
  if s.nb.t1s.clash then s
  else
    let s := ((s.setT1s { s.nb.t1s with clash := true }).stick 2 1).note 0x5705 (le 1 s.nodeId ++ le 1 kind)
    let body := le 1 s.nodeId ++ le 1 kind ++ le 2 0 ++ le 6 mac.toNat ++ le 6 0
    ([0, 1].filter fun p => (s.nbClass 0x15).testBit p).foldl (fun s p => s.northOn p 0x15 body none false) s

/-- NB_T1S_ID_WRITE (R460, R469): an override of the node ID; CLASH clears. -/
def execNbT1sIdWrite (a : Acc) (s : State) : Host.Outcome State Fault Refusal :=
  .next (s.written a 0x92004 2 fun s =>
    if s.isD then s
    else (s.cfgWrite a 0x92004 a.data).setT1s { s.nb.t1s with
      idOvr := a.data.getLsbD 8, id := a.data.setWidth 8, clash := false, evidence := [] })

/-- PLCA is active where the sublayer sees a BEACON: always at a coordinator, never with node ID 255 (Table 14-4, R457). -/
def State.plcaActive (s : State) (seen : Bool) : Bool := s.nodeId == 0 || (seen && s.nodeId != 255)

/-- PLCA_MODE_CHANGE (R457). -/
def execPlcaModeChange (plca : Bool) (s : State) : Host.Outcome State Fault Refusal :=
  let m := s.plcaActive plca
  .next (
    if s.isT && s.running && s.portOn 2 && s.nb.t1s.plca != m then
      (s.setT1s { (s.nb.t1s.count 6) with plca := m }).note 0x5704 (le 1 (bit m 1).toNat)
    else s)

/-- The rack bus may be used: enabled, and no clash declared (R460). -/
def State.t1sTalks (s : State) : Bool :=
  s.isT && s.running && s.portOn 2 && !s.nb.t1s.clash && !s.integ.xingStop.getLsbD 21 && !s.integ.xingStop.getLsbD 22

/-- DISCOVER_SEND (R459). -/
def execDiscoverSend (s : State) : Host.Outcome State Fault Refusal :=
  .next (
    if s.t1sTalks then
      s.northOn 2 0x12 (le 1 s.gradeCode ++ le 1 s.nodeId ++ le 1 (bit s.nb.t1s.plca 1).toNat ++ le 1 0 ++ le 4 blkVersion ++
        le 8 s.digestShown.toNat ++ le 4 s.trayNo ++ le 4 0) (some s.t1sGrp) false
    else s)

/-- DISCOVER (R459, R460): a clash where it carries this node ID; else a new peer takes the lowest free entry of 16 and its
round starts. -/
def execDiscover (src : BitVec 48) (node : Byte) (tray : BitVec 18) (s : State) : Host.Outcome State Fault Refusal :=
  .next (
    if !(s.isT && s.running && s.portOn 2) then s
    else
      let s := if node.toNat = s.nodeId ∧ node ≠ 255 ∧ src ≠ s.portMac 2 then s.t1sClash 4 src else s
      let t := s.nb.t1s
      if t.peers.any fun p => p.mac == src then
        s.setT1s { t with peers := t.peers.map fun p => if p.mac = src then { p with node := node, tray := tray } else p }
      else if t.peers.length < 16 then
        s.setT1s { t with peers := t.peers ++ [⟨src, tray, node, 0xFFFF, 16, 0, 0, none⟩] }
      else s.stranger src)

/-- A round of exchanges ends (R461): the mean of those that completed. -/
def Peer.settle (p : Peer) : Peer :=
  { p with prop := if p.done = 0 then 0xFFFF else BitVec.ofNat 16 (min 0xFFFE (max 0 (p.sum / p.done))).toNat }

/-- ECHO_EXCHANGE (R461): the next exchange of the peer's round, or the first of a new round. -/
def execEchoExchange (peer : BitVec 4) (s : State) : Host.Outcome State Fault Refusal :=
  .next (
    match s.nb.t1s.peers[peer.toNat]? with
    | some p =>
      if s.t1sTalks then
        let p := if p.left = 0 then { p.settle with left := 16, sum := 0, done := 0 } else p
        let t := s.nb.t1s
        let s := s.setT1s { t with peers := t.peers.set peer.toNat { p with left := p.left - 1, xn := some t.xn }, xn := t.xn + 1 }
        s.northOn 2 0x13 (le 2 t.xn.toNat ++ le 6 0) (some p.mac) false
      else s
    | none => s)

/-- ECHO_REQ (R461): a peer's request is answered in the next own opportunity. -/
def execEchoReq (src : BitVec 48) (xn : BitVec 16) (s : State) : Host.Outcome State Fault Refusal :=
  .next (
    if s.isT && s.running && s.portOn 2 && (s.nb.t1s.peers.any fun p => p.mac == src) then
      s.setT1s { s.nb.t1s with echoDue := s.nb.t1s.echoDue ++ [(src, xn)] }
    else s)

/-- The delay measured by one exchange, in ns (R461). -/
def State.echoDelay (s : State) (turnNs rttCycles : Word) : Int :=
  let f : Int := max 1 s.fCore
  ((rttCycles.toNat : Int) * 10 ^ 6 - ((turnNs.toNat + 2 * s.nbf 0x136 2 0 : Nat) : Int) * f) / (2 * f)

/-- ECHO_RSP (R461): the exchange completes; the last of a round sets PROP_NS. -/
def execEchoRsp (src : BitVec 48) (xn : BitVec 16) (turnNs rttCycles : Word) (s : State) : Host.Outcome State Fault Refusal :=
  .next (
    if s.isT && s.running && s.portOn 2 then
      let t := s.nb.t1s
      s.setT1s { t with peers := t.peers.map fun p =>
        if p.mac = src ∧ p.xn = some xn then
          let q := { p with xn := none, sum := p.sum + s.echoDelay turnNs rttCycles, done := p.done + 1 }
          if q.left = 0 then q.settle else q
        else p }
    else s)

/-- The answers to ECHO_REQ, whose TURN_NS the model does not know (a free value, notes/assumptions/3). -/
def State.echoAnswers (s : State) : State :=
  let l := s.nb.t1s.echoDue
  let s := s.setT1s { s.nb.t1s with echoDue := [] }
  l.foldl (fun (s : State) e =>
    let t := s.nb.t1s
    let f : NbFrame := ⟨0x14, e.1, s.nbHeader 0x14 8 (Tab.get 0 t.seq 0x14).toNat false ++
      (le 2 e.2.toNat ++ le 2 0 ++ le 4 (s.free 32).toNat), s.tb.stroke⟩
    (s.setT1s { (t.count 0) with seq := Tab.upd 0 t.seq 0x14 (· + 1), sent := t.sent ++ [s.wire 2 0 f] }).freed) s

/-- The `n` oldest queued frames leave. -/
def State.t1sSend (s : State) (n : Nat) : State :=
  let t := s.nb.t1s
  let l := t.queue.take n
  s.setT1s { t with queue := t.queue.drop n, sent := t.sent ++ l.map (s.wire 2 0), cnt := Tab.upd 0 t.cnt 0 fun c => satAdd c l.length }

/-- TRANSMIT_OPPORTUNITY (R456, R457, R460, R461): answers, then up to 1 + MAX_BC frames leave; evidence bit 0 is a collision
while Exfin-T transmits, bit 1 foreign activity while it is silent, bit 2 a foreign BEACON at a coordinator. -/
def execTransmitOpportunity (evidence : BitVec 3) (s : State) : Host.Outcome State Fault Refusal :=
  .next (
    if !s.t1sTalks then s
    else
      let hit := evidence.getLsbD 0 || evidence.getLsbD 1
      let beacon := evidence.getLsbD 2 && s.nodeId == 0
      let t := s.nb.t1s
      let t := if evidence.getLsbD 0 then t.count 4 else t
      let t := if hit || beacon then t.count 5 else t
      let ev := t.evidence ++ [hit]
      let ev := ev.drop (ev.length - 256)
      let s := s.setT1s { t with evidence := if t.plca then ev else t.evidence }
      if beacon then s.t1sClash 3 0
      else if s.nb.t1s.plca && hit && decide (s.nbf 0x16D 1 1 ≤ (ev.filter id).length) then
        s.t1sClash (if evidence.getLsbD 0 then 1 else 2) 0
      else if hit then s
      else s.echoAnswers.t1sSend (1 + s.nbf 0x16B 1 0))

/-- REG_REQ (R448, R449, R472): a request takes a place, is repeated as a duplicate, or is dropped. -/
def execRegReq (port : BitVec 2) (src : BitVec 48) (reqid : Word) (entries : List ReqEntry) (s : State) :
    Host.Outcome State Fault Refusal :=
  .next (
    if !(s.isT && s.running) || entries.isEmpty || decide (64 < entries.length) || decide (2 < port.toNat) then s
    else
      let s := (s.bindSession port src).1
      let dup (t : State) : State := t.setNb { t.nb with reqDup := satInc t.nb.reqDup }
      let busy (o : Option ReqPlace) : Bool := match o with
        | some p => p.src == src && p.reqid == reqid
        | none => false
      match s.nb.doneReqs.find? fun d => d.1 == src && d.2.1 == reqid with
      | some d => (dup s).northTo 0x11 src d.2.2
      | none =>
        if s.nb.places.any fun p => busy p.2 then dup s
        else
          match (List.range 16).find? fun i => (Tab.get none s.nb.places i).isNone with
          | some i =>
            let p : ReqPlace := ⟨port, src, reqid, entries, [], false⟩
            s.setNb { s.nb with places := Tab.set none s.nb.places i (some p) }
          | none =>
            (s.setNb { s.nb with reqDrop := satInc s.nb.reqDrop }).note 0x5707 (le 4 src.toNat ++ le 4 reqid.toNat))

/-- The path of a request place (R471, R472). -/
def State.placePath (s : State) (p : ReqPlace) : Nat :=
  let is (o : Option Session) : Bool := match o with
    | some x => x.port == p.port && x.mac == p.src
    | none => false
  (([1, 2, 3, 4, 5, 6, 7, 8] : List Nat).find? fun i => is (Tab.get none s.roles.sessions i)).getD 15

/-- The role that a proxy access carries (R462, R471). -/
def State.proxyRole (s : State) (src : ProxySrc) : Nat :=
  let of (p : Nat) : Nat := if p = 15 then 1 else (s.path p).held
  match src with
  | .port _ => of 0
  | .place i =>
    match Tab.get none s.nb.places i.toNat with
    | some p => of (s.placePath p)
    | none => 1

/-- A proxy access (R462): a tag is taken and PROXY_REQ goes out, or the access completes at once, as BUSY without a free tag
or as BAD_REQ for an offset within a word. -/
def State.proxyAccess (s : State) (src : ProxySrc) (wr : Bool) (off : Nat) (data : Word) : State :=
  let k := off / 2 ^ 20 % 64
  let o := off % 2 ^ 20
  if o % 4 ≠ 0 then s.proxyDone src 3 0
  else
    match (List.range 256).find? fun t => (Tab.get none s.nb.proxyOut t).isNone with
    | none => s.proxyDone src 4 0
    | some t =>
      let flags := (bit wr 1).toNat + 4 * s.proxyRole src
      let s := s.setNb { s.nb with
        proxyOut := Tab.set none s.nb.proxyOut t (some ⟨BitVec.ofNat 6 k, src⟩), proxyCnt := Tab.upd 0 s.nb.proxyCnt 0 satInc }
      s.send k 0 0x32 (le 1 t ++ le 1 flags ++ le 2 0 ++ le 4 o ++ le 4 (if wr then data.toNat else 0))

/-- PROXY_ACCESS (R462): of the register access port, or of the entry at which a request place stands, which then waits. -/
def execProxyAccess (src : ProxySrc) (wr : Bool) (off : BitVec 26) (data : Word) (s : State) : Host.Outcome State Fault Refusal :=
  .next (
    if !(s.isT && s.running) then s
    else
      match src with
      | .port _ => s.proxyAccess src wr off.toNat data
      | .place i =>
        match Tab.get none s.nb.places i.toNat with
        | some p =>
          if p.waiting ∨ p.left.head? ≠ some ⟨wr, BitVec.ofNat 32 (0x04000000 + off.toNat), data⟩ then s
          else
            { s with nb := { s.nb with places := Tab.set none s.nb.places i.toNat (some { p with waiting := true }) } }.proxyAccess
              src wr off.toNat data
        | none => s)

/-- PROXY_REQ (R434): the die queues the request. -/
def execProxyReq (tag : Byte) (flags : Byte) (off data : Word) (s : State) : Host.Outcome State Fault Refusal :=
  .next (
    if s.isD then
      let s := s.take 0 0 0x32
      if s.nb.proxyIn.length < 256 then s.setNb { s.nb with proxyIn := s.nb.proxyIn ++ [⟨tag, flags, off, data⟩] } else s
    else s)

/-- PROXY_RSP (R462): the tagged access completes. -/
def execProxyRsp (k : BitVec 6) (tag status : Byte) (data : Word) (s : State) : Host.Outcome State Fault Refusal :=
  .next (
    if s.isT then
      let s := s.take k.toNat 0 0x33
      match Tab.get none s.nb.proxyOut tag.toNat with
      | some o =>
        if o.link = k then
          (s.setNb { s.nb with proxyOut := Tab.set none s.nb.proxyOut tag.toNat none }).proxyDone o.src (min 3 status.toNat) data
        else s
      | none => s
    else s)

end Sys2Proof.Machine
end

