-- ==== Sys2Proof/Machine/Heat.lean ====
section
/-! DEFINITION. Heat boundaries (R34 to R41, R136), the boundary work of every engine in its order, the CNT records that a
boundary sends (R437), and the coming into force of an image (R78, R79). -/

namespace Sys2Proof.Machine

/-- The work of producer `p` for the present heat that is not done, as far as the model knows the producer's work. -/
def State.workLeft (s : State) (p : Nat) : Bool :=
  let clu := s.clusters.filter fun c => s.cluProd c == p
  let ana := s.encProd == some p && (!s.sns.sampleSent && !s.sns.sample.isEmpty || !s.trc.encPend.isEmpty)
  let det := s.detProd == some p && !s.ump.detDone
  let ump := s.umpProd == some p && s.ump.work.isNone
  let tree := s.isT && s.treeProd == p && s.scoreDue
  let red := s.redProd == some p && s.redRuns && !s.red.queue.isEmpty
  let known := !clu.isEmpty || s.encProd == some p || s.detProd == some p || s.umpProd == some p || (s.isT && s.treeProd == p) ||
    s.redProd == some p
  (clu.any fun c => s.prb.due.getLsbD c || s.prb.heldDue.getLsbD c) || ana || det || ump || tree || red || !known

/-- The trace writer is producer `p` (TRACE_PROG WRITER); a boundary never discards its work (R168). -/
def State.traceWriter (s : State) (p : Nat) : Bool := s.user && s.img 6 0 4 0 / 2 ^ 16 % 1024 == p

/-- The work of producer `p` in the heat that ends may be unfinished: work beyond the proof always, proved work only in a
heat of fewer slots than the proof states (R39, R40, R42). -/
def State.mayLose (s : State) (p : Nat) : Bool :=
  decide (s.heat.meas.toNat < s.nSlots) || s.heat.heat.toNat % max 1 (((s.prod? p).map (·.dProved)).getD 1) != 0

/-- The producers whose work the boundary discards (R41, R42), ascending. -/
def State.lostWork (s : State) (unfinished : List (BitVec 10)) : List (BitVec 10) :=
  (((unfinished.map BitVec.toNat).filter fun p => s.runsNow p && s.workLeft p && s.mayLose p && !s.traceWriter p).dedup.mergeSort
    (· ≤ ·)).map (BitVec.ofNat 10)

/-- HEAT_OVR and its record (R41, Table 16-8). -/
def State.overran (s : State) (lost : List (BitVec 10)) : State :=
  let s : State := { s with heat := { s.heat with overrun := lost } }
  match lost with
  | [] => s
  | p :: _ =>
    { s with heat := { s.heat with ovr := satInc s.heat.ovr } }.stickNote 0 0 0x600D
      (le 2 p.toNat ++ le 8 s.heat.heat.toNat ++ le 3 s.heat.meas.toNat)

/-- The frames that the discarded work of producer `p` would have sent (NREPL of OVR_MARK). -/
def State.framesLost (s : State) (p : Nat) : Nat :=
  (s.clusters.filter fun c => s.cluProd c == p && (s.prb.due.getLsbD c || s.prb.heldDue.getLsbD c)).length +
    (if s.encProd = some p ∧ s.sns.sampleSent = false ∧ s.sns.sample ≠ [] then 1 + (bit s.warden 1).toNat else 0)

/-- Exfin-D's heat overrun markers (R41, R437): for the records of the heat before the one that ends. -/
def State.overMarks (s : State) (u : DWord) (lost : List (BitVec 10)) : State :=
  if s.isT || u == 0 then s
  else lost.foldl (fun s p => s.send 0 1 0x42 (le 8 (u - 1).toNat ++ le 2 p.toNat ++ le 2 (s.framesLost p.toNat) ++ le 4 0)) s

/-- DETREC of the heat before the one that ends (R437), with the verdict that this boundary publishes; dropped at a full queue,
it makes an overload heat of UMP_PROD (R345). -/
def State.sendDetrec (s : State) (u : DWord) : State :=
  let v := s.verd own
  let s := if s.sendFull 0 1 then s.overload (s.umpProd.getD 0) else s
  s.send 0 1 0x43 (le 8 (u - 1).toNat ++ le 1 v.v.toNat ++ le 1 v.cause.toNat ++ le 6 0 ++ le 32 s.alarmBits)

/-- One mark of the heat header (Table 9-1). -/
def markBytes (m : DWord × Word × Bool) : List Byte := le 8 m.1.toNat ++ le 4 m.2.1.toNat ++ le 1 (bit m.2.2 1).toNat ++ le 3 0

/-- HEAT_HDR of the heat that ends (R437, Table 13-6); its marks are taken from the ledger's side (R274). -/
def State.sendHdr (s : State) (u : DWord) : State :=
  let n := ((List.range 64).filter fun c => s.prb.due.getLsbD c || s.prb.heldDue.getLsbD c).length +
    (if s.user then 1 + (bit s.warden 1).toNat else 0)
  let flags := (bit (s.tb.valid && !s.tb.subHeat) 1).toNat + 2 * (bit s.recPoison 1).toNat + 4 * (bit (!s.user) 1).toNat
  let b := le 8 u.toNat ++ le 6 s.fsid.toNat ++ le 1 flags ++ le 1 s.led.markOvf.toNat ++ le 2 n ++ le 1 s.led.marks.length ++
    le 5 0 ++ s.led.marks.flatMap markBytes
  { s with led := { s.led with marks := [], markOvf := 0 } }.send 0 1 0x40 b

/-- A ready image comes into force at this boundary (R76, R78). -/
def State.actDue (s : State) : Bool :=
  s.ld.st == 5 && (s.ld.goNow || s.ld.latAct != 1 || decide (s.ld.latStroke.toNat ≤ s.tb.stroke.toNat))

/-- The HEAT buoy of the boundary that begins heat `next`, ahead of the boundary's other packets (R163, R165); a boundary at
which an image comes into force begins no heat of the old numbering (R78). -/
def State.heatBuoy (s : State) (next : DWord) : State := if s.actDue then s else s.buoy 0 0 next

/-- The trace blocks whose encoding the boundary finds unfinished are discarded with ENC_PROD's work (R207); else the
encoder has taken them. -/
def State.boundaryBlocks (s : State) (lost : List (BitVec 10)) : State :=
  if lost.any fun p => s.encProd == some p.toNat then { s with trc := { s.trc with encPend := [] } } else s.encodeBlocks

/-- What was collected outside any heat is no heat's (R34, R78): probe changes, fast events sent, step marks, and a forwarded
record, in whose place that of the last heat stays (R571). -/
def State.noHeat (s : State) : State :=
  { s with
    prb := { s.prb with changed := [], fastSent := [], sampled := 0 }
    led := { s.led with marks := [], markOvf := 0 }
    sns := { s.sns with sharedNow := s.sns.sharedUse } }.umpireAnew

/-- The work of the heat that ends (R20, R41): what is unfinished is discarded, samples freeze, results are published. -/
def State.heatEnds (s : State) (next : DWord) (unfinished : List (BitVec 10)) : State :=
  let u := s.heat.heat
  let lost := s.lostWork unfinished
  let s := ((s.overran lost).overMarks u lost).boundaryBlocks lost
  let s := if s.isD then boundaryCounters u next s else (boundaryTree lost (boundaryReduce lost s))
  let rep := s.isD && s.user && s.ump.detDone && s.ump.work.isSome && u != s.heat.first
  let s := boundaryUmpire u next lost s
  let s := if rep then s.sendDetrec u else s
  if s.isD then s.sendHdr u else s

/-- The boundary work that every new heat begins with. -/
def State.heatBegins (s : State) (next : DWord) : State :=
  let s : State := { s with
    heat := { s.heat with heat := next, count := s.heat.count + 1, taken := true }
    sns := { s.sns with sharedUse := s.sns.sharedNow, sharedNow := none } }
  boundaryRecorder (boundaryBist (boundarySense (boundaryPower (boundaryNorth (boundaryTt (boundaryTime (boundaryTally
    (boundaryEm s))))))))

/-- A heat boundary: the first after BIST begins the count of heats, the first after an activation's gap ends the gap, every
other ends a heat. -/
def State.boundary (s : State) (next : DWord) (meas : BitVec 23) (unfinished : List (BitVec 10)) : State :=
  let t := s.heatBuoy next
  if s.heat.begun && !s.heat.inGap then
    (({ t with heat := { t.heat with meas := meas } } : State).heatEnds next unfinished).heatBegins next
  else
    (({ t with heat := { t.heat with begun := true, inGap := false, first := next } } : State).noHeat).heatBegins next

/-- The heat that has begun is a substitute heat, or is none (R136). -/
def State.substituted (s : State) (b : Bool) : State := { s with tb := { s.tb with subHeat := b } }

/-- HEAT_BOUNDARY (R34, R36, R37, R41): at a stroke of R34, once; `meas` whole slots have passed, and the work of the
producers named is unfinished. -/
def execHeatBoundary (meas : BitVec 23) (unfinished : List (BitVec 10)) (s : State) : Host.Outcome State Fault Refusal :=
  .next (
    if s.running && s.onBoundary s.tb.stroke.toNat && !s.heat.taken && !s.tb.substitute then
      s.oneCycle fun s => (s.boundary (s.heatOf s.tb.stroke.toNat) meas unfinished).substituted false
    else s)

/-- SUBSTITUTE_HEAT_BOUNDARY (R136): N slots after the last boundary, numbered on from the last heat. -/
def execSubstituteHeatBoundary (unfinished : List (BitVec 10)) (s : State) : Host.Outcome State Fault Refusal :=
  .next (
    if s.running && s.tb.substitute then
      s.oneCycle fun s => (s.boundary (s.heat.heat + 1) (BitVec.ofNat 23 s.nSlots) unfinished).substituted true
    else s)

/-- What the uplink part of LINK_PARAMS says (R79). -/
def State.ulBlock (s : State) : List Nat := [s.ulRate, s.crdFloor, s.crdGrace, s.replayTmo, s.trainTmo, s.vcPat]

/-- The number of the first new heat: at the first stroke at or after `a` that is a boundary (R78). -/
def State.firstHeat (s : State) (a : Nat) : DWord :=
  BitVec.ofNat 64 ((a - s.phaseS + max 1 s.period - 1) / max 1 s.period)

/-- SRC_IN_FORCE of a load: flash is NV, and the host's and the tray's are their own. -/
def State.takeImage (s : State) : State :=
  let l := s.ld
  let d : DWord := BitVec.ofNat 64 (l.shadow.num 0x18 8)
  let s := s.setLd { l with
    cur := some l.shadow, st := 0, srcLoad := 0, srcForce := l.srcLoad, fdReason := 0, digest := d, digestC := ~~~ d
    goNow := false, late := false, startup := false }
  let i := s.integ
  ({ s with
    integ := { i with staged := none }
    rw := s.rw.filter fun (p : Nat × Option Word) => decide (p.1 < 0x2060 / 4 ∨ 0x2070 / 4 ≤ p.1)
    heat := { s.heat with div := [], divNext := [], rdiv := [], rdivSet := 0, rdivNext := [], rdivPend := 0 }
    cmp := { s.cmp with enc := [] }
    red := { s.red with samples := [] } } : State).cplRestore 6 0

/-- What the tray forgets and starts anew at its own activation (R79, R80, R81, R276, R281, R327, R529). -/
def State.trayActivates (s : State) : State :=
  let im := s.ld.cur.getD default
  let cache := if s.pwr.memFail then [] else
    (List.range im.dieCount).foldl (fun (t : Tab Image) e => Tab.set default t e (im.dieImage e)) []
  let s : State := { s with
    inr := { s.inr with recs := [], done := [], detrec := [] }
    te := { s.te with st := if s.treeDigest = 0 then 0 else 2, hostLoad := false, copyDone := false, readyDue := false, recheck := false
                      began := false, store := [], windows := 0, waited := false, run := none, now := none }
    tray := { s.tray with cache := cache, deliveries := [], offers := [] } }
  let s := s.setRed { s.red with prevFin := s.red.prevFin.filter fun (p : Nat × List (Word × DWord)) => s.inService p.1 }
  (List.range 64).foldl (fun s k => if (s.link k).tr.state = 4 then s.deliverIfDue k else s) s.noteLeft.servoImage

/-- IMAGE_ACTIVATION (R76, R78, R79, Table 2-9): at an old heat boundary that has just been taken, the ready image comes into
force. -/
def State.activate (s : State) : State :=
  let a := s.tb.stroke
  let l := s.ld
  let role := l.latRole.toNat
  let path := l.latPath.toNat
  let oldUl := s.ulBlock
  let oldKey := s.instKeyd
  let oldPorts := s.portEn
  let wasOn := s.capActive
  let s := s.takeImage
  let h := s.firstHeat a.toNat
  let gap := !s.onBoundary a.toNat
  let s : State := { s with heat := { s.heat with first := h, inGap := gap, heat := if gap then BitVec.allOnes 64 else h } }
  let s := (activateSense (activateLedger (activateUmpire (activateTrace wasOn (activateProbes s))))).buoy 3 gapSlot h
  let s := if gap then s else s.buoy 0 0 h
  let s := activateNorth oldPorts s
  let s := if s.isT then s.trayActivates else
    s.send 0 0 0x13 (le 8 s.digestShown.toNat ++ le 4 blkVersion ++ le 1 s.ld.srcForce.toNat ++ le 3 0 ++ le 8 h.toNat ++
      le 4 s.period ++ le 4 s.phaseS ++ le 8 a.toNat)
  let s := s.event 0x2001 (le 8 s.ld.digest.toNat ++ le 1 s.ld.srcForce.toNat ++ le 8 h.toNat) role path
  let s := if l.late then s.event 0x2008 (le 8 l.latStroke.toNat ++ le 8 a.toNat) role path else s
  let s := s.keyChange oldKey
  let s := if s.ulBlock = oldUl then s
    else (List.range (if s.isT then 64 else 1)).foldl (fun s k => s.linkDown k 7) s
  let s := if l.startup ∧ s.busFlags.testBit 2 then s.setPwr { s.pwr with huDue := true } else s
  if l.startup then s.imageEnds else s

/-- IMAGE_ACTIVATION (R76, R78, R79). -/
def execImageActivation (s : State) : Host.Outcome State Fault Refusal :=
  .next (if s.running && s.heat.taken && !s.heat.inGap && s.actDue then s.oneCycle State.activate else s)

end Sys2Proof.Machine
end

