-- ==== Sys2Proof/Machine/Integrity.lean ====
section
/-! DEFINITION. Complement faults and their injection (R507 to R510), sticky clears (R511), WC2 staging (R16), clock
crossings (R49 to R52, R513, R514) and region dormancy (R53 to R56, R536). -/

namespace Sys2Proof.Machine

/-- Change the integrity unit. -/
def State.setInt (s : State) (i : Integ) : State := { s with integ := i }

/-- The instance has item `item` of Table 16-1 with index `i`. -/
def State.cplHas (s : State) (item i : Nat) : Bool :=
  match item with
  | 1 => s.statePaths.contains i
  | 2 => decide (i < 256)
  | 3 => decide (i < 256)
  | 4 => i == 0 || (s.isT && i == 1)
  | 5 => s.isT && i == 0
  | 6 => i == 0
  | 7 => s.hasLink i
  | _ => false

/-- The stored pair of a WC2 word stops matching: bit 0 of its complement is inverted. -/
def State.breakPair (s : State) (off v : Nat) : State :=
  let w : Word := BitVec.ofNat 32 v
  { s with wc2 := Tab.set none s.wc2 (off / 4) (some (w, ~~~ w ^^^ 1)) }

/-- What the mismatch of an item does at once (Table 16-1). -/
def State.cplEffect (s : State) (item i : Nat) : State :=
  match item with
  | 1 => s.setPath i { s.path i with roleC := (s.path i).roleC ^^^ 1 }
  | 2 =>
    let t := s.breakPair (0x61000 + 16 * i) (s.wc2v (0x61000 + 16 * i) (s.detf i 8 4))
    (List.range 65).foldl (fun s k => s.setDet i k { s.det i k with alarm := false }) t
  | 3 =>
    let off := 0x60000 + 32 * (i / 4) + 8 * (i % 4)
    s.breakPair off (s.polStored (i / 4) (i % 4))
  | 4 =>
    let off := if i = 0 then 0x62808 else 0x62810
    s.breakPair off (s.wc2v off (s.pol (if i = 0 then 0x20 else 0x24) 4))
  | 5 => s.setTb { s.tb with adjC := s.tb.adjC ^^^ 1, rateDue := some 0, taiValid := false }
  | 6 => s.setLd { s.ld with digestC := s.ld.digestC ^^^ 1 }
  | 7 =>
    let l := s.link i
    (s.setLink i { l with tr := { l.tr with haveSession := false } }).linkDown i 9
  | _ => s

/-- A complement fault is declared (R508); an item already in fault stays as it is. -/
def State.cplFault (s : State) (item i : Nat) : State :=
  if !s.cplHas item i || s.cpl item i then s
  else
    let n := s.integ
    let s := s.setInt { n with
      cplStat := Tab.set false n.cplStat (256 * item + i) true
      cplLast := BitVec.ofNat 32 (256 * i + item) }
    ((s.stick 3 1).note 0x6002 (le 1 item ++ le 1 i)).cplEffect item i

/-- COMPLEMENT_FAULT (R508). -/
def execComplementFault (item : BitVec 4) (index : Byte) (s : State) : Host.Outcome State Fault Refusal :=
  .next (if s.running then s.cplFault item.toNat index.toNat else s)

/-- CPL_INJECT's effect (R510): ARG0 holds the item code and, in bits 15:8, the index. -/
def cmdCplInject (p : Post) (s : State) : Option State :=
  let item := p.a0.toNat % 16
  let i := bits p.a0.toNat 15 8
  if s.tly.svc.toNat = 2 ∧ s.cplHas item i = true then
    some ((s.event 0x600C (le 1 item ++ le 1 i) p.role.toNat p.path.toNat).cplFault item i)
  else none

/-- ERR_STICKY_CLEAR (R511, R512): bits written 1 clear, ERR_CLEARED is written, and the records of those bits are due anew. -/
def execErrStickyClear (a : Acc) (n : BitVec 2) (s : State) : Host.Outcome State Fault Refusal :=
  let r := n.toNat
  .next (s.written a (0xA0000 + 4 * r) 1 fun s =>
    let c := s.stickyWord r &&& a.data
    if c = 0 then s
    else
      let i := s.integ.putSticky r (s.stickyWord r &&& ~~~ a.data)
      let i := { i with noted := i.noted.filter fun e => !(e.1.toNat / 32 == r && c.getLsbD (e.1.toNat % 32)) }
      (s.setInt i).event 0x600B (le 1 r ++ le 4 c.toNat) (s.roleOf a) a.path.toNat)

/-- The low words of the WC2 pairs of the instance (Table 16-2). -/
def State.wc2Low (s : State) (off : Nat) : Bool :=
  (decide (0x60000 ≤ off ∧ off < 0x60800) && off % 8 == 0) || (decide (0x61000 ≤ off ∧ off < 0x62000) && off % 8 == 0) ||
    off == 0x62808 || (s.isT && (off == 0x62810 || off == 0x2020))

/-- WC2_STAGE (R16): the staging word is replaced. -/
def execWc2Stage (a : Acc) (off : BitVec 20) (s : State) : Host.Outcome State Fault Refusal :=
  .next (
    if s.wc2Low off.toNat then
      s.written a off.toNat 2 fun s => s.setInt { s.integ with staged := some (off, a.data) }
    else s)

/-- The core clock's index in Table 1-6 and Table 1-7. -/
def State.coreDom (s : State) : Nat := if s.isT then 16 else 32

/-- The regions whose clocks announce their stops: 32 on Exfin-D, 8 on Exfin-T. -/
def State.nRegion (s : State) : Nat := if s.isT then 8 else 32

/-- The region of a domain. -/
def State.domRegion (s : State) (d : Nat) : Option Nat :=
  if s.isD then (if d < 32 then some d else none) else if 32 ≤ d ∧ d < 40 then some (d - 32) else none

/-- STROKE_CLK's index. -/
def State.strokeDom (s : State) : Nat := if s.isT then 31 else 39

/-- The links of a SerDes clock domain. -/
def State.domLinks (s : State) (d : Nat) : List Nat :=
  if s.isD then (if d = 33 ∨ d = 34 then [0] else [])
  else if d < 16 then (List.range 8).map fun i => 8 * (d % 8) + i else []

/-- No flash transaction is in progress (Table 16-4). -/
def State.flashIdle (s : State) : Bool := s.evr.op.isNone && s.ld.st != 4

/-- Domain `d` is dormant (Table 16-4), apart from the region domains. -/
def State.domDormant (s : State) (d : Nat) : Bool :=
  if s.isD then
    if d = 37 then s.integ.xingDorm.getLsbD d else if d = 38 then !s.test.busy else false
  else
    match d with
    | 17 => !(s.portOn 0 && s.nb.port0.up)
    | 18 => !(s.portOn 1 && s.nb.port1.up)
    | 19 => !(s.portOn 0 && s.nb.port0.up)
    | 20 => !(s.portOn 1 && s.nb.port1.up)
    | 21 => !s.portOn 2
    | 22 => !s.portOn 2
    | 23 => s.pwr.selfRefresh
    | 24 => s.pwr.selfRefresh
    | 25 => s.pwr.selfRefresh
    | 26 => s.flashIdle
    | 27 => s.flashIdle
    | 29 => s.integ.xingDorm.getLsbD d
    | 30 => !s.test.busy
    | _ => false

/-- A value may cross between domain `d` and the core clock. -/
def State.crosses (s : State) (d : Nat) : Bool :=
  s.running && decide (d < 40) && d != s.coreDom && !s.integ.xingStop.getLsbD d

/-- CROSSING_TRANSFER (R49, R50, R52): a value is taken across, unless the crossing is disabled; its two last values, by
domain and direction, are kept. -/
def execCrossingTransfer (d : BitVec 6) (toCore : Bool) (value : DWord) (s : State) : Host.Outcome State Fault Refusal :=
  .next (
    if s.crosses d.toNat then
      s.setInt { s.integ with xingLast := Tab.set 0 s.integ.xingLast (2 * d.toNat + (bit toCore 1).toNat) value }
    else s)

/-- The crossing of domain `d` is disabled: XING_STOP and its record (R513). -/
def State.xingStopped (s : State) (d : Nat) : State :=
  (s.setInt { s.integ with xingStop := setBit s.integ.xingStop d true }).note 0x6004 (le 1 d ++ le 1 s.coreDom)

/-- R52 and R185 for region `r`: the GAP packet; transfers pending towards it are withdrawn, and its samples are poisoned. -/
def State.regionStopped (s : State) (r : Nat) : State :=
  let s := (s.gap r 2).tapsWithdrawn r
  let cs := (List.range 64).filter fun c => s.isD && s.cluRegion c == r
  let ns (p : Nat) : Bool := cs.contains (p / 64)
  let b := s.prb
  s.setPrb { b with
    delta := b.delta.filter fun (p : Nat × DWord) => !ns p.1
    deltaRises := b.deltaRises.filter fun (p : Nat × BitVec 32) => !ns p.1
    cluPois := cs.foldl (fun m c => setBit m c true) b.cluPois }

/-- The flash transaction in progress fails its step (Table 16-4); which step of R89 an NV write had reached is a free value
(notes/assumptions/3). -/
def State.flashFailed (s : State) : State :=
  let s := match s.evr.op with
    | some o => s.opFailed o
    | none => s
  if s.ld.st = 4 then s.freed.nvEnds (1 + (s.free 8).toNat % 6) else s

/-- The rack bus stops: its queued frames drop (Table 16-4, R45). -/
def State.t1sStopped (s : State) : State := s.setT1s s.nb.t1s.restart

/-- What an unannounced stop of a domain other than a region's and STROKE_CLK does (Table 16-4). -/
def State.domEffect (s : State) (d : Nat) : State :=
  if s.isD then
    if d = 35 then s.scanStopped else if d = 38 then { s with test := { s.test with busy := false } } else s
  else
    let portDown (p : Nat) : State :=
      (s.setPort p { s.port p with up := false }).note 0x5701 (le 1 p ++ le 1 0)
    match d with
    | 17 => portDown 0
    | 18 => portDown 1
    | 19 => portDown 0
    | 20 => portDown 1
    | 21 => s.t1sStopped
    | 22 => s.t1sStopped
    | 26 => s.flashFailed
    | 27 => s.flashFailed
    | 30 => { s with test := { s.test with busy := false } }
    | _ => s

/-- STROKE_CLK is declared stopped (R136). -/
def State.strokeStopped (s : State) : State :=
  ((s.setTb { s.tb with refStopped := true, valid := false, substitute := true }).note 0x4003 (le 8 s.tb.stroke.toNat)).xingStopped
    s.strokeDom

/-- CROSSING_TIMEOUT (R51, R52, R55, R136, R513, R514): the partner is declared stopped. A region that is dormant with
LP_ACK given is no error; before LP_ACK it is (R55). -/
def execCrossingTimeout (d : BitVec 6) (s : State) : Host.Outcome State Fault Refusal :=
  let n := d.toNat
  .next (
    if !s.crosses n then s
    else
      match s.domRegion n with
      | some r =>
        if s.heat.dormant.getLsbD r && !s.heat.lpOwed.getLsbD r then s
        else s.oneCycle fun s => ((s.stick 0 6).regionStopped r).xingStopped n
      | none =>
        if !(s.domLinks n).isEmpty then (s.domLinks n).foldl (fun s k => s.linkDown k 2) s
        else if n = s.strokeDom then s.strokeStopped
        else if s.domDormant n then s
        else s.oneCycle fun s => ((s.stick 0 6).xingStopped n).domEffect n)

/-- A set or step of the comparison and step store is lost to an uncorrectable error (Table 16-5): dropped and counted. Which one
a word address holds the spec leaves open: a free value (notes/assumptions/105). -/
def State.storeLoss (s : State) : State :=
  let ns := s.fpc.sets.length
  let no := s.red.opened.length
  let n := ns + no + s.red.queue.length
  let s' := s.freed
  if n = 0 then s
  else
    let i := (s.free 16).toNat % n
    if i < ns then s'.setFpc { (s'.fpc.count 9 1) with sets := s'.fpc.sets.eraseIdx i }
    else
      let r := s'.red
      let step := ((r.opened ++ r.queue).getD (i - ns) default).step
      let r := if i - ns < no then { r with opened := r.opened.eraseIdx (i - ns), closedSteps := r.closedSteps ++ [step] }
               else { r with queue := r.queue.eraseIdx (i - ns - no) }
      (s'.setRed r).reduceLoss 2 0x5202 (le 4 step.toNat)

/-- The memories whose errors no other command brings, by grade, and whether they correct errors (Table 16-5). -/
def State.memOwn (s : State) (m : Nat) (ue : Bool) : Bool :=
  match m with
  | 1 => s.isD && ue
  | 3 => true
  | 5 => s.isD
  | 6 => true
  | 9 => s.isT
  | _ => false

/-- An error of such a memory at a word, with the effect of an uncorrectable one (R515, Table 16-5); one of a snapshot word is
found by the reads of that word (R113). -/
def State.memFault (s : State) (m : Nat) (ue : Bool) (addr : Nat) : State :=
  if s.isD && ue && m == 2 then s.setPrb { s.prb with snapBad := Tab.set false s.prb.snapBad (addr % 4096) true }
  else if !s.memOwn m ue then s
  else
    let t := s.memErr m ue addr
    if !ue then t
    else
      match m with
      | 1 => t.setPrb { t.prb with cntPois := Tab.set false t.prb.cntPois (addr % 4096) true }
      | 3 => t.setTrc { t.trc with bad := t.trc.bad ++ [addr / 128] }
      | 9 => t.storeLoss
      | _ => t

/-- The clusters of region `r` of which no heat has ended since the last freeze. -/
def State.freshClusters (s : State) (r : Nat) : List Nat :=
  (List.range 64).filter fun c => s.isD && s.cluRegion c == r && Tab.get (0 : DWord) s.prb.covered c == 0

/-- CROSSING_REARM (R52, R136, R185, R513): at a boundary the crossing works again. -/
def execCrossingRearm (d : BitVec 6) (s : State) : Host.Outcome State Fault Refusal :=
  let n := d.toNat
  .next (
    if s.running && s.heat.taken && decide (n < 40) && s.integ.xingStop.getLsbD n then
      let s := s.setInt { s.integ with xingStop := setBit s.integ.xingStop n false }
      let s := match s.domRegion n with
        | some r =>
          let s := s.gap r 3
          s.setPrb { s.prb with cluPois := (s.freshClusters r).foldl (fun m c => setBit m c false) s.prb.cluPois }
        | none => if n = s.strokeDom then s.setTb { s.tb with refStopped := false } else s
      s.note 0x6005 (le 1 n)
    else s)

/-- Change the heat unit. -/
def State.setHeat (s : State) (h : Heat) : State := { s with heat := h }

/-- LP_REQ_RISE (R53, R184, R536): the region becomes dormant at once, also where its crossing is disabled; until BIST ends,
LP_ACK follows LP_REQ. -/
def execLpReqRise (r : BitVec 5) (s : State) : Host.Outcome State Fault Refusal :=
  let n := r.toNat
  let h := s.heat
  .next (
    if s.nRegion ≤ n then s
    else if !s.running then
      s.setHeat { h with lpReq := setBit h.lpReq n true, lpAck := setBit h.lpAck n true }
    else
      let was := h.dormant.getLsbD n
      let t := s.setHeat { h with
        lpReq := setBit h.lpReq n true, dormant := setBit h.dormant n true, lpOwed := setBit h.lpOwed n true }
      let t := t.setInt { t.integ with xingDorm := setBit t.integ.xingDorm (t.regionDom n) true }
      let cs := (List.range 64).filter fun c => s.isD && s.cluRegion c == n
      let t := t.setPrb { t.prb with cluDorm := cs.foldl (fun m c => setBit m c true) t.prb.cluDorm }
      if was then t else t.gap n 0)

/-- LP_ACK_RISE (R53, R55, R184, R536): every transfer pending with the region completes, and LP_ACK rises; it comes also when
LP_REQ has fallen. -/
def execLpAckRise (r : BitVec 5) (s : State) : Host.Outcome State Fault Refusal :=
  let n := r.toNat
  let h := s.heat
  .next (
    if s.running && h.lpOwed.getLsbD n then
      (s.regionComplete n).setHeat { h with lpAck := setBit h.lpAck n true, lpOwed := setBit h.lpOwed n false }
    else s)

/-- LP_REQ_FALL (R56): the carrier lowers LP_REQ. -/
def execLpReqFall (r : BitVec 5) (s : State) : Host.Outcome State Fault Refusal :=
  let n := r.toNat
  let h := s.heat
  .next (
    if s.nRegion ≤ n then s
    else if !s.running then s.setHeat { h with lpReq := setBit h.lpReq n false, lpAck := setBit h.lpAck n false }
    else s.setHeat { h with lpReq := setBit h.lpReq n false })

/-- LP_ACK_FALL (R56): the presence bit changed twice with LP_REQ low. -/
def execLpAckFall (r : BitVec 5) (s : State) : Host.Outcome State Fault Refusal :=
  let n := r.toNat
  let h := s.heat
  .next (
    if s.running && h.lpAck.getLsbD n && !h.lpReq.getLsbD n then s.setHeat { h with lpAck := setBit h.lpAck n false } else s)

/-- DORMANCY_EXIT (R56, R184): at a boundary the region leaves dormancy. -/
def execDormancyExit (r : BitVec 5) (s : State) : Host.Outcome State Fault Refusal :=
  let n := r.toNat
  let h := s.heat
  .next (
    if s.running && h.taken && h.dormant.getLsbD n && !h.lpReq.getLsbD n && !h.lpAck.getLsbD n && !h.lpOwed.getLsbD n then
      let t := s.setHeat { h with dormant := setBit h.dormant n false }
      let t := t.setInt { t.integ with xingDorm := setBit t.integ.xingDorm (t.regionDom n) false }
      let t := t.gap n 1
      t.setPrb { t.prb with cluDorm := (t.freshClusters n).foldl (fun m c => setBit m c false) t.prb.cluDorm }
    else s)

end Sys2Proof.Machine
end

