-- ==== Sys2Proof/Machine/Registers.lean ====
section
/-! DEFINITION. The register window (R13 to R17, R551 to R553): every register of the spec with its offset, grade, plain
RW bits, the role a write needs, and what a read returns. An offset that no register of the grade covers reads 0 and
ignores writes (R9, R128, R215, R272, R376, R442). -/

namespace Sys2Proof.Machine

/-- A register or register array: offset, distance between entries, entries, bytes of an entry, grades (bit 0 Exfin-D,
bit 1 Exfin-T), its value by the access that reads it and the entry's index, its plain RW bits, and the role that a write
of them needs. -/
structure Reg where
  base : Nat
  stride : Nat
  n : Nat
  bytes : Nat
  grade : Nat
  rd : State → Acc → Nat → Nat
  rw : Nat
  role : Nat

/-- A read-only register, or one whose writes are commands of their own. -/
def ro (base bytes grade : Nat) (f : State → Nat) : Reg := ⟨base, bytes, 1, bytes, grade, fun s _ _ => f s, 0, 1⟩

/-- An array of such registers. -/
def roArr (base stride n bytes grade : Nat) (f : State → Nat → Nat) : Reg :=
  ⟨base, stride, n, bytes, grade, fun s _ i => f s i, 0, 1⟩

/-- What software wrote into the words of a plain register at `off`, `d` being its value before. -/
def State.rwWords (s : State) (off bytes d : Nat) : Nat :=
  (List.range (bytes / 4)).foldl (fun v w => v + fieldAt (s.rwd (off + 4 * w) (bits d (32 * w + 31) (32 * w))) (32 * w) 32) 0

/-- An array of plain RW registers with the RW bits `mask`, the value `d` before a write, and the role of a write. -/
def rwArr (base stride n bytes grade mask d role : Nat) : Reg :=
  ⟨base, stride, n, bytes, grade, fun s _ i => s.rwWords (base + stride * i) bytes d &&& mask, mask, role⟩

/-- One plain RW register. -/
def rw1 (base bytes grade mask d role : Nat) : Reg := rwArr base bytes 1 bytes grade mask d role

/-- A Boolean at bit `i`. -/
def flag (b : Bool) (i : Nat) : Nat := if b then 2 ^ i else 0

/-- A mask from a condition on its bits. -/
def maskOf (n : Nat) (p : Nat → Bool) : Nat := (List.range n).foldl (fun m i => m + flag (p i) i) 0

/-- Identity and heat registers (chapters 0 and 1). -/
def regsIdentity : List Reg :=
  [ ro 0x00000 4 3 fun _ => 0x4E465845,
    ro 0x00004 4 3 fun _ => blkVersion,
    ro 0x00008 4 3 fun s => fieldAt s.treeLanes 16 6 + fieldAt s.checkChannels 8 4 + flag (3 ≤ s.sys.phase) 2 + s.gradeCode,
    ro 0x00F00 4 3 fun s => s.fsid.toNat % 2 ^ 32,
    ro 0x00F04 4 3 fun s => flag s.trayValid 31 + bits s.fsid.toNat 41 32,
    ro 0x02100 4 3 fun s => s.period,
    ro 0x02104 4 3 fun s => s.phaseS,
    ro 0x02108 4 3 fun s => s.nSlots,
    ro 0x0210C 4 3 fun s => s.heat.meas.toNat,
    ro 0x02110 4 3 fun s => s.heat.ovr.toNat ]

/-- The last report of die `k`. -/
def State.report (s : State) (k : Nat) : DieReport := Tab.get default s.tray.reports k

/-- Image registers (chapter 2). -/
def regsImage : List Reg :=
  [ rw1 0x01000 4 1 0x0DFFFFFF 0 1,
    rw1 0x01000 4 2 0x1DFFFFFF 0 1,
    ro 0x01004 4 3 fun _ => 0,
    rw1 0x01008 4 3 0xFFFFFFFF 0 1,
    rw1 0x0100C 4 3 0xFFFFFFFF 0 1,
    ro 0x01010 4 3 fun s => flag s.ld.nvFail 12 + fieldAt s.ld.fdReason.toNat 8 4 + fieldAt s.ld.srcLoad.toNat 6 2 +
      fieldAt s.ld.srcForce.toNat 4 2 + s.ld.st.toNat,
    ro 0x01014 4 3 fun s => s.ld.shadow.len % 2 ^ 25,
    ro 0x01018 4 3 fun s => s.ld.refuse.toNat,
    ro 0x0101C 4 3 fun s => s.ld.refuseOff.toNat,
    ro 0x01020 16 3 fun s => s.ld.digest.toNat + fieldAt s.ld.digestC.toNat 64 64,
    ro 0x01030 8 3 fun s => if 3 ≤ s.ld.st.toNat then s.ld.shadow.num 0x18 8 else 0,
    ro 0x01038 4 2 fun s => s.tray.nvCount.toNat,
    ro 0x01040 8 2 fun s => ((List.range 64).map fun k => fieldAt (flag (s.mismatched k) 0) k 1).sum,
    ro 0x01048 4 2 fun s => s.img 0xD 0 4 0,
    roArr 0x01100 16 64 8 2 fun s k => (s.expDigest k).toNat,
    roArr 0x01108 16 64 4 2 fun s k => s.expFlags k &&& 0xF3,
    roArr 0x01500 16 64 8 2 fun s k => (s.report k).digest.toNat,
    roArr 0x01508 16 64 4 2 fun s k => (s.report k).version.toNat,
    roArr 0x0150C 16 64 4 2 fun s k => flag (s.mismatched k) 3 + flag (s.report k).valid 2 + (s.report k).src.toNat ]

/-- The high word of counter `n` in the snapshot bank: the latch where it holds `n` (R114). -/
def State.snapHigh (s : State) (n : Nat) : Nat :=
  if s.creg.latchN = some (BitVec.ofNat 12 n) then s.creg.latch.toNat else (Tab.get (0 : DWord) s.prb.snap n).toNat / 2 ^ 32

/-- Counter and probe registers (chapter 3). -/
def regsCounters : List Reg :=
  [ ro 0x10000 4 1 fun s => s.cntSnapWord.toNat,
    ro 0x10008 8 1 fun s => s.creg.snapHeat.toNat,
    ro 0x10010 8 1 fun s => s.creg.snapMask.toNat,
    rw1 0x10020 4 1 0xFFF 0 1,
    ro 0x10028 8 1 fun s => (s.liveShown s.liveSel).toNat % 2 ^ 32 + fieldAt s.creg.liveHi.toNat 32 32,
    ro 0x10040 4 1 fun s => s.heat.dormant.toNat,
    ro 0x10044 4 1 fun s => s.integ.xingStop.toNat % 2 ^ 32,
    roArr 0x10100 4 32 4 1 fun s r => flag (s.heat.rdivPend.getLsbD r) 15 +
      fieldAt (Tab.get (0 : BitVec 3) s.heat.rdivNext r).toNat 8 3 + s.rdivLog r,
    roArr 0x11000 4 1024 4 1 fun s i => unle (Tab.slice (0 : Byte) s.prb.stat (4 * i) 4),
    roArr 0x18000 8 4096 8 1 fun s n => (Tab.get (0 : DWord) s.prb.snap n).toNat % 2 ^ 32 + fieldAt (s.snapHigh n) 32 32,
    roArr 0x20000 4 4096 4 1 fun s n => s.unitProbe n &&& 0x3FFFBFFF,
    roArr 0x24000 4 64 4 1 fun s c => s.cluEntry c &&& 0x3FF9F,
    roArr 0x28000 8 4096 8 1 fun s n => s.cntProg n &&& 0xFFFFFFFFFF3F ]

/-- Sense channels of the grade: 20 and 12 on Exfin-D, 4 and 4 on Exfin-T (Table 3-6). -/
def State.nTemp (s : State) : Nat := if s.isT then 4 else 20
def State.nRail (s : State) : Nat := if s.isT then 4 else 12

/-- Sense registers (chapters 3 and 17): conversions as they stand, ring oscillators and droop as last latched (R127). -/
def regsSense : List Reg :=
  [ roArr 0x10800 4 20 4 3 fun s k => if k < s.nTemp then (Tab.get default s.sns.temp k).word.toNat else 0,
    roArr 0x10880 4 12 4 3 fun s k => if k < s.nRail then (Tab.get default s.sns.rail k).word.toNat else 0,
    roArr 0x10900 4 32 4 1 fun s r => (s.sns.sample.getD (32 + r) 0).toNat,
    roArr 0x10980 4 32 4 1 fun s r => (s.sns.sample.getD (64 + r) 0).toNat,
    ro 0x10A00 4 2 fun s => s.sns.vbus.word.toNat,
    ro 0x10A04 4 2 fun s => s.sns.ibus.word.toNat,
    ro 0x10A08 4 2 fun s => if s.sns.vbus.valid then s.busMv s.sns.vbus.value.toNat else 0,
    ro 0x10A0C 4 2 fun s => if s.sns.ibus.valid then s.busMa s.sns.ibus.value.toNat else 0 ]

/-- The uplink time transfer of link `k`. -/
def State.ttLink (s : State) (k : Nat) : TtLink := Tab.get default s.tt.links k

/-- Timebase registers (chapter 4). TB_STROKE's high word and TB_TAI are the latched values (R157). -/
def regsTimebase : List Reg :=
  [ ro 0x02000 8 3 fun s => s.tb.stroke.toNat % 2 ^ 32 + fieldAt s.tb.latHi.toNat 32 32,
    ro 0x02008 4 3 fun s => s.tbStateWord.toNat,
    ro 0x0200C 4 2 fun s => flag s.tb.manual 0,
    ro 0x02010 12 2 fun s => if s.tb.taiValid then s.tb.latTai.toNat else 0,
    ro 0x02020 8 2 fun s => s.tb.adj.toNat + fieldAt s.tb.adjC.toNat 32 32,
    ro 0x02028 8 2 fun s => s.ptp.measTheta.toNat + fieldAt s.ptp.measMpd.toNat 32 32,
    ro 0x02030 4 2 fun s => if s.tb.taiValid then s.ptp.hoBound.toNat else 0,
    ro 0x02034 4 2 fun s => s.ptp.hoMs.toNat,
    ro 0x02038 8 2 fun s => s.ptp.gm.toNat,
    ro 0x02040 4 2 fun s => flag s.ptp.utcValid 16 + s.ptp.utcOfs.toNat,
    ro 0x02048 8 2 fun s => maskOf 64 fun k => (s.ttLink k).slip,
    ro 0x02050 4 2 fun s => s.tt.selfK.toNat,
    ⟨0x02060, 8, 2, 8, 2, fun s _ p => s.rwWords (0x2060 + 8 * p) 8 (s.tbf (0x60 + 8 * p) 8), 2 ^ 64 - 1, 2⟩,
    roArr 0x02200 16 64 16 2 fun s k =>
      let x := s.ttLink k
      x.theta.toNat + fieldAt x.rtt.toNat 32 32 + fieldAt x.lenMm.toNat 64 24 + flag x.valid 96 + flag x.slip 97 ]

/-- Word `i` of the selected trace block, in halves (R171). -/
def State.rdData (s : State) (i : Nat) : Nat :=
  let w := ((s.blockAt s.trc.rdSel.toNat).words.getD (i / 2) 0).toNat
  if i % 2 = 0 then w % 2 ^ 32 else w / 2 ^ 32

/-- Trace registers (chapter 5). -/
def regsTrace : List Reg :=
  [ ro 0x30000 4 3 fun s => flag (s.isD && (s.tpf 0 4).testBit 3) 3 + fieldAt s.upmode 1 2 +
      flag (s.trc.capEn.getD (s.img 6 0 4 0).bodd) 0,
    ro 0x30004 4 3 fun s => fieldAt s.trc.armIgn.toNat 16 16 + flag s.ttrc.frozen 8 + fieldAt s.ttrc.emState.toNat 4 3 +
      flag s.trc.dumping 3 + s.trc.tstate.toNat,
    ro 0x30008 4 3 State.trcWptr,
    ro 0x3000C 4 3 fun s => if s.isD then s.trc.remain.toNat else s.ttrc.freezeLeft.getD 0 % 2 ^ 24,
    ro 0x30010 4 1 fun s => s.trc.trigAt.toNat,
    ro 0x30018 8 1 fun s => s.trc.trigHeat.toNat,
    ro 0x30020 4 3 fun s => s.trc.loss.toNat,
    ro 0x30024 4 1 fun s => s.trc.ulDrop.toNat,
    ro 0x30030 4 3 fun s => s.trc.rdSel.toNat,
    ro 0x30034 4 3 fun s => s.trc.rdGen.toNat,
    ro 0x30038 4 3 fun s => flag s.rdSame 0,
    ro 0x30040 8 2 fun s => s.ttrc.spillWr.toNat,
    ro 0x30048 4 2 fun s => s.ttrc.spillDrop.toNat,
    ro 0x3004C 4 2 fun s => s.ttrc.dieDrop.toNat,
    roArr 0x31000 4 1024 4 3 State.rdData ]

/-- Compression registers (chapter 6). -/
def regsCompress : List Reg :=
  [ ro 0x38000 4 3 fun s => fieldAt (s.tblOf 3) 20 4 + fieldAt (s.tblOf 4) 16 4 + fieldAt (s.tblOf 2) 12 4 +
      fieldAt (s.tblOf 1) 8 4 + fieldAt s.nStatic 4 4 + s.cmpf 0 1 % 4,
    ro 0x38004 4 3 fun s => fieldAt (s.cmpf 2 1) 8 8 + s.cmpf 1 1 % 256,
    ro 0x38008 4 3 fun s => flag s.cmp.decFail 4 + s.cmp.ratioLow.toNat,
    ro 0x38040 4 3 fun s => s.cmp.oversize.toNat,
    ro 0x38044 4 3 fun s => s.cmp.keyReq.toNat,
    ro 0x38048 4 2 fun s => s.cmp.decFails.toNat,
    ro 0x3804C 4 2 fun s => s.cmp.decLast.toNat,
    ro 0x38050 4 3 fun s => s.cmp.noCode.toNat,
    roArr 0x38100 16 4 8 3 fun s k => (Tab.get (0 : DWord) s.cmp.inBytes (k + 1)).toNat,
    roArr 0x38108 16 4 8 3 fun s k => (Tab.get (0 : DWord) s.cmp.outBytes (k + 1)).toNat ]

/-- Scan registers (chapter 7). SCN_DESC keeps its reserved fields (R14). -/
def regsScan : List Reg :=
  [ rw1 0x40000 4 1 0xFFFFFFFF 0 1,
    rw1 0x40004 4 1 0xFFFFFFFF 0 1,
    rw1 0x40008 8 1 (2 ^ 64 - 1) 0 1,
    rw1 0x40010 8 1 (2 ^ 64 - 1) 0 1,
    rw1 0x40018 4 1 0xFFFFFFFF 0 1,
    ro 0x40020 4 1 fun s => s.scn.postStat.toNat,
    rw1 0x40024 4 1 0xFFFFFFFF 0x100000 2,
    roArr 0x40030 8 2 8 1 fun s l => (Tab.get (0 : DWord) s.scn.gntIdle l).toNat,
    ro 0x40040 4 1 fun s => s.scn.badTag.toNat,
    ro 0x40044 4 1 fun s => s.scn.psnCnt.toNat,
    rwArr 0x40100 16 16 8 1 (2 ^ 64 - 1) 0 1,
    rwArr 0x40108 16 16 8 1 (2 ^ 64 - 1) 0 1,
    roArr 0x40400 64 8 4 1 fun s c => (s.chan c).stat,
    roArr 0x40404 64 8 4 1 fun s c => (s.chan c).q.toNat,
    roArr 0x40408 64 8 4 1 fun s c => (s.chan c).done.toNat,
    roArr 0x4040C 64 8 4 1 fun s c => (s.chan c).last.id.toNat,
    roArr 0x40410 64 8 4 1 fun s c => (s.chan c).latch.sts.toNat,
    roArr 0x40418 64 8 8 1 fun s c => (s.chan c).latch.value.toNat,
    roArr 0x40420 64 8 8 1 fun s c => (s.chan c).latch.bytes.toNat,
    roArr 0x40428 64 8 8 1 fun s c => (s.chan c).latch.stroke.toNat,
    roArr 0x40800 32 32 8 1 fun s k => (s.ctx k).value.toNat,
    roArr 0x40808 32 32 4 1 State.ctxInfo,
    roArr 0x40810 32 32 8 1 fun s k => (s.ctx k).bytes.toNat ]

/-- SHD_ARM_i: ARM as last written. -/
def State.shdArm (s : State) (i : Nat) : Nat :=
  let x := s.led.shard i
  flag (x.state != 0) 63 + fieldAt x.pset.toNat 48 2 + x.bytes.toNat

/-- FP_BIN_SEL as the index of a cell (R266). -/
def State.binSel (s : State) : Nat := s.rwd 0x48B00 0 % 2 ^ 14

/-- Ledger, shard and comparison registers (chapter 8). -/
def regsLedger : List Reg :=
  [ ro 0x48000 4 3 fun s => fieldAt (shown16 s.led.drop) 16 16 + flag s.led.tagBad 1,
    ro 0x48004 4 1 fun s => s.led.count.toNat,
    rw1 0x48010 4 1 0xFFF 0 1,
    roArr 0x48020 4 10 4 1 fun s i =>
      leAt (if i = 0 then Tab.get [] s.led.ring (s.rwd 0x48010 0 % 4096) else s.led.latch) (4 * i) 4,
    rwArr 0x48400 4 128 4 1 0xFFFFFFFF 0 1,
    ro 0x48600 8 1 fun s => ((s.led.hist.getLast?).map fun p => p.2.toNat + fieldAt p.1.toNat 32 32).getD 0,
    ro 0x48610 4 1 fun s => fieldAt s.led.rplDrop.toNat 24 8 + fieldAt s.led.lateAck.toNat 16 8 +
      fieldAt s.led.refused.toNat 8 8 + flag s.led.lastOk 7 + flag (s.led.req || s.led.ackHigh) 4 + s.led.rq.length,
    rw1 0x48800 4 2 0xFFFFFFFF 0x02804040 2,
    rw1 0x48804 4 2 0xFFFFFF 0x4000 2,
    rwArr 0x48900 4 64 4 2 0x3F 0x3F 1,
    roArr 0x48A00 4 10 4 2 fun s i => (Tab.get (0 : Word) s.fpc.counts i).toNat,
    rw1 0x48B00 4 2 0x3FFF 0 1,
    ro 0x48B08 8 2 fun s => (Tab.get (0 : Word) s.fpc.cmp s.binSel).toNat + fieldAt (Tab.get (0 : Word) s.fpc.mis s.binSel).toNat 32 32,
    roArr 0x49000 4 128 4 1 fun s j =>
      (List.range 8).foldl (fun v m => v + fieldAt (s.led.shard (8 * j + m)).state.toNat (4 * m) 4) 0,
    ro 0x49200 8 1 fun s => s.led.shardSum,
    roArr 0x49400 8 64 8 2 fun s k => unle (Tab.get [] s.fpc.shardSum k),
    rwArr 0x4C000 16 1024 8 1 (2 ^ 64 - 1) 0 1,
    roArr 0x4C008 16 1024 8 1 State.shdArm ]

/-- Tally registers (chapter 12). -/
def regsTally : List Reg :=
  [ roArr 0x50000 4 48 4 3 fun s n => (s.tly.c n).toNat,
    roArr 0x50100 4 48 4 3 fun s n => (Tab.get (0 : Word) s.tly.cfg n).toNat,
    rwArr 0x50200 4 48 4 3 0xFFFF00FF 0 1,
    roArr 0x50300 4 48 4 3 fun s n => (Tab.get (0 : Word) s.tly.last n).toNat,
    roArr 0x50400 4 48 4 3 fun s n => if s.tly.mode n = 2 then (Tab.get (0 : Word) s.tly.next n).toNat else 0,
    roArr 0x50600 4 16 4 3 fun s j => (Tab.get (0 : Word) s.tly.bind j).toNat,
    ro 0x50700 4 3 fun s => s.tly.svc.toNat,
    rw1 0x50704 4 3 0xFFFFFFFF 0x27100064 2,
    ro 0x50708 4 3 fun s => fieldAt s.tly.refused.toNat 24 8 + fieldAt s.tly.proto.toNat 16 8 +
      fieldAt s.tly.dseq.toNat 4 12 + flag s.tly.dumpDrop 3 + flag s.pwr.lendLong 2 + flag s.tly.halted 0,
    ro 0x50710 8 3 fun s => s.tly.left.toNat,
    roArr 0x50800 8 16 8 3 fun s w =>
      let l := Tab.get default s.tly.waits w
      fieldAt l.target.toNat 32 32 + flag l.active 31 + flag l.long 30 + fieldAt l.tally.toNat 16 6 + l.heats.toNat,
    roArr 0x50880 8 4 8 3 fun s k =>
      let l := Tab.get default s.tly.lanes k
      fieldAt l.heats.toNat 48 16 + fieldAt l.inc.toNat 32 16 + flag l.held 31 + l.tally.toNat,
    roArr 0x51000 4 372 4 3 fun s i => leAt (if i = 0 then s.tly.dump else s.tly.latch.getD s.tly.dump) (4 * i) 4 ]

/-- TUL_STATE_k (R442). -/
def State.tulState (s : State) (k : Nat) : Nat :=
  let t := (s.link k).tr
  fieldAt t.fail.toNat 28 4 + fieldAt t.cause.toNat 24 4 + flag t.resumed 16 + fieldAt t.pidx.toNat 8 7 +
    fieldAt (if t.phyRst then s.ulRate else t.rate.toNat) 4 2 + flag t.phaseFound 3 + t.state.toNat

/-- The words of link `k`'s block, 0 the state's own (R442). -/
def State.tulWord (s : State) (k i : Nat) : Nat :=
  let l := s.link k
  let perVc (f : Nat → Nat) : Nat := fieldAt (f 0) 0 8 + fieldAt (f 1) 8 8 + fieldAt (f 2) 16 8 + fieldAt (f 3) 24 8
  match i with
  | 0 => s.tulState k
  | 1 => flag l.replayAt.isSome 16 + l.replay.length % 2 ^ 10
  | 2 => l.txNext.toNat + fieldAt ((l.replay.head?.map fun f => f.seq.toNat).getD l.txNext.toNat) 16 12
  | 3 => l.rxExp.toNat + flag l.nakOut 16
  | 4 => perVc fun v => (l.txv v).window.toNat
  | 5 => perVc fun v => (l.txv v).avail.toNat
  | 6 => l.tr.psess.toNat
  | _ => if 8 ≤ i then (Tab.get (0 : Word) l.cnt (i - 8)).toNat else 0

/-- A word of the block as the last read of TUL_STATE_k latched it (R442); 0 before the first. -/
def State.tulLatched (s : State) (k i : Nat) : Nat := (Tab.get (0 : Word) (s.link k).latch i).toNat

/-- Uplink registers (chapter 13): the words behind TUL_STATE_k as last latched. -/
def regsUplink : List Reg :=
  [ roArr 0x58000 64 64 64 3 fun s k =>
      if s.hasLink k then
        s.tulState k + (List.range 15).foldl (fun v i => v + fieldAt (s.tulLatched k (i + 1)) (32 * (i + 1)) 32) 0
      else 0,
    ro 0x59000 4 3 fun s => fieldAt s.trainTmo 16 16 + fieldAt s.crdFloor 8 4 + s.ulRate % 4,
    ro 0x59004 4 3 fun s => fieldAt s.crdGrace 16 16 + s.replayTmo % 2 ^ 16,
    ro 0x59008 4 3 fun s => s.vcPat,
    ro 0x5900C 4 3 fun s => s.ul.badMsg.toNat,
    ro 0x59010 4 3 fun s => s.ul.lastBad.toNat,
    ro 0x59014 4 3 fun s => s.ul.lost.toNat ]

/-- A complement-protected word and its complement as stored (R15, R507); `d` is the image's value. -/
def State.pairShown (s : State) (off d : Nat) : Nat :=
  match Tab.get none s.wc2 (off / 4) with
  | some (v, c) => v.toNat + fieldAt c.toNat 32 32
  | none => d % 2 ^ 32 + fieldAt (2 ^ 32 - 1 - d % 2 ^ 32) 32 32

/-- UMP_VERD_k (R369). -/
def State.verdShown (s : State) (k : Nat) : Nat :=
  let v := s.verd k
  fieldAt v.vseq.toNat 48 16 + fieldAt v.h 32 16 + fieldAt v.cause.toNat 16 8 + flag (s.frozen k) 12 +
    flag (s.ump.disagree.getLsbD k) 11 + fieldAt v.live.toNat 8 3 + fieldAt v.drain.toNat 5 2 + flag v.lend 4 +
    flag v.replace 3 + flag v.acked 2 + v.v.toNat

/-- The detector that DET_V_n shows (R376): the view on Exfin-T for a detector of die scope, else the detector itself. -/
def State.detShown (s : State) (n : Nat) : Nat :=
  let d := if s.isT && !s.detTray n then s.ump.detView.getD n default else s.det n own
  wrapI 64 d.v + flag (d.alarm && !s.cpl 2 n) 64 + flag d.init 65

/-- Detector and umpire registers (chapter 11). -/
def regsUmpire : List Reg :=
  [ roArr 0x60000 8 256 8 3 fun s i => s.pairShown (0x60000 + 8 * i) (s.polImage (i / 4) (i % 4)),
    roArr 0x61000 16 256 8 3 fun s n => s.pairShown (0x61000 + 16 * n) (if n < s.nDet then s.detf n 8 4 else 0),
    roArr 0x61008 16 256 8 3 fun s n => s.pairShown (0x61008 + 16 * n) (if n < s.nDet then s.detf n 0xC 4 else 0),
    roArr 0x62000 16 64 8 2 State.verdShown,
    ro 0x62800 4 1 fun s => flag s.pwr.lendTray 17 + flag (s.pwr.lendPolicy || s.pwr.lendTray) 16 + fieldAt (s.verd own).cause.toNat 8 8 +
      (s.verd own).v.toNat,
    ro 0x62808 8 3 fun s => s.pairShown 0x62808 (if s.isD then s.pol 0x20 4 % 2 else s.pol 0x20 4),
    ro 0x62810 8 2 fun s => s.pairShown 0x62810 (s.pol 0x24 4),
    ro 0x62820 4 1 fun s => flag s.ump.suppressed 2 + flag s.ump.drainAck 1 + flag s.ump.drainReq 0,
    ro 0x62830 8 2 fun s => s.ump.jobLive.toNat,
    ro 0x62838 8 2 fun s => s.ump.disagree.toNat,
    ro 0x62840 4 2 fun s => s.ump.capUsed.toNat,
    ro 0x62900 8 2 fun s => flag s.ump.startOpen 0 + fieldAt s.ump.startId.toNat 32 32,
    ro 0x62908 8 2 fun s => s.ump.startDone.toNat,
    ro 0x62910 8 2 fun s => s.ump.startLate.toNat,
    rwArr 0x62A00 8 64 8 2 (2 ^ 64 - 1) 0 1,
    rw1 0x62C00 8 2 (2 ^ 64 - 1) 0 1,
    ro 0x62C08 4 2 fun s => s.ump.abtCnt.toNat,
    ro 0x63000 4 2 fun s => s.ump.detSel.toNat,
    rw1 0x63010 4 3 0x3FF 0 1,
    ro 0x63014 4 3 fun s =>
      let p := s.rwd 0x63010 0 % 1024
      fieldAt (Nat.log2 (s.divOf p)) 8 3 + Nat.log2 (max 1 (s.gov p).g.toNat) % 8,
    roArr 0x64000 16 256 16 3 State.detShown ]

/-- The scores that the score registers show (R333): those latched, else those published. -/
def State.scoresShown (s : State) : Option Scored := s.te.latch.getD s.te.pub

/-- Die `k` in them. -/
def State.dieScore (s : State) (k : Nat) : Option DieScore :=
  s.scoresShown.bind fun x => (x.dies.find? fun p => p.1.toNat == k).map (·.2)

/-- Tree registers (chapter 10). -/
def regsTree : List Reg :=
  [ ro 0x70000 4 2 fun s => fieldAt s.te.st.toNat 24 3 + fieldAt (s.ted 3 1) 16 6 + fieldAt s.nOut 13 3 + s.nFeat,
    ro 0x70004 4 2 fun s => s.nTree,
    ro 0x70008 8 2 fun s => s.treeDigest.toNat,
    ro 0x70010 4 2 fun s => fieldAt s.te.chkTree.toNat 16 16 + s.te.chkReason.toNat,
    ro 0x70014 4 2 fun s => s.te.chkNode.toNat,
    ro 0x70020 8 2 fun s => s.te.recv.toNat,
    ro 0x70028 8 2 fun s => fieldAt s.sWin 32 17 + s.resNodes % 2 ^ 18,
    roArr 0x70040 4 8 4 2 fun s i => (Tab.get (0 : Word) s.te.cnt i).toNat,
    ro 0x70100 8 2 fun s => ((s.te.pub.map fun x => x.heat.toNat).getD 0) % 2 ^ 32 +
      fieldAt (((s.scoresShown.map fun x => x.heat.toNat).getD 0) / 2 ^ 32) 32 32,
    roArr 0x70200 4 64 4 2 fun s k => ((s.dieScore k).map fun d => 2 ^ 31 + flag d.poison 30 + d.nmiss.toNat).getD 0,
    roArr 0x70400 16 64 16 2 fun s k =>
      ((s.dieScore k).map fun d => (List.range 4).foldl (fun v o => v + fieldAt (d.score.getD o 0).toNat (32 * o) 32) 0).getD 0,
    ro 0x70800 4 2 fun s => s.te.fsel.toNat,
    roArr 0x71000 4 128 4 2 fun s j => (s.te.view.getD (2 * j) 0).toNat + fieldAt (s.te.view.getD (2 * j + 1) 0).toNat 16 16 ]

/-- The statistics that the registers show (R298): those latched, else those published. -/
def State.statsShown (s : State) : Stats := if s.red.latched then s.red.latch else s.red.pub

/-- Byte range of the sketch view's body (Table 9-3); a view never loaded reads 0. -/
def State.viewWord (s : State) (i : Nat) : Nat := if s.red.view = default then 0 else leAt s.red.view.head (4 * i) 4

/-- Reduction registers (chapter 9). -/
def regsReduce : List Reg :=
  [ ⟨0x80000, 4, 1, 4, 2, fun s _ _ =>
      fieldAt (if Tab.get (0 : Word) s.red.cnt 9 = 0 then 0 else (s.red.seq - 1).toNat) 16 16 + flag s.skEn 7 + s.red.recQ.length,
      0x80, 1⟩,
    ro 0x80004 4 2 fun s => fieldAt (s.redProd.getD 0) 16 10 + fieldAt s.stMinDies 8 6 + s.nFig,
    ro 0x80008 4 2 fun s => s.stepWait,
    ro 0x8000C 4 2 fun s => s.madFloor,
    ro 0x80010 4 2 fun s => s.red.lastStep.toNat,
    ro 0x80014 4 2 fun s => fieldAt s.red.queue.length 4 4 + s.red.opened.length,
    roArr 0x80040 4 11 4 2 fun s i => (Tab.get (0 : Word) s.red.cnt i).toNat,
    roArr 0x80080 4 24 4 2 fun s i =>
      if i < s.nFig then fieldAt (s.figAcc i) 21 11 + fieldAt (s.figSrc i) 8 13 + s.figCode i % 16 else 0,
    ro 0x80100 4 2 fun s => s.red.sel.toNat,
    roArr 0x80140 4 16 4 2 State.viewWord,
    ro 0x80200 4 2 fun s => flag s.statsShown.valid 31 + s.statsShown.npres.toNat,
    ro 0x80204 4 2 fun s => s.red.pub.step.toNat,
    ro 0x80208 8 2 fun s => s.statsShown.med.toNat,
    ro 0x80210 8 2 fun s => s.statsShown.mad.toNat,
    roArr 0x80400 8 64 8 2 fun s k =>
      let (st, d, q) := Tab.get (0, 0, 0) s.statsShown.die k
      fieldAt q.toNat 48 16 + fieldAt st.toNat 40 2 + wrapI 32 (max (-(2 ^ 31 - 1)) (min (2 ^ 31 - 1) d.toInt)),
    roArr 0x82000 4 2048 4 2 fun s i => (Tab.get (0 : Word) s.red.view.bkt i).toNat ]

/-- A time of 2^-40 ns as NS and SEC (NB_GATE_CHT_p). -/
def nsSec (t : BitVec 128) : Nat :=
  let ns := t.toNat / 2 ^ 40
  ns % 10 ^ 9 + fieldAt (ns / 10 ^ 9) 32 48

/-- Entry `i` of the oper list in force of port `p` (R451): GATES and INTERVAL. -/
def State.operEntry (s : State) (p i : Nat) : Nat :=
  (((s.operList p).entries[i]?).map fun e => e.1.toNat + fieldAt e.2.toNat 32 32).getD 0

/-- NB_T1S_PEER_i (R459). -/
def State.peerShown (s : State) (i : Nat) : Nat :=
  match s.nb.t1s.peers[i]? with
  | some p => flag true 127 + fieldAt p.tray.toNat 96 18 + fieldAt p.node.toNat 80 8 + fieldAt p.prop.toNat 64 16 + p.mac.toNat
  | none => fieldAt 0xFFFF 64 16

/-- Registers of one 100 Gb/s port (chapter 14). -/
def regsPort (p : Nat) : List Reg :=
  let b := 0x90000 + 0x1000 * p
  [ ro b 4 2 fun s =>
      let q := s.port p
      flag q.pendList.isSome 30 + flag q.chgErr 29 + fieldAt q.reason.toNat 26 3 + fieldAt q.admLen.toNat 16 7 +
        (s.operList p).entries.length,
    rw1 (b + 4) 12 2 (fieldAt (2 ^ 48 - 1) 32 48 + (2 ^ 30 - 1)) 0 2,
    rw1 (b + 0x10) 4 2 (2 ^ 30 - 1) 0 2,
    ro (b + 0x14) 12 2 fun s => nsSec (s.port p).cht,
    ro (b + 0x30) 4 2 fun s => flag (s.portEn.testBit (4 + p)) 3 + flag (s.portOn p) 2 + flag (s.port p).fecLock 1 + flag (s.port p).up 0,
    roArr (b + 0x40) 8 8 8 2 fun s i => (Tab.get (0 : DWord) (s.port p).cnt i).toNat,
    roArr (b + 0x100) 16 8 16 2 fun s c =>
      (Tab.get (0 : BitVec 128) (s.port p).sampled c).toNat + fieldAt (shown16 (Tab.get (0 : Word) (s.port p).drops c)) 16 16,
    rwArr (b + 0x400) 8 64 8 2 0xFFFFFFFF000000FF 0 2,
    roArr (b + 0x600) 8 64 8 2 fun s i => s.operEntry p i ]

/-- Northbound registers beside the ports (chapter 14). -/
def regsNorth : List Reg :=
  regsPort 0 ++ regsPort 1 ++
  [ ro 0x92000 4 2 fun s => flag s.nb.t1s.clash 31 + flag s.nb.t1s.plca 30 + flag (s.nodeId == 0) 29 + flag (s.portOn 2) 28 +
      s.nodeId % 256,
    ro 0x92004 4 2 fun s => flag s.nb.t1s.idOvr 8 + s.nb.t1s.id.toNat,
    roArr 0x92010 4 8 4 2 fun s i => (Tab.get (0 : Word) s.nb.t1s.cnt i).toNat,
    roArr 0x92100 16 16 16 2 State.peerShown,
    ro 0x93000 4 2 fun s => s.nb.proxyOut.length,
    roArr 0x93010 4 6 4 2 fun s i => (Tab.get (0 : Word) s.nb.proxyCnt i).toNat,
    rw1 0x94000 4 2 0x1F 0x18 1,
    rw1 0x94008 8 2 (2 ^ 64 - 1) 0 1,
    ro 0x94010 4 2 fun s => fieldAt s.nb.reqDup.toNat 16 16 + fieldAt s.nb.reqDrop.toNat 5 11 + s.nb.places.length,
    ro 0x95000 4 2 fun s => fieldAt s.nb.densLog2.toNat 8 8 + flag s.nb.mode8d 2 + flag s.nb.sfdpBad 1 + flag s.nb.flashReady 0 ]

/-- ROLE_STATE as path `a.path` reads it (R475): path 9 shows the role carried, path 15 operator. -/
def State.roleState (s : State) (a : Acc) : Nat :=
  let p := a.path.toNat
  let q := s.path p
  let own := s.statePaths.contains p
  fieldAt p 24 4 + fieldAt s.roles.fails.toNat 16 8 + flag (s.roles.lockAll || (own && q.lock1)) 11 + flag (own && q.busy) 10 +
    flag (own && q.nonceV) 9 + flag (own && q.lastFail) 8 + s.roleOf a % 4

/-- ROLE_SESS_s (R472). -/
def State.sessShown (s : State) (p : Nat) : Nat :=
  match Tab.get none s.roles.sessions p with
  | some x => flag true 63 + fieldAt (s.path p).held 56 2 + fieldAt x.port.toNat 48 2 + x.mac.toNat
  | none => 0

/-- CMD_STAT of the reader's mailbox (R483, R485). -/
def State.cmdStat (s : State) (a : Acc) : Nat :=
  let q := s.path a.path.toNat
  if s.mailPaths.contains a.path.toNat then fieldAt q.statTok.toNat 16 16 + flag q.pend 15 + flag q.busyHit 8 + q.result.toNat else 0

/-- Ring places that hold a record (R498), counted from the flash cells of their CODE. -/
def State.ringHeld (s : State) : Nat :=
  (s.flash.foldl (fun (acc : Nat × Option Nat) c =>
    if ringBase ≤ c.1 ∧ c.1 < ringBase + 32 * ringPlaces ∧ c.1 % 32 < 2 ∧ acc.2 ≠ some (c.1 / 32) then
      (acc.1 + 1, some (c.1 / 32)) else acc) (0, none)).1

/-- Role, mailbox and recorder registers (chapter 15). -/
def regsRoles : List Reg :=
  [ ⟨0x00010, 4, 1, 4, 3, fun s a _ => s.roleState a, 0, 1⟩,
    ⟨0x00018, 8, 1, 8, 3, fun s a _ =>
      if s.statePaths.contains a.path.toNat && (s.path a.path.toNat).nonceV then (s.path a.path.toNat).nonce.toNat else 0, 0, 1⟩,
    ro 0x00040 4 3 State.roleCfg,
    roArr 0x00110 16 8 8 2 fun s i => s.sessShown (i + 1),
    ⟨0xC0000, 4, 8, 4, 3, fun s a i =>
      if s.mailPaths.contains a.path.toNat then (Tab.get (0 : Word) (s.path a.path.toNat).args i).toNat else 0, 0, 1⟩,
    ⟨0xC0024, 4, 1, 4, 3, fun s a _ => s.cmdStat a, 0, 1⟩,
    ⟨0xC0028, 8, 1, 8, 3, fun s a _ =>
      if s.mailPaths.contains a.path.toNat then (s.path a.path.toNat).heat.toNat else 0, 0, 1⟩,
    ro 0xB0000 4 3 fun s => if s.isT then
      flag (s.evr.headN.toNat == headPlaces) 31 + flag s.evr.ready 30 + s.evr.headN.toNat else 0,
    ro 0xB0004 4 2 fun s => fieldAt (min 16384 s.ringHeld) 16 15 + s.evr.wptr.toNat,
    ro 0xB0008 4 2 fun s => s.evr.ovf.toNat,
    ro 0xB000C 4 3 fun s => s.evr.pcyc.toNat,
    ro 0xB0010 4 3 fun s => s.evr.hours.toNat,
    ro 0xB0014 4 3 fun s => if s.isT then fieldAt s.evr.buf.length 16 10 + s.evr.buf.length
      else fieldAt s.evr.ring.length 16 10 + s.evr.unflushed,
    ro 0xB0018 4 3 fun s => fieldAt (shown16 s.evr.drop) 16 16 + flag s.evr.odoNew 7 + flag (s.isT && s.sys.sfdpDone && !s.nb.flashReady) 6 +
      flag s.evr.pfShort 5 + flag (s.isT && s.nb.flashReady && !s.nb.susp) 4 + flag s.evr.pfDone 3 + flag s.evr.flashFail 2 +
      flag s.evr.odoSkip 0,
    ro 0xB001C 4 2 fun s => fieldAt s.evr.bPf.toNat 16 8 + s.evr.mark.toNat,
    ro 0xB0040 4 3 fun s => s.evr.sel.toNat % 2 ^ 15 + fieldAt (bits s.evr.sel.toNat 16 15) 16 2,
    ro 0xB0044 4 3 fun s => flag s.evr.held.isSome 0,
    roArr 0xB0060 4 8 4 3 fun s i => leAt (s.evr.held.getD []) (4 * i) 4 ]

/-- XING_DORM (R514, Table 16-4). -/
def State.xingDormShown (s : State) : Nat :=
  maskOf 40 fun d =>
    match s.domRegion d with
    | some r => s.heat.dormant.getLsbD r
    | none =>
      if (s.domLinks d).isEmpty then s.domDormant d else (s.domLinks d).all fun k => (s.link k).tr.state != 4

/-- Soft-repaired macros without a fuse entry. -/
def State.softOnly (s : State) : Nat := (s.bist.soft.filter fun e => !s.hardRepaired e.1.toNat e.2.toNat).length

/-- Integrity, self-test and fuse registers (chapters 16 and 18). -/
def regsIntegrity : List Reg :=
  [ roArr 0xA0000 4 4 4 3 fun s r => (s.stickyWord r).toNat,
    ro 0xA0010 4 3 fun s => s.integ.first.toNat,
    ro 0xA0018 8 3 fun s => s.integ.firstStroke.toNat,
    ro 0xA0020 4 3 fun s => maskOf 8 fun i => s.integ.cplStat.any fun p => p.1 / 256 == i,
    ro 0xA0024 4 3 fun s => s.integ.cplLast.toNat,
    ro 0xA0028 4 3 fun s => s.integ.wc2Last.toNat,
    rw1 0xA0100 4 3 0xFFFF 0x1000 2,
    ro 0xA0108 8 3 fun s => s.integ.xingStop.toNat,
    ro 0xA0110 8 3 State.xingDormShown,
    roArr 0xA0208 8 9 8 3 fun s i =>
      (Tab.get (0 : Word) s.integ.memCe (i + 1)).toNat + fieldAt (Tab.get (0 : Word) s.integ.memUe (i + 1)).toNat 32 32,
    ⟨0xA1000, 4, 1, 4, 3, fun s _ _ => s.rwd 0xA1000 (s.fd 0x15 1 1) % 16, 0xF, 2⟩,
    ro 0xA1004 4 3 fun s => flag s.bist.busy 31 + fieldAt s.bist.target.toNat 24 3 + fieldAt s.bist.done.toNat 16 8 +
      fieldAt s.bist.unrepaired.toNat 8 8 + s.bist.repaired.toNat,
    roArr 0xA1104 4 9 4 3 fun s i =>
      fieldAt (Tab.get (0 : BitVec 10) s.bist.memUnrep (i + 1)).toNat 10 10 + (Tab.get (0 : BitVec 10) s.bist.memRep (i + 1)).toNat,
    roArr 0xA1204 4 5 4 3 fun s i => (Tab.get (0 : Word) s.bist.abistRes (i + 1)).toNat,
    ro 0xA1300 4 3 fun s => fieldAt (128 - s.repairsUsed.length) 16 8 + fieldAt s.repairsUsed.length 8 8 + s.softOnly % 256,
    ⟨0xA2000, 4, 40, 4, 3, fun s _ i => if i < 32 then s.rwd (0xA2000 + 4 * i) 0 else 0, 0xFFFFFFFF, 3⟩,
    ro 0xA2100 4 3 fun s => flag s.makerSet 4 + flag (s.fdBytes.any (· != 0)) 3 + flag s.fuse.fail 2 + flag s.fuse.busy 0 ]

/-- Power registers (chapter 17). -/
def regsPower : List Reg :=
  [ ro 0xB0800 4 3 fun s => flag s.pwr.memFail 8 + flag s.pwr.pfIn 7 + flag s.pwr.pf 6 + flag s.sys.powerup 5 +
      (if s.pwr.pf && s.sys.phase != 7 then 6 else s.sys.phase.toNat),
    roArr 0xB0814 4 4 4 3 fun s i => (Tab.get (0 : Word) s.sys.pht (i + 1)).toNat,
    ro 0xB0820 4 3 State.lendSrc,
    ro 0xB0830 4 2 fun s => fieldAt s.raCode 16 12 + s.pfCode % 2 ^ 12,
    ro 0xB0840 4 2 fun s => fieldAt s.pwr.huAbort.toNat 2 2 + flag s.pwr.huOk 1 + flag s.pwr.huValid 0,
    ro 0xB0844 4 2 fun s => s.pwr.huCap.toNat,
    ro 0xB0848 4 2 fun s => s.pwr.huTime.toNat,
    ro 0xB084C 4 2 fun s => s.pwr.huLoad.toNat ]

/-- Every register of the window. -/
def registers : List Reg :=
  regsIdentity ++ regsImage ++ regsCounters ++ regsSense ++ regsTimebase ++ regsTrace ++ regsCompress ++ regsScan ++
    regsLedger ++ regsTally ++ regsUplink ++ regsUmpire ++ regsTree ++ regsReduce ++ regsNorth ++ regsRoles ++
    regsIntegrity ++ regsPower

/-- The register is present in the grade. -/
def Reg.present (r : Reg) (s : State) : Bool := r.grade.testBit (if s.isT then 1 else 0)

/-- Entry and word of the register that offset `off` names. -/
def Reg.place (r : Reg) (off : Nat) : Option (Nat × Nat) :=
  let d := off - r.base
  if r.base ≤ off ∧ d / r.stride < r.n ∧ d % r.stride < r.bytes then some (d / r.stride, d % r.stride / 4) else none

/-- The register at `off` in the grade, with its entry and word. -/
def State.regAt (s : State) (off : Nat) : Option (Reg × Nat × Nat) :=
  registers.findSome? fun r => if r.present s then (r.place off).map fun p => (r, p.1, p.2) else none

/-- What a read at `off` returns (R9, R14, R15); reads with an effect have it in their own commands. -/
def State.readReg (s : State) (a : Acc) (off : Nat) : Word :=
  match s.regAt off with
  | some (r, i, w) => BitVec.ofNat 32 (r.rd s a i >>> (32 * w))
  | none => 0

/-- The plain RW bits of the word at `off`, and the role they need. -/
def State.rwBits (s : State) (off : Nat) : Nat × Nat :=
  match s.regAt off with
  | some (r, _, w) => (bits r.rw (32 * w + 31) (32 * w), r.role)
  | none => (0, 1)

end Sys2Proof.Machine
end

