-- ==== Sys2Proof/Machine/Access.lean ====
section
/-! DEFINITION. How accesses are performed: writes of registers without a command of their own (R15, R474), reads, the
register access port (R38, R551 to R553), proxy requests on the die (R463), entries of a REG_REQ (R448), and the test
access (R563). -/

namespace Sys2Proof.Machine

/-- The state after a command that has one. -/
def after (s : State) (o : Host.Outcome State Fault Refusal) : State :=
  match o with
  | .next t => t
  | .fault _ => s
  | .refused _ => s

/-- The effect of an allowed write on a register without a command of its own: W1C bits (R15), CMD_ARG and ROLE_RESP of the
path's own (R480, R484), SHD_ARM's low word (R249), and plain RW bits; other bits ignore it. -/
def State.storeReg (s : State) (a : Acc) (off : Nat) : State :=
  let v := a.data.toNat
  let p := a.path.toNat
  if 0x20 ≤ off ∧ off < 0x3C then s.respWord p ((off - 0x20) / 4) a.data
  else if 0xC0000 ≤ off ∧ off < 0xC0020 then
    if s.mailPaths.contains p then s.setPath p { s.path p with args := Tab.set 0 (s.path p).args ((off - 0xC0000) / 4) a.data } else s
  else if off = 0xC0024 then
    if s.mailPaths.contains p then s.setPath p { s.path p with busyHit := (s.path p).busyHit && !v.testBit 8 } else s
  else if off = 0x10000 ∧ s.isD then
    s.setPrb { s.prb with perr := s.prb.perr && !v.testBit 5, lost := s.prb.lost && !v.testBit 4, expired := s.prb.expired && !v.testBit 3 }
  else if off = 0x2008 then
    s.setTb { s.tb with jumped := s.tb.jumped && !v.testBit 13, phaseFault := s.tb.phaseFault && !v.testBit 12 }
  else if off = 0x38008 then
    s.setCmp { s.cmp with decFail := s.cmp.decFail && !v.testBit 4, ratioLow := s.cmp.ratioLow &&& ~~~ a.data.setWidth 4 }
  else if off = 0x48000 then s.setLed { s.led with tagBad := s.led.tagBad && !v.testBit 1 }
  else if off = 0x50708 then s.setTly { s.tly with dumpDrop := s.tly.dumpDrop && !v.testBit 3 }
  else if off = 0x50710 then s.setTly { s.tly with left := s.tly.left &&& ~~~ a.data.setWidth 48 }
  else if off = 0x50714 then s.setTly { s.tly with left := s.tly.left &&& ~~~ (a.data.setWidth 48 <<< 32) }
  else if off = 0xB0018 then s.setEvr { s.evr with flashFail := s.evr.flashFail && !v.testBit 2 }
  else if off = 0xA2100 then { s with fuse := { s.fuse with fail := s.fuse.fail && !v.testBit 2 } }
  else if 0x4C000 ≤ off ∧ off < 0x50000 ∧ off % 16 = 8 ∧ s.isD then s.shardLow ((off - 0x4C000) / 16) a.data
  else
    let (m, need) := s.rwBits off
    if m = 0 then s
    else
      let t := { s with rw := Tab.set none s.rw (off / 4) (some (a.data &&& BitVec.ofNat 32 m)) }
      if 2 ≤ need then t.cfgWrite a off (a.data &&& BitVec.ofNat 32 m) else t

/-- The role a write at `off` needs (R473, R509). -/
def State.writeRole (s : State) (off : Nat) : Nat :=
  if s.wc2Low off || s.wc2Low (off - off % 8) then 2
  else if s.isT && (off == 0x200C || off == 0x90000 || off == 0x91000 || off == 0x92004) then 2
  else (s.rwBits off).2

/-- A write that has a command of its own, run by its meaning. -/
def State.ownWrite (s : State) (a : Acc) (off : Nat) : Option State :=
  let run (o : Host.Outcome State Fault Refusal) : Option State := some (after s o)
  let n4 (b : Nat) : Nat := (off - b) / 4
  if off % 4 ≠ 0 then none
  else if off = 0x10 then
    if (s.path a.path.toNat).held < Acc.req a then run (execRoleRequestHigher a ((s.free 1).getLsbD 0) s.freed)
    else if 0 < Acc.req a then run (execRoleRequestLower a s) else none
  else if off = 0x3C then run (execRoleResponseWrite a s)
  else if off = 0x1004 then run (execImgDataWrite a s)
  else if off = 0x200C ∧ s.isT then run (execTbCtrlWrite a s)
  else if s.wc2Low off then run (execWc2Stage a (BitVec.ofNat 20 off) s)
  else if off = 0x2024 ∧ s.isT then run (execTbRateCommit a s)
  else if off = 0x30000 then run (execCapEnWrite a s)
  else if off = 0x30030 then run (execTrcRdSelWrite a s)
  else if off = 0x4001C ∧ s.isD then run (execScnPost a s)
  else if 0x4C000 ≤ off ∧ off < 0x50000 ∧ off % 16 = 12 ∧ s.isD then
    run (execShdArmWrite a (BitVec.ofNat 10 ((off - 0x4C000) / 16)) s)
  else if 0x50100 ≤ off ∧ off < 0x501C0 then run (execTlyCfgWrite a (BitVec.ofNat 6 (n4 0x50100)) s)
  else if 0x50500 ≤ off ∧ off < 0x505C0 then run (execTlyAddWrite a (BitVec.ofNat 6 (n4 0x50500)) s)
  else if 0x50600 ≤ off ∧ off < 0x50640 then run (execTlyBindWrite a (BitVec.ofNat 4 (n4 0x50600)) s)
  else if off = 0x50700 then run (execTlyCtrlWrite a s)
  else if off = 0x5070C then run (execTlyRemoteWrite a s)
  else if 0x60000 ≤ off ∧ off < 0x60800 then
    let i := (off - 0x60000) / 8
    run (execPolRuleCommit a (BitVec.ofNat 6 (i / 4)) (BitVec.ofNat 2 (i % 4)) s)
  else if 0x61000 ≤ off ∧ off < 0x62000 then
    run (execDetThresholdCommit a (BitVec.ofNat 8 ((off - 0x61000) / 16)) (decide (off % 16 = 4)) s)
  else if off = 0x6280C ∨ (off = 0x62814 ∧ s.isT) then run (execDrnEnCommit a (decide (off = 0x62814)) s)
  else if (off = 0x62830 ∨ off = 0x62834) ∧ s.isT then run (execUmpJobliveWrite a (decide (off = 0x62834)) s)
  else if off = 0x63000 ∧ s.isT then run (execDetSelWrite a s)
  else if off = 0x70018 ∧ s.isT then run (execTeBlobDataWrite a s)
  else if off = 0x70800 ∧ s.isT then run (execTeFselWrite a s)
  else if off = 0x80100 ∧ s.isT then run (execSkSelWrite a s)
  else if off = 0x90000 ∧ s.isT then run (execNbGateChgWrite a 0 s)
  else if off = 0x91000 ∧ s.isT then run (execNbGateChgWrite a 1 s)
  else if off = 0x92004 ∧ s.isT then run (execNbT1sIdWrite a s)
  else if 0xA0000 ≤ off ∧ off < 0xA0010 then run (execErrStickyClear a (BitVec.ofNat 2 (n4 0xA0000)) s)
  else if off = 0xB0040 then run (execEvrSelWrite a s)
  else if off = 0xC0020 then run (execCommandPost a s)
  else none

/-- A write at `off`, performed. -/
def State.performWrite (s : State) (a : Acc) (off : Nat) : State :=
  (s.ownWrite a off).getD (s.written a off (s.writeRole off) fun s => s.storeReg a off)

/-- A write at `off` reaches a register of the grade: it has all its lanes (R13), and no rule turns it away. -/
def State.writeReaches (s : State) (a : Acc) (off : Nat) : Bool :=
  s.running && a.full && !s.absentAt off && !(a.path == 9 && decide (off < 0x1000)) && decide (s.writeRole off ≤ s.roleOf a) &&
    ((s.regAt off).isSome || (s.ownWrite a off).isSome)

/-- REGISTER_WRITE (R13, R15, R515): a write of a register in a register slot; `mem` names a memory whose protection met an
error in a write that reached its register: one whose errors no other command brings (notes/assumptions/105). -/
def execRegisterWrite (a : Acc) (off : BitVec 20) (mem : Option (BitVec 4 × Bool × Word)) (s : State) :
    Host.Outcome State Fault Refusal :=
  let o := off.toNat
  .next (
    match mem with
    | some (m, ue, addr) =>
      if s.writeReaches a o then s.oneCycle fun s => (s.performWrite a o).memFault m.toNat ue addr.toNat
      else s.performWrite a o
    | none => s.performWrite a o)

/-- TUL_STATE_READ (R442): the rest of the link's block is latched. -/
def execTulStateRead (a : Acc) (k : BitVec 6) (s : State) : Host.Outcome State Fault Refusal :=
  let n := k.toNat
  .next (
    if s.hasLink n then
      s.readBy a (0x58000 + 64 * n) (BitVec.ofNat 32 (s.tulState n)) fun s =>
        s.latchLink n (Tab.setAll 0 [] 1 ((List.range 15).map fun i => BitVec.ofNat 32 (s.tulWord n (i + 1))))
    else s)

/-- A read that has a command of its own, run by its meaning. -/
def State.ownRead (s : State) (a : Acc) (off : Nat) : Option State :=
  let run (o : Host.Outcome State Fault Refusal) : Option State := some (after s o)
  if off = 0x2000 then run (execTbStrokeRead a s)
  else if off = 0x51000 then run (execTlyDumpRead a s)
  else if 0x58000 ≤ off ∧ off < 0x59000 ∧ off % 64 = 0 ∧ s.hasLink ((off - 0x58000) / 64) then
    run (execTulStateRead a (BitVec.ofNat 6 ((off - 0x58000) / 64)) s)
  else if s.isD then
    if off = 0x10000 then run (execCntSnapRead a s)
    else if off = 0x10028 then run (execCntLiveRead a s)
    else if 0x18000 ≤ off ∧ off < 0x20000 ∧ off % 4 = 0 then
      run (execSnapshotBankRead a (BitVec.ofNat 13 ((off - 0x18000) / 4)) false s)
    else if 0x40400 ≤ off ∧ off < 0x40600 ∧ off % 64 = 12 then
      run (execScnChLastIdRead a (BitVec.ofNat 3 ((off - 0x40400) / 64)) s)
    else if off = 0x48020 then run (execLedgerRdRead a s)
    else none
  else if off = 0x70100 then run (execTeScoreHeatRead a s)
  else if off = 0x80204 then run (execStStepRead a s)
  else none

/-- A read at `off`, performed: the state after it and the word. -/
def State.performRead (s : State) (a : Acc) (off : Nat) : State × Word :=
  ((s.ownRead a off).getD s, s.readReg a off)

/-- The access that an entry of the queue of R38 stands for: path 0, or path 10 of the test access (R563). -/
def portAcc (q : RaReq) : Acc := ⟨if q.test then 10 else 0, 0, q.be, q.data⟩

/-- The access at the head of the queue of R38 is performed and leaves it answered; one beyond the register window is
answered as an absent area (R552). -/
def State.portAccess (s : State) : State :=
  match s.heat.raq with
  | q :: _ =>
    let o := q.off.toNat
    if 2 ^ 20 ≤ o then s.raDone q 0
    else
      let (t, v) := if q.wr then (s.performWrite (portAcc q) o, 0) else s.performRead (portAcc q) o
      if t.heat.raq.head? = some q then t.raDone q v else t
  | [] => s

/-- Up to `n` accesses from the head of the queue, in arrival order (R38). -/
def State.portAccesses : Nat → State → State
  | 0, s => s
  | n + 1, s => if s.heat.raq.isEmpty then s else portAccesses n s.portAccess

/-- RA_REQUEST (R38, R462, R551, R552): an access is taken into the queue, or goes out as a proxy access; while the queue
holds 16 or the port is not ready it is held back. -/
def execRaRequest (wr : Bool) (be : BitVec 4) (ofs : BitVec 25) (wdata : Word) (tag : BitVec 9) (s : State) :
    Host.Outcome State Fault Refusal :=
  let o := 4 * ofs.toNat
  .next (
    if !s.running || decide (16 ≤ s.heat.raq.length) then s
    else if s.isT && decide (0x04000000 ≤ o) then
      if wr && be != 0xF then { s with heat := { s.heat with rsp := s.heat.rsp ++ [(⟨tag, 0, 0⟩ : RaRsp)] } }
      else s.proxyAccess (.port tag) wr (o - 0x04000000) wdata
    else { s with heat := { s.heat with raq := s.heat.raq ++ [⟨false, wr, be, BitVec.ofNat 32 o, wdata, tag⟩] } })

/-- A request of the proxy queue runs with the role it carries (R463): its answer's status and data. -/
def State.proxyRun (s : State) (p : ProxyIn) : State × Nat × Word :=
  let f := p.flags.toNat
  let role := bits f 3 2
  let o := p.off.toNat
  let wr := f.testBit 0
  let a : Acc := ⟨9, BitVec.ofNat 2 role, 0xF, p.data⟩
  if role = 0 ∨ f.testBit 1 ∨ 16 ≤ f ∨ o % 4 ≠ 0 then (s, 3, 0)
  else if 2 ^ 20 ≤ o then (s, 0, 0)
  else if wr then
    if o < 0x1000 then (s, 1, 0) else (s.performWrite a o, if role < s.writeRole o then 1 else 0, 0)
  else
    let (t, v) := s.performRead a o
    (t, 0, v)

/-- PROXY_EXECUTE (R434, R463): the oldest queued request is executed, in a place that the port accesses waiting
for the register slot leave free (R38), and answered. -/
def execProxyExecute (s : State) : Host.Outcome State Fault Refusal :=
  .next (
    if s.isD && s.running && decide (s.heat.raq.length < 8) then
      match s.nb.proxyIn with
      | p :: rest =>
        let (t, st, v) := (s.setNb { s.nb with proxyIn := rest }).proxyRun p
        t.proxyTookEffect.send 0 0 0x33 (le 1 p.tag.toNat ++ le 1 st ++ le 2 0 ++ le 4 v.toNat)
      | [] => s
    else s)

/-- REG_REQ_ENTRY (R448, R462): the next entry of a request place runs. -/
def execRegReqEntry (place : BitVec 4) (s : State) : Host.Outcome State Fault Refusal :=
  let i := place.toNat
  .next (
    if !(s.isT && s.running) then s
    else
      match Tab.get none s.nb.places i with
      | some p =>
        match p.left with
        | e :: _ =>
          let o := e.offset.toNat
          let a : Acc := ⟨BitVec.ofNat 4 (s.placePath p), 0, 0xF, e.data⟩
          if p.waiting then s
          else if o % 4 = 0 ∧ o < 2 ^ 20 then
            if e.write then
              let need := s.writeRole o
              let role := s.roleOf a
              (s.performWrite a o).reqDone i (if role < need then 1 else 0) 0
            else
              let (t, v) := s.performRead a o
              t.reqDone i 0 v
          else if o % 4 = 0 ∧ 0x04000000 ≤ o ∧ o < 0x08000000 then
            (s.setNb { s.nb with places := Tab.set none s.nb.places i (some { p with waiting := true }) }).proxyAccess
              (.place place) e.write (o - 0x04000000) e.data
          else s.reqDone i 3 0
        | [] => s
      | none => s)

/-- EXFIN_REG_UPDATE (R563): an update with bit 65 = 1 starts one access on path 10, unless the last is not DONE; it joins
the queue of R38. -/
def execExfinRegUpdate (v : BitVec 66) (s : State) : Host.Outcome State Fault Refusal :=
  let wr := v.getLsbD 64
  let off : Word := BitVec.ofNat 32 (v.toNat / 2 ^ 32 % 2 ^ 32 / 4 * 4)
  let tck := if s.isT then 30 else 38
  .next (
    if s.running && v.getLsbD 65 && !s.test.busy && !s.integ.xingStop.getLsbD tck then
      ({ s with test := { s.test with busy := true, queued := false, wr := wr, off := off, wdata := v.setWidth 32, done := false } } : State).joinTest
    else s)

/-- JT_TRST (R563): the test data registers are reset. -/
def execJtTrst (s : State) : Host.Outcome State Fault Refusal := .next { s with test := default }

/-- What happens while no command waits: a register slot performs up to 8 accesses from the queue of R38. -/
def State.idle (s : State) : State := if s.running then s.portAccesses 8 else s

end Sys2Proof.Machine
end

