-- ==== Sys2Proof/Machine/Commands.lean ====
section
/-! DEFINITION. The command table (Table 15-4, Table 16-7), the judging of a posted command (R485 to R488, Table 15-3), the
poll, and the commands one by one. -/

namespace Sys2Proof.Machine

/-- A row of the command table: code, grades (bit 0 Exfin-D, bit 1 Exfin-T), role, the bits of each argument word that may be
set (all where the command does not name the word), and the effect, none where the state or a range refuses it. -/
structure CmdDef where
  code : Nat
  grade : Nat
  role : Nat
  m0 : Word
  m1 : Word
  m2 : Word
  run : Post → State → Option State

/-- Every bit of an argument word is allowed, or the word is not named. -/
abbrev anyArg : Word := 0xFFFFFFFF

/-- TALLY_LOAD (R399). -/
def cmdTallyLoad (p : Post) (s : State) : Option State :=
  let n := p.a0.toNat % 64
  let t := s.tly
  let waits := t.waits.any fun x => x.2.active && x.2.tally.toNat == n
  let held := t.lanes.any fun x => x.2.held && x.2.tally.toNat == n
  if n < 48 ∧ t.svc ≠ 0 ∧ waits = false ∧ held = false ∧ t.halted = false then
    some (s.tallyLoad n p.a1 p.role.toNat p.path.toNat)
  else none

/-- TALLY_DUMP (R392, R399). -/
def cmdTallyDump (p : Post) (s : State) : Option State :=
  if s.tly.halted then none else some (s.tallyHalt 1 0xFF p.role.toNat p.path.toNat)

/-- TALLY_RESUME (R394, R399). -/
def cmdTallyResume (p : Post) (s : State) : Option State :=
  if s.tly.halted then some (s.tallyResume p.role.toNat p.path.toNat) else none

/-- UL_RETRAIN (R440). -/
def cmdUlRetrain (p : Post) (s : State) : Option State :=
  let k := p.a0.toNat % 64
  if s.hasLink k ∧ (s.link k).tr.state = 4 then some (s.linkDownBy k 6 p.role.toNat p.path.toNat) else none

/-- EVR_FLUSH (R494, R502): a flush trigger of the recorder. -/
def cmdEvrFlush (_ : Post) (s : State) : Option State := some (s.setEvr { s.evr with flushReq := true })

/-- The commands of the block. -/
def commandTable : List CmdDef :=
  [ ⟨0x0101, 3, 2, anyArg, anyArg, anyArg, cmdImgBegin⟩,
    ⟨0x0102, 3, 2, anyArg, anyArg, anyArg, cmdImgCommit⟩,
    ⟨0x0103, 3, 2, anyArg, anyArg, anyArg, cmdImgAbort⟩,
    ⟨0x0104, 3, 2, anyArg, anyArg, anyArg, cmdImgActivate⟩,
    ⟨0x0105, 2, 1, 0x3F, anyArg, anyArg, cmdImgRedeliver⟩,
    ⟨0x0201, 1, 1, anyArg, anyArg, 0xFFF, cmdSnapshot⟩,
    ⟨0x0202, 1, 1, anyArg, anyArg, anyArg, cmdSnapRelease⟩,
    ⟨0x0301, 1, 1, anyArg, anyArg, anyArg, cmdTrcArm⟩,
    ⟨0x0302, 1, 1, anyArg, anyArg, anyArg, cmdTrcFire⟩,
    ⟨0x0303, 2, 1, anyArg, anyArg, anyArg, cmdTrcEmResume⟩,
    ⟨0x0401, 1, 1, 0xFF, anyArg, anyArg, cmdScanAbort⟩,
    ⟨0x0402, 1, 1, anyArg, anyArg, anyArg, cmdShardClose⟩,
    ⟨0x0403, 2, 1, 0x3F, anyArg, 0xF0FFF, cmdFpReplay⟩,
    ⟨0x0404, 2, 1, 0x13F, anyArg, anyArg, cmdFpBinClr⟩,
    ⟨0x0501, 2, 2, anyArg, anyArg, anyArg, cmdTeBlobBegin⟩ ] ++
  [ ⟨0x0502, 2, 2, anyArg, anyArg, anyArg, cmdTeBlobEnd⟩,
    ⟨0x0503, 2, 1, anyArg, anyArg, anyArg, cmdTeBlobCheck⟩,
    ⟨0x0601, 3, 1, 0x3F, anyArg, anyArg, cmdVerdReset⟩,
    ⟨0x0602, 2, 1, 0x3F, 0xFFFF, anyArg, cmdVerdAck⟩,
    ⟨0x0603, 2, 1, anyArg, anyArg, anyArg, cmdStart⟩,
    ⟨0x0604, 2, 1, 0x3F, anyArg, anyArg, cmdAbortPost⟩,
    ⟨0x0701, 3, 1, 0x3F, anyArg, anyArg, cmdTallyLoad⟩,
    ⟨0x0702, 3, 1, anyArg, anyArg, anyArg, cmdTallyDump⟩,
    ⟨0x0703, 3, 1, anyArg, anyArg, anyArg, cmdTallyResume⟩,
    ⟨0x0801, 3, 1, 0x3F, anyArg, anyArg, cmdUlRetrain⟩,
    ⟨0x0901, 3, 1, anyArg, anyArg, anyArg, cmdEvrFlush⟩,
    ⟨0x0A01, 3, 2, 0x7, 0x3F, anyArg, cmdBistRun⟩,
    ⟨0x0A02, 3, 2, anyArg, anyArg, anyArg, cmdBistAbort⟩,
    ⟨0x0A03, 3, 3, 0x3, anyArg, anyArg, cmdFuseBurn⟩,
    ⟨0x0A04, 3, 3, 0xFF0F, anyArg, anyArg, cmdCplInject⟩ ]

/-- The row of a code. -/
def cmdOf (code : Nat) : Option CmdDef := commandTable.find? fun c => c.code == code

/-- The verdict of Table 15-3 on a command, in its order, and the state after the effect of one that is DONE. -/
def State.verdict (s : State) (code : Nat) (p : Post) : Nat × State :=
  match cmdOf code with
  | none => (4, s)
  | some c =>
    if p.role.toNat < c.role then (3, s)
    else if p.a0 &&& ~~~ c.m0 ≠ 0 ∨ p.a1 &&& ~~~ c.m1 ≠ 0 ∨ p.a2 &&& ~~~ c.m2 ≠ 0 then (5, s)
    else if !c.grade.testBit (if s.isT then 1 else 0) then (2, s)
    else
      match c.run p s with
      | some t => (1, t)
      | none => (2, s)

/-- CMD_STAT and CMD_HEAT of a judged command (R485); the mailbox is free again when it held this command, and a remote signal
behind the proxied command waits for it no more (R390). -/
def State.setResult (s : State) (code result : Nat) (p : Post) : State :=
  if s.mailPaths.contains p.path.toNat then
    let q := s.path p.path.toNat
    let pend := q.pend && !(q.code.toNat == code && q.token == p.token)
    let s := s.setPath p.path.toNat { q with
      pend := pend, result := BitVec.ofNat 4 result, statTok := p.token, heat := s.heat.heat }
    if p.path = 9 ∧ pend = false then s.remoteFreed false else s
  else s

/-- A command is judged (R485 to R487): its effect begins, or it is refused without one. -/
def State.judge (s : State) (code : Nat) (p : Post) : State :=
  let (r, t) := s.verdict code p
  let t := t.setResult code r p
  if r = 1 then t else t.cmdRefused code r p.path.toNat p.token.toNat p.role.toNat

/-- A command taken at a poll; no poll is made while the engines do not run. -/
def State.command (s : State) (code : Nat) (p : Post) : Host.Outcome State Fault Refusal :=
  .next (if s.running then s.judge code p else s)

/-- The command that waits in the mailbox of path `n`. -/
def State.takePost (s : State) (n : Nat) : State :=
  let q := s.path n
  if q.pend then
    let a (i : Nat) : Word := q.posted.getD i 0
    s.judge q.code.toNat ⟨BitVec.ofNat 4 n, q.postRole, q.token, a 0, a 1, a 2⟩
  else s

/-- COMMAND_POLL (R485, R127): slot 1 of a heat takes the waiting command of every mailbox, in ascending path order, and
latches the analogue sample of the heat that has ended, once. -/
def execCommandPoll (s : State) : Host.Outcome State Fault Refusal :=
  .next (
    if s.running then
      let t := s.oneCycle fun s => s.mailPaths.foldl State.takePost s
      if !t.sns.sample.isEmpty && t.sns.sampleHeat == t.heat.heat - 1 then t else t.latchSense
    else s)

/-- IMG_BEGIN (R74). -/
def execImgBegin (p : Post) (s : State) : Host.Outcome State Fault Refusal := s.command 0x0101 p

/-- IMG_COMMIT (R77). -/
def execImgCommit (p : Post) (s : State) : Host.Outcome State Fault Refusal := s.command 0x0102 p

/-- IMG_ABORT (R77). -/
def execImgAbort (p : Post) (s : State) : Host.Outcome State Fault Refusal := s.command 0x0103 p

/-- IMG_ACTIVATE (R76). -/
def execImgActivate (p : Post) (s : State) : Host.Outcome State Fault Refusal := s.command 0x0104 p

/-- IMG_REDELIVER (R81). -/
def execImgRedeliver (p : Post) (s : State) : Host.Outcome State Fault Refusal := s.command 0x0105 p

/-- SNAPSHOT (R116). -/
def execSnapshot (p : Post) (s : State) : Host.Outcome State Fault Refusal := s.command 0x0201 p

/-- SNAP_RELEASE (R118). -/
def execSnapRelease (p : Post) (s : State) : Host.Outcome State Fault Refusal := s.command 0x0202 p

/-- TRC_ARM (R179). -/
def execTrcArm (p : Post) (s : State) : Host.Outcome State Fault Refusal := s.command 0x0301 p

/-- TRC_FIRE (R177). -/
def execTrcFire (p : Post) (s : State) : Host.Outcome State Fault Refusal := s.command 0x0302 p

/-- TRC_EM_RESUME (R183). -/
def execTrcEmResume (p : Post) (s : State) : Host.Outcome State Fault Refusal := s.command 0x0303 p

/-- SCAN_ABORT (R236). -/
def execScanAbort (p : Post) (s : State) : Host.Outcome State Fault Refusal := s.command 0x0401 p

/-- SHARD_CLOSE (R251). -/
def execShardClose (p : Post) (s : State) : Host.Outcome State Fault Refusal := s.command 0x0402 p

/-- FP_REPLAY (R265). -/
def execFpReplay (p : Post) (s : State) : Host.Outcome State Fault Refusal := s.command 0x0403 p

/-- FP_BIN_CLR (R267). -/
def execFpBinClr (p : Post) (s : State) : Host.Outcome State Fault Refusal := s.command 0x0404 p

/-- TE_BLOB_BEGIN (R325). -/
def execTeBlobBegin (p : Post) (s : State) : Host.Outcome State Fault Refusal := s.command 0x0501 p

/-- TE_BLOB_END (R325). -/
def execTeBlobEnd (p : Post) (s : State) : Host.Outcome State Fault Refusal := s.command 0x0502 p

/-- TE_BLOB_CHECK (R325). -/
def execTeBlobCheck (p : Post) (s : State) : Host.Outcome State Fault Refusal := s.command 0x0503 p

/-- VERD_RESET (R351). -/
def execVerdReset (p : Post) (s : State) : Host.Outcome State Fault Refusal := s.command 0x0601 p

/-- VERD_ACK (R370). -/
def execVerdAck (p : Post) (s : State) : Host.Outcome State Fault Refusal := s.command 0x0602 p

/-- START (R364). -/
def execStart (p : Post) (s : State) : Host.Outcome State Fault Refusal := s.command 0x0603 p

/-- ABORT_POST (R367). -/
def execAbortPost (p : Post) (s : State) : Host.Outcome State Fault Refusal := s.command 0x0604 p

/-- TALLY_LOAD (R399). -/
def execTallyLoad (p : Post) (s : State) : Host.Outcome State Fault Refusal := s.command 0x0701 p

/-- TALLY_DUMP (R392). -/
def execTallyDump (p : Post) (s : State) : Host.Outcome State Fault Refusal := s.command 0x0702 p

/-- TALLY_RESUME (R394). -/
def execTallyResume (p : Post) (s : State) : Host.Outcome State Fault Refusal := s.command 0x0703 p

/-- UL_RETRAIN (R440). -/
def execUlRetrain (p : Post) (s : State) : Host.Outcome State Fault Refusal := s.command 0x0801 p

/-- EVR_FLUSH (R494). -/
def execEvrFlush (p : Post) (s : State) : Host.Outcome State Fault Refusal := s.command 0x0901 p

/-- BIST_RUN (R520). -/
def execBistRun (p : Post) (s : State) : Host.Outcome State Fault Refusal := s.command 0x0A01 p

/-- BIST_ABORT (R520). -/
def execBistAbort (p : Post) (s : State) : Host.Outcome State Fault Refusal := s.command 0x0A02 p

/-- FUSE_BURN (R523). -/
def execFuseBurn (p : Post) (s : State) : Host.Outcome State Fault Refusal := s.command 0x0A03 p

/-- CPL_INJECT (R510). -/
def execCplInject (p : Post) (s : State) : Host.Outcome State Fault Refusal := s.command 0x0A04 p

end Sys2Proof.Machine
end

