-- ==== Sys2Proof/Machine/Dispatch.lean ====
section
/-! DEFINITION. One arm per command: its meaning, or its rejection by name. -/

namespace Sys2Proof.Machine

open Sys2Proof

def exec (i : Instr) (s : State) : Host.Outcome State Fault Refusal :=
  match i with
  | .aonReset release => Sys2Proof.Machine.execAonReset release s
  | .blockResetAssert => Sys2Proof.Machine.execBlockResetAssert s
  | .resetRelease gradeSel x2 pkg die lp5 stable => Sys2Proof.Machine.execResetRelease gradeSel x2 pkg die lp5 stable s
  | .corePgChange level => Sys2Proof.Machine.execCorePgChange level s
  | .fuseWordRead answer => Sys2Proof.Machine.execFuseWordRead answer s
  | .fusePhaseEnd us => Sys2Proof.Machine.execFusePhaseEnd us s
  | .memoryBistGroupDone group failing => Sys2Proof.Machine.execMemoryBistGroupDone group failing s
  | .analogueBistDone failures => Sys2Proof.Machine.execAnalogueBistDone failures s
  | .bistPhaseEnd us => Sys2Proof.Machine.execBistPhaseEnd us s
  | .sfdpDiscovery dev => Sys2Proof.Machine.execSfdpDiscovery dev s
  | .recorderStartupScan => Sys2Proof.Machine.execRecorderStartupScan s
  | .lpddr5xInit failStep => Sys2Proof.Machine.execLpddr5xInit failStep s
  | .storePhaseEnd us => Sys2Proof.Machine.execStorePhaseEnd us s
  | .raRequest wr be ofs wdata tag => Sys2Proof.Machine.execRaRequest wr be ofs wdata tag s
  | .registerWrite a off mem => Sys2Proof.Machine.execRegisterWrite a off mem s
  | .errStickyClear a n => Sys2Proof.Machine.execErrStickyClear a n s
  | .wc2Stage a off => Sys2Proof.Machine.execWc2Stage a off s
  | .polRuleCommit a n w => Sys2Proof.Machine.execPolRuleCommit a n w s
  | .detThresholdCommit a n hi => Sys2Proof.Machine.execDetThresholdCommit a n hi s
  | .drnEnCommit a hi => Sys2Proof.Machine.execDrnEnCommit a hi s
  | .tbRateCommit a => Sys2Proof.Machine.execTbRateCommit a s
  | .cntLiveRead a => Sys2Proof.Machine.execCntLiveRead a s
  | .snapshotBankRead a n perr => Sys2Proof.Machine.execSnapshotBankRead a n perr s
  | .cntSnapRead a => Sys2Proof.Machine.execCntSnapRead a s
  | .tbStrokeRead a => Sys2Proof.Machine.execTbStrokeRead a s
  | .trcRdSelWrite a => Sys2Proof.Machine.execTrcRdSelWrite a s
  | .ledgerRdRead a => Sys2Proof.Machine.execLedgerRdRead a s
  | .scnChLastIdRead a c => Sys2Proof.Machine.execScnChLastIdRead a c s
  | .skSelWrite a => Sys2Proof.Machine.execSkSelWrite a s
  | .stStepRead a => Sys2Proof.Machine.execStStepRead a s
  | .teScoreHeatRead a => Sys2Proof.Machine.execTeScoreHeatRead a s
  | .teFselWrite a => Sys2Proof.Machine.execTeFselWrite a s
  | .detSelWrite a => Sys2Proof.Machine.execDetSelWrite a s
  | .tlyDumpRead a => Sys2Proof.Machine.execTlyDumpRead a s
  | .tulStateRead a k => Sys2Proof.Machine.execTulStateRead a k s
  | .evrSelWrite a => Sys2Proof.Machine.execEvrSelWrite a s
  | .evrReadDone => Sys2Proof.Machine.execEvrReadDone s
  | .imgDataWrite a => Sys2Proof.Machine.execImgDataWrite a s
  | .teBlobDataWrite a => Sys2Proof.Machine.execTeBlobDataWrite a s
  | .scnPost a => Sys2Proof.Machine.execScnPost a s
  | .shdArmWrite a n => Sys2Proof.Machine.execShdArmWrite a n s
  | .tlyAddWrite a n => Sys2Proof.Machine.execTlyAddWrite a n s
  | .tlyRemoteWrite a => Sys2Proof.Machine.execTlyRemoteWrite a s
  | .tlyCfgWrite a n => Sys2Proof.Machine.execTlyCfgWrite a n s
  | .tlyBindWrite a j => Sys2Proof.Machine.execTlyBindWrite a j s
  | .tlyCtrlWrite a => Sys2Proof.Machine.execTlyCtrlWrite a s
  | .umpJobliveWrite a hi => Sys2Proof.Machine.execUmpJobliveWrite a hi s
  | .capEnWrite a => Sys2Proof.Machine.execCapEnWrite a s
  | .tbCtrlWrite a => Sys2Proof.Machine.execTbCtrlWrite a s
  | .nbGateChgWrite a p => Sys2Proof.Machine.execNbGateChgWrite a p s
  | .nbT1sIdWrite a => Sys2Proof.Machine.execNbT1sIdWrite a s
  | .roleRequestHigher a tooSoon => Sys2Proof.Machine.execRoleRequestHigher a tooSoon s
  | .roleRequestLower a => Sys2Proof.Machine.execRoleRequestLower a s
  | .roleResponseWrite a => Sys2Proof.Machine.execRoleResponseWrite a s
  | .roleCheckDone path => Sys2Proof.Machine.execRoleCheckDone path s
  | .commandPost a => Sys2Proof.Machine.execCommandPost a s
  | .commandPoll => Sys2Proof.Machine.execCommandPoll s
  | .imgBegin p => Sys2Proof.Machine.execImgBegin p s
  | .imgCommit p => Sys2Proof.Machine.execImgCommit p s
  | .imgAbort p => Sys2Proof.Machine.execImgAbort p s
  | .imgActivate p => Sys2Proof.Machine.execImgActivate p s
  | .imgRedeliver p => Sys2Proof.Machine.execImgRedeliver p s
  | .snapshot p => Sys2Proof.Machine.execSnapshot p s
  | .snapRelease p => Sys2Proof.Machine.execSnapRelease p s
  | .trcArm p => Sys2Proof.Machine.execTrcArm p s
  | .trcFire p => Sys2Proof.Machine.execTrcFire p s
  | .trcEmResume p => Sys2Proof.Machine.execTrcEmResume p s
  | .scanAbort p => Sys2Proof.Machine.execScanAbort p s
  | .shardClose p => Sys2Proof.Machine.execShardClose p s
  | .fpReplay p => Sys2Proof.Machine.execFpReplay p s
  | .fpBinClr p => Sys2Proof.Machine.execFpBinClr p s
  | .teBlobBegin p => Sys2Proof.Machine.execTeBlobBegin p s
  | .teBlobEnd p => Sys2Proof.Machine.execTeBlobEnd p s
  | .teBlobCheck p => Sys2Proof.Machine.execTeBlobCheck p s
  | .verdReset p => Sys2Proof.Machine.execVerdReset p s
  | .verdAck p => Sys2Proof.Machine.execVerdAck p s
  | .start p => Sys2Proof.Machine.execStart p s
  | .abortPost p => Sys2Proof.Machine.execAbortPost p s
  | .tallyLoad p => Sys2Proof.Machine.execTallyLoad p s
  | .tallyDump p => Sys2Proof.Machine.execTallyDump p s
  | .tallyResume p => Sys2Proof.Machine.execTallyResume p s
  | .ulRetrain p => Sys2Proof.Machine.execUlRetrain p s
  | .evrFlush p => Sys2Proof.Machine.execEvrFlush p s
  | .bistRun p => Sys2Proof.Machine.execBistRun p s
  | .bistAbort p => Sys2Proof.Machine.execBistAbort p s
  | .fuseBurn p => Sys2Proof.Machine.execFuseBurn p s
  | .cplInject p => Sys2Proof.Machine.execCplInject p s
  | .heatBoundary meas unfinished => Sys2Proof.Machine.execHeatBoundary meas unfinished s
  | .substituteHeatBoundary unfinished => Sys2Proof.Machine.execSubstituteHeatBoundary unfinished s
  | .periodicBuoy slot => Sys2Proof.Machine.execPeriodicBuoy slot s
  | .activateBuoy => Sys2Proof.Machine.execActivateBuoy s
  | .alignmentSlot => Sys2Proof.Machine.execAlignmentSlot s
  | .fpWaitExpiry => Sys2Proof.Machine.execFpWaitExpiry s
  | .stepWaitExpiry => Sys2Proof.Machine.execStepWaitExpiry s
  | .fpRplTmoExpiry rec => Sys2Proof.Machine.execFpRplTmoExpiry rec s
  | .crossingTransfer d toCore value => Sys2Proof.Machine.execCrossingTransfer d toCore value s
  | .crossingTimeout d => Sys2Proof.Machine.execCrossingTimeout d s
  | .crossingRearm d => Sys2Proof.Machine.execCrossingRearm d s
  | .lpReqRise r => Sys2Proof.Machine.execLpReqRise r s
  | .lpAckRise r => Sys2Proof.Machine.execLpAckRise r s
  | .lpReqFall r => Sys2Proof.Machine.execLpReqFall r s
  | .lpAckFall r => Sys2Proof.Machine.execLpAckFall r s
  | .dormancyExit r => Sys2Proof.Machine.execDormancyExit r s
  | .probeSample r probes => Sys2Proof.Machine.execProbeSample r probes s
  | .counterTransfer n => Sys2Proof.Machine.execCounterTransfer n s
  | .holdBegin => Sys2Proof.Machine.execHoldBegin s
  | .holdEnd => Sys2Proof.Machine.execHoldEnd s
  | .clusterSampleBuild c perr => Sys2Proof.Machine.execClusterSampleBuild c perr s
  | .analogueSampleSend => Sys2Proof.Machine.execAnalogueSampleSend s
  | .divisorChange region idx => Sys2Proof.Machine.execDivisorChange region idx s
  | .senseConversion code openOrShort => Sys2Proof.Machine.execSenseConversion code openOrShort s
  | .roscWindowOpen r => Sys2Proof.Machine.execRoscWindowOpen r s
  | .roscWindowClose r count => Sys2Proof.Machine.execRoscWindowClose r count s
  | .droopExcursion r depth => Sys2Proof.Machine.execDroopExcursion r depth s
  | .strokeAdvance phase => Sys2Proof.Machine.execStrokeAdvance phase s
  | .strokeLoad phase value => Sys2Proof.Machine.execStrokeLoad phase value s
  | .ptpSync port h t2 originTs => Sys2Proof.Machine.execPtpSync port h t2 originTs s
  | .ptpFollowUp h preciseTs => Sys2Proof.Machine.execPtpFollowUp h preciseTs s
  | .ptpDelayReqSend t3 => Sys2Proof.Machine.execPtpDelayReqSend t3 s
  | .ptpDelayResp h forUs t4 => Sys2Proof.Machine.execPtpDelayResp h forUs t4 s
  | .ptpAnnounce h ds utcValid utcOfs => Sys2Proof.Machine.execPtpAnnounce h ds utcValid utcOfs s
  | .holdoverEntry syncTmo => Sys2Proof.Machine.execHoldoverEntry syncTmo s
  | .ttRound => Sys2Proof.Machine.execTtRound s
  | .ttReq xn t2 t3 => Sys2Proof.Machine.execTtReq xn t2 t3 s
  | .ttResp k xn t1 t2 t3 t4 => Sys2Proof.Machine.execTtResp k xn t1 t2 t3 t4 s
  | .slipNotice set theta => Sys2Proof.Machine.execSlipNotice set theta s
  | .strokeJump k j loaded heat => Sys2Proof.Machine.execStrokeJump k j loaded heat s
  | .tapTransfer tap value edges ofs => Sys2Proof.Machine.execTapTransfer tap value edges ofs s
  | .traceWriterSlot => Sys2Proof.Machine.execTraceWriterSlot s
  | .traceDump => Sys2Proof.Machine.execTraceDump s
  | .traceSpill die => Sys2Proof.Machine.execTraceSpill die s
  | .trcBlock k frame => Sys2Proof.Machine.execTrcBlock k frame s
  | .eventMachineTransition n ofs => Sys2Proof.Machine.execEventMachineTransition n ofs s
  | .traceFreeze => Sys2Proof.Machine.execTraceFreeze s
  | .trcFireFlit ofs => Sys2Proof.Machine.execTrcFireFlit ofs s
  | .frame k bytes => Sys2Proof.Machine.execFrame k bytes s
  | .keyReq kind fsid => Sys2Proof.Machine.execKeyReq kind fsid s
  | .ratioWindow kind => Sys2Proof.Machine.execRatioWindow kind s
  | .descriptorStart c => Sys2Proof.Machine.execDescriptorStart c s
  | .scanReadBuild c => Sys2Proof.Machine.execScanReadBuild c s
  | .scanReadIssue lane => Sys2Proof.Machine.execScanReadIssue lane s
  | .scanReturn lane tag data psn perr => Sys2Proof.Machine.execScanReturn lane tag data psn perr s
  | .checkUnitDone => Sys2Proof.Machine.execCheckUnitDone s
  | .segmentFold c => Sys2Proof.Machine.execSegmentFold c s
  | .scanTimeout c entry => Sys2Proof.Machine.execScanTimeout c entry s
  | .ledgerSlot => Sys2Proof.Machine.execLedgerSlot s
  | .catchMark step => Sys2Proof.Machine.execCatchMark step s
  | .finishMark step => Sys2Proof.Machine.execFinishMark step s
  | .fpReport k entry => Sys2Proof.Machine.execFpReport k entry s
  | .shardReport k body => Sys2Proof.Machine.execShardReport k body s
  | .replayReq step obj kind num => Sys2Proof.Machine.execReplayReq step obj kind num s
  | .replayHandshake => Sys2Proof.Machine.execReplayHandshake s
  | .replayAckRise ok => Sys2Proof.Machine.execReplayAckRise ok s
  | .replayNoAck => Sys2Proof.Machine.execReplayNoAck s
  | .replayAckFall => Sys2Proof.Machine.execReplayAckFall s
  | .replayAccept k step nums => Sys2Proof.Machine.execReplayAccept k step nums s
  | .replayRefused k step nums cause => Sys2Proof.Machine.execReplayRefused k step nums cause s
  | .heatHdr k body => Sys2Proof.Machine.execHeatHdr k body s
  | .ovrMark k heat producer nrepl => Sys2Proof.Machine.execOvrMark k heat producer nrepl s
  | .detrec k body => Sys2Proof.Machine.execDetrec k body s
  | .reductionRun => Sys2Proof.Machine.execReductionRun s
  | .sketchExport => Sys2Proof.Machine.execSketchExport s
  | .treeScoring late ces ues => Sys2Proof.Machine.execTreeScoring late ces ues s
  | .streamWindowLoad => Sys2Proof.Machine.execStreamWindowLoad s
  | .blobCheckDone readErr => Sys2Proof.Machine.execBlobCheckDone readErr s
  | .blobCopyDone => Sys2Proof.Machine.execBlobCopyDone s
  | .teModelReady => Sys2Proof.Machine.execTeModelReady s
  | .detectorUpdate => Sys2Proof.Machine.execDetectorUpdate s
  | .umpireEvaluation => Sys2Proof.Machine.execUmpireEvaluation s
  | .drainSend die => Sys2Proof.Machine.execDrainSend die s
  | .drain => Sys2Proof.Machine.execDrain s
  | .drainAckChange level => Sys2Proof.Machine.execDrainAckChange level s
  | .drainState k st stroke => Sys2Proof.Machine.execDrainState k st stroke s
  | .drainTimeout die => Sys2Proof.Machine.execDrainTimeout die s
  | .drainClear => Sys2Proof.Machine.execDrainClear s
  | .lendSet => Sys2Proof.Machine.execLendSet s
  | .lendClr => Sys2Proof.Machine.execLendClr s
  | .verdictRepeat die => Sys2Proof.Machine.execVerdictRepeat die s
  | .livenessDisagree die => Sys2Proof.Machine.execLivenessDisagree die s
  | .livenessAgree die => Sys2Proof.Machine.execLivenessAgree die s
  | .startFlit id deadline => Sys2Proof.Machine.execStartFlit id deadline s
  | .startAck k id late => Sys2Proof.Machine.execStartAck k id late s
  | .startTimeout => Sys2Proof.Machine.execStartTimeout s
  | .abortReq coll => Sys2Proof.Machine.execAbortReq coll s
  | .abortFlit k coll origin stroke => Sys2Proof.Machine.execAbortFlit k coll origin stroke s
  | .abortFrame port coll origin stroke => Sys2Proof.Machine.execAbortFrame port coll origin stroke s
  | .fastEvt k n stroke heat => Sys2Proof.Machine.execFastEvt k n stroke heat s
  | .tallySignal lane id inc => Sys2Proof.Machine.execTallySignal lane id inc s
  | .heldSignalApply lane => Sys2Proof.Machine.execHeldSignalApply lane s
  | .tallyWait w id tgt => Sys2Proof.Machine.execTallyWait w id tgt s
  | .tallyRelease w => Sys2Proof.Machine.execTallyRelease w s
  | .tallyWaitWithdraw w => Sys2Proof.Machine.execTallyWaitWithdraw w s
  | .tallySig k dest tally inc sender => Sys2Proof.Machine.execTallySig k dest tally inc sender s
  | .remoteSignalApply => Sys2Proof.Machine.execRemoteSignalApply s
  | .waitLong w => Sys2Proof.Machine.execWaitLong w s
  | .tallyWatchdog => Sys2Proof.Machine.execTallyWatchdog s
  | .tallyTaskEnd mask => Sys2Proof.Machine.execTallyTaskEnd mask s
  | .hangDump k dump => Sys2Proof.Machine.execHangDump k dump s
  | .phyResetTimer k => Sys2Proof.Machine.execPhyResetTimer k s
  | .rxLockChange k lock => Sys2Proof.Machine.execRxLockChange k lock s
  | .cap k words => Sys2Proof.Machine.execCap k words s
  | .trainingCheck k fofsAvg => Sys2Proof.Machine.execTrainingCheck k fofsAvg s
  | .trainingTimeout k => Sys2Proof.Machine.execTrainingTimeout k s
  | .failedHoldEnd k => Sys2Proof.Machine.execFailedHoldEnd k s
  | .flitSlot k ue => Sys2Proof.Machine.execFlitSlot k ue s
  | .flitReceive k pairing d => Sys2Proof.Machine.execFlitReceive k pairing d s
  | .nak k nseq => Sys2Proof.Machine.execNak k nseq s
  | .keepaliveDue k => Sys2Proof.Machine.execKeepaliveDue k s
  | .keepaliveLoss k => Sys2Proof.Machine.execKeepaliveLoss k s
  | .flitReplayTimeout k => Sys2Proof.Machine.execFlitReplayTimeout k s
  | .creditLeak k vc => Sys2Proof.Machine.execCreditLeak k vc s
  | .messageDelivery k vc => Sys2Proof.Machine.execMessageDelivery k vc s
  | .proxyAccess src wr off data => Sys2Proof.Machine.execProxyAccess src wr off data s
  | .proxyReq tag flags off data => Sys2Proof.Machine.execProxyReq tag flags off data s
  | .proxyExecute => Sys2Proof.Machine.execProxyExecute s
  | .proxyRsp k tag status data => Sys2Proof.Machine.execProxyRsp k tag status data s
  | .imageActive k digest ver src heat period phase stroke => Sys2Proof.Machine.execImageActive k digest ver src heat period phase stroke s
  | .imgOffer digest len => Sys2Proof.Machine.execImgOffer digest len s
  | .imgOfferRepeat k => Sys2Proof.Machine.execImgOfferRepeat k s
  | .imgSect off bytes => Sys2Proof.Machine.execImgSect off bytes s
  | .deliverySectionSend => Sys2Proof.Machine.execDeliverySectionSend s
  | .imageCheckDone => Sys2Proof.Machine.execImageCheckDone s
  | .nvWriteComplete failStep => Sys2Proof.Machine.execNvWriteComplete failStep s
  | .imageActivation => Sys2Proof.Machine.execImageActivation s
  | .ethFrameReceive port f => Sys2Proof.Machine.execEthFrameReceive port f s
  | .regReq port src reqid entries => Sys2Proof.Machine.execRegReq port src reqid entries s
  | .regReqEntry place => Sys2Proof.Machine.execRegReqEntry place s
  | .egressFrameSelect port t => Sys2Proof.Machine.execEgressFrameSelect port t s
  | .gateEntryStart port entry busy => Sys2Proof.Machine.execGateEntryStart port entry busy s
  | .gateChangeTime port busy => Sys2Proof.Machine.execGateChangeTime port busy s
  | .nbPortState port up fecLock => Sys2Proof.Machine.execNbPortState port up fecLock s
  | .t1sFrameReceive f => Sys2Proof.Machine.execT1sFrameReceive f s
  | .discoverSend => Sys2Proof.Machine.execDiscoverSend s
  | .discover src node tray => Sys2Proof.Machine.execDiscover src node tray s
  | .echoExchange peer => Sys2Proof.Machine.execEchoExchange peer s
  | .echoReq src xn => Sys2Proof.Machine.execEchoReq src xn s
  | .echoRsp src xn turnNs rttCycles => Sys2Proof.Machine.execEchoRsp src xn turnNs rttCycles s
  | .plcaModeChange plca => Sys2Proof.Machine.execPlcaModeChange plca s
  | .flashOperationDone op ok => Sys2Proof.Machine.execFlashOperationDone op ok s
  | .sessionFree sess => Sys2Proof.Machine.execSessionFree sess s
  | .roleTimeout path => Sys2Proof.Machine.execRoleTimeout path s
  | .nonceExpiry path => Sys2Proof.Machine.execNonceExpiry path s
  | .roleLockEnd all path => Sys2Proof.Machine.execRoleLockEnd all path s
  | .recFlushSend older1s => Sys2Proof.Machine.execRecFlushSend older1s s
  | .recFlush k places => Sys2Proof.Machine.execRecFlush k places s
  | .recorderFlush older60s => Sys2Proof.Machine.execRecorderFlush older60s s
  | .odometerEntry => Sys2Proof.Machine.execOdometerEntry s
  | .odometerSectorErase => Sys2Proof.Machine.execOdometerSectorErase s
  | .complementFault item index => Sys2Proof.Machine.execComplementFault item index s
  | .inServiceBistDone repaired unrepaired failures => Sys2Proof.Machine.execInServiceBistDone repaired unrepaired failures s
  | .fuseBitProgram err => Sys2Proof.Machine.execFuseBitProgram err s
  | .fuseBurnDone readback => Sys2Proof.Machine.execFuseBurnDone readback s
  | .blkPdReq level => Sys2Proof.Machine.execBlkPdReq level s
  | .blkPdAck outstanding => Sys2Proof.Machine.execBlkPdAck outstanding s
  | .powerFailSignal pfIn => Sys2Proof.Machine.execPowerFailSignal pfIn s
  | .powerFailFlushDone => Sys2Proof.Machine.execPowerFailFlushDone s
  | .powerFailEnd ms => Sys2Proof.Machine.execPowerFailEnd ms s
  | .holdupMeasurement code => Sys2Proof.Machine.execHoldupMeasurement code s
  | .holdupMeasurementEnd below => Sys2Proof.Machine.execHoldupMeasurementEnd below s
  | .exfinRegUpdate v => Sys2Proof.Machine.execExfinRegUpdate v s
  | .transmitOpportunity evidence => Sys2Proof.Machine.execTransmitOpportunity evidence s
  | .jtTrst => Sys2Proof.Machine.execJtTrst s

end Sys2Proof.Machine
end

