-- ==== Sys2Proof/Safety.lean ====
section
/-! DEFINITION. What the statements say about a step: that it completes, which parts of the block it leaves alone, and the
canonical form of the two memory devices. -/

namespace Sys2Proof.Machine

/-- The command answers a next state. -/
def Completes (i : Instr) (s : State) : Prop := ∃ t, exec i s = .next t

/-- The parts of the block, one per field of State. -/
inductive Part where
  | sys
  | pwr
  | fuse
  | bist
  | integ
  | heat
  | ld
  | tray
  | prb
  | creg
  | sns
  | tb
  | ptp
  | tt
  | trc
  | ttrc
  | cmp
  | scn
  | led
  | fpc
  | red
  | inr
  | te
  | ump
  | tly
  | ul
  | nb
  | roles
  | evr
  | test
  | rw
  | wc2
  | flash
  | lp5
  | pending
deriving DecidableEq, Repr

/-- The part is the same in both states. -/
def Part.same (p : Part) (s t : State) : Prop :=
  match p with
  | .sys => s.sys = t.sys
  | .pwr => s.pwr = t.pwr
  | .fuse => s.fuse = t.fuse
  | .bist => s.bist = t.bist
  | .integ => s.integ = t.integ
  | .heat => s.heat = t.heat
  | .ld => s.ld = t.ld
  | .tray => s.tray = t.tray
  | .prb => s.prb = t.prb
  | .creg => s.creg = t.creg
  | .sns => s.sns = t.sns
  | .tb => s.tb = t.tb
  | .ptp => s.ptp = t.ptp
  | .tt => s.tt = t.tt
  | .trc => s.trc = t.trc
  | .ttrc => s.ttrc = t.ttrc
  | .cmp => s.cmp = t.cmp
  | .scn => s.scn = t.scn
  | .led => s.led = t.led
  | .fpc => s.fpc = t.fpc
  | .red => s.red = t.red
  | .inr => s.inr = t.inr
  | .te => s.te = t.te
  | .ump => s.ump = t.ump
  | .tly => s.tly = t.tly
  | .ul => s.ul = t.ul
  | .nb => s.nb = t.nb
  | .roles => s.roles = t.roles
  | .evr => s.evr = t.evr
  | .test => s.test = t.test
  | .rw => s.rw = t.rw
  | .wc2 => s.wc2 = t.wc2
  | .flash => s.flash = t.flash
  | .lp5 => s.lp5 = t.lp5
  | .pending => s.pending = t.pending

/-- Every part but those listed is the same in both states. -/
def Unchanged (but : List Part) (s t : State) : Prop := ∀ p, p ∉ but → p.same s t

/-- A write at `off` that needs the role `need` takes effect: engines run, all four lanes are written (R13), path 9 keeps out
of the identity and role-gate registers (R463), and the path's role allows it (R474). -/
abbrev Allowed (s : State) (a : Acc) (off need : Nat) : Prop :=
  s.running = true ∧ a.be = 0xF ∧ ¬(a.path = 9 ∧ off < 0x1000) ∧ need ≤ s.roleOf a

/-- The flash device and the LPDDR5X devices are in canonical form. -/
def State.memWf (s : State) : Bool := Memory.wf flashErased s.flash && Memory.wf 0 s.lp5

end Sys2Proof.Machine
end

