-- ==== Sys2Proof/WellFormed.lean ====
section
/-! DEFINITION. Which commands a sender can send at all: the lengths, ranges and alignments the spec gives the operands
beyond what their widths say. What the block does with a command is the machine's business, not this file's. -/

namespace Sys2Proof

/-- The memories of Table 16-5 are numbered 1 to 9. -/
def MacroResult.wf (r : MacroResult) : Bool := decide (1 ≤ r.mem.toNat ∧ r.mem.toNat ≤ 9)

/-- The NV write has six steps (R89). -/
def FlashOp.wf (op : FlashOp) : Bool :=
  match op with
  | .nvStep n => decide (1 ≤ n.toNat ∧ n.toNat ≤ 6)
  | .recProgram => true
  | .recErase => true
  | .odoProgram => true
  | .odoErase => true

/-- The paths of Table 15-1 that hold a role state of their own: 0, the host sessions 1 to 8, and the test access 10. -/
def pathHasRole (p : BitVec 4) : Bool := decide (p.toNat ≤ 8 ∨ p.toNat = 10)

/-- A command that can be sent: flits of 64 bytes and messages of at most 4,264 (R405, R407), the lengths of Table 13-6,
tallies 0 to 47 (R377), domains 0 to 39, 1 to 64 entries of a REG_REQ (R448), places of 32 bytes (R489), halves of 128
bytes (R219), and register words at multiples of 4 (R13). -/
def Instr.wf (i : Instr) : Bool :=
  match i with
  | .aonReset _ => true
  | .blockResetAssert => true
  | .resetRelease _ _ _ _ _ _ => true
  | .corePgChange _ => true
  | .fuseWordRead _ => true
  | .fusePhaseEnd _ => true
  | .memoryBistGroupDone _ failing => failing.all MacroResult.wf
  | .analogueBistDone _ => true
  | .bistPhaseEnd _ => true
  | .sfdpDiscovery _ => true
  | .recorderStartupScan => true
  | .lpddr5xInit _ => true
  | .storePhaseEnd _ => true
  | .raRequest _ _ _ _ _ => true
  | .registerWrite _ off _ => decide (off.toNat % 4 = 0)
  | .errStickyClear _ _ => true
  | .wc2Stage _ off => decide (off.toNat % 8 = 0)
  | .polRuleCommit _ _ _ => true
  | .detThresholdCommit _ _ _ => true
  | .drnEnCommit _ _ => true
  | .tbRateCommit _ => true
  | .cntLiveRead _ => true
  | .snapshotBankRead _ _ _ => true
  | .cntSnapRead _ => true
  | .tbStrokeRead _ => true
  | .trcRdSelWrite _ => true
  | .ledgerRdRead _ => true
  | .scnChLastIdRead _ _ => true
  | .skSelWrite _ => true
  | .stStepRead _ => true
  | .teScoreHeatRead _ => true
  | .teFselWrite _ => true
  | .detSelWrite _ => true
  | .tlyDumpRead _ => true
  | .tulStateRead _ _ => true
  | .evrSelWrite _ => true
  | .evrReadDone => true
  | .imgDataWrite _ => true
  | .teBlobDataWrite _ => true
  | .scnPost _ => true
  | .shdArmWrite _ _ => true
  | .tlyAddWrite _ n => decide (n.toNat < 48)
  | .tlyRemoteWrite _ => true
  | .tlyCfgWrite _ n => decide (n.toNat < 48)
  | .tlyBindWrite _ _ => true
  | .tlyCtrlWrite _ => true
  | .umpJobliveWrite _ _ => true
  | .capEnWrite _ => true
  | .tbCtrlWrite _ => true
  | .nbGateChgWrite _ _ => true
  | .nbT1sIdWrite _ => true
  | .roleRequestHigher _ _ => true
  | .roleRequestLower _ => true
  | .roleResponseWrite _ => true
  | .roleCheckDone path => pathHasRole path
  | .commandPost _ => true
  | .commandPoll => true
  | .imgBegin _ => true
  | .imgCommit _ => true
  | .imgAbort _ => true
  | .imgActivate _ => true
  | .imgRedeliver _ => true
  | .snapshot _ => true
  | .snapRelease _ => true
  | .trcArm _ => true
  | .trcFire _ => true
  | .trcEmResume _ => true
  | .scanAbort _ => true
  | .shardClose _ => true
  | .fpReplay _ => true
  | .fpBinClr _ => true
  | .teBlobBegin _ => true
  | .teBlobEnd _ => true
  | .teBlobCheck _ => true
  | .verdReset _ => true
  | .verdAck _ => true
  | .start _ => true
  | .abortPost _ => true
  | .tallyLoad _ => true
  | .tallyDump _ => true
  | .tallyResume _ => true
  | .ulRetrain _ => true
  | .evrFlush _ => true
  | .bistRun _ => true
  | .bistAbort _ => true
  | .fuseBurn _ => true
  | .cplInject _ => true
  | .heatBoundary _ _ => true
  | .substituteHeatBoundary _ => true
  | .periodicBuoy _ => true
  | .activateBuoy => true
  | .alignmentSlot => true
  | .fpWaitExpiry => true
  | .stepWaitExpiry => true
  | .fpRplTmoExpiry _ => true
  | .crossingTransfer d _ _ => decide (d.toNat < 40)
  | .crossingTimeout d => decide (d.toNat < 40)
  | .crossingRearm d => decide (d.toNat < 40)
  | .lpReqRise _ => true
  | .lpAckRise _ => true
  | .lpReqFall _ => true
  | .lpAckFall _ => true
  | .dormancyExit _ => true
  | .probeSample _ _ => true
  | .counterTransfer _ => true
  | .holdBegin => true
  | .holdEnd => true
  | .clusterSampleBuild _ _ => true
  | .analogueSampleSend => true
  | .divisorChange _ _ => true
  | .senseConversion _ _ => true
  | .roscWindowOpen _ => true
  | .roscWindowClose _ _ => true
  | .droopExcursion _ _ => true
  | .strokeAdvance _ => true
  | .strokeLoad _ _ => true
  | .ptpSync _ _ _ _ => true
  | .ptpFollowUp _ _ => true
  | .ptpDelayReqSend _ => true
  | .ptpDelayResp _ _ _ => true
  | .ptpAnnounce _ _ _ _ => true
  | .holdoverEntry _ => true
  | .ttRound => true
  | .ttReq _ _ _ => true
  | .ttResp _ _ _ _ _ _ => true
  | .slipNotice _ _ => true
  | .strokeJump _ _ _ _ => true
  | .tapTransfer _ _ _ _ => true
  | .traceWriterSlot => true
  | .traceDump => true
  | .traceSpill _ => true
  | .trcBlock _ fr => decide (fr.length ≤ 4264)
  | .eventMachineTransition _ _ => true
  | .traceFreeze => true
  | .trcFireFlit _ => true
  | .frame _ bytes => decide (bytes.length ≤ 4264)
  | .keyReq _ _ => true
  | .ratioWindow _ => true
  | .descriptorStart _ => true
  | .scanReadBuild _ => true
  | .scanReadIssue _ => true
  | .scanReturn _ _ data _ _ => decide (data.length = 128 ∨ data.length = 256)
  | .checkUnitDone => true
  | .segmentFold _ => true
  | .scanTimeout _ _ => true
  | .ledgerSlot => true
  | .catchMark _ => true
  | .finishMark _ => true
  | .fpReport _ entry => decide (entry.length = 48)
  | .shardReport _ body => decide (16 ≤ body.length ∧ body.length ≤ 4264 ∧ body.length % 4 = 0)
  | .replayReq _ _ _ _ => true
  | .replayHandshake => true
  | .replayAckRise _ => true
  | .replayNoAck => true
  | .replayAckFall => true
  | .replayAccept _ _ nums => decide (1 ≤ nums.length ∧ nums.length ≤ 8)
  | .replayRefused _ _ nums _ => decide (1 ≤ nums.length ∧ nums.length ≤ 8)
  | .heatHdr _ body => decide (body.length ≤ 4264)
  | .ovrMark _ _ _ _ => true
  | .detrec _ body => decide (body.length ≤ 4264)
  | .reductionRun => true
  | .sketchExport => true
  | .treeScoring _ _ _ => true
  | .streamWindowLoad => true
  | .blobCheckDone _ => true
  | .blobCopyDone => true
  | .teModelReady => true
  | .detectorUpdate => true
  | .umpireEvaluation => true
  | .drainSend _ => true
  | .drain => true
  | .drainAckChange _ => true
  | .drainState _ _ _ => true
  | .drainTimeout _ => true
  | .drainClear => true
  | .lendSet => true
  | .lendClr => true
  | .verdictRepeat _ => true
  | .livenessDisagree _ => true
  | .livenessAgree _ => true
  | .startFlit _ _ => true
  | .startAck _ _ _ => true
  | .startTimeout => true
  | .abortReq _ => true
  | .abortFlit _ _ _ _ => true
  | .abortFrame port _ _ _ => decide (port.toNat ≤ 2)
  | .fastEvt _ _ _ _ => true
  | .tallySignal _ _ _ => true
  | .heldSignalApply _ => true
  | .tallyWait _ _ _ => true
  | .tallyRelease _ => true
  | .tallyWaitWithdraw _ => true
  | .tallySig _ _ _ _ _ => true
  | .remoteSignalApply => true
  | .waitLong _ => true
  | .tallyWatchdog => true
  | .tallyTaskEnd _ => true
  | .hangDump _ dump => decide (dump.length ≤ 4264)
  | .phyResetTimer _ => true
  | .rxLockChange _ _ => true
  | .cap _ _ => true
  | .trainingCheck _ _ => true
  | .trainingTimeout _ => true
  | .failedHoldEnd _ => true
  | .flitSlot _ _ => true
  | .flitReceive _ _ _ => true
  | .nak _ _ => true
  | .keepaliveDue _ => true
  | .keepaliveLoss _ => true
  | .flitReplayTimeout _ => true
  | .creditLeak _ _ => true
  | .messageDelivery _ _ => true
  | .proxyAccess _ _ _ _ => true
  | .proxyReq _ _ _ _ => true
  | .proxyExecute => true
  | .proxyRsp _ _ _ _ => true
  | .imageActive _ _ _ _ _ _ _ _ => true
  | .imgOffer _ _ => true
  | .imgOfferRepeat _ => true
  | .imgSect off bytes => decide (off.toNat % 64 = 0 ∧ bytes.length ≤ 4096)
  | .deliverySectionSend => true
  | .imageCheckDone => true
  | .nvWriteComplete failStep => decide (failStep.toNat ≤ 6)
  | .imageActivation => true
  | .ethFrameReceive _ _ => true
  | .regReq port _ _ entries => decide (port.toNat ≤ 2 ∧ 1 ≤ entries.length ∧ entries.length ≤ 64)
  | .regReqEntry _ => true
  | .egressFrameSelect _ _ => true
  | .gateEntryStart _ entry _ => decide (entry.toNat ≤ 64)
  | .gateChangeTime _ _ => true
  | .nbPortState _ _ _ => true
  | .t1sFrameReceive _ => true
  | .discoverSend => true
  | .discover _ _ _ => true
  | .echoExchange _ => true
  | .echoReq _ _ => true
  | .echoRsp _ _ _ _ => true
  | .plcaModeChange _ => true
  | .flashOperationDone op _ => op.wf
  | .sessionFree sess => decide (1 ≤ sess.toNat ∧ sess.toNat ≤ 8)
  | .roleTimeout path => pathHasRole path
  | .nonceExpiry path => pathHasRole path
  | .roleLockEnd all path => all || pathHasRole path
  | .recFlushSend _ => true
  | .recFlush _ places => decide (places.length ≤ 128) && places.all fun p => decide (p.length = 32)
  | .recorderFlush _ => true
  | .odometerEntry => true
  | .odometerSectorErase => true
  | .complementFault _ _ => true
  | .inServiceBistDone _ _ _ => true
  | .fuseBitProgram _ => true
  | .fuseBurnDone _ => true
  | .blkPdReq _ => true
  | .blkPdAck _ => true
  | .powerFailSignal _ => true
  | .powerFailFlushDone => true
  | .powerFailEnd _ => true
  | .holdupMeasurement _ => true
  | .holdupMeasurementEnd _ => true
  | .exfinRegUpdate _ => true
  | .transmitOpportunity _ => true
  | .jtTrst => true

end Sys2Proof
end

