-- ==== Sys2Proof/Certificates/Slice0/Obligations.lean ====
section
/-! DEFINITION. The statements for the provers, family by family; each docstring names the rules it speaks of. -/

section

open Sys2Proof Sys2Proof.Machine

/-- A step takes the command at the front of the queue and runs it on the state whose queue is the rest (DESIGN CHOICE, notes/assumptions/2: the queue is the model's own). -/
def Obligations.StepRunsFront : Prop :=
  ∀ (c : Instr) (rest : List Instr) (s : State),
    s.pending = c :: rest →
    step s = exec c { s with pending := rest }

/-- On an empty queue the block idles: with no access in the register access queue the state stands still; while engines run, a register slot performs the accesses waiting there, in arrival order (R38); before BIST ends none is performed (R528). What an empty queue means is the model's choice (notes/assumptions/2). -/
def Obligations.EmptyQueueIdles : Prop :=
  (∀ (s : State),
    s.pending = [] →
    s.heat.raq = [] →
    step s = .next s) ∧
  (∀ (s : State),
    s.pending = [] →
    s.running = false →
    step s = .next s) ∧
  (∀ (s : State) (q : RaReq) (rest : List RaReq),
    s.pending = [] →
    s.running = true →
    s.test.busy = false →
    s.heat.raq = q :: rest →
    rest = [] →
    q.test = false →
    q.wr = false →
    q.off.toNat = 0 →
    step s = .next { s with heat := { s.heat with raq := [], rsp := s.heat.rsp ++ [(⟨q.tag, 0x4E465845, 0⟩ : RaRsp)] } })

/-- No command of the table ends in a fault or a refusal, whatever its operands and the state: the spec gives each an effect, and where its precondition fails the block is left as it was (notes/assumptions/2). -/
def Obligations.EveryCommandCompletes : Prop :=
  ∀ (i : Instr) (s : State),
    Completes i s

/-- A command's effect is on everything but the queue, and the grade of the block is built in: GRADE_SEL only has to agree with it (R6). -/
def Obligations.ExecKeepsQueueAndBuild : Prop :=
  ∀ (i : Instr) (s t : State),
    exec i s = .next t →
    t.pending = s.pending ∧ t.sys.build = s.sys.build

/-- Whatever command is at the front, erasing, programming, spilling and copying keep the form in which equal contents are equal data. -/
def Obligations.StepKeepsMemoryForm : Prop :=
  ∀ (s t : State),
    s.memWf = true →
    step s = .next t →
    t.memWf = true

/-- RST_N is held in phase 0 (R527), no heat has begun and the heat number reads −1 (R528), no image is in force, the stroke counter is 0 and not valid (R132), the tally service is START_UP (R398), and nothing waits. The build shown is Exfin-D, which is the model's choice (notes/assumptions/1). State.reset lists no byte of either device (what they read as then is the model's choice, notes/assumptions/7). -/
def Obligations.ResetLeaves : Prop :=
  State.reset.sys.phase = 0 ∧ State.reset.sys.rstHeld = true ∧ State.reset.heat.heat = BitVec.allOnes 64 ∧ State.reset.heat.begun = false ∧
    State.reset.ld.cur = none ∧ State.reset.tb.stroke = 0 ∧ State.reset.tb.valid = false ∧ State.reset.tly.svc = 1 ∧
    State.reset.integ.sticky0 = 0 ∧ State.reset.integ.sticky1 = 0 ∧ State.reset.integ.sticky2 = 0 ∧ State.reset.integ.sticky3 = 0 ∧
    State.reset.pending = [] ∧ State.reset.sys.build = .die ∧
    State.reset.memWf = true ∧ (State.resetOf .tray).memWf = true

/-- R526, R416, R491, R548: the two resets, CORE_PG, and what a release samples and counts, for a strap that agrees with the build on either grade, one that does not, and straps that change inside their window (free values, notes/assumptions/3). -/
def Obligations.ResetsAndStraps : Prop :=
  (∀ (s : State),
    exec (.aonReset true) s = .next { s with sys := { s.sys with aonHeld := false } }) ∧
  (∀ (s : State),
    s.isD = true →
    exec (.aonReset false) s = .next { s with
      sys := { s.sys with aonHeld := true, firstRelease := true, resetCount := 0, strapErr := false }
      roles := { s.roles with nonces := 0 }
      evr := { s.evr with sq := 0, hours := 0, pcyc := 0, ring := [], ringWr := 0, dropPend := false } }) ∧
  (∀ (s : State),
    s.isT = true →
    exec (.aonReset false) s = .next { s with
      sys := { s.sys with aonHeld := true, firstRelease := true, resetCount := 0, strapErr := false }
      roles := { s.roles with nonces := 0 } }) ∧
  (∀ (s : State),
    ∃ t, exec .blockResetAssert s = .next t ∧ t.sys.rstHeld = true ∧ t.sys.phase = 0 ∧ t.sys.resetCount = s.sys.resetCount ∧
    t.ld = (State.resetOf s.sys.build).ld ∧ t.tly = (State.resetOf s.sys.build).tly ∧ t.ul = (State.resetOf s.sys.build).ul ∧
    t.rw = [] ∧ t.wc2 = [] ∧ (s.ld.st ≠ 4 → t.flash = s.flash) ∧ t.lp5 = s.lp5 ∧ t.evr.hours = s.evr.hours ∧ t.evr.pcyc = s.evr.pcyc ∧
    (s.isD = true → t.evr.ring = s.evr.ring ∧ t.evr.sq = s.evr.sq)) ∧
  (∀ (v : Bool) (s : State),
    exec (.corePgChange v) s = .next { s with sys := { s.sys with corePg := v, pgRose := s.sys.pgRose || (v && !s.sys.corePg) } }) ∧
  (∀ (x2 : Bool) (pkg : BitVec 4) (die : BitVec 3) (lp5 : BitVec 2) (s : State),
    s.isT = true →
    s.sys.rstHeld = true →
    s.sys.aonHeld = false →
    exec (.resetRelease true x2 pkg die lp5 true) s = .next (State.reseed { s with sys := { s.sys with
      rstHeld := false, pgRose := false, firstRelease := false, powerup := s.sys.pgRose || s.sys.firstRelease, strapErr := false
      x2 := x2, pkg := pkg, die := die, lp5Grade := lp5, phase := 1
      resetCount := (if s.sys.pgRose || s.sys.firstRelease then 0 else s.sys.resetCount) + 1 } } 0)) ∧
  (∀ (x2 : Bool) (pkg : BitVec 4) (die : BitVec 3) (lp5 : BitVec 2) (s : State),
    s.isD = true →
    s.sys.rstHeld = true →
    s.sys.aonHeld = false →
    ∃ t, exec (.resetRelease false x2 pkg die lp5 true) s = .next t ∧ t.sys.phase = 1 ∧ t.sys.rstHeld = false ∧ t.sys.strapErr = false ∧
    t.sys.pkg = pkg ∧ t.sys.die = die ∧ t.sys.x2 = x2 ∧ t.sys.powerup = (s.sys.pgRose || s.sys.firstRelease) ∧
    t.sys.resetCount = (if s.sys.pgRose || s.sys.firstRelease then 0 else s.sys.resetCount) + 1 ∧
    t.evr.pcyc = (if s.sys.pgRose || s.sys.firstRelease then s.evr.pcyc + 1 else s.evr.pcyc) ∧ t.evr.hours = s.evr.hours ∧
    Unchanged [.sys, .trc, .ttrc, .led, .ul, .evr] s t) ∧
  (∀ (g x2 : Bool) (pkg : BitVec 4) (die : BitVec 3) (lp5 : BitVec 2) (s : State),
    g ≠ s.isT →
    s.sys.rstHeld = true →
    s.sys.aonHeld = false →
    ∃ t, exec (.resetRelease g x2 pkg die lp5 true) s = .next t ∧ t.sys.phase = 0 ∧ t.sys.strapErr = true ∧ t.sys.rstHeld = false ∧
    Unchanged [.sys, .led, .evr] s t) ∧
  (∀ (g x2 : Bool) (pkg : BitVec 4) (die : BitVec 3) (lp5 : BitVec 2) (s : State),
    s.sys.rstHeld = true →
    s.sys.aonHeld = false →
    ∃ t, exec (.resetRelease g x2 pkg die lp5 false) s = .next t ∧ t.sys.rstHeld = false ∧ t.sys.pgRose = false ∧ t.sys.firstRelease = false ∧
    s.sys.fresh < t.sys.fresh ∧ t.sys.resetCount = (if s.sys.pgRose || s.sys.firstRelease then 0 else s.sys.resetCount) + 1)

/-- R527, R559, R560, R517 to R522, R465, R529: fuse words in ascending order, a word not answered in time taken as 0; BIST in the groups of STAGGER, with repaired macros verified in a second pass; the end of BIST enters RUN on Exfin-D and STORE on Exfin-T; flash discovery and LPDDR5X initialisation. -/
def Obligations.StartUpPhases : Prop :=
  (∀ (w : Option Word) (s : State),
    s.sys.phase = 1 →
    s.fuse.next < 137 →
    exec (.fuseWordRead w) s = .next { s with fuse := { s.fuse with
      map := Tab.set 0 s.fuse.map s.fuse.next (w.getD 0), next := s.fuse.next + 1 } }) ∧
  (∀ (us : Word) (s : State),
    s.sys.phase = 1 →
    s.fuse.next = 137 →
    s.makerSet = true →
    exec (.fusePhaseEnd us) s = .next { s with
      sys := { s.sys with phase := 2, pht := Tab.set 0 s.sys.pht 1 us }
      ld := { s.ld with digest := crc64 s.fdBytes, digestC := ~~~ crc64 s.fdBytes }
      bist := { s.bist with busy := true, target := 0 } }) ∧
  (∀ (us : Word) (s : State),
    s.sys.phase = 1 →
    s.fuse.next = 137 →
    s.makerSet = false →
    ∃ t, exec (.fusePhaseEnd us) s = .next t ∧ t.sys.phase = 2 ∧ (t.path 10).held = 3 ∧ t.bist.busy = true ∧
    t.ld.digest = crc64 s.fdBytes ∧ Unchanged [.sys, .ld, .bist, .roles] s t) ∧
  (∀ (g : BitVec 3) (s : State),
    s.bist.busy = true →
    s.bist.target ≠ 4 →
    s.bistRunning.contains g.toNat = true →
    exec (.memoryBistGroupDone g []) s = .next { s with bist := { s.bist with
      done := setBit s.bist.done g.toNat true } }) ∧
  (∀ (g : BitVec 3) (m : MacroResult) (s : State),
    s.bist.busy = true →
    s.bist.target ≠ 4 →
    s.bistRunning.contains g.toNat = true →
    bistGroup m.mem.toNat m.mac.toNat = g.toNat →
    m.cells ≠ [] →
    softCovers m.cells [] none = true →
    s.bist.verify.getLsbD g.toNat = false →
    s.hardRepaired m.mem.toNat m.mac.toNat = false →
    exec (.memoryBistGroupDone g [m]) s = .next { s with bist := { s.bist with
      memRep := Tab.upd 0 s.bist.memRep m.mem.toNat satInc, repaired := satInc s.bist.repaired
      soft := s.bist.soft ++ [(m.mem, m.mac)], verify := setBit s.bist.verify g.toNat true } }) ∧
  (∀ (s : State),
    s.bist.busy = true →
    s.sys.phase = 2 →
    s.bist.abistDone = false →
    exec (.analogueBistDone []) s = .next { s with bist := { s.bist with abistRes := [], abistDone := true } }) ∧
  (∀ (us : Word) (s : State),
    s.sys.phase = 2 →
    s.bist.done = 0xFF →
    s.bist.abistDone = true →
    ∃ t, exec (.bistPhaseEnd us) s = .next t ∧ t.sys.phase = (if s.isT then 3 else 5) ∧ t.bist.busy = false ∧
    t.heat.dormant = s.heat.lpReq ∧ t.heat.heat = s.heat.heat ∧ Tab.get 0 t.sys.pht 2 = us ∧
    (s.isD = true → t.ld.fdReason = 1) ∧ Unchanged [.sys, .bist, .ld, .heat, .integ, .evr, .trc, .ul, .ttrc] s t) ∧
  (∀ (dev : SfdpResult) (s : State),
    s.isT = true →
    s.sys.phase = 3 →
    s.sys.sfdpDone = false →
    ∃ t, exec (.sfdpDiscovery dev) s = .next t ∧ t.sys.sfdpDone = true ∧
    t.nb.flashReady = (dev.signature && decide (25 ≤ dev.densLog2.toNat) && dev.erase4k) ∧ t.nb.sfdpBad = !t.nb.flashReady ∧
    Unchanged [.sys, .nb] s t) ∧
  (∀ (f : Byte) (s : State),
    s.isT = true →
    s.sys.phase = 3 →
    s.sys.lp5Done = false →
    f = 0 →
    s.sys.lp5Grade ≠ 3 →
    exec (.lpddr5xInit f) s = .next { s with sys := { s.sys with lp5Done := true } }) ∧
  (∀ (f : Byte) (s : State),
    s.isT = true →
    s.sys.phase = 3 →
    s.sys.lp5Done = false →
    f ≠ 0 →
    exec (.lpddr5xInit f) s = .next (({ s with sys := { s.sys with lp5Done := true }, pwr := { s.pwr with memFail := true } } : State).note 0x7006 (le 1 f.toNat)))

/-- R479 to R482, R472: a nonce is issued for a higher role and its number counts; a lower role takes force at once; the last response word takes the nonce into the check; a right response elevates and a wrong one is counted and bars nonces, for every path after 8; a silent path falls to operator; a nonce expires; a bar ends; an idle session is freed and its mailbox forgotten. -/
def Obligations.RoleGate : Prop :=
  (∀ (a : Acc) (s : State),
    Allowed s a 0x10 1 →
    s.statePaths.contains a.path.toNat = true →
    (s.path a.path.toNat).busy = false →
    (s.path a.path.toNat).held < Acc.req a →
    ((s.answered a true 0x10 0).setPath a.path.toNat { (s.answered a true 0x10 0).path a.path.toNat with lastFail := false }).roleLocked a.path.toNat = false →
    ∃ t, exec (.roleRequestHigher a false) s = .next t ∧ (t.path a.path.toNat).nonceV = true ∧ (t.path a.path.toNat).req = BitVec.ofNat 2 (Acc.req a) ∧
    t.roles.nonces = s.roles.nonces + 1 ∧
    (t.path a.path.toNat).nonce = BitVec.ofNat 64 (fieldAt s.evr.pcyc.toNat 48 16 + (s.roles.nonces + 1).toNat) ∧
    Unchanged [.roles, .heat, .test] s t) ∧
  (∀ (a : Acc) (s : State),
    Allowed s a 0x10 1 →
    s.statePaths.contains a.path.toNat = true →
    (s.path a.path.toNat).busy = false →
    0 < Acc.req a →
    Acc.req a < (s.path a.path.toNat).held →
    (s.path a.path.toNat).lastFail = false →
    Tab.set PathState.init s.roles.paths a.path.toNat (s.path a.path.toNat) = s.roles.paths →
    s.roles = (s.answered a true 0x10 0).roles →
    exec (.roleRequestLower a) s = .next ((s.answered a true 0x10 0).roleDrop a.path.toNat (Acc.req a) 1)) ∧
  (∀ (a : Acc) (s : State),
    Allowed s a 0x3C 1 →
    s.statePaths.contains a.path.toNat = true →
    ((s.answered a true 0x3C 0).path a.path.toNat).busy = false →
    ∃ t, exec (.roleResponseWrite a) s = .next t ∧ (t.path a.path.toNat).busy = true ∧ (t.path a.path.toNat).nonceV = false ∧
    (t.path a.path.toNat).nonce = 0 ∧ Unchanged [.roles, .heat, .test] s t) ∧
  (∀ (p : BitVec 4) (s : State),
    s.statePaths.contains p.toNat = true →
    (s.path p.toNat).busy = true →
    s.roleMatch p.toNat = true →
    (s.path p.toNat).req ≠ 1 →
    ∃ t, exec (.roleCheckDone p) s = .next t ∧ (t.path p.toNat).held = (s.path p.toNat).req.toNat ∧ t.roles.fails = 0 ∧
    Unchanged [.sys, .integ, .trc, .ttrc, .ul, .roles, .evr] s t) ∧
  (∀ (p : BitVec 4) (s : State),
    s.statePaths.contains p.toNat = true →
    (s.path p.toNat).busy = true →
    s.roleMatch p.toNat = false →
    ∃ t, exec (.roleCheckDone p) s = .next t ∧ (t.path p.toNat).lastFail = true ∧ (t.path p.toNat).lock1 = true ∧ (t.path p.toNat).busy = false ∧
    t.roles.fails = satInc s.roles.fails ∧ t.roles.lockAll = (s.roles.lockAll || decide (8 ≤ (satInc s.roles.fails).toNat)) ∧
    Unchanged [.roles, .sys, .evr, .trc, .ul, .ttrc] s t) ∧
  (∀ (p : BitVec 4) (s : State),
    s.running = true →
    s.aonRuns = true →
    s.statePaths.contains p.toNat = true →
    1 < (s.path p.toNat).held →
    exec (.roleTimeout p) s = .next (s.roleDrop p.toNat 1 2)) ∧
  (∀ (p : BitVec 4) (s : State),
    s.aonRuns = true →
    s.statePaths.contains p.toNat = true →
    exec (.nonceExpiry p) s = .next (s.setPath p.toNat { s.path p.toNat with nonceV := false, nonce := 0 })) ∧
  (∀ (p : BitVec 4) (s : State),
    s.aonRuns = true →
    exec (.roleLockEnd true p) s = .next { s with roles := { s.roles with lockAll := false } }) ∧
  (∀ (p : BitVec 4) (s : State),
    s.aonRuns = true →
    s.statePaths.contains p.toNat = true →
    exec (.roleLockEnd false p) s = .next (s.setPath p.toNat { s.path p.toNat with lock1 := false })) ∧
  (∀ (i : BitVec 4) (s : State),
    s.isT = true →
    s.aonRuns = true →
    1 ≤ i.toNat →
    i.toNat ≤ 8 →
    (Tab.get none s.roles.sessions i.toNat).isSome = true →
    (s.path i.toNat).held = 1 →
    ∃ t, exec (.sessionFree i) s = .next t ∧ t.roles.sessions = Tab.set none s.roles.sessions i.toNat none ∧
    t.roles.paths = Tab.set PathState.init s.roles.paths i.toNat PathState.init ∧ Unchanged [.sys, .integ, .trc, .ttrc, .ul, .roles, .evr] s t)

/-- R482, R508: a path that falls to operator or installer holds exactly that role, as a pair of complements, whatever it held and whether or not its pair was damaged; no other path changes, and nothing beyond the roles, the complement figures and the record. -/
def Obligations.RoleFall : Prop :=
  ∀ (p new cause : Nat) (s : State),
    (new = 1 ∨ new = 2) →
    (s.roleDrop p new cause).roles = { s.roles with
      paths := Tab.set PathState.init s.roles.paths p { s.path p with role := BitVec.ofNat 2 new, roleC := ~~~ BitVec.ofNat 2 new } } ∧
    ({ s.path p with role := BitVec.ofNat 2 new, roleC := ~~~ BitVec.ofNat 2 new } : PathState).held = new ∧
    Unchanged [.roles, .integ, .sys, .evr, .trc, .ul, .ttrc] s (s.roleDrop p new cause)

/-- R38, R551, R15, R13, R442, R463, R448, R563: a request enters the queue of 16; an allowed write of a plain register stores its writable bits; the head of a link's block latches the rest of it; a proxied request runs with the role it carries and is answered; an entry of a REG_REQ completes with status and data; EXFIN_REG starts an access on path 10, and JT_TRST_N clears it. -/
def Obligations.AccessPaths : Prop :=
  (∀ (wr : Bool) (be : BitVec 4) (ofs : BitVec 25) (w : Word) (tag : BitVec 9) (s : State),
    s.running = true →
    s.heat.raq.length < 16 →
    (s.isD = true ∨ 4 * ofs.toNat < 0x04000000) →
    exec (.raRequest wr be ofs w tag) s = .next { s with heat := { s.heat with raq := s.heat.raq ++ [⟨false, wr, be, BitVec.ofNat 32 (4 * ofs.toNat), w, tag⟩] } }) ∧
  (∀ (be : BitVec 4) (ofs : BitVec 25) (w : Word) (tag : BitVec 9) (s : State),
    s.isT = true →
    s.running = true →
    s.heat.raq.length < 16 →
    0x04000000 ≤ 4 * ofs.toNat →
    exec (.raRequest false be ofs w tag) s = .next (s.proxyAccess (.port tag) false (4 * ofs.toNat - 0x04000000) w)) ∧
  (∀ (wr : Bool) (be : BitVec 4) (ofs : BitVec 25) (w : Word) (tag : BitVec 9) (s : State),
    16 ≤ s.heat.raq.length →
    exec (.raRequest wr be ofs w tag) s = .next s) ∧
  (∀ (a : Acc) (off : BitVec 20) (s : State),
    Allowed s a off.toNat (s.writeRole off.toNat) →
    (s.ownWrite a off.toNat).isNone = true →
    exec (.registerWrite a off none) s = .next ((s.answered a true off.toNat 0).storeReg a off.toNat)) ∧
  (∀ (a : Acc) (k : BitVec 6) (s : State),
    s.running = true →
    s.hasLink k.toNat = true →
    exec (.tulStateRead a k) s = .next ((s.answered a false (0x58000 + 64 * k.toNat) (BitVec.ofNat 32 (s.tulState k.toNat))).latchLink k.toNat
      (Tab.setAll 0 [] 1 ((List.range 15).map fun i => BitVec.ofNat 32 (s.tulWord k.toNat (i + 1)))))) ∧
  (∀ (q : ProxyIn) (rest : List ProxyIn) (s : State),
    s.isD = true →
    s.running = true →
    s.heat.raq.length < 8 →
    s.nb.proxyIn = q :: rest →
    bits q.flags.toNat 3 2 = 0 →
    exec .proxyExecute s = .next (({ s with nb := { s.nb with proxyIn := rest } } : State).proxyTookEffect.send 0 0 0x33 (le 1 q.tag.toNat ++ le 1 3 ++ le 2 0 ++ le 4 0))) ∧
  (∀ (q : ProxyIn) (rest : List ProxyIn) (s : State),
    s.isD = true →
    s.running = true →
    s.heat.raq.length < 8 →
    s.nb.proxyIn = q :: rest →
    q.flags = 4 →
    q.off = 0 →
    exec .proxyExecute s = .next (({ s with nb := { s.nb with proxyIn := rest } } : State).proxyTookEffect.send 0 0 0x33 (le 1 q.tag.toNat ++ le 1 0 ++ le 2 0 ++ le 4 0x4E465845))) ∧
  (∀ (i : BitVec 4) (q : ReqPlace) (e : ReqEntry) (s : State),
    s.isT = true →
    s.running = true →
    Tab.get none s.nb.places i.toNat = some q →
    q.left = [e] →
    q.waiting = false →
    e.write = false →
    e.offset = 0 →
    exec (.regReqEntry i) s = .next (s.reqDone i.toNat 0 0x4E465845)) ∧
  (∀ (i : BitVec 4) (q : ReqPlace) (e : ReqEntry) (s : State),
    s.isT = true →
    s.running = true →
    Tab.get none s.nb.places i.toNat = some q →
    q.left = [e] →
    q.waiting = false →
    e.offset.toNat % 4 ≠ 0 →
    exec (.regReqEntry i) s = .next (s.reqDone i.toNat 3 0)) ∧
  (∀ (v : BitVec 66) (s : State),
    s.running = true →
    s.heat.raq.length < 16 →
    v = 0x20000000000000000 →
    s.test.busy = false →
    s.integ.xingStop = 0 →
    exec (.exfinRegUpdate v) s = .next { s with
      test := { s.test with busy := true, queued := true, wr := false, off := 0, wdata := 0, done := false }
      heat := { s.heat with raq := s.heat.raq ++ [⟨true, false, 0xF, 0, 0, 0⟩] } }) ∧
  (∀ (s : State),
    exec .jtTrst s = .next { s with test := ⟨false, false, false, 0, 0, 0, false⟩ })

/-- R483 to R485: a post is latched with its path's role, token and arguments; a post while one waits sets BUSY_HIT and is refused with BUSY; the poll takes the waiting command of every mailbox in ascending path order. -/
def Obligations.CommandMailbox : Prop :=
  (∀ (a : Acc) (s : State),
    Allowed s a 0xC0020 1 →
    s.mailPaths.contains a.path.toNat = true →
    ((s.answered a true 0xC0020 0).path a.path.toNat).pend = false →
    ∃ t, exec (.commandPost a) s = .next t ∧ (t.path a.path.toNat).pend = true ∧ (t.path a.path.toNat).code = BitVec.ofNat 16 a.data.toNat ∧
    (t.path a.path.toNat).token = BitVec.ofNat 16 (a.data.toNat / 2 ^ 16) ∧
    (t.path a.path.toNat).posted = Tab.slice 0 (s.path a.path.toNat).args 0 8 ∧ Unchanged [.roles, .heat, .test] s t) ∧
  (∀ (a : Acc) (s : State),
    Allowed s a 0xC0020 1 →
    s.mailPaths.contains a.path.toNat = true →
    ((s.answered a true 0xC0020 0).path a.path.toNat).pend = true →
    ∃ t, exec (.commandPost a) s = .next t ∧ (t.path a.path.toNat).busyHit = true ∧ (t.path a.path.toNat).code = (s.path a.path.toNat).code ∧
    Unchanged [.roles, .heat, .test, .sys, .evr, .trc, .ul, .ttrc] s t) ∧
  (∀ (s : State),
    s.running = true →
    (s.oneCycle fun s => s.mailPaths.foldl State.takePost s).sns.sample = [] →
    exec .commandPoll s = .next (s.oneCycle fun s => s.mailPaths.foldl State.takePost s).latchSense) ∧
  (∀ (s : State),
    s.running = true →
    s.sns.sample ≠ [] →
    s.sns.sampleHeat = s.heat.heat - 1 →
    (∀ p ∈ s.mailPaths, (s.path p).pend = false) →
    exec .commandPoll s = .next s)

/-- R520, R519, R523, R562: BIST_RUN isolates a target that is free, here the sensor converter (target 4) and the trace buffer of a die without capture (target 1); BIST_ABORT ends it at the next boundary; a completed BIST is recorded and its target re-initialised; FUSE_BURN of the maker digest programs the staged bits into a blank area; one bit at a time; the read-back decides FAIL. -/
def Obligations.BistAndFuses : Prop :=
  (∀ (p : Post) (s : State),
    s.running = true →
    2 ≤ p.role.toNat →
    p.a0 = 4 →
    p.a1 = 0 →
    s.bist.busy = false →
    exec (.bistRun p) s = .next (State.setResult { s with bist := { s.bist with
      busy := true, target := 4, link := 0, done := 0, repaired := 0, unrepaired := 0, verify := 0, finishing := false
      abistDone := false, caller := p.role.toNat + 4 * p.path.toNat } } 0x0A01 1 p)) ∧
  (∀ (p : Post) (s : State),
    s.running = true →
    s.isD = true →
    2 ≤ p.role.toNat →
    p.a0 = 1 →
    p.a1 = 0 →
    s.bist.busy = false →
    s.trc.capEn = some false →
    s.trc.dumping = false →
    ∃ t, exec (.bistRun p) s = .next t ∧ t.bist.busy = true ∧ t.bist.target = 1 ∧ Unchanged [.bist, .roles] s t) ∧
  (∀ (p : Post) (s : State),
    s.running = true →
    2 ≤ p.role.toNat →
    s.bist.busy = true →
    s.bist.target ≠ 0 →
    exec (.bistAbort p) s = .next (State.setResult { s with bist := { s.bist with finishing := true } } 0x0A02 1 p)) ∧
  (∀ (s : State),
    s.bist.busy = true →
    s.bist.isolated = true →
    s.bist.target = 1 →
    s.bist.finishing = false →
    ∃ t, exec (.inServiceBistDone 2 0 []) s = .next t ∧ t.bist.busy = false ∧ t.bist.finishing = true ∧ t.bist.repaired = 2 ∧ t.trc.blocks = [] ∧
    Unchanged [.bist, .trc, .sys, .evr, .ul, .ttrc] s t) ∧
  (∀ (p : Post) (s : State),
    s.running = true →
    p.role.toNat = 3 →
    p.a0 = 3 →
    s.fuse.busy = false →
    (∀ i ∈ List.range 8, s.fuseWord (32 + i) = 0) →
    ∃ t, exec (.fuseBurn p) s = .next t ∧ t.fuse.busy = true ∧ t.fuse.area = 3 ∧ t.fuse.bits = s.burnBits 3 ∧ t.fuse.map = s.fuse.map ∧
    Unchanged [.fuse, .roles, .sys, .evr, .trc, .ul, .ttrc] s t) ∧
  (∀ (b : Nat) (rest : List Nat) (s : State),
    s.fuse.busy = true →
    s.fuse.bits = b :: rest →
    exec (.fuseBitProgram false) s = .next { s with fuse := { s.fuse with bits := rest } }) ∧
  (∀ (b : Nat) (rest : List Nat) (s : State),
    s.fuse.busy = true →
    s.fuse.bits = b :: rest →
    exec (.fuseBitProgram true) s = .next { s with fuse := { s.fuse with busy := false, fail := true, bits := [], want := [] } }) ∧
  (∀ (r : List Word) (s : State),
    s.fuse.busy = true →
    s.fuse.bits = [] →
    s.fuse.area = 3 →
    s.fuse.fail = false →
    exec (.fuseBurnDone r) s = .next { s with fuse := { s.fuse with
      busy := false, want := [], fail := r != (List.range 8).map fun i => Tab.get 0 s.fuse.want (32 + i) } })

/-- R511, R512, R16: bits written 1 clear and only those, with the record of what was cleared, and nothing happens where none of them was set; a write to the low word of a pair replaces the staging word; a low word of nothing stages nothing. R507, R508, R510: an item in fault shows in its status and in CPL_LAST, its safe state acts at once, and a further fault of it does nothing; CPL_INJECT in test service does the same to the named item after its own record. -/
def Obligations.StickyStagingComplement : Prop :=
  (∀ (a : Acc) (n : BitVec 2) (s : State),
    Allowed s a (0xA0000 + 4 * n.toNat) 1 →
    s.stickyWord n.toNat &&& a.data ≠ 0 →
    ∃ t, exec (.errStickyClear a n) s = .next t ∧ t.stickyWord n.toNat = s.stickyWord n.toNat &&& ~~~ a.data ∧
    (∀ r : Fin 4, r.val ≠ n.toNat → t.stickyWord r.val = s.stickyWord r.val) ∧ t.integ.first = s.integ.first ∧
    Unchanged [.integ, .heat, .test, .sys, .evr, .trc, .ul, .ttrc] s t) ∧
  (∀ (a : Acc) (n : BitVec 2) (s : State),
    Allowed s a (0xA0000 + 4 * n.toNat) 1 →
    s.stickyWord n.toNat &&& a.data = 0 →
    exec (.errStickyClear a n) s = .next (s.answered a true (0xA0000 + 4 * n.toNat) 0)) ∧
  (∀ (a : Acc) (off : BitVec 20) (s : State),
    Allowed s a off.toNat 2 →
    s.wc2Low off.toNat = true →
    exec (.wc2Stage a off) s = .next (let t := s.answered a true off.toNat 0; { t with integ := { t.integ with staged := some (off, a.data) } })) ∧
  (∀ (a : Acc) (off : BitVec 20) (s : State),
    s.wc2Low off.toNat = false →
    exec (.wc2Stage a off) s = .next s) ∧
  (∀ (s : State),
    s.running = true →
    s.cpl 6 0 = false →
    ∃ t, exec (.complementFault 6 0) s = .next t ∧ t.integ.cplStat = Tab.set false s.integ.cplStat 1536 true ∧ t.integ.cplLast = 6 ∧
    t.ld = { s.ld with digestC := s.ld.digestC ^^^ 1 } ∧ Unchanged [.ld, .integ, .sys, .evr, .trc, .ul, .ttrc] s t) ∧
  (∀ (i : Byte) (s : State),
    s.running = true →
    s.statePaths.contains i.toNat = true →
    s.cpl 1 i.toNat = false →
    ∃ t, exec (.complementFault 1 i) s = .next t ∧ t.integ.cplLast = BitVec.ofNat 32 (256 * i.toNat + 1) ∧
    t.roles.paths = Tab.set PathState.init s.roles.paths i.toNat { s.path i.toNat with roleC := (s.path i.toNat).roleC ^^^ 1 } ∧
    Unchanged [.roles, .integ, .sys, .evr, .trc, .ul, .ttrc] s t) ∧
  (∀ (m : BitVec 4) (i : Byte) (s : State),
    s.cpl m.toNat i.toNat = true →
    exec (.complementFault m i) s = .next s) ∧
  (∀ (p : Post) (s : State),
    s.running = true →
    p.role.toNat = 3 →
    p.a0 = 6 →
    s.tly.svc = 2 →
    exec (.cplInject p) s = .next (((s.event 0x600C [6, 0] p.role.toNat p.path.toNat).cplFault 6 0).setResult 0x0A04 1 p))

/-- R511, R512: the bit named is 1 afterwards, every other bit of the four registers is as it was, and ERR_FIRST with its stroke is written exactly when all four registers read 0 before. -/
def Obligations.StickyFirst : Prop :=
  ∀ (r b : Nat) (s : State) (r2 b2 : Nat),
    r < 4 →
    b < 32 →
    r2 < 4 →
    b2 < 32 →
    (s.stick r b).stuck r b = true ∧ ((r2 ≠ r ∨ b2 ≠ b) → (s.stick r b).stuck r2 b2 = s.stuck r2 b2) ∧
    (s.stick r b).integ.first = (if s.integ.clean then BitVec.ofNat 32 (2 ^ 31 + 256 * r + b) else s.integ.first) ∧
    (s.stick r b).integ.firstStroke = (if s.integ.clean then s.tb.stroke else s.integ.firstStroke) ∧ Unchanged [.integ] s (s.stick r b)

/-- R49, R52, R53 to R56, R513, R514, R536: a value crosses where the crossing works and not where it is disabled; a stopped partner disables its crossing with the sticky bit and the record; it works again at a boundary; a region that asks for sleep is dormant at once and its LP_ACK follows, and it leaves at a boundary once LP_REQ and LP_ACK are low; before BIST ends LP_ACK follows LP_REQ. -/
def Obligations.CrossingsAndDormancy : Prop :=
  (∀ (d : BitVec 6) (b : Bool) (v : DWord) (s : State),
    s.running = true →
    d.toNat < 40 →
    d.toNat ≠ s.coreDom →
    s.integ.xingStop.getLsbD d.toNat = false →
    exec (.crossingTransfer d b v) s = .next { s with integ := { s.integ with
      xingLast := Tab.set 0 s.integ.xingLast (2 * d.toNat + (if b then 1 else 0)) v } }) ∧
  (∀ (d : BitVec 6) (b : Bool) (v : DWord) (s : State),
    s.integ.xingStop.getLsbD d.toNat = true →
    exec (.crossingTransfer d b v) s = .next s) ∧
  (∀ (d : BitVec 6) (s : State),
    s.running = true →
    s.isD = true →
    d.toNat < 32 →
    s.integ.xingStop.getLsbD d.toNat = false →
    s.heat.dormant.getLsbD d.toNat = false →
    ∃ t, exec (.crossingTimeout d) s = .next t ∧ t.integ.xingStop = setBit s.integ.xingStop d.toNat true ∧ t.stuck 0 6 = true ∧
    Unchanged [.integ, .prb, .sys, .evr, .trc, .ul, .ttrc] s t) ∧
  (∀ (d : BitVec 6) (s : State),
    s.running = true →
    s.isD = true →
    d.toNat < 32 →
    s.heat.dormant.getLsbD d.toNat = true →
    s.heat.lpOwed.getLsbD d.toNat = false →
    exec (.crossingTimeout d) s = .next s) ∧
  (∀ (d : BitVec 6) (s : State),
    s.running = true →
    s.isD = true →
    d.toNat = 39 →
    s.integ.xingStop.getLsbD 39 = false →
    ∃ t, exec (.crossingTimeout d) s = .next t ∧ t.tb = { s.tb with refStopped := true, valid := false, substitute := true } ∧
    t.integ.xingStop = setBit s.integ.xingStop 39 true ∧ Unchanged [.tb, .integ, .sys, .evr, .trc, .ul, .ttrc] s t) ∧
  (∀ (d : BitVec 6) (s : State),
    s.running = true →
    s.isD = true →
    s.heat.taken = true →
    d.toNat < 32 →
    s.integ.xingStop.getLsbD d.toNat = true →
    ∃ t, exec (.crossingRearm d) s = .next t ∧ t.integ = { s.integ with xingStop := setBit s.integ.xingStop d.toNat false } ∧
    Unchanged [.integ, .prb, .sys, .evr, .trc, .ul, .ttrc] s t) ∧
  (∀ (r : BitVec 5) (s : State),
    s.running = true →
    r.toNat < s.nRegion →
    ∃ t, exec (.lpReqRise r) s = .next t ∧ t.heat.dormant = setBit s.heat.dormant r.toNat true ∧ t.heat.lpReq = setBit s.heat.lpReq r.toNat true ∧
    t.heat.lpOwed = setBit s.heat.lpOwed r.toNat true ∧ t.heat.lpAck = s.heat.lpAck ∧ Unchanged [.heat, .integ, .prb, .sys, .trc] s t) ∧
  (∀ (r : BitVec 5) (s : State),
    s.running = false →
    r.toNat < s.nRegion →
    exec (.lpReqRise r) s = .next { s with heat := { s.heat with lpReq := setBit s.heat.lpReq r.toNat true, lpAck := setBit s.heat.lpAck r.toNat true } }) ∧
  (∀ (r : BitVec 5) (s : State),
    s.running = true →
    s.heat.lpOwed.getLsbD r.toNat = true →
    exec (.lpAckRise r) s = .next { s with heat := { s.heat with lpAck := setBit s.heat.lpAck r.toNat true, lpOwed := setBit s.heat.lpOwed r.toNat false } }) ∧
  (∀ (r : BitVec 5) (s : State),
    s.running = true →
    r.toNat < s.nRegion →
    exec (.lpReqFall r) s = .next { s with heat := { s.heat with lpReq := setBit s.heat.lpReq r.toNat false } }) ∧
  (∀ (r : BitVec 5) (s : State),
    s.running = true →
    s.heat.lpAck.getLsbD r.toNat = true →
    s.heat.lpReq.getLsbD r.toNat = false →
    exec (.lpAckFall r) s = .next { s with heat := { s.heat with lpAck := setBit s.heat.lpAck r.toNat false } }) ∧
  (∀ (r : BitVec 5) (s : State),
    s.running = true →
    s.heat.taken = true →
    s.heat.dormant.getLsbD r.toNat = true →
    s.heat.lpReq.getLsbD r.toNat = false →
    s.heat.lpAck.getLsbD r.toNat = false →
    s.heat.lpOwed.getLsbD r.toNat = false →
    ∃ t, exec (.dormancyExit r) s = .next t ∧ t.heat = { s.heat with dormant := setBit s.heat.dormant r.toNat false } ∧
    Unchanged [.heat, .integ, .prb, .sys, .trc] s t)

/-- R73, R74, R76, R77, R81: IMG_BEGIN latches what IMG_CTRL and IMG_ACT say with an empty shadow store and is refused while a load runs; IMG_DATA appends; IMG_COMMIT of a complete image begins the checks and of a short one refuses it; IMG_ABORT ends the load with its record; IMG_ACTIVATE releases a held image; IMG_REDELIVER starts a delivery. -/
def Obligations.ImageCommands : Prop :=
  (∀ (p : Post) (s : State),
    s.running = true →
    2 ≤ p.role.toNat →
    s.ld.st = 0 →
    bits s.imgCtrl 27 26 ≠ 3 →
    s.pwr.pf = false →
    exec (.imgBegin p) s = .next (State.setResult { s with ld := { s.ld with
      st := 1, srcLoad := 2, latNv := s.isT && s.imgCtrl.testBit 28, latAct := BitVec.ofNat 2 (bits s.imgCtrl 27 26)
      latLen := s.imgCtrl % 2 ^ 25, latStroke := BitVec.ofNat 64 (s.rwd 0x1008 0 + 2 ^ 32 * s.rwd 0x100C 0), latRole := p.role
      latPath := p.path, shadow := ⟨0, []⟩, goNow := false, late := false, startup := false } } 0x0101 1 p)) ∧
  (∀ (p : Post) (s : State),
    s.running = true →
    2 ≤ p.role.toNat →
    s.ld.st ≠ 0 →
    ∃ t, exec (.imgBegin p) s = .next t ∧ t.ld = s.ld ∧ Unchanged [.roles, .integ, .sys, .evr, .trc, .ul, .ttrc] s t) ∧
  (∀ (a : Acc) (s : State),
    Allowed s a 0x1004 1 →
    s.ld.st = 1 →
    s.ld.srcLoad = 2 →
    s.ld.shadow.len = 0 →
    a.data = 0x364B4D42 →
    ∃ t, exec (.imgDataWrite a) s = .next t ∧ t.ld.shadow.len = 4 ∧ t.ld.st = 1 ∧ Unchanged [.ld, .heat, .test] s t) ∧
  (∀ (a : Acc) (s : State),
    Allowed s a 0x1004 1 →
    s.ld.st = 1 →
    s.ld.srcLoad = 2 →
    s.ld.shadow = ⟨0, []⟩ →
    a.data ≠ 0x364B4D42 →
    ∃ t, exec (.imgDataWrite a) s = .next t ∧ t.ld.st = 0 ∧ t.ld.cur = s.ld.cur ∧ t.stuck 0 1 = true) ∧
  (∀ (p : Post) (s : State),
    s.running = true →
    2 ≤ p.role.toNat →
    s.ld.st = 1 →
    s.ld.srcLoad = 2 →
    64 ≤ s.ld.shadow.len →
    s.ld.shadow.num 0x10 4 ≤ s.ld.shadow.len →
    exec (.imgCommit p) s = .next (State.setResult { s with ld := { s.ld with st := 2 } } 0x0102 1 p)) ∧
  (∀ (p : Post) (s : State),
    s.running = true →
    2 ≤ p.role.toNat →
    s.ld.st = 1 →
    s.ld.srcLoad = 2 →
    s.ld.shadow.len < 64 →
    exec (.imgCommit p) s = .next ((s.loadRefuse (6, 0, 0xF, 0x10)).setResult 0x0102 1 p)) ∧
  (∀ (p : Post) (s : State),
    s.running = true →
    2 ≤ p.role.toNat →
    s.ld.st = 3 →
    s.ld.srcLoad = 2 →
    ∃ t, exec (.imgAbort p) s = .next t ∧ t.ld.st = 0 ∧ t.ld.cur = s.ld.cur ∧ t.flash = s.flash) ∧
  (∀ (p : Post) (s : State),
    s.running = true →
    2 ≤ p.role.toNat →
    s.ld.st = 3 →
    exec (.imgActivate p) s = .next (State.setResult { s with ld := { s.ld with st := 5, goNow := true, latRole := p.role, latPath := p.path } } 0x0104 1 p)) ∧
  (∀ (p : Post) (s : State),
    s.running = true →
    s.isT = true →
    1 ≤ p.role.toNat →
    p.a0.toNat < 64 →
    s.noImage p.a0.toNat = true →
    exec (.imgRedeliver p) s = .next (s.setResult 0x0105 1 p)) ∧
  (∀ (p : Post) (s : State),
    s.running = true →
    s.isT = true →
    1 ≤ p.role.toNat →
    p.a0.toNat < 64 →
    s.noImage p.a0.toNat = false →
    exec (.imgRedeliver p) s = .next ((s.deliver p.a0.toNat true).setResult 0x0105 1 p))

/-- R73, R81 to R83, R531: a die takes an offer when it is idle; a section out of sequence refuses the load; the tray sends the next section of the link whose turn it is; a refused offer goes out again; IMAGE_ACTIVE becomes the die's last report, and ends an offer that it answers. -/
def Obligations.ImageDelivery : Prop :=
  (∀ (d : DWord) (n : Word) (s : State),
    s.isD = true →
    s.ld.st = 0 →
    s.pwr.pf = false →
    exec (.imgOffer d n) s = .next (let t := s.take 0 0 0x20; { t with ld := { t.ld with
      st := 1, srcLoad := 3, latNv := false, latAct := 0, latLen := n.toNat, latStroke := 0, latRole := 0, latPath := 0
      shadow := ⟨0, []⟩, goNow := false, late := false, startup := false, latDigest := d } })) ∧
  (∀ (o : Word) (b : List Byte) (s : State),
    s.isD = true →
    s.ld.st = 1 →
    s.ld.srcLoad = 3 →
    o.toNat ≠ s.ld.shadow.len →
    exec (.imgSect o b) s = .next ((s.take 0 3 0x60).loadRefuse (0xF, 0, 0xF, s.ld.shadow.len))) ∧
  (∀ (o : Word) (b : List Byte) (s : State),
    s.isD = true →
    s.ld.st = 1 →
    s.ld.srcLoad = 3 →
    o = 0 →
    s.ld.shadow.len = 0 →
    b = [0x42, 0x4D, 0x4B, 0x36] →
    ∃ t, exec (.imgSect o b) s = .next t ∧ t.ld.st = 1 ∧ t.ld.shadow.len = 4 ∧ Unchanged [.ld, .ul] s t) ∧
  (∀ (d : Delivery) (s : State),
    s.isT = true →
    s.pwr.selfRefresh = false →
    s.pwr.memFail = false →
    s.tray.deliveries = [d] →
    s.tray.rotate = d.link →
    (s.link d.link.toNat).tr.state = 4 →
    ((s.link d.link.toNat).txv 3).queue = [] →
    (Tab.get default s.tray.cache d.entry.toNat).len = d.sent + 64 →
    exec .deliverySectionSend s = .next { s.send d.link.toNat 3 0x60
      (le 4 d.sent ++ le 4 0 ++ (Tab.get default s.tray.cache d.entry.toNat).bytes d.sent 64) with
      tray := { s.tray with deliveries := [], rotate := d.link + 1 } }) ∧
  (∀ (k : BitVec 6) (asked : Bool) (s : State),
    s.isT = true →
    s.user = true →
    (s.link k.toNat).tr.state = 4 →
    (s.tray.offers.find? fun o => o.1 == k) = some (k, asked) →
    (asked = true ∨ s.wantsImage k.toNat = true) →
    exec (.imgOfferRepeat k) s = .next (s.deliver k.toNat asked)) ∧
  (∀ (k : BitVec 6) (d : DWord) (v : Word) (src : BitVec 2) (h : DWord) (pe ph : Word) (a : DWord) (s : State),
    s.isT = true →
    s.tray.offers = [] →
    exec (.imageActive k d v src h pe ph a) s = .next (let t := s.take k.toNat 0 0x13; { t with tray := { t.tray with reports := Tab.set default t.tray.reports k.toNat ⟨d, v, src, true⟩ } })) ∧
  (∀ (k : BitVec 6) (d : DWord) (v : Word) (src : BitVec 2) (h : DWord) (pe ph : Word) (a : DWord) (s : State),
    s.isT = true →
    s.tray.offers = [(k, true)] →
    d = s.expDigest k.toNat →
    ∃ t, exec (.imageActive k d v src h pe ph a) s = .next t ∧ t.tray.reports = Tab.set default s.tray.reports k.toNat ⟨d, v, src, true⟩ ∧ t.tray.offers = [] ∧ Unchanged [.tray, .ul] s t)

/-- R70, R76, R78, R79, R89, R90, R500, R527: an image that passes every check is ready, held, or written to flash, and one that fails is refused; a failed flash write leaves the image in force alone; a ready image comes into force at a taken boundary, with its digest and source; at the end of STORE a valid record in flash starts the load of its image, and a tray without one stays under factory defaults with the reason that its validity sector gives; the recorder's scan of whatever the flash holds makes it READY and counts the power cycle. -/
def Obligations.ImageInForce : Prop :=
  (∀ (s : State),
    s.ld.st = 2 →
    s.ld.startup = false →
    ∃ t, exec .imageCheckDone s = .next t ∧ t.ld.cur = s.ld.cur ∧ t.flash = s.flash ∧
    (s.shadowFail = none → t.ld.st = (if s.ld.latNv then 4 else if s.ld.latAct = 2 then 3 else 5)) ∧
    (s.shadowFail ≠ none → t.ld.st = 0) ∧ Unchanged [.sys, .integ, .ld, .trc, .ttrc, .ul, .evr] s t) ∧
  (∀ (s : State),
    s.ld.st = 2 →
    s.ld.startup = true →
    s.sys.phase = 4 →
    s.shadowFail ≠ none →
    ∃ t, exec .imageCheckDone s = .next t ∧ t.ld.st = 0 ∧ t.ld.fdReason = 4 ∧ t.sys.phase = 5 ∧ t.ld.cur = s.ld.cur ∧ t.stuck 0 1 = true ∧ t.stuck 0 4 = true ∧ Unchanged [.sys, .integ, .ld, .trc, .ttrc, .ul, .evr] s t) ∧
  (∀ (f : Nat × Nat × Nat × Nat) (s : State),
    s.ld.st = 2 →
    s.ld.startup = false →
    s.shadowFail = some f →
    ∃ t, exec .imageCheckDone s = .next t ∧ t.ld.st = 0 ∧ t.ld.cur = s.ld.cur ∧ t.ld.srcForce = s.ld.srcForce ∧ t.stuck 0 1 = true ∧ Unchanged [.sys, .integ, .ld, .trc, .ttrc, .ul, .evr] s t) ∧
  (∀ (f : Byte) (s : State),
    s.isT = true →
    s.ld.st = 4 →
    1 ≤ f.toNat →
    f.toNat ≤ 6 →
    ∃ t, exec (.nvWriteComplete f) s = .next t ∧ t.ld.st = 0 ∧ t.ld.nvFail = true ∧ t.ld.cur = s.ld.cur ∧
    Unchanged [.ld, .tray, .flash, .sys, .evr, .trc, .ttrc, .ul] s t) ∧
  (∀ (s : State),
    s.isT = true →
    s.ld.st = 4 →
    s.ld.latAct = 0 →
    ∃ t, exec (.nvWriteComplete 0) s = .next t ∧ t.ld.st = 5 ∧ t.tray.nvCount = s.tray.nvCount + 1 ∧ t.ld.cur = s.ld.cur ∧
    Unchanged [.ld, .tray, .flash, .sys, .evr, .trc, .ttrc, .ul] s t) ∧
  (∀ (s : State),
    s.running = true →
    s.heat.taken = true →
    s.heat.inGap = false →
    s.ld.st = 5 →
    (s.ld.goNow = true ∨ s.ld.latAct ≠ 1 ∨ s.ld.latStroke.toNat ≤ s.tb.stroke.toNat) →
    ∃ t, exec .imageActivation s = .next t ∧ t.ld.cur = some s.ld.shadow ∧ t.ld.st = 0 ∧ t.ld.srcForce = s.ld.srcLoad ∧
    t.ld.digest = BitVec.ofNat 64 (s.ld.shadow.num 0x18 8) ∧ t.ld.digestC = ~~~ t.ld.digest ∧ t.integ.staged = none ∧
    Unchanged [.sys, .pwr, .integ, .heat, .ld, .tray, .prb, .creg, .sns, .tb, .ptp, .trc, .ttrc, .cmp, .led, .fpc, .red, .inr, .te, .ump, .ul, .nb, .roles, .evr, .rw, .wc2] s t) ∧
  (∀ (us : Word) (s : State),
    s.isT = true →
    s.sys.phase = 3 →
    s.sys.sfdpDone = true →
    s.sys.scanDone = true →
    s.sys.lp5Done = true →
    s.nb.flashReady = false →
    ∃ t, exec (.storePhaseEnd us) s = .next t ∧ t.sys.phase = 5 ∧ t.ld.fdReason = 2 ∧ t.ld.cur = s.ld.cur ∧ t.stuck 0 4 = true ∧
    Unchanged [.sys, .integ, .ld, .tray, .trc, .ttrc, .ul, .evr] s t) ∧
  (∀ (us : Word) (s : State),
    s.isT = true →
    s.sys.phase = 3 →
    s.sys.sfdpDone = true →
    s.sys.scanDone = true →
    s.sys.lp5Done = true →
    s.nb.flashReady = true →
    leAt (s.flashBytes validBase 32) 0 4 ≠ 0x564B4D42 →
    ∃ t, exec (.storePhaseEnd us) s = .next t ∧ t.sys.phase = 5 ∧ t.ld.cur = s.ld.cur ∧ t.stuck 0 4 = true ∧
    t.ld.fdReason = (if leAt (s.flashBytes (validBase + 0x40) 8) 0 4 = 0x4F4B4D42 then 5 else 2) ∧
    Unchanged [.sys, .integ, .ld, .tray, .trc, .ttrc, .ul, .evr] s t) ∧
  (∀ (us : Word) (s : State),
    s.isT = true →
    s.sys.phase = 3 →
    s.sys.sfdpDone = true →
    s.sys.scanDone = true →
    s.sys.lp5Done = true →
    s.nb.flashReady = true →
    leAt (s.flashBytes validBase 32) 0 4 = 0x564B4D42 →
    leAt (s.flashBytes validBase 32) 8 8 + leAt (s.flashBytes validBase 32) 16 8 = 2 ^ 64 - 1 →
    leAt (s.flashBytes validBase 32) 24 4 + leAt (s.flashBytes validBase 32) 28 4 = 2 ^ 32 - 1 →
    ∃ t, exec (.storePhaseEnd us) s = .next t ∧ t.sys.phase = 4 ∧ t.ld.st = 2 ∧ t.ld.startup = true ∧ t.ld.srcLoad = 1 ∧ t.ld.cur = s.ld.cur ∧
    t.ld.shadow = s.slotImage (min 0x01000000 (leAt (s.flashBytes validBase 32) 4 4)) ∧ Unchanged [.sys, .ld, .tray] s t) ∧
  (∀ (s : State),
    s.isT = true →
    s.sys.phase = 3 →
    s.nb.flashReady = true →
    s.sys.scanDone = false →
    ∃ t, exec .recorderStartupScan s = .next t ∧ t.sys.scanDone = true ∧ t.evr.ready = true ∧
    (s.odoLatest = none → t.evr.pcyc = 1 ∧ t.evr.hours = 0 ∧ t.evr.odoNew = true) ∧
    (∀ i, s.odoLatest = some i → t.evr.pcyc = BitVec.ofNat 32 (leAt (s.odoBytes i) 0 4 + 1) ∧ t.evr.hours = BitVec.ofNat 32 (leAt (s.odoBytes i) 4 4)) ∧
    Unchanged [.sys, .trc, .ttrc, .ul, .evr, .flash] s t) ∧
  (∀ (s : State),
    s.isT = true →
    s.sys.phase = 3 →
    s.nb.flashReady = true →
    s.sys.scanDone = false →
    s.flash = [] →
    ∃ t, exec .recorderStartupScan s = .next t ∧ t.evr.pcyc = 1 ∧ t.evr.hours = 0 ∧ t.evr.headN = 0 ∧ Unchanged [.sys, .trc, .ttrc, .ul, .evr, .flash] s t)

/-- R113 to R117, R157, R237, R244, R298, R333, R401: the read of a low word or of word 0 answers it and latches the rest, a high word reads the latch, a word with a memory error sets PERR and is counted, TAKEN clears when CNT_SNAP is read, and nothing else of the block changes. -/
def Obligations.LatchingReads : Prop :=
  (∀ (a : Acc) (s : State),
    s.running = true →
    s.isD = true →
    exec (.cntLiveRead a) s = .next (let v := s.liveShown s.liveSel; let t := s.answered a false 0x10028 (v.setWidth 32)
    { t with creg := { t.creg with liveHi := (v >>> 32).setWidth 32 } })) ∧
  (∀ (a : Acc) (n : BitVec 12) (s : State),
    s.running = true →
    s.isD = true →
    Tab.get false s.prb.snapBad n.toNat = false →
    exec (.snapshotBankRead a (BitVec.ofNat 13 (2 * n.toNat)) false) s = .next (let v := Tab.get 0 s.prb.snap n.toNat; let t := s.answered a false (0x18000 + 8 * n.toNat) (v.setWidth 32)
    { t with creg := { t.creg with latchN := some n, latch := (v >>> 32).setWidth 32 } })) ∧
  (∀ (a : Acc) (n : BitVec 12) (pe : Bool) (s : State),
    s.running = true →
    s.isD = true →
    s.creg.latchN = some n →
    exec (.snapshotBankRead a (BitVec.ofNat 13 (2 * n.toNat + 1)) pe) s = .next (s.answered a false (0x18000 + 8 * n.toNat + 4) s.creg.latch)) ∧
  (∀ (a : Acc) (n : BitVec 12) (s : State),
    s.running = true →
    s.isD = true →
    ∃ t, exec (.snapshotBankRead a (BitVec.ofNat 13 (2 * n.toNat)) true) s = .next t ∧ t.prb.perr = true ∧ Tab.get 0 t.integ.memUe 2 = satInc (Tab.get 0 s.integ.memUe 2) ∧ t.stuck 3 3 = true ∧
    t.creg = { s.creg with latchN := some n, latch := (Tab.get 0 s.prb.snap n.toNat >>> 32).setWidth 32 } ∧ Unchanged [.sys, .integ, .heat, .prb, .creg, .trc, .ttrc, .ul, .evr, .test] s t) ∧
  (∀ (a : Acc) (s : State),
    s.running = true →
    exec (.cntSnapRead a) s = .next (let t := s.answered a false 0x10000 s.cntSnapWord; { t with prb := { t.prb with taken := false } })) ∧
  (∀ (a : Acc) (s : State),
    s.running = true →
    s.isD = true →
    exec (.tbStrokeRead a) s = .next (let t := s.answered a false 0x2000 (s.tb.stroke.setWidth 32)
    { t with tb := { t.tb with latHi := BitVec.ofNat 32 (s.tb.stroke.toNat / 2 ^ 32), latTai := 0 } })) ∧
  (∀ (a : Acc) (s : State),
    s.running = true →
    s.isT = true →
    exec (.tbStrokeRead a) s = .next (let t := s.answered a false 0x2000 (s.tb.stroke.setWidth 32)
    { t with tb := { t.tb with latHi := BitVec.ofNat 32 (s.tb.stroke.toNat / 2 ^ 32)
                               latTai := if s.tb.taiValid then taiOf (s.timeAt s.sinceSeg) else 0 } })) ∧
  (∀ (a : Acc) (s : State),
    s.running = true →
    exec (.tlyDumpRead a) s = .next (let t := s.answered a false 0x51000 (BitVec.ofNat 32 (leAt s.tly.dump 0 4)); { t with tly := { t.tly with latch := some s.tly.dump } })) ∧
  (∀ (a : Acc) (s : State),
    s.running = true →
    s.isD = true →
    exec (.ledgerRdRead a) s = .next (let b := Tab.get [] s.led.ring (s.rwd 0x48010 0 % 4096); let t := s.answered a false 0x48020 (BitVec.ofNat 32 (leAt b 0 4))
    { t with led := { t.led with latch := b } })) ∧
  (∀ (a : Acc) (c : BitVec 3) (s : State),
    s.running = true →
    s.isD = true →
    exec (.scnChLastIdRead a c) s = .next ((s.answered a false (0x4040C + 64 * c.toNat) (s.chan c.toNat).last.id).setChan c.toNat { s.chan c.toNat with latch := (s.chan c.toNat).last })) ∧
  (∀ (a : Acc) (s : State),
    s.running = true →
    s.isT = true →
    exec (.stStepRead a) s = .next (let t := s.answered a false 0x80204 s.red.pub.step; { t with red := { t.red with latch := s.red.pub, latched := true } })) ∧
  (∀ (a : Acc) (s : State),
    s.running = true →
    s.isT = true →
    exec (.teScoreHeatRead a) s = .next (let t := s.answered a false 0x70100 ((s.te.pub.map fun x => x.heat.setWidth 32).getD 0); { t with te := { t.te with latch := some s.te.pub } }))

/-- R171, R298, R333, R376, R504: the selection is kept, its view is copied at the write (the empty sketch at or above NFIG, 0xFFFF codes for a die without scores), and a selected record becomes READY by EVR_READ_DONE and is held until the next selection. -/
def Obligations.SelectWrites : Prop :=
  (∀ (a : Acc) (s : State),
    Allowed s a 0x30030 1 →
    exec (.trcRdSelWrite a) s = .next (let t := s.answered a true 0x30030 0
    { t with trc := { t.trc with rdSel := BitVec.ofNat 14 (a.data.toNat % 2 ^ 14), rdGen := (t.blockAt (a.data.toNat % 2 ^ 14)).gen } })) ∧
  (∀ (a : Acc) (s : State),
    Allowed s a 0x80100 1 →
    s.isT = true →
    a.data.toNat % 32 < s.nFig →
    exec (.skSelWrite a) s = .next (let t := s.answered a true 0x80100 0
    { t with red := { t.red with sel := BitVec.ofNat 5 (a.data.toNat % 32), view := t.red.lastSketches.getD (a.data.toNat % 32) (Sketch.empty 0 0) } })) ∧
  (∀ (a : Acc) (s : State),
    Allowed s a 0x80100 1 →
    s.isT = true →
    s.nFig ≤ a.data.toNat % 32 →
    exec (.skSelWrite a) s = .next (let t := s.answered a true 0x80100 0
    { t with red := { t.red with sel := BitVec.ofNat 5 (a.data.toNat % 32), view := Sketch.empty 0 0 } })) ∧
  (∀ (a : Acc) (s : State),
    Allowed s a 0x70800 1 →
    s.isT = true →
    s.te.pub = none →
    exec (.teFselWrite a) s = .next (let t := s.answered a true 0x70800 0
    { t with te := { t.te with fsel := a.data.setWidth 6, view := List.replicate 256 0xFFFF } })) ∧
  (∀ (a : Acc) (x : Scored) (d : DieScore) (s : State),
    Allowed s a 0x70800 1 →
    s.isT = true →
    s.te.pub = some x →
    x.dies.find? (fun p => p.1 == a.data.setWidth 6) = some (a.data.setWidth 6, d) →
    exec (.teFselWrite a) s = .next (let t := s.answered a true 0x70800 0
    { t with te := { t.te with fsel := a.data.setWidth 6, view := d.codes } })) ∧
  (∀ (a : Acc) (s : State),
    Allowed s a 0x63000 1 →
    s.isT = true →
    exec (.detSelWrite a) s = .next (let t := s.answered a true 0x63000 0
    { t with ump := { t.ump with detSel := BitVec.ofNat 6 (a.data.toNat % 64), detView := (List.range 256).map fun n => t.det n (a.data.toNat % 64) } })) ∧
  (∀ (a : Acc) (s : State),
    Allowed s a 0xB0040 1 →
    exec (.evrSelWrite a) s = .next (let t := s.answered a true 0xB0040 0
    { t with evr := { t.evr with sel := BitVec.ofNat 17 (a.data.toNat % 2 ^ 15 + fieldAt (bits a.data.toNat 17 16) 15 2), held := none } })) ∧
  (∀ (s : State),
    s.running = true →
    s.evr.held = none →
    exec .evrReadDone s = .next { s with evr := { s.evr with held := s.selected } }) ∧
  (∀ (b : List Byte) (s : State),
    s.running = true →
    s.evr.held = some b →
    exec .evrReadDone s = .next s)

/-- R16, R342, R354, R358, R146, R374, R508: a high-word write that matches the staged low word stores the value with its complement; one that does not match, or whose value is out of range, or with nothing staged, is refused with the WC2 sticky bit and stores nothing. -/
def Obligations.ProtectedCommits : Prop :=
  (∀ (a : Acc) (n : BitVec 8) (hi : Bool) (w : Word) (s : State),
    (Allowed s a ((0x61000 + 16 * n.toNat + (if hi then 0 else 8)) + 4) 2) →
    (s.integ.staged = some (BitVec.ofNat 20 (0x61000 + 16 * n.toNat + (if hi then 0 else 8)), w)) →
    a.data = ~~~ w →
    s.detWordOk n.toNat hi w = true →
    ∃ t, exec (.detThresholdCommit a n hi) s = .next t ∧ t.integ.staged = none ∧
    t.wc2 = Tab.set none s.wc2 ((0x61000 + 16 * n.toNat + (if hi then 0 else 8)) / 4) (some (w, ~~~ w)) ∧ Unchanged [.wc2, .integ, .heat, .test, .sys, .evr, .trc, .ttrc, .ul] s t) ∧
  (∀ (a : Acc) (n : BitVec 8) (hi : Bool) (w : Word) (s : State),
    (Allowed s a ((0x61000 + 16 * n.toNat + (if hi then 0 else 8)) + 4) 2) →
    (s.integ.staged = some (BitVec.ofNat 20 (0x61000 + 16 * n.toNat + (if hi then 0 else 8)), w)) →
    (a.data ≠ ~~~ w ∨ s.detWordOk n.toNat hi w = false) →
    ∃ t, exec (.detThresholdCommit a n hi) s = .next t ∧ t.integ.staged = none ∧ t.wc2 = s.wc2 ∧ t.stuck 3 0 = true ∧
    Unchanged [.integ, .heat, .test, .sys, .evr, .trc, .ul, .ttrc] s t) ∧
  (∀ (a : Acc) (i : BitVec 6) (w : BitVec 2) (v : Word) (s : State),
    Allowed s a ((0x60000 + 32 * i.toNat + 8 * w.toNat) + 4) 2 →
    s.integ.staged = some (BitVec.ofNat 20 (0x60000 + 32 * i.toNat + 8 * w.toNat), v) →
    a.data = ~~~ v →
    s.nRule ≤ i.toNat →
    v = 0 →
    (∀ j ∈ List.range 4, s.polStored i.toNat j = 0) →
    ∃ t, exec (.polRuleCommit a i w) s = .next t ∧ t.wc2 = Tab.set none s.wc2 ((0x60000 + 32 * i.toNat + 8 * w.toNat) / 4) (some (v, ~~~ v)) ∧
    t.ump = { s.ump with rulePend := s.ump.rulePend ++ [(4 * i.toNat + w.toNat, v)] } ∧ Unchanged [.wc2, .ump, .integ, .heat, .test, .sys, .evr, .trc, .ul, .ttrc] s t) ∧
  (∀ (a : Acc) (i : BitVec 6) (w : BitVec 2) (s : State),
    Allowed s a ((0x60000 + 32 * i.toNat + 8 * w.toNat) + 4) 2 →
    s.integ.staged = none →
    ∃ t, exec (.polRuleCommit a i w) s = .next t ∧ t.stuck 3 0 = true ∧ Unchanged [.integ, .heat, .test, .sys, .evr, .trc, .ul, .ttrc] s t) ∧
  (∀ (a : Acc) (hi : Bool) (v : Word) (s : State),
    (Allowed s a ((if hi then 0x62810 else 0x62808) + 4) 2) →
    (s.integ.staged = some (BitVec.ofNat 20 (if hi then 0x62810 else 0x62808), v)) →
    a.data = ~~~ v →
    (s.isT = true ∨ (hi = false ∧ v.toNat ≤ 1)) →
    ∃ t, exec (.drnEnCommit a hi) s = .next t ∧ t.wc2 = Tab.set none s.wc2 ((if hi then 0x62810 else 0x62808) / 4) (some (v, ~~~ v)) ∧ Unchanged [.wc2, .integ, .heat, .test, .sys, .evr, .trc, .ttrc, .ul] s t) ∧
  (∀ (a : Acc) (v : Word) (s : State),
    Allowed s a 0x2024 2 →
    s.isT = true →
    s.integ.staged = some (0x2020, v) →
    a.data = ~~~ v →
    s.tb.manual = true →
    v.toInt.natAbs ≤ 219902325 →
    s.cpl 5 0 = false →
    ∃ t, exec (.tbRateCommit a) s = .next t ∧ t.tb = { s.tb with adj := v, adjC := ~~~ v, rateDue := some v.toInt } ∧
    Unchanged [.tb, .integ, .heat, .test, .sys, .evr, .trc, .ul, .ttrc] s t) ∧
  (∀ (a : Acc) (v : Word) (s : State),
    Allowed s a 0x2024 2 →
    s.isT = true →
    s.integ.staged = some (0x2020, v) →
    s.tb.manual = false →
    ∃ t, exec (.tbRateCommit a) s = .next t ∧ t.stuck 3 0 = true ∧ t.integ.staged = none ∧ Unchanged [.integ, .heat, .test, .sys, .evr, .trc, .ul, .ttrc] s t)

/-- R378, R379, R386, R387, R389, R397: a write to TLY_ADD_n in TALLY service adds and logs, and is refused in another mode; a remote signal goes to its destination; TLY_CFG_n takes a mode whose fields pass, with B one product on, and is refused with STATE while a wait is registered; TLY_BIND_j binds a FREE tally only; TLY_CTRL changes the service with a record. -/
def Obligations.TallyWrites : Prop :=
  (∀ (a : Acc) (n : BitVec 6) (s : State),
    Allowed s a (0x50500 + 4 * n.toNat) 1 →
    n.toNat < 48 →
    a.path ≠ 9 →
    BitVec.setWidth 16 a.data ≠ 0 →
    s.tly.halted = false →
    s.tly.mode n.toNat = 0 →
    exec (.tlyAddWrite a n) s = .next (let t := s.answered a true (0x50500 + 4 * n.toNat) 0; { t with tly := { t.tly with
      cnt := Tab.set 0 t.tly.cnt n.toNat (t.tly.c n.toNat + (a.data.setWidth 16).setWidth 32)
      log := (t.tly.log ++ ([⟨t.tb.stroke, t.tly.c n.toNat + (a.data.setWidth 16).setWidth 32, a.data.setWidth 16, BitVec.ofNat 8 n.toNat, 0x20⟩] : List TallyLog)).drop (t.tly.log.length - 31) } })) ∧
  (∀ (a : Acc) (n : BitVec 6) (s : State),
    Allowed s a (0x50500 + 4 * n.toNat) 1 →
    n.toNat < 48 →
    a.path = 9 →
    s.tly.svc = 0 →
    ∃ t, exec (.tlyAddWrite a n) s = .next t ∧ t.tly = { s.tly with refused := satInc s.tly.refused } ∧ t.stuck 2 2 = true ∧ Unchanged [.tly, .integ, .heat, .test, .sys, .evr, .trc, .ttrc, .ul] s t) ∧
  (∀ (a : Acc) (s : State),
    Allowed s a 0x5070C 1 →
    s.isD = true →
    s.tly.svc ≠ 0 →
    a.data.toNat % 128 < 64 →
    bits a.data.toNat 13 8 < 48 →
    bits a.data.toNat 31 16 ≠ 0 →
    exec (.tlyRemoteWrite a) s = .next ((s.answered a true 0x5070C 0).send 0 0 0x31 (tallySigBody (a.data.toNat % 128) (bits a.data.toNat 13 8) (BitVec.ofNat 16 (bits a.data.toNat 31 16)).toNat (s.answered a true 0x5070C 0).fsid.toNat))) ∧
  (∀ (a : Acc) (s : State),
    Allowed s a 0x5070C 1 →
    64 ≤ a.data.toNat % 128 →
    a.data.toNat % 128 ≠ 127 →
    ∃ t, exec (.tlyRemoteWrite a) s = .next t ∧ t.tly = { s.tly with refused := satInc s.tly.refused } ∧ t.stuck 2 2 = true ∧ Unchanged [.tly, .integ, .heat, .test, .sys, .evr, .trc, .ttrc, .ul] s t) ∧
  (∀ (a : Acc) (n : BitVec 6) (s : State),
    Allowed s a (0x50100 + 4 * n.toNat) 1 →
    n.toNat < 48 →
    s.cfgReason n.toNat a.data.toNat = 0 →
    a.data.toNat % 4 = 0 →
    exec (.tlyCfgWrite a n) s = .next (let t := s.answered a true (0x50100 + 4 * n.toNat) 0; { t with tly := { t.tly with
      cfg := Tab.set 0 t.tly.cfg n.toNat (BitVec.ofNat 32 (fieldAt (bits a.data.toNat 13 8) 8 6 + fieldAt (a.data.toNat / 2 ^ 16) 16 16)), last := Tab.set 0 t.tly.last n.toNat (t.tly.c n.toNat)
      next := Tab.set 0 t.tly.next n.toNat 0, barStep := Tab.set 0 t.tly.barStep n.toNat 0 } })) ∧
  (∀ (a : Acc) (n : BitVec 6) (s : State),
    Allowed s a (0x50100 + 4 * n.toNat) 1 →
    n.toNat < 48 →
    s.cfgReason n.toNat a.data.toNat = 0 →
    a.data.toNat % 4 = 2 →
    ∃ t, exec (.tlyCfgWrite a n) s = .next t ∧ t.tly.next = Tab.set 0 s.tly.next n.toNat (s.tly.c n.toNat + BitVec.ofNat 32 (s.barStep n.toNat)) ∧
    t.tly.barStep = Tab.set 0 s.tly.barStep n.toNat (BitVec.ofNat 32 (s.barStep n.toNat)) ∧ Unchanged [.tly, .heat, .test] s t) ∧
  (∀ (a : Acc) (n : BitVec 6) (s : State),
    Allowed s a (0x50100 + 4 * n.toNat) 1 →
    n.toNat < 48 →
    s.cfgReason n.toNat a.data.toNat ≠ 0 →
    ∃ t, exec (.tlyCfgWrite a n) s = .next t ∧ t.tly = s.tly ∧ t.stuck 3 0 = true ∧ Unchanged [.integ, .heat, .test, .sys, .evr, .trc, .ttrc, .ul] s t) ∧
  (∀ (a : Acc) (j : BitVec 4) (s : State),
    Allowed s a (0x50600 + 4 * j.toNat) 1 →
    bits a.data.toNat 15 8 = 3 →
    a.data.toNat % 64 < 48 →
    s.tly.mode (a.data.toNat % 64) = 0 →
    exec (.tlyBindWrite a j) s = .next (let t := s.answered a true (0x50600 + 4 * j.toNat) 0; { t with tly := { t.tly with
      bind := Tab.set 0 t.tly.bind j.toNat (BitVec.ofNat 32 (a.data.toNat % 64 + fieldAt 3 8 8 + fieldAt (bits a.data.toNat 18 16) 16 3)) } })) ∧
  (∀ (a : Acc) (j : BitVec 4) (s : State),
    Allowed s a (0x50600 + 4 * j.toNat) 1 →
    bits a.data.toNat 15 8 = 3 →
    (48 ≤ a.data.toNat % 64 ∨ s.tly.mode (a.data.toNat % 64) ≠ 0) →
    ∃ t, exec (.tlyBindWrite a j) s = .next t ∧ t.tly = s.tly ∧ t.stuck 3 0 = true ∧ Unchanged [.integ, .heat, .test, .sys, .evr, .trc, .ttrc, .ul] s t) ∧
  (∀ (a : Acc) (s : State),
    Allowed s a 0x50700 1 →
    BitVec.setWidth 2 a.data ≠ s.tly.svc →
    ∃ t, exec (.tlyCtrlWrite a) s = .next t ∧ t.tly = { s.tly with svc := a.data.setWidth 2 } ∧ Unchanged [.tly, .heat, .test, .sys, .evr, .trc, .ttrc, .ul] s t)

/-- R143, R180, R222, R249, R325, R362, R453, R460: TB_CTRL, CAP_EN, SCN_POST, SHD_ARM, TE_BLOB_DATA, UMP_JOBLIVE, NB_GATE_CHG and NB_T1S_ID. -/
def Obligations.EngineWrites : Prop :=
  (∀ (a : Acc) (s : State),
    Allowed s a 0x30000 1 →
    a.data.getLsbD 0 = true →
    exec (.capEnWrite a) s = .next (let t := s.answered a true 0x30000 0; { t with trc := { t.trc with
      capEn := some true, resume := t.trc.resume || !(t.trc.capEn.getD (s.img 6 0 4 0).bodd) } })) ∧
  (∀ (a : Acc) (s : State),
    Allowed s a 0x30000 1 →
    a.data.getLsbD 0 = false →
    exec (.capEnWrite a) s = .next (let t := s.answered a true 0x30000 0; { t with trc := { t.trc with capEn := some false } })) ∧
  (∀ (a : Acc) (s : State),
    Allowed s a 0x200C 2 →
    s.isT = true →
    a.data.getLsbD 0 = s.tb.manual →
    exec (.tbCtrlWrite a) s = .next ((s.answered a true 0x200C 0).cfgWrite a 0x200C a.data)) ∧
  (∀ (a : Acc) (s : State),
    Allowed s a 0x200C 2 →
    s.isT = true →
    a.data.getLsbD 0 = true →
    s.tb.manual = false →
    ∃ t, exec (.tbCtrlWrite a) s = .next t ∧ t.tb.manual = true ∧ t.ptp.acquire = [] ∧ t.tb.rateDue = none ∧ t.tb.stroke = s.tb.stroke ∧
    Unchanged [.tb, .ptp, .heat, .test, .sys, .evr, .trc, .ttrc, .ul] s t) ∧
  (∀ (a : Acc) (hi : Bool) (s : State),
    (Allowed s a (if hi then 0x62834 else 0x62830) 1) →
    s.isT = true →
    exec (.umpJobliveWrite a hi) s = .next (let t := s.answered a true (if hi then 0x62834 else 0x62830) 0; { t with ump := { t.ump with jobWritten := true, jobLive := (if hi then a.data ++ (t.ump.jobLive.setWidth 32 : Word) else ((t.ump.jobLive >>> 32).setWidth 32 : Word) ++ a.data) } })) ∧
  (∀ (a : Acc) (s : State),
    Allowed s a 0x4001C 1 →
    s.isD = true →
    (s.answered a true 0x4001C 0).postCheck a.data.toNat = 0 →
    exec (.scnPost a) s = .next (let t := s.answered a true 0x4001C 0
    let u : State := { t with scn := { t.scn with postStat := BitVec.ofNat 8 (fieldAt (a.data.toNat % 8) 4 3) } }
    u.setChan (a.data.toNat % 8) { u.chan (a.data.toNat % 8) with queue := (u.chan (a.data.toNat % 8)).queue ++ [u.staged] })) ∧
  (∀ (a : Acc) (s : State),
    Allowed s a 0x4001C 1 →
    s.isD = true →
    (s.answered a true 0x4001C 0).postCheck a.data.toNat ≠ 0 →
    ∃ t, exec (.scnPost a) s = .next t ∧ t.scn = { s.scn with postStat := BitVec.ofNat 8 (fieldAt (a.data.toNat % 8) 4 3 + (s.answered a true 0x4001C 0).postCheck a.data.toNat) } ∧
    t.stuck 1 1 = true ∧ Unchanged [.scn, .integ, .heat, .test, .sys, .evr, .trc, .ttrc, .ul] s t) ∧
  (∀ (a : Acc) (i : BitVec 10) (s : State),
    Allowed s a (0x4C00C + 16 * i.toNat) 1 →
    s.isD = true →
    exec (.shdArmWrite a i) s = .next (let t := s.answered a true (0x4C00C + 16 * i.toNat) 0
    { t with led := (t.led.setShard i.toNat { bytes := BitVec.ofNat 48 (fieldAt a.data.toNat 32 16 + (t.led.shard i.toNat).bytes.toNat % 2 ^ 32), pset := BitVec.ofNat 2 (bits a.data.toNat 17 16), state := if a.data.toNat.testBit 31 then 1 else 0 }) })) ∧
  (∀ (a : Acc) (s : State),
    Allowed s a 0x70018 1 →
    s.isT = true →
    s.te.st = 1 →
    s.te.recv.toNat + 4 ≤ s.blobLen →
    exec (.teBlobDataWrite a) s = .next (let t := (s.answered a true 0x70018 0).lp5Put (s.blobBase + s.te.recv.toNat) (le 4 a.data.toNat); { t with te := { t.te with recv := t.te.recv + 4 } })) ∧
  (∀ (a : Acc) (s : State),
    Allowed s a 0x70018 1 →
    s.isT = true →
    s.te.st = 1 →
    s.blobLen < s.te.recv.toNat + 4 →
    exec (.teBlobDataWrite a) s = .next (let t := s.answered a true 0x70018 0; { t with te := { t.te with beyond := true } })) ∧
  (∀ (a : Acc) (s : State),
    Allowed s a 0x92004 2 →
    s.isT = true →
    exec (.nbT1sIdWrite a) s = .next (let t := (s.answered a true 0x92004 0).cfgWrite a 0x92004 a.data; { t with nb := { t.nb with t1s := { t.nb.t1s with
      idOvr := a.data.getLsbD 8, id := a.data.setWidth 8, clash := false, evidence := [] } } }))

/-- R116 to R120: SNAPSHOT pends a hold for the enabled clusters of its mask, HOLD 0 meaning 4,096 heats, and is refused without an image, while one pends or holds, or for a cluster that is off; SNAP_RELEASE cancels or releases; the hold begins at a boundary due for every masked cluster, and at its end the masked clusters freeze with HELD and the expiry shows where no release came. -/
def Obligations.SnapshotHolds : Prop :=
  (∀ (p : Post) (s : State),
    s.running = true →
    s.isD = true →
    1 ≤ p.role.toNat →
    p.a2 = 0 →
    (p.a1 ++ p.a0 : DWord) ≠ 0 →
    s.prb.pending = false →
    s.prb.held = false →
    s.user = true →
    (maskList (p.a1 ++ p.a0 : DWord)).all s.cluEn = true →
    exec (.snapshot p) s = .next (State.setResult { s with prb := { s.prb with pending := true }, creg := { s.creg with pendMask := p.a1 ++ p.a0, pendHold := 4096 } } 0x0201 1 p)) ∧
  (∀ (p : Post) (s : State),
    s.running = true →
    s.isD = true →
    1 ≤ p.role.toNat →
    (s.prb.pending = true ∨ s.prb.held = true ∨ s.user = false) →
    ∃ t, exec (.snapshot p) s = .next t ∧ t.prb = s.prb ∧ t.creg = s.creg ∧ Unchanged [.sys, .integ, .trc, .ttrc, .ul, .roles, .evr] s t) ∧
  (∀ (p : Post) (s : State),
    s.running = true →
    s.isD = true →
    1 ≤ p.role.toNat →
    s.prb.pending = true →
    exec (.snapRelease p) s = .next (State.setResult { s with prb := { s.prb with pending := false } } 0x0202 1 p)) ∧
  (∀ (p : Post) (s : State),
    s.running = true →
    s.isD = true →
    1 ≤ p.role.toNat →
    s.prb.pending = false →
    s.prb.held = true →
    exec (.snapRelease p) s = .next (State.setResult { s with creg := { s.creg with released := true } } 0x0202 1 p)) ∧
  (∀ (s : State),
    s.isD = true →
    s.prb.pending = true →
    s.creg.pendMask ≠ 0 →
    (maskList s.creg.pendMask).all s.prb.due.getLsbD = true →
    exec .holdBegin s = .next { s with
      prb := { s.prb with pending := false, held := true, taken := true, hold := s.creg.pendHold }
      creg := { s.creg with snapHeat := s.heat.heat - 1, snapMask := s.creg.pendMask, released := false } }) ∧
  (∀ (s : State),
    s.isD = true →
    s.prb.held = true →
    s.creg.released = true →
    (maskList s.creg.snapMask).all s.prb.heldDue.getLsbD = true →
    ∃ t, exec .holdEnd s = .next t ∧ t.prb.held = false ∧ t.prb.expired = s.prb.expired ∧ t.prb.pending = s.prb.pending ∧ t.creg = s.creg ∧ Unchanged [.prb, .red] s t) ∧
  (∀ (s : State),
    s.isD = true →
    s.prb.held = true →
    s.creg.released = false →
    (maskList s.creg.snapMask).all s.prb.heldDue.getLsbD = true →
    s.creg.snapHeat.toNat + s.prb.hold.toNat ≤ (s.heat.heat - 1).toNat →
    ∃ t, exec .holdEnd s = .next t ∧ t.prb.held = false ∧ t.prb.expired = true ∧ Unchanged [.prb, .red] s t) ∧
  (∀ (s : State),
    s.prb.held = true →
    s.creg.released = false →
    (s.heat.heat - 1).toNat < s.creg.snapHeat.toNat + s.prb.hold.toNat →
    exec .holdEnd s = .next s)

/-- R97, R102, R104, R107, R112, R113, R118: a cycle of a region without a counting unit only remembers its levels; a dormant region contributes nothing; a transfer adds the pre-stage's delta to the live counter and clears it, wrapping or saturating; a due cluster's sample goes out on CNT once, as a marker while the cluster is held, and a dropped frame leaves the reference alone. -/
def Obligations.CountersAndSamples : Prop :=
  (∀ (r : BitVec 5) (q : BitVec 512) (s : State),
    s.running = true →
    s.isD = true →
    s.heat.dormant.getLsbD r.toNat = true →
    exec (.probeSample r q) s = .next { s with prb := { s.prb with prev := Tab.set 0 s.prb.prev r.toNat q, sampled := setBit s.prb.sampled r.toNat true } }) ∧
  (∀ (r : BitVec 5) (q : BitVec 512) (s : State),
    s.running = true →
    s.isD = true →
    ∃ t, exec (.probeSample r q) s = .next t ∧ t.prb.prev = Tab.set 0 s.prb.prev r.toNat q ∧ t.prb.sampled = setBit s.prb.sampled r.toNat true ∧
    t.prb.live = s.prb.live ∧ t.prb.snap = s.prb.snap ∧ t.prb.stat = s.prb.stat ∧ t.prb.held = s.prb.held ∧ Unchanged [.prb, .ul] s t) ∧
  (∀ (n : BitVec 12) (s : State),
    s.running = true →
    s.isD = true →
    s.regionDis (s.cluRegion (n.toNat / 64)) = false →
    s.cntMode n.toNat = 1 →
    (s.cntProg n.toNat).testBit 4 = false →
    ∃ t, exec (.counterTransfer n) s = .next t ∧ t.prb.live = Tab.set 0 s.prb.live n.toNat (Tab.get 0 s.prb.live n.toNat + Tab.get 0 s.prb.delta n.toNat) ∧
    t.prb.delta = Tab.set 0 s.prb.delta n.toNat 0 ∧ Unchanged [.prb] s t) ∧
  (∀ (n : BitVec 12) (s : State),
    s.running = true →
    s.isD = true →
    s.regionDis (s.cluRegion (n.toNat / 64)) = true →
    exec (.counterTransfer n) s = .next s) ∧
  (∀ (c : BitVec 6) (pe : Bool) (s : State),
    s.running = true →
    s.isD = true →
    s.user = true →
    s.prb.heldDue.getLsbD c.toNat = true →
    ((s.link 0).txv 1).queue = [] →
    ∃ t, exec (.clusterSampleBuild c pe) s = .next t ∧ t.prb = { s.prb with heldDue := setBit s.prb.heldDue c.toNat false } ∧
    t.cmp.enc = s.cmp.enc ∧ Unchanged [.sys, .integ, .prb, .trc, .ttrc, .cmp, .red, .ump, .ul, .evr] s t) ∧
  (∀ (c : BitVec 6) (pe bad : Bool) (s : State),
    s.running = true →
    s.isD = true →
    s.user = true →
    s.prb.heldDue.getLsbD c.toNat = false →
    s.prb.due.getLsbD c.toNat = true →
    ((s.link 0).txv 1).queue = [] →
    bad = (pe || (List.range 64).any fun u => Tab.get false s.prb.snapBad (64 * c.toNat + u)) →
    ∃ t, exec (.clusterSampleBuild c pe) s = .next t ∧ t.prb = { s.prb with due := setBit s.prb.due c.toNat false } ∧
    Tab.get default t.cmp.enc (srcKey (s.cluHdr c.toNat).fsid 1) = { Tab.get default s.cmp.enc (srcKey (s.cluHdr c.toNat).fsid 1) with
      items := Tab.slice 0 s.prb.snap (64 * c.toNat) 64, stat := (Tab.slice 0 s.prb.stat (64 * c.toNat) 64).map fun (x : Byte) => if bad then x ||| 0x10 else x, tag := Tab.get 0 s.prb.snapHeat c.toNat
      haveKey := (Tab.get default t.cmp.enc (srcKey (s.cluHdr c.toNat).fsid 1)).haveKey, keyDue := (Tab.get default t.cmp.enc (srcKey (s.cluHdr c.toNat).fsid 1)).keyDue
      nonKey := (Tab.get default t.cmp.enc (srcKey (s.cluHdr c.toNat).fsid 1)).nonKey } ∧
    ((t.link 0).txv 1).queue.length = 1 ∧ (bad = true → t.stuck 1 0 = true) ∧ Unchanged [.sys, .integ, .prb, .trc, .ttrc, .cmp, .red, .ump, .ul, .evr] s t) ∧
  (∀ (c : BitVec 6) (pe : Bool) (s : State),
    s.prb.heldDue.getLsbD c.toNat = false →
    s.prb.due.getLsbD c.toNat = false →
    exec (.clusterSampleBuild c pe) s = .next s) ∧
  (∀ (s : State),
    s.running = true →
    s.isD = true →
    s.user = true →
    s.sns.sampleSent = false →
    s.sns.sample ≠ [] →
    s.warden = false →
    ∃ t, exec .analogueSampleSend s = .next t ∧ t.sns = { s.sns with sampleSent := true } ∧ Unchanged [.sns, .cmp, .ump, .ul, .nb] s t) ∧
  (∀ (s : State),
    s.sns.sampleSent = true →
    exec .analogueSampleSend s = .next s)

/-- R123, R124, R126, R127, R544, R545: a temperature takes two conversions and the two codes give it, a rail takes one; the sequence wraps; the hold-up test preempts it, VBUS before IBUS, and ends below RA_CODE; a ring-oscillator window opens and closes with its count; a droop counts an event below the first step and keeps the deepest step. -/
def Obligations.AnalogueSense : Prop :=
  (∀ (c : BitVec 12) (b : Bool) (s : State),
    s.running = true →
    s.user = true →
    s.senseRuns = true →
    s.pwr.huIso = false →
    s.nSeq ≠ 0 →
    s.snf (0x70 + s.sns.pos.toNat) 1 < 0x14 →
    s.sns.first = none →
    exec (.senseConversion c b) s = .next { s with sns := { s.sns with first := some (c, b) } }) ∧
  (∀ (c c1 : BitVec 12) (b b1 : Bool) (s : State),
    s.running = true →
    s.user = true →
    s.senseRuns = true →
    s.pwr.huIso = false →
    s.nSeq ≠ 0 →
    s.snf (0x70 + s.sns.pos.toNat) 1 < 16 →
    s.sns.first = some (c1, b1) →
    exec (.senseConversion c b) s = .next { s with sns := { s.sns with
      first := none, pos := if s.sns.pos.toNat + 1 < s.nSeq then s.sns.pos + 1 else 0
      temp := Tab.set default s.sns.temp (s.snf (0x70 + s.sns.pos.toNat) 1) ⟨true, b1 || b || (clampTemp (Config.thermal c1 c)).2, BitVec.ofNat 16 (wrapI 16 (clampTemp (Config.thermal c1 c)).1), 0⟩ } }) ∧
  (∀ (c : BitVec 12) (b : Bool) (s : State),
    s.running = true →
    s.user = true →
    s.senseRuns = true →
    s.pwr.huIso = false →
    s.nSeq ≠ 0 →
    0x20 ≤ s.snf (0x70 + s.sns.pos.toNat) 1 →
    s.snf (0x70 + s.sns.pos.toNat) 1 < 0x28 →
    exec (.senseConversion c b) s = .next { s with sns := { s.sns with
      first := none, pos := if s.sns.pos.toNat + 1 < s.nSeq then s.sns.pos + 1 else 0
      rail := Tab.set default s.sns.rail (s.snf (0x70 + s.sns.pos.toNat) 1 - 0x20) ⟨true, false, c.setWidth 16, 0⟩ } }) ∧
  (∀ (c : BitVec 12) (b : Bool) (s : State),
    s.running = true →
    s.user = true →
    s.senseRuns = true →
    s.pwr.huIso = true →
    (s.pwr.huV = s.pwr.huI ∧ s.raCode < c.toNat) →
    exec (.senseConversion c b) s = .next { s with pwr := { s.pwr with huV := s.pwr.huV ++ [c] } }) ∧
  (∀ (c : BitVec 12) (b : Bool) (s : State),
    s.running = true →
    s.user = true →
    s.senseRuns = true →
    s.pwr.huIso = true →
    (s.pwr.huV = [] ∧ c.toNat ≤ s.raCode) →
    ∃ t, exec (.senseConversion c b) s = .next t ∧ t.pwr = { s.pwr with huV := [c], huIso := false, huDue := false, huAbort := 1 } ∧ Unchanged [.sys, .pwr, .sns, .trc, .ttrc, .ul, .evr] s t) ∧
  (∀ (r : BitVec 5) (s : State),
    s.running = true →
    s.senseRuns = true →
    s.roscEn r.toNat = true →
    s.sns.roscOpen.getLsbD r.toNat = false →
    exec (.roscWindowOpen r) s = .next { s with sns := { s.sns with roscOpen := setBit s.sns.roscOpen r.toNat true } }) ∧
  (∀ (r : BitVec 5) (c : BitVec 16) (s : State),
    s.running = true →
    s.senseRuns = true →
    s.sns.roscOpen.getLsbD r.toNat = true →
    exec (.roscWindowClose r c) s = .next { s with sns := { s.sns with
      roscOpen := setBit s.sns.roscOpen r.toNat false, roscHave := setBit s.sns.roscHave r.toNat true, roscClosed := Tab.set 0 s.sns.roscClosed r.toNat c } }) ∧
  (∀ (r : BitVec 5) (s : State),
    s.running = true →
    s.senseRuns = true →
    s.droopTh r.toNat ≠ 0 →
    exec (.droopExcursion r 0) s = .next { s with sns := { s.sns with droopDeep := Tab.set 0 s.sns.droopDeep r.toNat (Tab.get 0 s.sns.droopDeep r.toNat) } }) ∧
  (∀ (r : BitVec 5) (d : BitVec 3) (s : State),
    s.running = true →
    s.senseRuns = true →
    s.droopTh r.toNat ≠ 0 →
    1 ≤ d.toNat →
    d.toNat ≤ 4 →
    Tab.get 0 s.sns.droopDeep r.toNat = 0 →
    exec (.droopExcursion r d) s = .next { s with sns := { s.sns with
      droopEv := Tab.upd 0 s.sns.droopEv r.toNat satInc, droopDeep := Tab.set 0 s.sns.droopDeep r.toNat d } })

/-- R129 to R135: without STROKE_X2 every cycle advances; with it only cycles of STROKE_PHASE 1 do, and a repeated phase is a fault with its sticky bit; the first load makes the count valid and is no jump; a later load of another value than the expected one is a jump that a die reports on CTRL with its heat; a load equal to the expected value only goes on counting; a load in a cycle without an advance is ignored and is a fault; the tray marks the heat that a die names late, and after a backward jump every heat up to the highest that the die has reported. -/
def Obligations.Strokes : Prop :=
  (∀ (ph : Bool) (s : State),
    s.sys.rstHeld = false →
    s.sys.x2 = false →
    exec (.strokeAdvance ph) s = .next { s with tb := { s.tb with stroke := s.tb.stroke + 1 }, heat := { s.heat with taken := false } }) ∧
  (∀ (s : State),
    s.sys.rstHeld = false →
    s.sys.x2 = true →
    s.tb.lastPhase = some true →
    exec (.strokeAdvance false) s = .next { s with tb := { s.tb with lastPhase := some false } }) ∧
  (∀ (s : State),
    s.sys.rstHeld = false →
    s.sys.x2 = true →
    s.tb.lastPhase = some false →
    exec (.strokeAdvance true) s = .next { s with tb := { s.tb with lastPhase := some true, stroke := s.tb.stroke + 1 }, heat := { s.heat with taken := false } }) ∧
  (∀ (s : State),
    s.sys.rstHeld = false →
    s.sys.x2 = true →
    s.tb.lastPhase = some true →
    ∃ t, exec (.strokeAdvance true) s = .next t ∧ t.tb = { s.tb with phaseFault := true, stroke := s.tb.stroke + 1 } ∧ t.stuck 0 5 = true ∧
    t.heat = { s.heat with taken := false } ∧ Unchanged [.sys, .integ, .heat, .tb, .trc, .ttrc, .ul, .evr] s t) ∧
  (∀ (ph : Bool) (v : DWord) (s : State),
    s.sys.rstHeld = false →
    s.sys.x2 = false →
    s.tb.valid = false →
    s.heat.begun = false →
    exec (.strokeLoad ph v) s = .next { s with
      tb := { s.tb with stroke := v, valid := true, substitute := false }, heat := { s.heat with taken := false }, tt := { s.tt with selfK := 0 }, ptp := { s.ptp with hoStroke := s.ptp.hoStroke + (v - (s.tb.stroke + 1)) } }) ∧
  (∀ (ph : Bool) (v : DWord) (s : State),
    s.sys.rstHeld = false →
    s.sys.x2 = false →
    s.tb.valid = true →
    v = s.tb.stroke + 1 →
    exec (.strokeLoad ph v) s = .next { s with
      tb := { s.tb with stroke := v, valid := true, substitute := false }, heat := { s.heat with taken := false } }) ∧
  (∀ (ph : Bool) (v : DWord) (s : State),
    s.sys.rstHeld = false →
    s.isD = true →
    s.sys.x2 = false →
    s.tb.valid = true →
    v ≠ s.tb.stroke + 1 →
    s.heat.begun = false →
    ∃ t, exec (.strokeLoad ph v) s = .next t ∧ t.tb = { s.tb with stroke := v, valid := true, substitute := false, jumped := true } ∧
    t.ld.cur = s.ld.cur ∧ Unchanged [.sys, .integ, .heat, .ld, .tb, .ptp, .tt, .trc, .ttrc, .ul, .evr] s t) ∧
  (∀ (v : DWord) (s : State),
    s.sys.rstHeld = false →
    s.sys.x2 = true →
    ∃ t, exec (.strokeLoad false v) s = .next t ∧ t.tb = { s.tb with lastPhase := some false, phaseFault := true } ∧ t.stuck 0 5 = true ∧ Unchanged [.sys, .integ, .tb, .trc, .ttrc, .ul, .evr] s t) ∧
  (∀ (k : BitVec 6) (j v h : DWord) (s : State),
    s.isT = true →
    s.running = true →
    0 ≤ j.toInt →
    h ≠ BitVec.allOnes 64 →
    exec (.strokeJump k j v h) s = .next (let t := s.take k.toNat 0 0x14; { t with inr := t.inr.upd k.toNat h fun x => { x with late := true } })) ∧
  (∀ (k : BitVec 6) (j v : DWord) (s : State),
    s.isT = true →
    s.running = true →
    j.toInt < 0 →
    (Tab.get 0 s.inr.done (1 + k.toNat)).toNat < (Tab.get 0 s.inr.done (65 + k.toNat)).toNat →
    exec (.strokeJump k j v (BitVec.allOnes 64)) s = .next (let t := s.take k.toNat 0 0x14; { t with inr := { t.inr with done := Tab.set 0 t.inr.done (1 + k.toNat) (Tab.get 0 t.inr.done (65 + k.toNat)) } }))

/-- R140 to R144: an accepted Sync is kept with its corrected stamps and a one-step one carries t1, the Follow_Up of the same sequence number brings it otherwise, and the answering Delay_Req and Delay_Resp complete a measurement; what fails the profile is discarded and counted; the ninth foreign master is; four measurements make the step; silence enters HOLDOVER with its record, and an Announce timeout removes the master. -/
def Obligations.ClockExchange : Prop :=
  (∀ (q : BitVec 1) (h : PtpHdr) (t2 o : BitVec 128) (s : State),
    s.ptpOk h = true →
    s.fromMaster h = true →
    q.toNat = s.tbf 0x40 1 →
    -7 ≤ ptpInt h →
    ptpInt h ≤ 1 →
    h.twoStep = false →
    exec (.ptpSync q h t2 o) s = .next { s with ptp := { s.ptp with
      syncSeq := some h.seq, syncT2 := (t2.toNat : Int) - s.portLat q.toNat false, syncC := ptpCorr h, syncT1 := some o.toNat
      syncInt := ptpInt h, reqReady := true } }) ∧
  (∀ (q : BitVec 1) (h : PtpHdr) (t2 o : BitVec 128) (s : State),
    s.isT = true →
    s.running = true →
    s.user = true →
    (s.ptpOk h = false ∨ s.fromMaster h = false) →
    exec (.ptpSync q h t2 o) s = .next { s with ptp := { s.ptp with discards := satInc s.ptp.discards } }) ∧
  (∀ (h : PtpHdr) (p : BitVec 128) (s : State),
    s.ptpOk h = true →
    s.fromMaster h = true →
    s.ptp.syncSeq = some h.seq →
    s.ptp.syncT1 = none →
    exec (.ptpFollowUp h p) s = .next { s with ptp := { s.ptp with syncT1 := some p.toNat, syncC := s.ptp.syncC + ptpCorr h, reqReady := true } }) ∧
  (∀ (t3 : BitVec 128) (t1 : Int) (q : NbPort) (s : State),
    s.isT = true →
    s.running = true →
    s.user = true →
    s.ptp.syncT1 = some t1 →
    s.ptp.reqReady = true →
    s.ptp.master.isSome = true →
    s.portOn (s.tbf 0x40 1) = true →
    (s.port (s.tbf 0x40 1)).push (s.vlan.testBit 15) 7 ⟨0, 0x191B01, s.delayReq (s.ptp.reqSeq + 1).toNat, s.tb.stroke⟩ = q →
    ((s.port (s.tbf 0x40 1)).cls.getD 7 []).length < (q.cls.getD 7 []).length →
    exec (.ptpDelayReqSend t3) s = .next ((s.setPort (s.tbf 0x40 1) q).setPtp { s.ptp with
      reqReady := false, reqSeq := s.ptp.reqSeq + 1, reqSync := (t1, s.ptp.syncT2, s.ptp.syncC, s.ptp.syncInt)
      reqT3 := some ((t3.toNat : Int) + s.portLat (s.tbf 0x40 1) true) })) ∧
  (∀ (h : PtpHdr) (t4 : BitVec 128) (t3 : Int) (s : State),
    s.ptpOk h = true →
    s.fromMaster h = true →
    s.ptp.reqT3 = some t3 →
    h.seq = s.ptp.reqSeq →
    s.cpl 5 0 = true →
    ∃ t, exec (.ptpDelayResp h true t4) s = .next t ∧ t.ptp.reqT3 = none ∧ t.tb = s.tb ∧ t.ptp.discards = s.ptp.discards ∧ Unchanged [.ptp] s t) ∧
  (∀ (h : PtpHdr) (t4 : BitVec 128) (t3 : Int) (m1 m2 m3 : Meas) (s : State),
    s.ptpOk h = true →
    s.fromMaster h = true →
    s.ptp.reqT3 = some t3 →
    h.seq = s.ptp.reqSeq →
    s.cpl 5 0 = false →
    s.tb.state = 2 →
    s.tb.stepDue = none →
    s.ptp.acquire = [m1, m2, m3] →
    ∃ t, exec (.ptpDelayResp h true t4) s = .next t ∧ t.tb.stepDue.isSome = true ∧ t.tb.rateDue.isSome = true ∧ t.ptp.acquire = [] ∧ t.tb.stepped = s.tb.stepped ∧
    Unchanged [.tb, .ptp, .sys] s t) ∧
  (∀ (h : PtpHdr) (u : Bool) (t4 : BitVec 128) (s : State),
    s.isT = true →
    s.running = true →
    s.user = true →
    s.ptp.reqT3 = none →
    exec (.ptpDelayResp h u t4) s = .next { s with ptp := { s.ptp with discards := satInc s.ptp.discards } }) ∧
  (∀ (h : PtpHdr) (d : PtpDataset) (u : Bool) (o : BitVec 16) (s : State),
    s.ptpOk h = true →
    255 ≤ d.stepsRemoved.toNat →
    exec (.ptpAnnounce h d u o) s = .next { s with ptp := { s.ptp with discards := satInc s.ptp.discards } }) ∧
  (∀ (h : PtpHdr) (d : PtpDataset) (u : Bool) (o : BitVec 16) (s : State),
    s.ptpOk h = true →
    d.stepsRemoved.toNat < 255 →
    s.ptp.foreign = [] →
    s.tb.state = 0 →
    ∃ t, exec (.ptpAnnounce h d u o) s = .next t ∧ t.ptp.foreign = [⟨h.portId, d⟩] ∧ t.ptp.master = some ⟨h.portId, d⟩ ∧ t.ptp.gm = d.gm ∧ t.ptp.utcValid = u ∧
    t.ptp.utcOfs = o ∧ Unchanged [.ptp] s t) ∧
  (∀ (s : State),
    s.isT = true →
    s.running = true →
    s.user = true →
    s.tb.stepped = true →
    s.tb.state = 4 →
    ∃ t, exec (.holdoverEntry true) s = .next t ∧ t.tb = { s.tb with state := 5, runIn := 0, rateDue := none } ∧
    t.ptp = { s.ptp with hoStroke := s.tb.stroke, hoMs := 0 } ∧ Unchanged [.sys, .tb, .ptp, .trc, .ttrc, .ul, .evr] s t) ∧
  (∀ (f : Foreign) (s : State),
    s.isT = true →
    s.running = true →
    s.user = true →
    s.tb.stepped = false →
    s.ptp.master = some f →
    s.ptp.foreign = [f] →
    s.tb.state = 2 →
    ∃ t, exec (.holdoverEntry false) s = .next t ∧ t.ptp.foreign = [] ∧ t.ptp.master = none ∧ t.ptp.acquire = [] ∧ t.tb = { s.tb with state := 1 } ∧ Unchanged [.tb, .ptp] s t)

/-- R147 to R151, R438: a round sends TT_REQ on the trained links, with new exchange numbers, once in its heat; a die answers with its two stamps; a response is matched by its exchange number, and gives offset, round trip and length, and one that nothing waits for is ignored; SLIP_NOTICE sets what TB_STATE shows. -/
def Obligations.TimeTransfer : Prop :=
  (∀ (s : State),
    s.isT = true →
    s.running = true →
    s.user = true →
    s.heat.heat ≠ BitVec.allOnes 64 →
    s.tbf 0x48 2 ≤ 1 →
    s.tt.sent = false →
    s.tt.roundOpen = false →
    s.ul.links = [] →
    exec .ttRound s = .next { s with tt := { s.tt with
      links := Tab.mapV default s.tt.links fun x => { x with out := [], got := false }
      sent := true, roundOpen := false, roundLinks := 0 } }) ∧
  (∀ (k : Nat) (s : State),
    k < 64 →
    s.isT = true →
    s.running = true →
    s.user = true →
    s.heat.heat ≠ BitVec.allOnes 64 →
    s.tbf 0x48 2 ≤ 1 →
    s.tt.sent = false →
    s.tt.roundOpen = false →
    s.trained = [k] →
    exec .ttRound s = .next (({ s with tt := { s.tt with
      links := Tab.mapV default s.tt.links fun x => { x with out := [], got := false }
      sent := true, roundOpen := true, roundLinks := setBit 0 k true } } : State).ttSend k true)) ∧
  (∀ (s : State),
    s.tt.sent = true →
    exec .ttRound s = .next s) ∧
  (∀ (x : BitVec 16) (a b : DWord) (s : State),
    s.isD = true →
    s.running = true →
    exec (.ttReq x a b) s = .next ((s.take 0 0 0x2A).send 0 0 0x1B (le 8 a.toNat ++ le 8 b.toNat ++ le 2 x.toNat ++ le 6 0))) ∧
  (∀ (k : BitVec 6) (x : BitVec 16) (t1 t2 t3 t4 : DWord) (s : State),
    s.isT = true →
    s.running = true →
    s.user = true →
    (Tab.get default s.tt.links k.toNat).out = [] →
    exec (.ttResp k x t1 t2 t3 t4) s = .next (s.take k.toNat 0 0x1B)) ∧
  (∀ (k : BitVec 6) (x : BitVec 16) (t1 t2 t3 t4 : DWord) (s : State),
    s.isT = true →
    s.running = true →
    s.user = true →
    (Tab.get default s.tt.links k.toNat).out = [(x, false)] →
    s.tt.roundOpen = false →
    (Tab.get default s.tt.links k.toNat).haveLen = false →
    ∃ t, exec (.ttResp k x t1 t2 t3 t4) s = .next t ∧ (Tab.get default t.tt.links k.toNat).out = [] ∧ (Tab.get default t.tt.links k.toNat).valid = true ∧
    (Tab.get default t.tt.links k.toNat).rtt = wordOf ((t4 - t1).toInt - (t3 - t2).toInt) ∧
    (Tab.get default t.tt.links k.toNat).theta = wordOf (((t2 - t1).toInt - (t4 - t3).toInt) / 2 - sgn 16 (s.tbf (0x80 + 2 * k.toNat) 2)) ∧
    (Tab.get default t.tt.links k.toNat).slip = (Tab.get default s.tt.links k.toNat).slip ∧ Unchanged [.tt, .ul, .sys] s t) ∧
  (∀ (b : Bool) (w : Word) (s : State),
    s.isD = true →
    s.running = true →
    exec (.slipNotice b w) s = .next (let t := s.take 0 0 0x22; { t with tb := { t.tb with slipNoted := b } }))

/-- R34, R36, R41, R78, R122, R136: the first boundary after BIST and the first after an activation's gap begin a count of heats; every other ends a heat and begins the next, whose number the stroke gives, once per boundary stroke; after a stop of the stroke reference a substitute boundary numbers on from the last heat; producers whose work is unfinished and may be discarded are counted as an overrun; a divisor change takes force at a boundary that both divisors share. -/
def Obligations.HeatBoundaries : Prop :=
  (∀ (m : BitVec 23) (u : List (BitVec 10)) (s : State),
    s.running = true →
    s.onBoundary s.tb.stroke.toNat = true →
    s.heat.taken = false →
    s.tb.substitute = false →
    (s.heat.begun = false ∨ s.heat.inGap = true) →
    ∃ t, exec (.heatBoundary m u) s = .next t ∧ t.heat = { s.heat with begun := true, inGap := false, first := s.heatOf s.tb.stroke.toNat, heat := s.heatOf s.tb.stroke.toNat, count := s.heat.count + 1, taken := true } ∧
    t.tb.stroke = s.tb.stroke ∧ t.tb.subHeat = false ∧ t.led.marks = [] ∧ t.prb.changed = [] ∧ Unchanged [.sys, .pwr, .bist, .integ, .heat, .prb, .sns, .tb, .ptp, .tt, .trc, .ttrc, .cmp, .led, .fpc, .red, .te, .ump, .tly, .ul, .nb, .evr] s t) ∧
  (∀ (m : BitVec 23) (u : List (BitVec 10)) (s : State),
    s.running = true →
    s.onBoundary s.tb.stroke.toNat = true →
    s.heat.taken = false →
    s.tb.substitute = false →
    s.heat.begun = true →
    s.heat.inGap = false →
    ∃ t, exec (.heatBoundary m u) s = .next t ∧ t.heat.heat = s.heatOf s.tb.stroke.toNat ∧ t.heat.count = s.heat.count + 1 ∧ t.heat.taken = true ∧ t.heat.begun = true ∧ t.heat.meas = m ∧
    (let x := s.heatBuoy (s.heatOf s.tb.stroke.toNat)
     let l := State.lostWork { x with heat := { x.heat with meas := m } } u
     t.heat.overrun = l ∧ t.heat.ovr = if l = [] then s.heat.ovr else satInc s.heat.ovr) ∧
    t.tb.stroke = s.tb.stroke ∧ t.tb.valid = s.tb.valid ∧ t.tb.subHeat = false ∧ t.tly.cfg = s.tly.cfg ∧ t.tly.svc = s.tly.svc ∧ Unchanged [.sys, .pwr, .bist, .integ, .heat, .prb, .sns, .tb, .ptp, .tt, .trc, .ttrc, .cmp, .led, .fpc, .red, .te, .ump, .tly, .ul, .nb, .evr] s t) ∧
  (∀ (m : BitVec 23) (u : List (BitVec 10)) (s : State),
    s.heat.taken = true →
    exec (.heatBoundary m u) s = .next s) ∧
  (∀ (m : BitVec 23) (u : List (BitVec 10)) (s : State),
    s.tb.substitute = true →
    exec (.heatBoundary m u) s = .next s) ∧
  (∀ (u : List (BitVec 10)) (s : State),
    s.running = true →
    s.tb.substitute = true →
    s.heat.begun = true →
    s.heat.inGap = false →
    ∃ t, exec (.substituteHeatBoundary u) s = .next t ∧ t.heat.heat = s.heat.heat + 1 ∧ t.heat.count = s.heat.count + 1 ∧ t.heat.taken = true ∧ t.heat.meas = BitVec.ofNat 23 s.nSlots ∧
    t.tb.stroke = s.tb.stroke ∧ t.tb.subHeat = true ∧ Unchanged [.sys, .pwr, .bist, .integ, .heat, .prb, .sns, .tb, .ptp, .tt, .trc, .ttrc, .cmp, .led, .fpc, .red, .te, .ump, .tly, .ul, .nb, .evr] s t) ∧
  (∀ (u : List (BitVec 10)) (s : State),
    s.running = true →
    s.tb.substitute = true →
    (s.heat.begun = false ∨ s.heat.inGap = true) →
    ∃ t, exec (.substituteHeatBoundary u) s = .next t ∧ t.heat = { s.heat with begun := true, inGap := false, first := s.heat.heat + 1, heat := s.heat.heat + 1, count := s.heat.count + 1, taken := true } ∧
    t.tb.stroke = s.tb.stroke ∧ t.tb.subHeat = true ∧ Unchanged [.sys, .pwr, .bist, .integ, .heat, .prb, .sns, .tb, .ptp, .tt, .trc, .ttrc, .cmp, .led, .fpc, .red, .te, .ump, .tly, .ul, .nb, .evr] s t) ∧
  (∀ (u : List (BitVec 10)) (s : State),
    s.tb.substitute = false →
    exec (.substituteHeatBoundary u) s = .next s) ∧
  (∀ (i : BitVec 10) (s : State),
    s.running = true →
    s.user = true →
    Tab.get (0 : BitVec 7) s.heat.divNext i.toNat ≠ 0 →
    s.heat.heat.toNat % max (Tab.get (0 : BitVec 7) s.heat.divNext i.toNat).toNat (s.divOf i.toNat) = 0 →
    exec (.divisorChange false i) s = .next { s with heat := { s.heat with
      div := Tab.set 0 s.heat.div i.toNat (Tab.get (0 : BitVec 7) s.heat.divNext i.toNat), divNext := Tab.set 0 s.heat.divNext i.toNat 0 } }) ∧
  (∀ (i : BitVec 10) (s : State),
    s.running = true →
    s.user = true →
    s.isD = true →
    s.heat.rdivPend.getLsbD (i.toNat % 32) = true →
    s.heat.heat.toNat % 2 ^ max (Tab.get (0 : BitVec 3) s.heat.rdivNext (i.toNat % 32)).toNat (s.rdivLog (i.toNat % 32)) = 0 →
    exec (.divisorChange true i) s = .next { s with heat := { s.heat with
      rdiv := Tab.set 0 s.heat.rdiv (i.toNat % 32) (Tab.get (0 : BitVec 3) s.heat.rdivNext (i.toNat % 32)), rdivSet := setBit s.heat.rdivSet (i.toNat % 32) true
      rdivPend := setBit s.heat.rdivPend (i.toNat % 32) false, rdivNext := Tab.set 0 s.heat.rdivNext (i.toNat % 32) 0 } })

/-- R158 to R168, R173, R174: the transfer that a tap's crossing slot holds becomes an EVENT packet and frees the slot, a LOSS packet where the FIFO has no room, and none passes a disabled crossing; buoys fall at every 64th slot and between activations; a periodic buoy is written though packets are lost; the writer moves packets to blocks and blocks end with the next; the tray stores a die's block with the next generation, drops it while frozen, and spills a block once. -/
def Obligations.TracePackets : Prop :=
  (∀ (t : BitVec 9) (v : BitVec 16) (e : BitVec 6) (o : BitVec 11) (s : State),
    (Tab.get default s.trc.taps t.toNat).slot ≠ some (v, e) →
    exec (.tapTransfer t v e o) s = .next s) ∧
  (∀ (n : BitVec 9) (v : BitVec 16) (e : BitVec 6) (o : BitVec 11) (x : TapStage) (s : State),
    s.running = true →
    s.user = true →
    (s.tapKind n.toNat = 1 ∨ s.tapKind n.toNat = 2) →
    s.integ.xingStop.getLsbD (s.regionDom (s.tapRegion n.toNat)) = false →
    Tab.get default s.trc.taps n.toNat = x →
    x.slot = some (v, e) →
    (v.getLsbD 0 = true ∨ s.tapKind n.toNat = 1) →
    s.trc.tstate = 0 →
    s.trc.resume = false →
    s.capOn = true →
    s.trc.fifoWords + 17 ≤ 4096 →
    s.trc.lossPend = 0 →
    s.trc.ofs.toNat < o.toNat →
    ∃ t, exec (.tapTransfer n v e o) s = .next t ∧ t.trc = { s.trc with ofs := o, taps := Tab.set default s.trc.taps n.toNat { x with slot := none }.launch, fifo := s.trc.fifo ++ [[BitVec.ofNat 64 (3 * 2 ^ 60 + fieldAt o.toNat 49 11 + fieldAt n.toNat 40 9 + fieldAt e.toNat 32 6)]] } ∧ Unchanged [.trc, .ttrc] s t) ∧
  (∀ (t : BitVec 9) (v : BitVec 16) (e : BitVec 6) (o : BitVec 11) (s : State),
    s.tapKind t.toNat = 0 →
    exec (.tapTransfer t v e o) s = .next s) ∧
  (∀ (t : BitVec 9) (v : BitVec 16) (e : BitVec 6) (o : BitVec 11) (s : State),
    s.integ.xingStop.getLsbD (s.regionDom (s.tapRegion t.toNat)) = true →
    exec (.tapTransfer t v e o) s = .next s) ∧
  (∀ (n : BitVec 9) (v : BitVec 16) (e : BitVec 6) (o : BitVec 11) (x : TapStage) (s : State),
    s.running = true →
    s.user = true →
    s.tapKind n.toNat = 3 →
    s.integ.xingStop.getLsbD (s.regionDom (s.tapRegion n.toNat)) = false →
    Tab.get default s.trc.taps n.toNat = x →
    x.slot = some (v, e) →
    s.trc.tstate = 0 →
    s.trc.resume = false →
    s.capOn = true →
    s.trc.fifoWords = 4095 →
    s.trc.lossPend = 0 →
    s.trc.ofs.toNat < o.toNat →
    ∃ t, exec (.tapTransfer n v e o) s = .next t ∧ t.trc = { s.trc with ofs := o, taps := Tab.set default s.trc.taps n.toNat { x with slot := none }.launch, loss := satInc s.trc.loss, lossPend := 0, fifo := s.trc.fifo ++ [[BitVec.ofNat 64 (5 * 2 ^ 60 + fieldAt o.toNat 49 11 + 1)]] } ∧ Unchanged [.trc, .ttrc] s t) ∧
  (∀ (n : BitVec 23) (s : State),
    s.running = true →
    n.toNat % 64 = 0 →
    n ≠ 0 →
    s.heat.inGap = false →
    s.trc.resume = false →
    s.capOn = true →
    s.trc.tstate ≠ 3 →
    exec (.periodicBuoy n) s = .next { s with trc := { s.trc with pos := n, ofs := 0, fifo := s.trc.fifo ++ [buoyWords 1 (s.buoyNow n s.heat.heat)] } }) ∧
  (∀ (s : State),
    s.running = true →
    s.heat.inGap = true →
    s.trc.resume = false →
    s.capOn = true →
    s.trc.tstate ≠ 3 →
    exec .activateBuoy s = .next { s with trc := { s.trc with pos := gapSlot, ofs := 0, fifo := s.trc.fifo ++ [buoyWords 3 (s.buoyNow gapSlot s.heat.heat)] } }) ∧
  (∀ (n : BitVec 23) (s : State),
    n.toNat % 64 ≠ 0 →
    exec (.periodicBuoy n) s = .next s) ∧
  (∀ (p : DWord) (s : State),
    s.writerRuns = true →
    s.isD = true →
    s.trc.fifo = [[p]] →
    p.toNat / 2 ^ 60 = 3 →
    s.mayWrite = true →
    s.trc.tstate ≠ 2 →
    s.ttrc.freezeLeft = none →
    2 ≤ s.trc.word →
    s.trc.word < 511 →
    s.trc.lossPend = 0 →
    s.trc.encPend = [] →
    ∃ t, exec .traceWriterSlot s = .next t ∧ t.trc.fifo = [] ∧ t.trc.word = s.trc.word + 1 ∧ t.trc.blk = s.trc.blk ∧
    t.trc.blocks = Tab.upd default s.trc.blocks s.trc.blk.toNat (fun x => x.put s.trc.word [p]) ∧ Unchanged [.trc, .sys] s t) ∧
  (∀ (s : State),
    s.writerRuns = false →
    exec .traceWriterSlot s = .next s) ∧
  (∀ (k : BitVec 6) (f : List Byte) (s : State),
    s.isT = true →
    s.running = true →
    s.ttrc.frozen = true →
    exec (.trcBlock k f) s = .next (let t := s.take k.toNat 2 0x50; { t with ttrc := { t.ttrc with dieDrop := satInc t.ttrc.dieDrop } })) ∧
  (∀ (k : BitVec 6) (f : List Byte) (s : State),
    s.isT = true →
    s.running = true →
    s.ttrc.frozen = false →
    s.ttrc.freezeLeft ≠ some 0 →
    s.dieBlocksN ≠ 0 →
    s.spillBlocks = 0 →
    s.nbExp 1 = false →
    exec (.trcBlock k f) s = .next (let t := s.take k.toNat 2 0x50; { t with ttrc := { t.ttrc with
      dieBlocks := Tab.set default t.ttrc.dieBlocks t.ttrc.dieBlk ⟨nextGen (Tab.get default t.ttrc.dieBlocks t.ttrc.dieBlk).gen, wordsOf f⟩
      dieBlk := (t.ttrc.dieBlk + 1) % t.dieBlocksN, copiedDie := false } })) ∧
  (∀ (s : State),
    s.isT = true →
    s.writerRuns = true →
    s.spillBlocks ≠ 0 →
    s.workStopped = false →
    s.lp5Runs = true →
    s.pwr.memFail = false →
    s.ttrc.copiedDie = false →
    (Tab.get default s.ttrc.dieBlocks s.ttrc.dieBlk).gen ≠ 0 →
    ∃ t, exec (.traceSpill true) s = .next t ∧ t.ttrc = { s.ttrc with
      spilled := Tab.set default s.ttrc.spilled (s.ttrc.spillWr.toNat % s.spillBlocks) (true, BitVec.ofNat 14 (s.ownBlocks + s.ttrc.dieBlk), (Tab.get default s.ttrc.dieBlocks s.ttrc.dieBlk).gen)
      spillWr := s.ttrc.spillWr + 1, copiedDie := true } ∧
    (∀ a, a < s.tpf 0x10 8 + 4096 * (s.ttrc.spillWr.toNat % s.spillBlocks) → Tab.get 0 t.lp5 a = Tab.get 0 s.lp5 a) ∧ Unchanged [.ttrc, .lp5] s t) ∧
  (∀ (d : Bool) (s : State),
    s.spillBlocks = 0 →
    exec (.traceSpill d) s = .next s)

/-- R172, R176 to R183: TRC_ARM arms from IDLE and from STOPPED once its dump is over; a fire from the tray outside ARMED is ignored and counted; TRC_FIRE freezes the count with its record; a dump gives its record at its end; the event machine takes the transition whose counter has reached COUNT, with its counters and heats begun anew, and none before; FREEZE takes both partitions when its count is out and TRC_EM_RESUME lets them go on. -/
def Obligations.TraceControl : Prop :=
  (∀ (p : Post) (s : State),
    s.running = true →
    s.isD = true →
    s.user = true →
    1 ≤ p.role.toNat →
    s.trc.tstate = 0 →
    exec (.trcArm p) s = .next (State.setResult { s with trc := { s.trc with tstate := 1 } } 0x0301 1 p)) ∧
  (∀ (p : Post) (s : State),
    s.running = true →
    s.isD = true →
    s.user = true →
    1 ≤ p.role.toNat →
    s.trc.tstate = 3 →
    s.trc.dumping = false →
    exec (.trcArm p) s = .next (State.setResult { s with trc := { s.trc with tstate := 1, resume := true } } 0x0301 1 p)) ∧
  (∀ (p : Post) (s : State),
    s.running = true →
    s.isD = true →
    s.user = true →
    1 ≤ p.role.toNat →
    s.trc.tstate = 1 →
    ∃ t, exec (.trcFire p) s = .next t ∧ t.trc.tstate = 2 ∧ t.trc.remain = BitVec.ofNat 24 (s.img 6 0x28 4 0 % 2 ^ 24) ∧ t.trc.trigHeat = s.heat.heat ∧ t.trc.blocks = s.trc.blocks ∧
    Unchanged [.sys, .trc, .ttrc, .ul, .roles, .evr] s t) ∧
  (∀ (o : BitVec 11) (s : State),
    s.isD = true →
    s.running = true →
    s.trc.tstate ≠ 1 →
    exec (.trcFireFlit o) s = .next (let t := s.take 0 0 0x23; { t with trc := { t.trc with armIgn := satInc t.trc.armIgn } })) ∧
  (∀ (o : BitVec 11) (s : State),
    s.isD = true →
    s.running = true →
    s.trc.tstate = 1 →
    exec (.trcFireFlit o) s = .next (((s.take 0 0 0x23).laterTo o).fire 3)) ∧
  (∀ (s : State),
    s.isD = true →
    s.running = true →
    s.trc.dumping = true →
    s.trc.dumpLeft = [] →
    ∃ t, exec .traceDump s = .next t ∧ t.trc.dumping = false ∧ t.trc.blocks = s.trc.blocks ∧ Unchanged [.sys, .trc, .ttrc, .ul, .evr] s t) ∧
  (∀ (b : Nat) (rest : List Nat) (s : State),
    s.isD = true →
    s.running = true →
    s.trc.dumping = true →
    s.trc.dumpLeft = b :: rest →
    ∃ t, exec .traceDump s = .next t ∧ t.trc.dumpLeft = rest ∧ t.trc.dumping = !rest.isEmpty ∧ Unchanged [.sys, .trc, .ttrc, .cmp, .ump, .ul, .nb, .evr] s t) ∧
  (∀ (p : Post) (s : State),
    s.running = true →
    s.isT = true →
    1 ≤ p.role.toNat →
    s.ttrc.frozen = true →
    exec (.trcEmResume p) s = .next (State.setResult { s with
      ttrc := { s.ttrc with frozen := false, freezeLeft := none, emState := 0, emCnt := [0, 0, 0, 0], emHeats := 0, emFire := none }, trc := { s.trc with resume := true } } 0x0303 1 p)) ∧
  (∀ (p : Post) (s : State),
    s.running = true →
    s.isT = true →
    1 ≤ p.role.toNat →
    s.ttrc.frozen = false →
    ∃ t, exec (.trcEmResume p) s = .next t ∧ t.ttrc.frozen = false ∧ t.ttrc.emState = s.ttrc.emState ∧ t.ttrc.spilled = s.ttrc.spilled ∧ t.stuck 2 6 = true ∧ Unchanged [.sys, .integ, .trc, .ttrc, .ul, .roles, .evr] s t) ∧
  (∀ (n : BitVec 5) (d : Option (BitVec 6)) (o : BitVec 11) (s : State),
    s.isT = true →
    s.running = true →
    s.user = true →
    s.ttrc.emFire = some (n.toNat, d) →
    s.trans n.toNat 6 2 = 0 →
    ∃ t, exec (.eventMachineTransition n o) s = .next t ∧ t.ttrc = { s.ttrc with emState := BitVec.ofNat 3 (s.trans n.toNat 1 1 % 8), emCnt := [0, 0, 0, 0], emHeats := 0, emFire := none } ∧
    Unchanged [.ttrc, .trc] s t) ∧
  (∀ (n : BitVec 5) (d : Option (BitVec 6)) (o : BitVec 11) (s : State),
    s.isT = true →
    s.running = true →
    s.user = true →
    s.ttrc.emFire = some (n.toNat, d) →
    ∃ t, exec (.eventMachineTransition n o) s = .next t ∧ t.ttrc.emState = BitVec.ofNat 3 (s.trans n.toNat 1 1 % 8) ∧ t.ttrc.frozen = s.ttrc.frozen ∧
    Unchanged [.sys, .trc, .ttrc, .ul, .evr] s t) ∧
  (∀ (n : BitVec 5) (o : BitVec 11) (s : State),
    s.ttrc.emFire = none →
    exec (.eventMachineTransition n o) s = .next s) ∧
  (∀ (s : State),
    s.isT = true →
    s.ttrc.freezeLeft = some 0 →
    s.ttrc.frozen = false →
    ∃ t, exec .traceFreeze s = .next t ∧ t.ttrc.frozen = true ∧ t.ttrc.freezeLeft = none ∧ t.ttrc.emState = s.ttrc.emState ∧ Unchanged [.sys, .trc, .ttrc, .ul, .evr] s t)

/-- R218 to R236: the next queued descriptor starts from Init; a restore without a valid context of its parameter set ends with CONTEXT; a built read takes the next free entry in the ring and a quarantined one is passed over; the granted lane issues the head of the FIFO or the grant goes idle; a return frees a quarantined entry without data, and an unknown tag is counted and recorded; a timeout ends the descriptor and quarantines its reads; an abort ends running and queued descriptors. R217, R228, R229, R232, R237: a check unit turns a returned segment into R(0, B); the combine unit folds segments in order into the running value and frees the entry; the last one completes the descriptor with the final value, its bytes and the stroke, and a SAVE descriptor leaves the running value in its context. -/
def Obligations.ScanDescriptorsFolding : Prop :=
  (∀ (c : BitVec 3) (d : Desc) (rest : List Desc) (s : State),
    s.isD = true →
    s.running = true →
    (s.chan c.toNat).queue = d :: rest →
    (s.chan c.toNat).run = [] →
    d.restore = false →
    0 < d.len.toNat →
    exec (.descriptorStart c) s = .next (s.setChan c.toNat { s.chan c.toNat with queue := rest, run := [⟨d, 0, [], none, scanInit d.pset, false, 0⟩] })) ∧
  (∀ (c : BitVec 3) (s : State),
    (s.chan c.toNat).queue = [] →
    exec (.descriptorStart c) s = .next s) ∧
  (∀ (c : BitVec 3) (d : Desc) (s : State),
    s.isD = true →
    s.running = true →
    (s.chan c.toNat).queue = [d] →
    (s.chan c.toNat).run = [] →
    d.restore = true →
    d.save = false →
    d.ledger = false →
    (s.ctx d.ctx).valid = false →
    ∃ t, exec (.descriptorStart c) s = .next t ∧ (t.chan c.toNat).queue = [] ∧ (t.chan c.toNat).run = [] ∧ (t.chan c.toNat).done = (s.chan c.toNat).done + 1 ∧
    (t.chan c.toNat).last.id = d.id ∧ (t.chan c.toNat).last.bytes = 0 ∧ t.scn.ctx = s.scn.ctx ∧ Unchanged [.scn] s t) ∧
  (∀ (c : BitVec 3) (p : Running) (s : State),
    s.isD = true →
    s.running = true →
    s.workStopped = false →
    (s.chan c.toNat).slot ((s.chan c.toNat).q.toNat % 64) = .free →
    (s.chan c.toNat).run = [p] →
    p.ended = none →
    p.built < p.d.segs →
    s.scn.issue = [] →
    exec (.scanReadBuild c) s = .next (let x := s.chan c.toNat; let e : BitVec 6 := BitVec.ofNat 6 (x.q.toNat % 64); let sz := p.d.segLen p.built == 256
    let t := s.setChan c.toNat { (x.setSlot e.toNat (.built sz)) with q := x.q + 1, run := [{ p with built := p.built + 1, slots := p.slots ++ [e] }] }
    { t with scn := { t.scn with issue := [(c, e, p.d.addr + BitVec.ofNat 64 (256 * p.built), sz)] } })) ∧
  (∀ (c : BitVec 3) (l : Option Bool) (s : State),
    s.isD = true →
    s.running = true →
    s.workStopped = false →
    (s.chan c.toNat).slot ((s.chan c.toNat).q.toNat % 64) = .quarantined l →
    exec (.scanReadBuild c) s = .next (s.setChan c.toNat { s.chan c.toNat with q := (s.chan c.toNat).q + 1 })) ∧
  (∀ (l : BitVec 1) (c : BitVec 3) (e : BitVec 6) (a : DWord) (z : Bool) (s : State),
    s.isD = true →
    s.running = true →
    s.scanOff = false →
    s.scn.issue = [(c, e, a, z)] →
    (s.chan c.toNat).slot e.toNat = .built z →
    exec (.scanReadIssue l) s = .next (let t := s.setChan c.toNat ((s.chan c.toNat).setSlot e.toNat (.issued (l == 1) z))
    { t with scn := { t.scn with issue := [], reqs := t.scn.reqs ++ [(l == 1, a, z, c ++ e)] } })) ∧
  (∀ (l : BitVec 1) (s : State),
    s.isD = true →
    s.running = true →
    s.scanOff = false →
    s.scn.issue = [] →
    exec (.scanReadIssue l) s = .next { s with scn := { s.scn with gntIdle := Tab.upd 0 s.scn.gntIdle l.toNat satInc } }) ∧
  (∀ (l : BitVec 1) (s : State),
    s.scanOff = true →
    exec (.scanReadIssue l) s = .next s) ∧
  (∀ (l : BitVec 1) (g : BitVec 9) (b : List Byte) (s : State),
    s.isD = true →
    s.running = true →
    s.scanOff = false →
    (s.chan (g.toNat / 64)).slot (g.toNat % 64) = .issued (l == 1) true →
    exec (.scanReturn l g b 0 0) s = .next (let x := s.chan (g.toNat / 64)
    let t := s.setChan (g.toNat / 64) (x.setSlot (g.toNat % 64) (.taken ((b ++ List.replicate 256 0).take 256) false))
    { t with scn := { t.scn with take := t.scn.take ++ [(g.extractLsb' 6 3, g.setWidth 6)] } })) ∧
  (∀ (l : BitVec 1) (g : BitVec 9) (b : List Byte) (y z : BitVec 2) (s : State),
    s.isD = true →
    s.running = true →
    s.scanOff = false →
    (s.chan (g.toNat / 64)).slot (g.toNat % 64) = .quarantined (some (l == 1)) →
    exec (.scanReturn l g b y z) s = .next (s.setChan (g.toNat / 64) ((s.chan (g.toNat / 64)).setSlot (g.toNat % 64) .free))) ∧
  (∀ (l : BitVec 1) (g : BitVec 9) (b : List Byte) (y z : BitVec 2) (s : State),
    s.isD = true →
    1 ≤ s.sys.phase.toNat →
    s.sys.phase.toNat ≤ 6 →
    s.scanOff = false →
    (s.chan (g.toNat / 64)).slot (g.toNat % 64) = .free →
    ∃ t, exec (.scanReturn l g b y z) s = .next t ∧ t.scn = { s.scn with badTag := satInc s.scn.badTag } ∧ t.stuck 1 2 = true ∧ Unchanged [.sys, .integ, .trc, .ttrc, .scn, .ul, .evr] s t) ∧
  (∀ (c : BitVec 3) (e : BitVec 6) (d : Desc) (s : State),
    s.isD = true →
    s.running = true →
    d.ledger = false →
    d.save = false →
    (s.chan c.toNat).run = [⟨d, 1, [e], none, 0, false, 0⟩] →
    (s.chan c.toNat).slot e.toNat = .issued false true →
    ∃ t, exec (.scanTimeout c e) s = .next t ∧ (t.chan c.toNat).run = [] ∧ (t.chan c.toNat).done = (s.chan c.toNat).done + 1 ∧ (t.chan c.toNat).last.id = d.id ∧
    (t.chan c.toNat).slot e.toNat = .quarantined (some false) ∧ t.stuck 1 2 = true ∧ Unchanged [.sys, .integ, .trc, .ttrc, .scn, .led, .tly, .ul, .evr] s t) ∧
  (∀ (p : Post) (d : Desc) (s : State),
    s.running = true →
    s.isD = true →
    1 ≤ p.role.toNat →
    p.a0 = 1 →
    d.ledger = false →
    d.save = false →
    (s.chan 0).queue = [d] →
    (s.chan 0).run = [] →
    ∃ t, exec (.scanAbort p) s = .next t ∧ (t.chan 0).queue = [] ∧ (t.chan 0).run = [] ∧ (t.chan 0).done = (s.chan 0).done + 1 ∧ Unchanged [.sys, .integ, .trc, .ttrc, .scn, .led, .tly, .ul, .roles, .evr] s t) ∧
  (∀ (p : Post) (s : State),
    s.running = true →
    s.isD = true →
    1 ≤ p.role.toNat →
    p.a0 = 0 →
    ∃ t, exec (.scanAbort p) s = .next t ∧ t.scn = s.scn ∧ t.stuck 2 6 = true ∧ Unchanged [.sys, .integ, .trc, .ttrc, .ul, .roles, .evr] s t) ∧
  (∀ (c : BitVec 3) (e : BitVec 6) (b : List Byte) (q : Bool) (r : Running) (s : State),
    s.scn.take = [(c, e)] →
    (s.chan c.toNat).slot e.toNat = .taken b q →
    (s.chan c.toNat).run = [r] →
    r.slots.contains e = true →
    exec .checkUnitDone s = .next (let t : State := { s with scn := { s.scn with take := [] } }; t.setChan c.toNat ((s.chan c.toNat).setSlot e.toNat (.value (scanRun r.d.pset 0 b) q)))) ∧
  (∀ (s : State),
    s.scn.take = [] →
    exec .checkUnitDone s = .next s) ∧
  (∀ (c : BitVec 3) (e : BitVec 6) (es : List (BitVec 6)) (v : DWord) (q : Bool) (r : Running) (s : State),
    s.isD = true →
    s.running = true →
    (s.chan c.toNat).run = [r] →
    r.ended = none →
    r.slots = e :: es →
    (s.chan c.toNat).slot e.toNat = .value v q →
    (r.built ≠ r.d.segs ∨ es ≠ []) →
    exec (.segmentFold c) s = .next (let x := (s.chan c.toNat).setSlot e.toNat .free; let n := r.d.segLen (r.built - r.slots.length)
    s.setChan c.toNat { x with run := [{ r with slots := es, r := scanFold r.d.pset r.r n v, psn := r.psn || q, bytes := r.bytes + BitVec.ofNat 64 n }] })) ∧
  (∀ (c : BitVec 3) (e : BitVec 6) (v : DWord) (q : Bool) (r : Running) (s : State),
    s.isD = true →
    s.running = true →
    (s.chan c.toNat).run = [r] →
    r.ended = none →
    r.slots = [e] →
    (s.chan c.toNat).slot e.toNat = .value v q →
    r.built = r.d.segs →
    r.d.ledger = false →
    r.d.save = true →
    s.tly.bind = [] →
    ∃ t, exec (.segmentFold c) s = .next t ∧ (t.chan c.toNat).run = [] ∧ (t.chan c.toNat).done = (s.chan c.toNat).done + 1 ∧ (t.chan c.toNat).last.id = r.d.id ∧
    (t.chan c.toNat).last.value = scanFinal r.d.pset (scanFold r.d.pset r.r (r.d.segLen (r.built - 1)) v) ∧ (t.chan c.toNat).last.stroke = s.tb.stroke ∧
    t.ctx r.d.ctx = ⟨true, r.d.pset, r.psn || q, scanFold r.d.pset r.r (r.d.segLen (r.built - 1)) v, r.bytes + BitVec.ofNat 64 (r.d.segLen (r.built - 1))⟩ ∧ Unchanged [.scn] s t)

/-- R243 to R247, R249 to R251, R273, R274: a ledger slot writes up to four entries in completion order, numbers them and reports them; CATCH stamps a mark and puts the staged epochs in force, FINISH stamps one, and a fifth of a heat is dropped and counted; SHARD_CLOSE closes the armed shards and reports, and is refused when no shard is used. R259, R260: a request joins the one of its step or takes a place, and one too many is dropped and counted; the handshake drives the step at the head of the queue; the answer samples REPLAY_OK and leaves the queue, a rise without a request is counted, and no answer in time refuses with its own cause. -/
def Obligations.LedgerMarksReplay : Prop :=
  (∀ (e : LedgerIn) (s : State),
    s.isD = true →
    s.running = true →
    s.led.queue = [e] →
    bits e.ltag.toNat 47 44 = 1 →
    s.tly.bind = [] →
    ∃ t, exec .ledgerSlot s = .next t ∧ t.led = { s.led with
      queue := [], ring := Tab.set [] s.led.ring (s.led.count.toNat % 4096) (entryBytes e s.led.count.toNat s.recPoison), count := s.led.count + 1
      tagBad := s.led.tagBad || tagBad e.ltag } ∧ Unchanged [.led, .ul] s t) ∧
  (∀ (s : State),
    s.led.queue = [] →
    s.isD = true →
    exec .ledgerSlot s = .next s) ∧
  (∀ (n : Word) (s : State),
    s.isD = true →
    s.running = true →
    s.led.marks.length < 4 →
    s.tly.bind = [] →
    ∃ t, exec (.finishMark n) s = .next t ∧ t.led = { s.led with marks := s.led.marks ++ [(s.tb.stroke, n, true)] } ∧ Unchanged [.led, .trc, .sys] s t) ∧
  (∀ (n : Word) (s : State),
    s.isD = true →
    s.running = true →
    4 ≤ s.led.marks.length →
    s.tly.bind = [] →
    ∃ t, exec (.finishMark n) s = .next t ∧ t.led = { s.led with markOvf := satInc s.led.markOvf } ∧ Unchanged [.led, .trc, .sys] s t) ∧
  (∀ (n : Word) (s : State),
    s.isD = true →
    s.running = true →
    s.led.marks.length < 4 →
    s.tly.bind = [] →
    ∃ t, exec (.catchMark n) s = .next t ∧ t.led.marks = s.led.marks ++ [(s.tb.stroke, n, false)] ∧ t.led.step = n ∧ t.led.stepValid = true ∧
    t.led.epForce = (List.range 256).foldl (fun e i => Tab.set 0 e i (s.stagedEpoch i)) [] ∧ (t.led.hist.getLast?.map Prod.fst) = some n ∧ t.led.hist.length ≤ 16 ∧
    Unchanged [.sys, .integ, .trc, .ttrc, .led, .tly, .ul, .evr] s t) ∧
  (∀ (p : Post) (s : State),
    s.running = true →
    s.isD = true →
    1 ≤ p.role.toNat →
    s.led.inStates (· != 0) = [] →
    ∃ t, exec (.shardClose p) s = .next t ∧ t.led = s.led ∧ t.stuck 2 6 = true ∧ Unchanged [.sys, .integ, .trc, .ttrc, .ul, .roles, .evr] s t) ∧
  (∀ (p : Post) (s : State),
    s.running = true →
    s.isD = true →
    1 ≤ p.role.toNat →
    s.led.inStates (· != 0) ≠ [] →
    ∃ t, exec (.shardClose p) s = .next t ∧ t.led = { s.led with shards := s.led.shards.map fun x => if x.2.state = 1 then (x.1, { x.2 with state := 6 }) else x } ∧
    Unchanged [.sys, .trc, .ttrc, .led, .ul, .roles, .evr] s t) ∧
  (∀ (n : Word) (o : BitVec 12) (k m : Byte) (s : State),
    s.isD = true →
    s.running = true →
    s.led.rq = [] →
    exec (.replayReq n o k m) s = .next (let t := s.take 0 0 0x24; { t with led := { t.led with rq := [⟨n, [m]⟩] } })) ∧
  (∀ (n : Word) (o : BitVec 12) (k m : Byte) (l : List Byte) (s : State),
    s.isD = true →
    s.running = true →
    s.led.rq = [⟨n, l⟩] →
    l.length < 32 →
    exec (.replayReq n o k m) s = .next (let t := s.take 0 0 0x24; { t with led := { t.led with rq := [⟨n, l ++ [m]⟩] } })) ∧
  (∀ (n : Word) (o : BitVec 12) (k m : Byte) (s : State),
    s.isD = true →
    s.running = true →
    8 ≤ s.led.rq.length →
    (s.led.rq.all fun r => r.step != n) = true →
    exec (.replayReq n o k m) s = .next (let t := s.take 0 0 0x24; { t with led := { t.led with rplDrop := satInc t.led.rplDrop } })) ∧
  (∀ (r : ReplayIn) (l : List ReplayIn) (s : State),
    s.isD = true →
    s.running = true →
    s.led.rq = r :: l →
    s.led.req = false →
    s.led.ackHigh = false →
    exec .replayHandshake s = .next { s with led := { s.led with req := true, reqStep := r.step } }) ∧
  (∀ (s : State),
    s.led.rq = [] →
    exec .replayHandshake s = .next s) ∧
  (∀ (b : Bool) (s : State),
    s.isD = true →
    s.running = true →
    s.led.ackHigh = false →
    s.led.req = false →
    exec (.replayAckRise b) s = .next { s with led := { s.led with ackHigh := true, lateAck := satInc s.led.lateAck } }) ∧
  (∀ (n : Word) (m : Byte) (s : State),
    s.isD = true →
    s.running = true →
    s.led.ackHigh = false →
    s.led.req = true →
    s.led.rq = [⟨n, [m]⟩] →
    exec (.replayAckRise true) s = .next (let t : State := { s with led := { s.led with ackHigh := true, lastOk := true, rq := [], req := false } }
    t.send 0 0 0x16 (le 4 n.toNat ++ [1, m, 0, 0, 0, 0, 0, 0, 0, 0, 0, 0]))) ∧
  (∀ (n : Word) (m : Byte) (s : State),
    s.isD = true →
    s.running = true →
    s.led.req = true →
    s.led.rq = [⟨n, [m]⟩] →
    ∃ t, exec .replayNoAck s = .next t ∧ t.led = { s.led with rq := [], req := false, refused := satInc s.led.refused } ∧ Unchanged [.sys, .trc, .ttrc, .led, .ul, .evr] s t) ∧
  (∀ (s : State),
    s.isD = true →
    exec .replayAckFall s = .next { s with led := { s.led with ackHigh := false } })

/-- R358 to R360: DRAIN is sent in the heat after a condemnation where DRN_EN allows it and is shown SUPPRESSED where not; the die raises DRAIN_REQ, or answers SUPPRESSED, reports each change of DRAIN_ACK, and lowers DRAIN_REQ at DRAIN_CLEAR; the tray takes the answer; no answer in DRAIN_TMO heats is recorded once. -/
def Obligations.Drains : Prop :=
  (∀ (d : BitVec 6) (s : State),
    s.isT = true →
    s.running = true →
    (s.verd d.toNat).drainDue = true →
    (s.verd d.toNat).v = 3 →
    s.drnEn d.toNat = true →
    exec (.drainSend d) s = .next ((s.setVerd d.toNat { s.verd d.toNat with drainDue := false, drain := 1, drainAt := some s.heat.count }).send d.toNat 0 0x25 [])) ∧
  (∀ (d : BitVec 6) (s : State),
    s.isT = true →
    s.running = true →
    (s.verd d.toNat).drainDue = true →
    (s.verd d.toNat).v = 3 →
    s.drnEn d.toNat = false →
    ∃ t, exec (.drainSend d) s = .next t ∧ t.ump = (s.setVerd d.toNat { s.verd d.toNat with drainDue := false, drain := 3, drainAt := none }).ump ∧ Unchanged [.ump, .sys, .trc, .ul, .evr, .ttrc] s t) ∧
  (∀ (d : BitVec 6) (s : State),
    (s.verd d.toNat).drainDue = false →
    exec (.drainSend d) s = .next s) ∧
  (∀ (s : State),
    s.isD = true →
    s.running = true →
    s.drnEn 0 = true →
    exec .drain s = .next (let t := s.take 0 0 0x25; t.setUmp { t.ump with drainReq := true, suppressed := false })) ∧
  (∀ (s : State),
    s.isD = true →
    s.running = true →
    s.drnEn 0 = false →
    ∃ t, exec .drain s = .next t ∧ t.ump = { s.ump with suppressed := true } ∧ Unchanged [.ump, .sys, .trc, .ul, .evr, .ttrc] s t) ∧
  (∀ (b : Bool) (s : State),
    s.isD = true →
    s.running = true →
    s.ump.drainAck ≠ b →
    exec (.drainAckChange b) s = .next ((s.setUmp { s.ump with drainAck := b }).send 0 0 0x18
      (le 1 ((if s.ump.drainReq then 1 else 0) + (if b then 2 else 0) + (if s.ump.suppressed then 4 else 0)) ++ List.replicate 7 0 ++ le 8 s.tb.stroke.toNat))) ∧
  (∀ (s : State),
    s.isD = true →
    s.running = true →
    exec .drainClear s = .next (let t := s.take 0 0 0x26; t.setUmp { t.ump with drainReq := false })) ∧
  (∀ (k : BitVec 6) (b : Byte) (x : DWord) (s : State),
    s.isT = true →
    s.running = true →
    (s.verd k.toNat).v = 3 →
    b.getLsbD 2 = true →
    exec (.drainState k b x) s = .next ((s.take k.toNat 0 0x18).setVerd k.toNat { s.verd k.toNat with drain := 3, drainAt := none })) ∧
  (∀ (k : BitVec 6) (b : Byte) (x : DWord) (s : State),
    s.isT = true →
    s.running = true →
    (s.verd k.toNat).v = 3 →
    b.getLsbD 2 = false →
    b.getLsbD 1 = true →
    exec (.drainState k b x) s = .next ((s.take k.toNat 0 0x18).setVerd k.toNat { s.verd k.toNat with drain := 2, drainAt := none })) ∧
  (∀ (k : BitVec 6) (b : Byte) (x : DWord) (s : State),
    s.isT = true →
    s.running = true →
    (s.verd k.toNat).v = 3 →
    b.getLsbD 2 = false →
    b.getLsbD 1 = false →
    exec (.drainState k b x) s = .next (s.take k.toNat 0 0x18)) ∧
  (∀ (k : BitVec 6) (b : Byte) (x : DWord) (s : State),
    s.isT = true →
    s.running = true →
    (s.verd k.toNat).v ≠ 3 →
    exec (.drainState k b x) s = .next (s.take k.toNat 0 0x18)) ∧
  (∀ (k : BitVec 6) (h : DWord) (s : State),
    s.isT = true →
    s.running = true →
    (s.verd k.toNat).drainAt = some h →
    (s.verd k.toNat).drain = 1 →
    s.drainTmo ≤ s.heatsSince h →
    ∃ t, exec (.drainTimeout k) s = .next t ∧ t.ump = (s.setVerd k.toNat { s.verd k.toNat with drainAt := none }).ump ∧ Unchanged [.ump, .sys, .trc, .ul, .evr, .ttrc] s t) ∧
  (∀ (k : BitVec 6) (h : DWord) (s : State),
    (s.verd k.toNat).drainAt = some h →
    s.heatsSince h < s.drainTmo →
    exec (.drainTimeout k) s = .next s)

/-- R351, R356, R369: LEND_SET and LEND_CLR set the tray's part of the lend output; an unacknowledged SUSPECT or CONDEMN goes north again after VREP heats; VERD_RESET of a verdict that is not CALM waits for the boundary and of a CALM one is refused. R19, R362: after DISAGREE_H heats of differing views the die is DISAGREE and after as many of agreement it is not, each with its record and its northbound report; a fast event sets its die's bit. -/
def Obligations.LendVerdictsLiveness : Prop :=
  (∀ (s : State),
    s.isD = true →
    s.running = true →
    exec .lendSet s = .next (let t := s.take 0 0 0x27; { t with pwr := { t.pwr with lendTray := true } })) ∧
  (∀ (s : State),
    s.isD = true →
    s.running = true →
    exec .lendClr s = .next (let t := s.take 0 0 0x28; { t with pwr := { t.pwr with lendTray := false } })) ∧
  (∀ (k : BitVec 6) (h : DWord) (s : State),
    s.isT = true →
    s.running = true →
    (s.verd k.toNat).repAt = some h →
    2 ≤ (s.verd k.toNat).v.toNat →
    (s.verd k.toNat).acked = false →
    s.vrep ≠ 0 →
    s.vrep ≤ s.heatsSince h →
    exec (.verdictRepeat k) s = .next ((s.setVerd k.toNat { s.verd k.toNat with repAt := some s.heat.count }).northRep 4 (s.verdictBody k.toNat (s.verd k.toNat).old.toNat (s.verd k.toNat).chHeat) true)) ∧
  (∀ (k : BitVec 6) (s : State),
    (s.verd k.toNat).acked = true →
    exec (.verdictRepeat k) s = .next s) ∧
  (∀ (p : Post) (s : State),
    s.running = true →
    s.isT = true →
    1 ≤ p.role.toNat →
    p.a0.toNat < 64 →
    (s.verd p.a0.toNat).v ≠ 0 →
    exec (.verdReset p) s = .next ((s.setVerd p.a0.toNat { s.verd p.a0.toNat with resetDue := some (p.role, p.path) }).setResult 0x0601 1 p)) ∧
  (∀ (p : Post) (s : State),
    s.running = true →
    s.isD = true →
    1 ≤ p.role.toNat →
    p.a0 = 0 →
    (s.verd own).v ≠ 0 →
    exec (.verdReset p) s = .next ((s.setVerd own { s.verd own with resetDue := some (p.role, p.path) }).setResult 0x0601 1 p)) ∧
  (∀ (p : Post) (s : State),
    s.running = true →
    s.isT = true →
    1 ≤ p.role.toNat →
    p.a0.toNat < 64 →
    (s.verd p.a0.toNat).v = 0 →
    ∃ t, exec (.verdReset p) s = .next t ∧ t.ump = s.ump ∧ t.stuck 2 6 = true ∧ Unchanged [.sys, .integ, .trc, .ttrc, .ul, .roles, .evr] s t) ∧
  (∀ (k : BitVec 6) (s : State),
    s.isT = true →
    s.running = true →
    s.inService k.toNat = true →
    s.ump.disagree.getLsbD k.toNat = false →
    s.ump.jobWritten = true →
    max 1 s.disagreeH ≤ (s.verd k.toNat).differ →
    ∃ t, exec (.livenessDisagree k) s = .next t ∧ t.ump = { s.ump with disagree := setBit s.ump.disagree k.toNat true } ∧ Unchanged [.ump, .sys, .trc, .ul, .nb, .evr, .ttrc] s t) ∧
  (∀ (k : BitVec 6) (s : State),
    (s.verd k.toNat).differ < max 1 s.disagreeH →
    exec (.livenessDisagree k) s = .next s) ∧
  (∀ (k : BitVec 6) (s : State),
    s.isT = true →
    s.running = true →
    s.ump.disagree.getLsbD k.toNat = true →
    max 1 s.disagreeH ≤ (s.verd k.toNat).agree →
    ∃ t, exec (.livenessAgree k) s = .next t ∧ t.ump = { s.ump with disagree := setBit s.ump.disagree k.toNat false } ∧ Unchanged [.ump, .sys, .trc, .ul, .nb, .evr, .ttrc] s t) ∧
  (∀ (k : BitVec 6) (s : State),
    s.ump.disagree.getLsbD k.toNat = false →
    exec (.livenessAgree k) s = .next s) ∧
  (∀ (k : BitVec 6) (n : BitVec 16) (x y : DWord) (s : State),
    s.isT = true →
    s.running = true →
    exec (.fastEvt k n x y) s = .next (let t := s.take k.toNat 0 0x10; (t.setUmp { t.ump with fast := setBit t.ump.fast k.toNat true }).emFeed (.fast k)))

/-- R364 to R367: START sends to every trained link of the mask with one deadline; a die in time pulses JOB_START and answers, a late one answers LATE; the start closes when all have answered or at its timeout; an abort goes to every member of the collective but the one it came from, and one from the north never goes north again. -/
def Obligations.StartAndAbort : Prop :=
  (∀ (p : Post) (s : State),
    s.running = true →
    s.isT = true →
    1 ≤ p.role.toNat →
    s.ump.startOpen = false →
    p.a1 = 1 →
    p.a2 = 0 →
    (s.link 0).tr.state = 4 →
    exec (.start p) s = .next (let t := s.insert 0 0x29 (le 4 p.a0.toNat ++ le 4 0 ++ le 8 (s.tb.stroke + BitVec.ofNat 64 (s.startTmo * s.period)).toNat)
    State.setResult (t.setUmp { t.ump with startOpen := true, startId := p.a0, startMask := 1, startHeat := s.heat.count, startDone := 0, startLate := 0 }) 0x0603 1 p)) ∧
  (∀ (p : Post) (s : State),
    s.running = true →
    s.isT = true →
    1 ≤ p.role.toNat →
    s.ump.startOpen = true →
    ∃ t, exec (.start p) s = .next t ∧ t.ump = s.ump ∧ t.stuck 2 6 = true ∧ Unchanged [.sys, .integ, .trc, .ttrc, .ul, .roles, .evr] s t) ∧
  (∀ (k : BitVec 6) (n : Word) (s : State),
    s.isT = true →
    s.running = true →
    s.ump.startOpen = true →
    s.ump.startId = n →
    s.ump.startMask.getLsbD k.toNat = true →
    s.ump.startMask ≠ setBit s.ump.startDone k.toNat true ||| s.ump.startLate →
    exec (.startAck k n false) s = .next (let t := s.take k.toNat 0 0x19; t.setUmp { t.ump with startDone := setBit t.ump.startDone k.toNat true })) ∧
  (∀ (k : BitVec 6) (n : Word) (s : State),
    s.isT = true →
    s.running = true →
    s.ump.startOpen = true →
    s.ump.startId = n →
    s.ump.startMask.getLsbD k.toNat = true →
    s.ump.startMask = s.ump.startDone ||| setBit s.ump.startLate k.toNat true →
    ∃ t, exec (.startAck k n true) s = .next t ∧ t.ump = { s.ump with startLate := setBit s.ump.startLate k.toNat true, startOpen := false } ∧ Unchanged [.ump, .sys, .trc, .ul, .nb, .evr, .ttrc] s t) ∧
  (∀ (k : BitVec 6) (n : Word) (b : Bool) (s : State),
    s.isT = true →
    s.running = true →
    s.ump.startId ≠ n →
    exec (.startAck k n b) s = .next (s.take k.toNat 0 0x19)) ∧
  (∀ (s : State),
    s.isT = true →
    s.running = true →
    s.ump.startOpen = true →
    s.startTmo ≤ s.heatsSince s.ump.startHeat →
    ∃ t, exec .startTimeout s = .next t ∧ t.ump = { s.ump with startOpen := false } ∧ Unchanged [.ump, .sys, .trc, .ul, .nb, .evr, .ttrc] s t) ∧
  (∀ (s : State),
    s.heatsSince s.ump.startHeat < s.startTmo →
    exec .startTimeout s = .next s) ∧
  (∀ (n : Word) (d : DWord) (s : State),
    s.isD = true →
    s.running = true →
    s.tb.valid = true →
    s.tb.stroke.toNat ≤ d.toNat →
    s.tly.bind = [] →
    exec (.startFlit n d) s = .next (let t := s.take 0 0 0x29; (t.setUmp { t.ump with jobStartId := n, jobStarts := t.ump.jobStarts + 1 }).send 0 0 0x19 (le 4 n.toNat ++ le 4 0))) ∧
  (∀ (n : Word) (d : DWord) (s : State),
    s.isD = true →
    s.running = true →
    (s.tb.valid = false ∨ d.toNat < s.tb.stroke.toNat) →
    exec (.startFlit n d) s = .next ((s.take 0 0 0x29).send 0 0 0x19 (le 4 n.toNat ++ [1, 0, 0, 0]))) ∧
  (∀ (c : BitVec 6) (s : State),
    s.isD = true →
    s.running = true →
    exec (.abortReq c) s = .next (s.insert 0 0x30 (le 1 c.toNat ++ [0] ++ le 6 s.fsid.toNat ++ le 8 s.tb.stroke.toNat))) ∧
  (∀ (k c : BitVec 6) (o : BitVec 48) (x : DWord) (s : State),
    s.isD = true →
    s.running = true →
    exec (.abortFlit k c o x) s = .next (let t := s.take 0 0 0x30; t.setUmp { t.ump with abortColl := c, abortIns := t.ump.abortIns + 1 })) ∧
  (∀ (k c : BitVec 6) (o : BitVec 48) (x : DWord) (s : State),
    s.isT = true →
    s.running = true →
    s.abtMask c.toNat = 3 →
    s.abtNb c.toNat = false →
    k = 0 →
    ∃ t, exec (.abortFlit k c o x) s = .next t ∧ t.ump = { s.ump with abtCnt := satInc s.ump.abtCnt } ∧ t.nb = s.nb ∧
    t.link 1 = (s.link 1).pushInsertion Config.insDepth ⟨0x30, le 1 c.toNat ++ [0] ++ le 6 o.toNat ++ le 8 x.toNat⟩ ∧
    t.link 0 = (s.take 0 0 0x30).link 0 ∧ Unchanged [.ump, .sys, .trc, .ul, .evr, .ttrc] s t) ∧
  (∀ (q : BitVec 2) (c : BitVec 6) (o : BitVec 48) (x : DWord) (s : State),
    s.isT = true →
    s.running = true →
    s.abtMask c.toNat = 1 →
    ∃ t, exec (.abortFrame q c o x) s = .next t ∧ t.ump = { s.ump with abtCnt := satInc s.ump.abtCnt } ∧ t.nb = s.nb ∧
    t.link 0 = (s.link 0).pushInsertion Config.insDepth ⟨0x30, le 1 c.toNat ++ [0] ++ le 6 o.toNat ++ le 8 x.toNat⟩ ∧ Unchanged [.ump, .sys, .trc, .ul, .evr, .ttrc] s t) ∧
  (∀ (p : Post) (s : State),
    s.running = true →
    s.isT = true →
    1 ≤ p.role.toNat →
    p.a0.toNat < 64 →
    s.abtMask p.a0.toNat = 1 →
    s.abtNb p.a0.toNat = false →
    ∃ t, exec (.abortPost p) s = .next t ∧ t.ump = { s.ump with abtCnt := satInc s.ump.abtCnt } ∧
    t.link 0 = (s.link 0).pushInsertion Config.insDepth ⟨0x30, le 1 p.a0.toNat ++ [0] ++ le 6 s.fsid.toNat ++ le 8 s.tb.stroke.toNat⟩ ∧
    Unchanged [.ump, .sys, .trc, .ul, .evr, .roles, .ttrc] s t) ∧
  (∀ (p : Post) (s : State),
    s.running = true →
    s.isT = true →
    1 ≤ p.role.toNat →
    p.a0.toNat < 64 →
    s.abtMask p.a0.toNat = 0 →
    s.abtNb p.a0.toNat = false →
    ∃ t, exec (.abortPost p) s = .next t ∧ t.ump = s.ump ∧ t.stuck 2 6 = true ∧ Unchanged [.sys, .integ, .trc, .ttrc, .ul, .roles, .evr] s t)

/-- R253 to R258, R261 to R267: an entry that is not comparable counts as EXCL; a comparable one of a member opens its set with the members of that moment, or joins the open one; the entry of a replay closes its record; a set whose wait is over counts its ABSENT members; a record that times out or is refused is UNRESOLVED; shard sums are stored; FP_REPLAY asks a die and FP_BIN_CLR clears the bins it names. -/
def Obligations.Comparison : Prop :=
  (∀ (k : BitVec 6) (e : List Byte) (s : State),
    s.isT = true →
    s.running = true →
    tagRpl (leAt e 8 8) = false →
    entryComparable e = false →
    ∃ t, exec (.fpReport k e) s = .next t ∧ t.fpc = { s.fpc with counts := Tab.upd 0 s.fpc.counts 7 fun x => satAdd x 1 } ∧ Unchanged [.fpc, .ul, .nb] s t) ∧
  (∀ (k : BitVec 6) (e : List Byte) (s : State),
    s.isT = true →
    s.running = true →
    tagRpl (leAt e 8 8) = false →
    entryComparable e = true →
    s.fpc.sets = [] →
    (s.fpMembers (s.fpGroup k.toNat)).getLsbD k.toNat = true →
    ∃ t, exec (.fpReport k e) s = .next t ∧ t.fpc = { s.fpc with sets :=
      [⟨BitVec.ofNat 6 (s.fpGroup k.toNat), BitVec.ofNat 32 (leAt e 8 4), BitVec.ofNat 12 (leAt e 0xC 2), BitVec.ofNat 4 (leAt e 0xD 1 / 16),
        s.heat.count, s.fpMembers (s.fpGroup k.toNat), [fpEntryOf k.toNat e], false⟩] } ∧ Unchanged [.fpc, .ul, .nb] s t) ∧
  (∀ (k : BitVec 6) (e : List Byte) (x : FpSet) (s : State),
    s.isT = true →
    s.running = true →
    tagRpl (leAt e 8 8) = false →
    entryComparable e = true →
    s.fpc.sets = [x] →
    x.group.toNat = s.fpGroup k.toNat →
    x.step = BitVec.ofNat 32 (leAt e 8 8) →
    x.obj.toNat = tagObj (leAt e 8 8) →
    x.kind.toNat = tagKind (leAt e 8 8) →
    x.members.getLsbD k.toNat = true →
    ∃ t, exec (.fpReport k e) s = .next t ∧ t.fpc = { s.fpc with sets := [{ x with entries := (x.entries.filter fun y => y.die.toNat != k.toNat) ++ [fpEntryOf k.toNat e] }] } ∧ Unchanged [.fpc, .ul, .nb] s t) ∧
  (∀ (k : BitVec 6) (e : List Byte) (r : FpReplay) (s : State),
    s.isT = true →
    s.running = true →
    tagRpl (leAt e 8 8) = true →
    entryComparable e = true →
    s.fpc.replays = [r] →
    r.closed = none →
    r.die = k →
    r.step = BitVec.ofNat 32 (leAt e 8 8) →
    r.obj.toNat = tagObj (leAt e 8 8) →
    r.kind.toNat = tagKind (leAt e 8 8) →
    leAt e 0x20 4 = r.evd.toNat →
    ∃ t, exec (.fpReport k e) s = .next t ∧ t.fpc = { s.fpc with replays := [{ r with closed := some 0, result := some (BitVec.ofNat 64 (leAt e 0 8)) }] } ∧ Unchanged [.fpc, .ul, .nb] s t) ∧
  (∀ (x : FpSet) (s : State),
    s.isT = true →
    s.running = true →
    s.fpc.sets = [x] →
    x.expired = false →
    s.fpExpired x = true →
    exec .fpWaitExpiry s = .next (s.setFpc { s.fpc with counts := Tab.upd 0 s.fpc.counts 8 fun y => satAdd y x.absent, sets := [{ x with expired := true }] })) ∧
  (∀ (s : State),
    s.fpc.sets = [] →
    exec .fpWaitExpiry s = .next s) ∧
  (∀ (n : Byte) (r : FpReplay) (s : State),
    s.isT = true →
    s.running = true →
    s.fpc.replays = [r] →
    r.num = n →
    r.closed = none →
    r.ref.isSome = true →
    s.fpRplTmo ≤ s.heatsSince r.heat →
    ∃ t, exec (.fpRplTmoExpiry n) s = .next t ∧ t.fpc.replays = [] ∧ t.fpc.counts = Tab.upd 0 s.fpc.counts 4 (fun x => satAdd x 1) ∧ t.fpc.sets = s.fpc.sets ∧ t.ump = s.ump ∧
    Unchanged [.sys, .integ, .trc, .ttrc, .fpc, .ump, .ul, .evr] s t) ∧
  (∀ (n : Byte) (r : FpReplay) (s : State),
    s.isT = true →
    s.running = true →
    s.fpc.replays = [r] →
    r.closed = none →
    s.heatsSince r.heat < s.fpRplTmo →
    ∃ t, exec (.fpRplTmoExpiry n) s = .next t ∧ t.fpc = s.fpc ∧ Unchanged [.fpc] s t) ∧
  (∀ (k : BitVec 6) (n : Word) (l : List Byte) (r : FpReplay) (s : State),
    s.isT = true →
    s.running = true →
    s.fpc.replays = [r] →
    r.die = k →
    r.step = n →
    l.contains r.num = true →
    exec (.replayAccept k n l) s = .next ((s.take k.toNat 0 0x16).setFpc { s.fpc with replays := [{ r with accepted := true }] })) ∧
  (∀ (k : BitVec 6) (n : Word) (l : List Byte) (c : Byte) (r : FpReplay) (s : State),
    s.isT = true →
    s.running = true →
    s.fpc.replays = [r] →
    r.die = k →
    r.step = n →
    l.contains r.num = true →
    r.closed = none →
    r.ref.isSome = true →
    ∃ t, exec (.replayRefused k n l c) s = .next t ∧ t.fpc.replays = [] ∧ t.fpc.counts = Tab.upd 0 s.fpc.counts 4 (fun x => satAdd x 1) ∧ t.fpc.inputs = s.fpc.inputs ++ [(k, 2)] ∧
    t.fpc.sets = s.fpc.sets ∧ t.ump = s.ump ∧ Unchanged [.sys, .integ, .trc, .ttrc, .fpc, .ump, .ul, .evr] s t) ∧
  (∀ (k : BitVec 6) (b : List Byte) (s : State),
    s.isT = true →
    s.running = true →
    ∃ t, exec (.shardReport k b) s = .next t ∧ t.fpc = { s.fpc with shardSum := Tab.set [] s.fpc.shardSum k.toNat (b.take 8) } ∧ Unchanged [.fpc, .ul, .nb] s t) ∧
  (∀ (p : Post) (s : State),
    s.running = true →
    s.isT = true →
    1 ≤ p.role.toNat →
    p.a0.toNat < 64 →
    p.a2 &&& 0xF0FFF = p.a2 →
    1 ≤ bits p.a2.toNat 19 16 →
    bits p.a2.toNat 19 16 ≤ 3 →
    s.inService p.a0.toNat = true →
    s.mismatched p.a0.toNat = false →
    exec (.fpReplay p) s = .next ((s.send p.a0.toNat 0 0x24 (le 4 p.a1.toNat ++ le 2 (p.a2.toNat % 4096) ++ le 1 (bits p.a2.toNat 19 16) ++ le 1 s.fpc.nextNum.toNat)).setResult 0x0403 1 p)) ∧
  (∀ (p : Post) (s : State),
    s.running = true →
    s.isT = true →
    1 ≤ p.role.toNat →
    p.a0.toNat < 64 →
    p.a2 &&& 0xF0FFF = p.a2 →
    (s.inService p.a0.toNat = false ∨ s.mismatched p.a0.toNat = true ∨ bits p.a2.toNat 19 16 = 0 ∨ 3 < bits p.a2.toNat 19 16) →
    ∃ t, exec (.fpReplay p) s = .next t ∧ t.fpc = s.fpc ∧ t.stuck 2 6 = true ∧ Unchanged [.sys, .integ, .trc, .ttrc, .ul, .roles, .evr] s t) ∧
  (∀ (p : Post) (s : State),
    s.running = true →
    s.isT = true →
    1 ≤ p.role.toNat →
    p.a0 = 0x100 →
    ∃ t, exec (.fpBinClr p) s = .next t ∧ t.fpc = { s.fpc with mis := [], cmp := [] } ∧ Unchanged [.fpc, .roles] s t) ∧
  (∀ (p : Post) (s : State),
    s.running = true →
    s.isT = true →
    1 ≤ p.role.toNat →
    p.a0.toNat < 64 →
    ∃ t, exec (.fpBinClr p) s = .next t ∧ t.fpc = { s.fpc with mis := s.fpc.mis.filter (fun q => q.1 / 256 != p.a0.toNat), cmp := s.fpc.cmp.filter (fun q => q.1 / 256 != p.a0.toNat) } ∧ Unchanged [.fpc, .roles] s t)

/-- R277 to R280, R285, R292, R293, R295: a step that has waited STEP_WAIT heats joins the queue of eight, or is dropped with its counter and sticky bit; a run takes one step and its statistics wait for the boundary; an export buffer becomes a numbered record, or is lost with SK_EXPORT off. -/
def Obligations.StepReduction : Prop :=
  (∀ (st : Step) (s : State),
    s.isT = true →
    s.running = true →
    s.user = true →
    s.red.opened = [st] →
    s.stepExpired st = true →
    s.red.queue.length < 8 →
    ∃ t, exec .stepWaitExpiry s = .next t ∧ t.red = { s.red with opened := [], closedSteps := s.red.closedSteps ++ [st.step], queue := s.red.queue ++ [st], cnt := t.red.cnt } ∧
    t.red.cnt = Tab.upd 0 s.red.cnt 7 (fun c => satAdd c ((List.range 64).filter fun k => st.members.getLsbD k && (Tab.get default st.marks k).fin.isNone).length) ∧ Unchanged [.red] s t) ∧
  (∀ (st : Step) (s : State),
    s.isT = true →
    s.running = true →
    s.user = true →
    s.red.opened = [st] →
    s.stepExpired st = true →
    8 ≤ s.red.queue.length →
    ∃ t, exec .stepWaitExpiry s = .next t ∧ t.red.opened = [] ∧ t.red.queue = s.red.queue ∧ t.stuck 1 4 = true ∧ Unchanged [.sys, .integ, .trc, .ttrc, .red, .ump, .ul, .evr] s t) ∧
  (∀ (s : State),
    s.red.opened = [] →
    exec .stepWaitExpiry s = .next s) ∧
  (∀ (st : Step) (rest : List Step) (s : State),
    s.redRuns = true →
    s.red.pubDue = none →
    s.red.queue = st :: rest →
    s.nFig = 0 →
    s.tly.bind = [] →
    exec .reductionRun s = .next (s.setRed { s.red with cnt := Tab.upd 0 s.red.cnt 0 (fun c => satAdd c 1), queue := rest, lastStep := st.step, lastSketches := [], pubDue := some (s.stepStats st ((List.range 64).filterMap fun k => if st.members.getLsbD k && !st.left.getLsbD k && s.member k then (Tab.get default st.marks k).fin.map fun f => (k, f.1) else none)) })) ∧
  (∀ (st : Step) (rest : List Step) (s : State),
    s.redRuns = true →
    s.red.pubDue = none →
    s.red.queue = st :: rest →
    s.tly.bind = [] →
    ∃ t, exec .reductionRun s = .next t ∧ t.red.queue = rest ∧ t.red.lastStep = st.step ∧ t.red.lastSketches.length = s.nFig ∧ t.red.pubDue.isSome = true ∧ t.red.opened = s.red.opened ∧
    t.red.recQ = s.red.recQ ∧ Unchanged [.red, .integ, .sys, .trc, .ul, .evr, .ttrc] s t) ∧
  (∀ (s : State),
    s.red.queue = [] →
    exec .reductionRun s = .next s) ∧
  (∀ (i : Nat) (k : Sketch) (s : State),
    s.isT = true →
    s.running = true →
    s.red.exportBuf = [(i, some k)] →
    s.red.recQ = [] →
    s.te.recQ = [] →
    s.skEn = true →
    exec .sketchExport s = .next (s.setRed { s.red with exportBuf := [], recQ := [s.sketchRecord i k], seq := s.red.seq + 1, cnt := Tab.upd 0 s.red.cnt 9 fun c => satAdd c 1 })) ∧
  (∀ (i : Nat) (k : Sketch) (s : State),
    s.isT = true →
    s.running = true →
    s.red.exportBuf = [(i, some k)] →
    s.red.recQ = [] →
    s.te.recQ = [] →
    s.skEn = false →
    ∃ t, exec .sketchExport s = .next t ∧ t.red = { s.red with exportBuf := [], cnt := Tab.upd 0 s.red.cnt 4 fun c => satAdd c 1 } ∧ t.stuck 1 4 = true ∧ Unchanged [.sys, .integ, .trc, .ttrc, .red, .te, .ump, .ul, .nb, .evr] s t) ∧
  (∀ (s : State),
    s.red.exportBuf = [] →
    s.red.recQ = [] →
    s.te.recQ = [] →
    exec .sketchExport s = .next s)

/-- R34, R41, R135, R274, R337, R437: a heat header, an overrun marker and a detector record are kept for their die and heat; those of heat −1, of heats already processed, and of a third heat of a die are not kept; a marker of DET_PROD or UMP_PROD stands in for the detector record. -/
def Obligations.DieRecords : Prop :=
  (∀ (k : BitVec 6) (b : List Byte) (h : DWord) (s : State),
    s.isT = true →
    s.running = true →
    leAt b 0 8 = h.toNat →
    h ≠ BitVec.allOnes 64 →
    s.inr.next ≤ h.toNat →
    s.inr.room k.toNat h = true →
    ∃ t, exec (.heatHdr k b) s = .next t ∧ ((t.inr.rec? k.toNat h).map fun x => (x.hdr, x.sv, x.poison, x.fd, x.nframe)) =
      some (true, (leAt b 0xE 1).testBit 0, (leAt b 0xE 1).testBit 1, (leAt b 0xE 1).testBit 2, BitVec.ofNat 16 (leAt b 0x10 2)) ∧
    t.red = { s.red with cnt := Tab.upd 0 s.red.cnt 10 fun c => satAdd c (leAt b 0xF 1) } ∧ Unchanged [.inr, .red, .ul, .nb] s t) ∧
  (∀ (k : BitVec 6) (b : List Byte) (s : State),
    s.isT = true →
    s.running = true →
    leAt b 0 8 = 2 ^ 64 - 1 →
    ∃ t, exec (.heatHdr k b) s = .next t ∧ t.inr = s.inr ∧ Unchanged [.red, .ul, .nb] s t) ∧
  (∀ (k : BitVec 6) (h : DWord) (p n : BitVec 16) (s : State),
    s.isT = true →
    s.running = true →
    h ≠ BitVec.allOnes 64 →
    s.inr.next ≤ h.toNat →
    s.inr.room k.toNat h = true →
    (s.inr.rec? k.toNat h).isNone = true →
    ∃ t, exec (.ovrMark k h p n) s = .next t ∧ t.inr.recs = s.inr.recs ++ [{ (default : DieRec) with die := k, heat := h, got := n.toNat, detOvr := s.standIn k.toNat p.toNat n.toNat }] ∧ Unchanged [.inr, .red, .ul, .nb] s t) ∧
  (∀ (k : BitVec 6) (h : DWord) (p n : BitVec 16) (s : State),
    s.isT = true →
    s.running = true →
    h.toNat < s.inr.next →
    ∃ t, exec (.ovrMark k h p n) s = .next t ∧ t.inr = s.inr ∧ Unchanged [.red, .ul, .nb] s t) ∧
  (∀ (k : BitVec 6) (b : List Byte) (h : DWord) (s : State),
    s.isT = true →
    s.running = true →
    leAt b 0 8 = h.toNat →
    h ≠ BitVec.allOnes 64 →
    s.inr.next ≤ h.toNat →
    s.inr.room k.toNat h = true →
    ∃ t, exec (.detrec k b) s = .next t ∧ ((t.inr.rec? k.toNat h).bind fun x => x.detrec) = some (BitVec.ofNat 2 (leAt b 8 1), BitVec.ofNat 256 (leAt b 0x10 32)) ∧ Unchanged [.inr, .ul, .nb] s t) ∧
  (∀ (k : BitVec 6) (b : List Byte) (h : DWord) (s : State),
    s.isT = true →
    s.running = true →
    leAt b 0 8 = h.toNat →
    h ≠ BitVec.allOnes 64 →
    s.inr.next ≤ h.toNat →
    s.inr.room k.toNat h = false →
    ∃ t, exec (.detrec k b) s = .next t ∧ t.inr = s.inr ∧ Unchanged [.ul, .nb] s t)

/-- R21, R134, R361: the slot of heat u processes the records of heat u − 2 and those of earlier heats leave; a die not in service has no liveness, one whose link is not trained is DOWN, one whose records came complete is ALIVE, else it is LATE and after SILENT_H such heats SILENT. A heat number below 2 processes nothing. -/
def Obligations.AlignmentSlot : Prop :=
  (∀ (s : State),
    s.isT = true →
    s.running = true →
    s.user = true →
    s.heat.heat ≠ BitVec.allOnes 64 →
    2 ≤ s.heat.heat.toNat →
    s.inr.next ≤ (s.heat.heat - 2).toNat →
    ∃ t, exec .alignmentSlot s = .next t ∧ t.inr.next = (s.heat.heat - 2).toNat + 1 ∧ t.inr.recs = s.inr.recs.filter (fun x => decide ((s.heat.heat - 2).toNat < x.heat.toNat)) ∧
    (∀ k : Fin 64, (t.verd k.val).live =
      (let ok := decide ((Tab.get 0 s.inr.done (1 + k.val)).toNat ≤ (s.heat.heat - 2).toNat) && ((s.inr.rec? k.val (s.heat.heat - 2)).map DieRec.complete).getD false
       if !s.inService k.val then 0 else if (s.link k.val).tr.state ≠ 4 then 4 else if ok then 1 else if Tab.get 0 s.inr.lateRun k.val + 1 < s.silentH then 2 else 3)) ∧
    Unchanged [.sys, .integ, .tray, .trc, .ttrc, .led, .fpc, .red, .inr, .ump, .tly, .ul, .evr] s t) ∧
  (∀ (s : State),
    s.isT = true →
    s.running = true →
    s.user = true →
    s.heat.heat.toNat < 2 →
    ∃ t, exec .alignmentSlot s = .next t ∧ t.inr = s.inr ∧ Unchanged [.sys, .integ, .tray, .trc, .ttrc, .led, .fpc, .red, .inr, .ump, .tly, .ul, .evr] s t) ∧
  (∀ (s : State),
    s.user = false →
    exec .alignmentSlot s = .next s)

/-- R311, R318, R319, R323 to R328, R330: the samples of heat u − 2 of the dies used are scored once in a heat by the waves whose windows stand, and the link stage follows the last wave; the next window is read into its half once no wave still reads it; the blob's check passes into COPYING or fails into FAULT with its reason; the copy fills the node store, and the boundary after it makes the model READY; the host load begins, ends and repeats the check by command. -/
def Obligations.TreeEngine : Prop :=
  (∀ (b : Bool) (n : BitVec 16) (r : TreeRun) (s : State),
    s.scoreDue = true →
    (State.runWaves s.trees [] (s.waveCount s.trees - s.scoring.waves) s s.scoring).2 = r →
    s.waveCount s.trees ≤ r.waves →
    ∃ t, exec (.treeScoring b n []) s = .next t ∧ t.te.now = some ⟨s.heat.heat - 2, s.linkStage r⟩ ∧ t.te.run = none ∧ t.te.pub = s.te.pub ∧ t.te.store = s.te.store ∧
    Unchanged [.sys, .integ, .trc, .ttrc, .te, .ul, .evr] s t) ∧
  (∀ (b : Bool) (n : BitVec 16) (r : TreeRun) (s : State),
    s.scoreDue = true →
    (State.runWaves s.trees [] (s.waveCount s.trees - s.scoring.waves) s s.scoring).2 = r →
    r.waves < s.waveCount s.trees →
    ∃ t, exec (.treeScoring b n []) s = .next t ∧ t.te.now = none ∧ t.te.run = some r ∧ t.te.pub = s.te.pub ∧ t.te.store = s.te.store ∧
    Unchanged [.sys, .integ, .trc, .ttrc, .te, .ul, .evr] s t) ∧
  (∀ (b : Bool) (n : BitVec 16) (l : List (BitVec 6 × BitVec 12 × BitVec 16)) (s : State),
    s.scoreDue = false →
    exec (.treeScoring b n l) s = .next s) ∧
  (∀ (s : State),
    s.scoreDue = true →
    s.lp5Runs = true →
    s.te.windows < s.windowCount s.trees →
    s.windowFree s.trees s.te.windows = true →
    exec .streamWindowLoad s = .next (s.setTe { s.te with windows := s.te.windows + 1, store := Tab.setAll 0 s.te.store (s.halfBase s.te.windows) ((s.windowTrees s.trees s.te.windows).flatMap fun t => (List.range (s.trees.getD t default).nodes).map fun i => BitVec.ofNat 64 (s.blobNode ((s.trees.getD t default).start + i))) })) ∧
  (∀ (s : State),
    (s.windowCount s.trees ≤ s.te.windows ∨ s.windowFree s.trees s.te.windows = false ∨ s.lp5Runs = false) →
    exec .streamWindowLoad s = .next s) ∧
  (∀ (r : Option (BitVec 32)) (s : State),
    s.te.st = 2 →
    s.running = true →
    s.blobFail (r.map BitVec.toNat) = none →
    exec (.blobCheckDone r) s = .next (s.setTe { s.te with st := 3, copyDone := false, readyDue := false })) ∧
  (∀ (r : Option (BitVec 32)) (x : Nat × Nat × Nat) (s : State),
    s.te.st = 2 →
    s.running = true →
    s.blobFail (r.map BitVec.toNat) = some x →
    ∃ t, exec (.blobCheckDone r) s = .next t ∧ t.te = { s.te with st := 5, chkReason := BitVec.ofNat 4 x.1, chkTree := BitVec.ofNat 16 x.2.1, chkNode := BitVec.ofNat 32 x.2.2 } ∧ t.stuck 1 5 = true ∧ Unchanged [.sys, .integ, .trc, .ttrc, .te, .ul, .evr] s t) ∧
  (∀ (r : Option (BitVec 32)) (s : State),
    s.te.st ≠ 2 →
    exec (.blobCheckDone r) s = .next s) ∧
  (∀ (s : State),
    s.te.st = 3 →
    s.running = true →
    s.lp5Runs = true →
    exec .blobCopyDone s = .next (s.setTe { s.te with copyDone := true, store := Tab.setAll 0 [] 0 ((s.trees.filter (·.res)).flatMap fun r => (List.range r.nodes).map fun i => BitVec.ofNat 64 (s.blobNode (r.start + i))) })) ∧
  (∀ (s : State),
    s.te.st = 3 →
    s.te.readyDue = true →
    ∃ t, exec .teModelReady s = .next t ∧ t.te = { s.te with st := 4, copyDone := false, readyDue := false, began := true } ∧ Unchanged [.sys, .trc, .ttrc, .te, .ul, .evr] s t) ∧
  (∀ (s : State),
    s.te.readyDue = false →
    exec .teModelReady s = .next s) ∧
  (∀ (p : Post) (s : State),
    s.running = true →
    s.isT = true →
    2 ≤ p.role.toNat →
    s.user = true →
    s.pwr.pf = false →
    s.treeDigest ≠ 0 →
    (s.te.st.toNat = 0 ∨ 4 ≤ s.te.st.toNat) →
    ∃ t, exec (.teBlobBegin p) s = .next t ∧ t.te = { s.te with st := 1, recv := 0, beyond := false, hostLoad := true } ∧ Unchanged [.te, .roles, .sys, .trc, .ul, .evr, .ttrc] s t) ∧
  (∀ (p : Post) (s : State),
    s.running = true →
    s.isT = true →
    2 ≤ p.role.toNat →
    s.pwr.pf = true →
    ∃ t, exec (.teBlobBegin p) s = .next t ∧ t.te = s.te ∧ t.stuck 2 6 = true ∧ Unchanged [.sys, .integ, .trc, .ttrc, .ul, .roles, .evr] s t) ∧
  (∀ (p : Post) (s : State),
    s.running = true →
    s.isT = true →
    2 ≤ p.role.toNat →
    s.te.st = 1 →
    exec (.teBlobEnd p) s = .next ((s.setTe { s.te with st := 2 }).setResult 0x0502 1 p)) ∧
  (∀ (p : Post) (s : State),
    s.running = true →
    s.isT = true →
    1 ≤ p.role.toNat →
    4 ≤ s.te.st.toNat →
    exec (.teBlobCheck p) s = .next ((s.setTe { s.te with st := 2, hostLoad := false }).setResult 0x0503 1 p)) ∧
  (∀ (p : Post) (s : State),
    s.running = true →
    s.isT = true →
    1 ≤ p.role.toNat →
    s.te.st.toNat ≤ 3 →
    ∃ t, exec (.teBlobCheck p) s = .next t ∧ t.te = s.te ∧ t.stuck 2 6 = true ∧ Unchanged [.sys, .integ, .trc, .ttrc, .ul, .roles, .evr] s t)

/-- R334, R338, R341, R349: detectors are evaluated once in a heat, a THRESH detector presents its input and alarms above HI; without detectors or rules nothing but the heat's mark is left; the umpire's work waits for the boundary. -/
def Obligations.DetectorsAndUmpire : Prop :=
  (∀ (s : State),
    s.running = true →
    s.user = true →
    s.ump.detDone = false →
    s.nDet = 0 →
    exec .detectorUpdate s = .next (s.setUmp { s.ump with detDone := true, scores := s.te.now, det := Tab.mapV default s.ump.det fun d => { d with upd := false } })) ∧
  (∀ (s : State),
    s.isD = true →
    s.running = true →
    s.user = true →
    s.ump.detDone = false →
    s.nDet = 1 →
    s.detKind 0 = 1 →
    s.detf 0 1 1 = 0 →
    s.detf 0 2 1 = 0x21 →
    s.cpl 2 0 = false →
    s.ump.det = [] →
    ∃ t, exec .detectorUpdate s = .next t ∧ (t.det 0 own).v = s.ump.drops.toNat ∧ (t.det 0 own).upd = true ∧
    (t.det 0 own).alarm = decide (s.detHi 0 * 2 ^ s.detf 0 6 1 < s.ump.drops.toNat) ∧ t.ump.detDone = true ∧ Unchanged [.ump] s t) ∧
  (∀ (s : State),
    s.ump.detDone = true →
    exec .detectorUpdate s = .next s) ∧
  (∀ (s : State),
    s.running = true →
    s.user = true →
    s.ump.detDone = true →
    s.ump.work = none →
    ∃ t, exec .umpireEvaluation s = .next t ∧ t.ump = { s.ump with work := t.ump.work } ∧ t.ump.work.map (·.heat) = some s.heat.heat ∧ Unchanged [.ump] s t) ∧
  (∀ (s : State),
    s.running = true →
    s.user = true →
    s.ump.detDone = true →
    s.ump.work = none →
    s.nRule = 0 →
    exec .umpireEvaluation s = .next (s.setUmp { s.ump with work := some ⟨s.heat.heat, []⟩ })) ∧
  (∀ (s : State),
    (s.ump.work.isSome = true ∨ s.ump.detDone = false) →
    exec .umpireEvaluation s = .next s)

/-- R334, R348, R349: one evaluation judges every compound and every die by the conditions of that heat. -/
def Obligations.UmpireJudgesEveryRule : Prop :=
  ∀ (s t : State),
    s.running = true →
    s.user = true →
    s.ump.detDone = true →
    s.ump.work = none →
    exec .umpireEvaluation s = .next t →
    ∃ w, t.ump.work = some w ∧ ∀ m ∈ s.compounds, ∀ k ∈ s.ruleDies m, Tab.get 0 w.conds (65 * lastOf m + k) = s.compoundCond m k

/-- R32, R112, R206, R209, R211, R213: a key request makes the next frame of its source a key; a held sample counts as received and leaves the reference; a frame that cannot be decoded is counted, asks for a key and makes its heat late; a die keeps the forwarded shared-sensor record; a completed window below RATIO_MIN is recorded. -/
def Obligations.CompressionEngine : Prop :=
  (∀ (k : Byte) (f : BitVec 48) (s : State),
    s.isD = true →
    s.running = true →
    1 ≤ k.toNat →
    k.toNat ≤ 3 →
    exec (.keyReq k f) s = .next (let t := s.take 0 0 0x21
    t.setCmp { t.cmp with keyReq := satInc t.cmp.keyReq, enc := Tab.upd default t.cmp.enc (8 * f.toNat + k.toNat) fun x => { x with keyDue := true } })) ∧
  (∀ (k : Byte) (f : BitVec 48) (s : State),
    s.isD = true →
    s.running = true →
    (k = 0 ∨ 4 ≤ k.toNat) →
    exec (.keyReq k f) s = .next (let t := s.take 0 0 0x21; t.setCmp { t.cmp with keyReq := satInc t.cmp.keyReq })) ∧
  (∀ (k : BitVec 6) (b : List Byte) (d : Decoded) (s : State),
    s.isT = true →
    s.running = true →
    s.nbRaw k.toNat = false →
    decodeSample s.statics (s.pmodeOf k.toNat (readHdr b).fsid) s.decRef b = .ok d →
    d.hdr.nitem = 0 →
    d.hdr.kind = 1 →
    d.hdr.tag ≠ BitVec.allOnes 64 →
    s.inr.next ≤ d.hdr.tag.toNat →
    s.inr.room k.toNat d.hdr.tag = true →
    exec (.frame k b) s = .next ((s.take k.toNat 1 0x41).setInr (s.inr.upd k.toNat d.hdr.tag fun y => { y with got := y.got + 1 }))) ∧
  (∀ (k : BitVec 6) (b : List Byte) (r : Nat) (s : State),
    s.isT = true →
    s.running = true →
    decodeSample s.statics (s.pmodeOf k.toNat (readHdr b).fsid) s.decRef b = .error r →
    ∃ t, exec (.frame k b) s = .next t ∧ t.cmp = { s.cmp with decFails := satInc s.cmp.decFails, decFail := true, keyReq := satInc s.cmp.keyReq, decLast := BitVec.ofNat 32 (fieldAt r 16 3 + fieldAt (leAt b 0 1) 8 3 + k.toNat) } ∧ Unchanged [.sys, .sns, .trc, .ttrc, .cmp, .red, .inr, .ul, .nb, .evr] s t) ∧
  (∀ (k : BitVec 6) (b : List Byte) (d : Decoded) (s : State),
    s.isD = true →
    s.running = true →
    decodeSample s.statics (fun _ => 0) s.decRef b = .ok d →
    d.hdr.kind = 3 →
    exec (.frame k b) s = .next (let t := (s.take 0 1 0x41).newRef d; { t with sns := { t.sns with sharedNow := some (d.items.map fun (x : DWord) => x.setWidth 32) } })) ∧
  (∀ (k : BitVec 3) (s : State),
    1 ≤ k.toNat →
    k.toNat ≤ 4 →
    s.cmp.ratioDue.getLsbD (k.toNat - 1) = true →
    16 * (Tab.get 0 s.cmp.lastIn k.toNat).toNat < s.ratioMin * (Tab.get 0 s.cmp.lastOut k.toNat).toNat →
    ∃ t, exec (.ratioWindow k) s = .next t ∧ t.cmp = { s.cmp with ratioDue := setBit s.cmp.ratioDue (k.toNat - 1) false, ratioLow := setBit s.cmp.ratioLow (k.toNat - 1) true } ∧ Unchanged [.sys, .trc, .ttrc, .cmp, .ul, .evr] s t) ∧
  (∀ (k : BitVec 3) (s : State),
    1 ≤ k.toNat →
    k.toNat ≤ 4 →
    s.cmp.ratioDue.getLsbD (k.toNat - 1) = true →
    s.ratioMin * (Tab.get 0 s.cmp.lastOut k.toNat).toNat ≤ 16 * (Tab.get 0 s.cmp.lastIn k.toNat).toNat →
    exec (.ratioWindow k) s = .next (s.setCmp { s.cmp with ratioDue := setBit s.cmp.ratioDue (k.toNat - 1) false }))

/-- R377, R379 to R383, R385 to R387, R389 to R396, R399: a signal on a ready lane adds its increment or is held by its rule; a held one whose rule passes is applied; a wait is registered, released when its target is reached and withdrawn when V falls; the watchdog and TALLY_DUMP halt the unit and take a dump; a remote signal waits in its queue of eight, behind what its sender's earlier CTRL flits asked for; TALLY_LOAD writes a count and TALLY_RESUME runs on. -/
def Obligations.TallyLanes : Prop :=
  (∀ (l : BitVec 2) (n : BitVec 6) (i : BitVec 16) (s : State),
    s.running = true →
    s.tly.ready l.toNat = true →
    n.toNat < 48 →
    i ≠ 0 →
    s.tly.mode n.toNat = 0 →
    ∃ t, exec (.tallySignal l n i) s = .next t ∧ t.tly.c n.toNat = s.tly.c n.toNat + i.setWidth 32 ∧ (∀ m, m ≠ n.toNat → t.tly.c m = s.tly.c m) ∧
    t.tly = { s.tly with cnt := t.tly.cnt, log := t.tly.log } ∧ Unchanged [.tly] s t) ∧
  (∀ (l : BitVec 2) (n : BitVec 6) (i : BitVec 16) (s : State),
    s.running = true →
    s.tly.ready l.toNat = true →
    n.toNat < 48 →
    i ≠ 0 →
    s.tly.mode n.toNat = 2 →
    (Tab.get 0 s.tly.next n.toNat - s.tly.c n.toNat).toNat < i.toNat →
    exec (.tallySignal l n i) s = .next (s.setTly { s.tly with lanes := Tab.set default s.tly.lanes l.toNat ⟨true, n, i, 0⟩ })) ∧
  (∀ (l : BitVec 2) (n : BitVec 6) (i : BitVec 16) (s : State),
    s.running = true →
    s.tly.ready l.toNat = true →
    n.toNat < 48 →
    i ≠ 0 →
    s.tly.mode n.toNat = 1 →
    (s.tly.buf n.toNat : Int) < (s.tly.c n.toNat - s.tly.c (s.tly.partner n.toNat)).toInt + i.toNat →
    exec (.tallySignal l n i) s = .next (s.setTly { s.tly with lanes := Tab.set default s.tly.lanes l.toNat ⟨true, n, i, 0⟩ })) ∧
  (∀ (l : BitVec 2) (n : BitVec 6) (i : BitVec 16) (s : State),
    s.running = true →
    s.tly.ready l.toNat = false →
    exec (.tallySignal l n i) s = .next (s.setTly { s.tly with proto := satInc s.tly.proto })) ∧
  (∀ (l : BitVec 2) (n : BitVec 6) (i : BitVec 16) (s : State),
    s.running = true →
    s.tly.ready l.toNat = true →
    (48 ≤ n.toNat ∨ i = 0) →
    ∃ t, exec (.tallySignal l n i) s = .next t ∧ t.tly = { s.tly with refused := satInc s.tly.refused } ∧ t.stuck 2 2 = true ∧ Unchanged [.sys, .integ, .trc, .ttrc, .tly, .ul, .evr] s t) ∧
  (∀ (l : BitVec 2) (x : SigLane) (s : State),
    Tab.get default s.tly.lanes l.toNat = x →
    x.held = true →
    s.tly.halted = false →
    s.tly.holds x.tally.toNat x.inc = false →
    exec (.heldSignalApply l) s = .next (let t := s.tly.apply s.tb.stroke x.tally.toNat x.inc l.toNat
    s.setTly { t with lanes := Tab.set default t.lanes l.toNat { x with held := false } })) ∧
  (∀ (l : BitVec 2) (s : State),
    s.tly.halted = true →
    exec (.heldSignalApply l) s = .next s) ∧
  (∀ (w : BitVec 4) (n : BitVec 6) (g : Word) (s : State),
    s.running = true →
    (Tab.get default s.tly.waits w.toNat).v = false →
    n.toNat < 48 →
    ∃ t, exec (.tallyWait w n g) s = .next t ∧ t.tly = { s.tly with waits := Tab.set default s.tly.waits w.toNat ⟨true, true, false, n, g, 0, 0, false⟩ } ∧ Unchanged [.tly, .pwr] s t) ∧
  (∀ (w : BitVec 4) (n : BitVec 6) (g : Word) (s : State),
    (Tab.get default s.tly.waits w.toNat).v = true →
    exec (.tallyWait w n g) s = .next s) ∧
  (∀ (w : BitVec 4) (x : WaitLane) (s : State),
    Tab.get default s.tly.waits w.toNat = x →
    x.active = true →
    x.tally.toNat < 48 →
    s.tly.halted = false →
    (s.tly.c x.tally.toNat - x.target).toNat < 2 ^ 31 →
    ∃ t, exec (.tallyRelease w) s = .next t ∧ t.tly.waits = Tab.set default s.tly.waits w.toNat { x with active := false, long := false, rel := true } ∧
    Tab.get 0 t.tly.last x.tally.toNat = (if (Tab.get 0 s.tly.last x.tally.toNat - x.target).toNat < 2 ^ 31 then Tab.get 0 s.tly.last x.tally.toNat else x.target) ∧
    (∀ m, m ≠ x.tally.toNat → Tab.get 0 t.tly.last m = Tab.get 0 s.tly.last m) ∧ t.tly.cnt = s.tly.cnt ∧ Unchanged [.tly, .pwr] s t) ∧
  (∀ (w : BitVec 4) (x : WaitLane) (s : State),
    Tab.get default s.tly.waits w.toNat = x →
    2 ^ 31 ≤ (s.tly.c x.tally.toNat - x.target).toNat →
    exec (.tallyRelease w) s = .next s) ∧
  (∀ (w : BitVec 4) (x : WaitLane) (s : State),
    Tab.get default s.tly.waits w.toNat = x →
    x.v = true →
    ∃ t, exec (.tallyWaitWithdraw w) s = .next t ∧ t.tly = { s.tly with waits := Tab.set default s.tly.waits w.toNat { x with v := false, active := false, long := false, rel := false } } ∧
    t.pwr = { s.pwr with lendLong := t.tly.waits.any fun p => p.2.long } ∧ Unchanged [.tly, .pwr] s t) ∧
  (∀ (w : BitVec 4) (x : WaitLane) (s : State),
    Tab.get default s.tly.waits w.toNat = x →
    x.active = true →
    s.lendH ≠ 0 →
    s.lendH ≤ x.heats.toNat →
    ∃ t, exec (.waitLong w) s = .next t ∧ t.tly = { s.tly with waits := Tab.set default s.tly.waits w.toNat { x with long := true } } ∧ t.pwr = { s.pwr with lendLong := true } ∧ Unchanged [.tly, .pwr] s t) ∧
  (∀ (w : BitVec 4) (s : State),
    s.lendH = 0 →
    exec (.waitLong w) s = .next s) ∧
  (∀ (s : State),
    s.tly.halted = false →
    s.wdogH ≠ 0 →
    (Tab.get default s.tly.waits 0).active = true →
    s.wdogH ≤ (Tab.get default s.tly.waits 0).dog.toNat →
    ∃ t, exec .tallyWatchdog s = .next t ∧ t.tly.halted = true ∧ t.tly.dseq = s.tly.dseq + 1 ∧ t.tly.cnt = s.tly.cnt ∧ t.tly.waits = s.tly.waits ∧ t.tly.dump = ({ s with tly := { s.tly with dseq := s.tly.dseq + 1, halted := true } } : State).dumpBytes 0 0 ∧
    t.stuck 2 3 = true ∧ Unchanged [.sys, .integ, .trc, .ttrc, .tly, .ul, .nb, .evr] s t) ∧
  (∀ (s : State),
    s.tly.halted = true →
    exec .tallyWatchdog s = .next s) ∧
  (∀ (n : BitVec 48) (s : State),
    s.tly.leftovers n = [] →
    exec (.tallyTaskEnd n) s = .next s) ∧
  (∀ (n : BitVec 48) (k : Nat) (r : List Nat) (s : State),
    s.tly.leftovers n = k :: r →
    ∃ t, exec (.tallyTaskEnd n) s = .next t ∧ t.tly = { s.tly with left := s.tly.left ||| (k :: r).foldl (fun m i => setBit m i true) 0 } ∧ t.stuck 2 4 = true ∧ Unchanged [.sys, .integ, .trc, .ttrc, .tly, .ul, .evr] s t) ∧
  (∀ (k : BitVec 6) (d : BitVec 7) (n : Byte) (i : BitVec 16) (f : BitVec 48) (s : State),
    s.isD = true →
    s.running = true →
    s.tly.svc ≠ 0 →
    n.toNat < 48 →
    i ≠ 0 →
    s.tly.remote.length < 8 →
    exec (.tallySig k d n i f) s = .next (let t := s.take k.toNat 0 0x31; t.setTly { t.tly with remote := t.tly.remote ++ [⟨BitVec.ofNat 6 n.toNat, i, t.nb.proxyIn.length, t.proxyCmd⟩] })) ∧
  (∀ (k : BitVec 6) (d : BitVec 7) (n : Byte) (i : BitVec 16) (f : BitVec 48) (s : State),
    s.isD = true →
    s.running = true →
    s.tly.svc ≠ 0 →
    n.toNat < 48 →
    i ≠ 0 →
    8 ≤ s.tly.remote.length →
    ∃ t, exec (.tallySig k d n i f) s = .next t ∧ t.tly = { s.tly with refused := satInc s.tly.refused } ∧ t.stuck 2 2 = true ∧ Unchanged [.sys, .integ, .trc, .ttrc, .tly, .ul, .evr] s t) ∧
  (∀ (k : BitVec 6) (d : BitVec 7) (n : Byte) (i : BitVec 16) (f : BitVec 48) (s : State),
    s.isT = true →
    s.running = true →
    d.toNat < 64 →
    exec (.tallySig k d n i f) s = .next ((s.take k.toNat 0 0x31).send d.toNat 0 0x31 (le 1 d.toNat ++ le 1 n.toNat ++ le 2 i.toNat ++ le 6 f.toNat ++ le 6 0))) ∧
  (∀ (n : BitVec 6) (i : BitVec 16) (r : List RemoteSig) (s : State),
    s.tly.remote = ⟨n, i, 0, false⟩ :: r →
    s.tly.halted = false →
    s.tly.holds n.toNat i = false →
    exec .remoteSignalApply s = .next (s.setTly (Tally.apply { s.tly with remote := r } s.tb.stroke n.toNat i 0x22))) ∧
  (∀ (n : BitVec 6) (i : BitVec 16) (r : List RemoteSig) (s : State),
    s.tly.remote = ⟨n, i, 0, false⟩ :: r →
    s.tly.halted = false →
    s.tly.holds n.toNat i = true →
    ∃ t, exec .remoteSignalApply s = .next t ∧ t.tly = { s.tly with remote := r, refused := satInc s.tly.refused } ∧ t.stuck 2 2 = true ∧ Unchanged [.sys, .integ, .trc, .ttrc, .tly, .ul, .evr] s t) ∧
  (∀ (x : RemoteSig) (r : List RemoteSig) (s : State),
    s.tly.remote = x :: r →
    (x.ahead ≠ 0 ∨ x.cmd = true) →
    exec .remoteSignalApply s = .next s) ∧
  (∀ (s : State),
    s.tly.remote = [] →
    exec .remoteSignalApply s = .next s) ∧
  (∀ (k : BitVec 6) (b : List Byte) (s : State),
    s.isT = true →
    s.running = true →
    exec (.hangDump k b) s = .next ((s.take k.toNat 3 0x62).north 0x0D (le 1 k.toNat ++ List.replicate 7 0 ++ b))) ∧
  (∀ (p : Post) (s : State),
    s.running = true →
    1 ≤ p.role.toNat →
    p.a0.toNat < 48 →
    s.tly.svc ≠ 0 →
    s.tly.waits = [] →
    s.tly.lanes = [] →
    s.tly.halted = false →
    s.tly.mode p.a0.toNat = 0 →
    ∃ t, exec (.tallyLoad p) s = .next t ∧ t.tly = { s.tly with cnt := Tab.set 0 s.tly.cnt p.a0.toNat p.a1, last := Tab.set 0 s.tly.last p.a0.toNat p.a1 } ∧ Unchanged [.tly, .roles, .sys, .trc, .ul, .evr, .ttrc] s t) ∧
  (∀ (p : Post) (s : State),
    s.running = true →
    1 ≤ p.role.toNat →
    p.a0.toNat < 64 →
    (48 ≤ p.a0.toNat ∨ s.tly.svc = 0 ∨ s.tly.halted = true) →
    ∃ t, exec (.tallyLoad p) s = .next t ∧ t.tly = s.tly ∧ t.stuck 2 6 = true ∧ Unchanged [.sys, .integ, .trc, .ttrc, .ul, .roles, .evr] s t) ∧
  (∀ (p : Post) (s : State),
    s.running = true →
    1 ≤ p.role.toNat →
    s.tly.halted = false →
    ∃ t, exec (.tallyDump p) s = .next t ∧ t.tly.halted = true ∧ t.tly.dseq = s.tly.dseq + 1 ∧ t.tly.cnt = s.tly.cnt ∧ t.tly.dump = ({ s with tly := { s.tly with dseq := s.tly.dseq + 1, halted := true } } : State).dumpBytes 1 0xFF ∧
    t.stuck 2 3 = true ∧ Unchanged [.sys, .integ, .trc, .ttrc, .tly, .ul, .nb, .roles, .evr] s t) ∧
  (∀ (p : Post) (s : State),
    s.running = true →
    1 ≤ p.role.toNat →
    s.tly.halted = true →
    ∃ t, exec (.tallyResume p) s = .next t ∧ t.tly = { s.tly with halted := false, waits := s.tly.waits.map fun q => if q.2.active then (q.1, { q.2 with dog := 0 }) else q } ∧ Unchanged [.tly, .roles, .sys, .trc, .ul, .evr, .ttrc] s t) ∧
  (∀ (p : Post) (s : State),
    s.running = true →
    1 ≤ p.role.toNat →
    s.tly.halted = false →
    ∃ t, exec (.tallyResume p) s = .next t ∧ t.tly = s.tly ∧ t.stuck 2 6 = true ∧ Unchanged [.sys, .integ, .trc, .ttrc, .ul, .roles, .evr] s t)

/-- R403, R413 to R418, R429 to R433, R440: the physical reset ends, lock leads to LOCK and its loss to DOWN, eight good flits on one pairing to CAP, capability words seen on both sides to TRAIN, the checks to UP or FAILED with the first reason; a new session restarts the sequence numbers, a resumed one keeps them; timeouts, loss of keepalives and UL_RETRAIN bring the link down with their cause. -/
def Obligations.UplinkTraining : Prop :=
  (∀ (k : BitVec 6) (s : State),
    s.isD = true →
    s.running = true →
    k = 0 →
    (s.link 0).tr.state = 0 →
    (s.link 0).tr.phyRst = true →
    exec (.phyResetTimer k) s = .next (s.setLink 0 { s.link 0 with tr := { (s.link 0).tr with phyRst := false, rate := BitVec.ofNat 2 s.ulRate, state := if (s.link 0).tr.lock then 1 else 0 } })) ∧
  (∀ (k : BitVec 6) (s : State),
    s.isT = true →
    s.running = true →
    s.sys.phase.toNat < 5 →
    exec (.phyResetTimer k) s = .next s) ∧
  (∀ (k : BitVec 6) (s : State),
    s.isT = true →
    s.running = true →
    (s.link k.toNat).tr.state = 0 →
    (s.link k.toNat).tr.phyRst = false →
    exec (.rxLockChange k true) s = .next (s.setLink k.toNat { s.link k.toNat with tr := { (s.link k.toNat).tr with lock := true, state := 1 } })) ∧
  (∀ (k : BitVec 6) (s : State),
    s.isT = true →
    s.running = true →
    (s.link k.toNat).tr.state = 4 →
    ∃ t, exec (.rxLockChange k false) s = .next t ∧ (t.link k.toNat).tr.state = 0 ∧ (t.link k.toNat).tr.cause = 3 ∧ (t.link k.toNat).tr.phyRst = true ∧
    (t.link k.toNat).replay = (s.link k.toNat).replay ∧ (t.link k.toNat).txNext = (s.link k.toNat).txNext ∧ (t.link k.toNat).rxExp = (s.link k.toNat).rxExp ∧ t.stuck 2 0 = true ∧ Unchanged [.sys, .integ, .trc, .ttrc, .ul, .evr] s t) ∧
  (∀ (k : BitVec 6) (b : List Byte) (s : State),
    (s.link k.toNat).tr.state = 2 →
    (s.link k.toNat).tr.sentSeen = true →
    (leAt b 3 1).testBit 5 = true →
    exec (.cap k b) s = .next (s.setLink k.toNat { s.link k.toNat with tr := { (s.link k.toNat).tr with
      partner := b, gotCap := true, gotSeen := true, pidx := BitVec.ofNat 7 (leAt b 2 1), state := 3 } })) ∧
  (∀ (k : BitVec 6) (b : List Byte) (s : State),
    (s.link k.toNat).tr.state = 2 →
    (s.link k.toNat).tr.gotSeen = false →
    (leAt b 3 1).testBit 5 = false →
    exec (.cap k b) s = .next (s.setLink k.toNat { s.link k.toNat with tr := { (s.link k.toNat).tr with
      partner := b, gotCap := true, pidx := BitVec.ofNat 7 (leAt b 2 1) } })) ∧
  (∀ (k : BitVec 6) (b : List Byte) (s : State),
    (s.link k.toNat).tr.state = 4 →
    exec (.cap k b) s = .next s) ∧
  (∀ (k : BitVec 6) (f : BitVec 16) (s : State),
    s.isD = true →
    k = 0 →
    (s.link 0).tr.state = 3 →
    s.trainFail 0 (s.link 0).tr f = 0 →
    (s.link 0).tr.haveSession = false →
    ∃ t, exec (.trainingCheck k f) s = .next t ∧ (t.link 0).tr.state = 4 ∧ (t.link 0).tr.resumed = false ∧ (t.link 0).tr.haveSession = true ∧ (t.link 0).tr.psess = BitVec.ofNat 32 ((s.link 0).tr.cap 0x28 4) ∧
    (t.link 0).replay = [] ∧ (t.link 0).txNext = 0 ∧ (t.link 0).rxExp = 0 ∧ (∀ v : Fin 4, ((t.link 0).txv v.val).avail = BitVec.ofNat 8 ((s.link 0).tr.cap (0x1C + 2 * v.val) 2)) ∧
    t.sys.tray = BitVec.ofNat 18 ((s.link 0).tr.cap 0x10 4) ∧ t.sys.trayValid = ((s.link 0).tr.cap 3 1).testBit 4 ∧ t.nb.proxyIn = [] ∧
    Unchanged [.sys, .integ, .heat, .ld, .tray, .tt, .trc, .ttrc, .cmp, .ump, .tly, .ul, .nb, .evr] s t) ∧
  (∀ (k : BitVec 6) (f : BitVec 16) (s : State),
    s.isD = true →
    k = 0 →
    (s.link 0).tr.state = 3 →
    s.trainFail 0 (s.link 0).tr f = 0 →
    (s.link 0).tr.haveSession = true →
    ((s.link 0).tr.cap 3 1).testBit 3 = true →
    (s.link 0).tr.psess.toNat = (s.link 0).tr.cap 0x28 4 →
    ∃ t, exec (.trainingCheck k f) s = .next t ∧ (t.link 0).tr.state = 4 ∧ (t.link 0).tr.resumed = true ∧ (t.link 0).txNext = (s.link 0).txNext ∧ (t.link 0).rxExp = (s.link 0).rxExp ∧
    (t.link 0).replay = ackFlits (BitVec.ofNat 12 ((s.link 0).tr.cap 0x24 2)) (s.link 0).replay ∧ t.nb = s.nb ∧ t.ul.lost = s.ul.lost ∧ Unchanged [.sys, .integ, .heat, .ld, .tray, .tt, .trc, .ttrc, .cmp, .ump, .tly, .ul, .nb, .evr] s t) ∧
  (∀ (k : BitVec 6) (f : BitVec 16) (s : State),
    (s.link k.toNat).tr.state = 3 →
    s.trainFail k.toNat (s.link k.toNat).tr f ≠ 0 →
    ∃ t, exec (.trainingCheck k f) s = .next t ∧ (t.link k.toNat).tr.state = 5 ∧ (t.link k.toNat).tr.fail = BitVec.ofNat 4 (s.trainFail k.toNat (s.link k.toNat).tr f) ∧ t.stuck 2 0 = true ∧
    Unchanged [.sys, .integ, .trc, .ttrc, .ul, .evr] s t) ∧
  (∀ (k : BitVec 6) (s : State),
    1 ≤ (s.link k.toNat).tr.state.toNat →
    (s.link k.toNat).tr.state.toNat ≤ 3 →
    ∃ t, exec (.trainingTimeout k) s = .next t ∧ (t.link k.toNat).tr.state = 5 ∧ (t.link k.toNat).tr.fail = 7 ∧ t.stuck 2 0 = true ∧ Unchanged [.sys, .integ, .trc, .ttrc, .ul, .evr] s t) ∧
  (∀ (k : BitVec 6) (s : State),
    (s.link k.toNat).tr.state = 4 →
    exec (.trainingTimeout k) s = .next s) ∧
  (∀ (k : BitVec 6) (s : State),
    (s.link k.toNat).tr.state = 5 →
    exec (.failedHoldEnd k) s = .next (s.setLink k.toNat (s.link k.toNat).toDown)) ∧
  (∀ (k : BitVec 6) (s : State),
    (s.link k.toNat).tr.state ≠ 5 →
    exec (.failedHoldEnd k) s = .next s) ∧
  (∀ (k : BitVec 6) (s : State),
    (s.link k.toNat).tr.state = 4 →
    ∃ t, exec (.keepaliveLoss k) s = .next t ∧ (t.link k.toNat).tr.state = 0 ∧ (t.link k.toNat).tr.cause = 1 ∧ t.stuck 2 0 = true ∧ (s.isD = true → t.sys.trayValid = false) ∧ Unchanged [.sys, .integ, .trc, .ttrc, .ul, .evr] s t) ∧
  (∀ (k : BitVec 6) (s : State),
    (s.link k.toNat).tr.state ≠ 4 →
    exec (.keepaliveLoss k) s = .next s) ∧
  (∀ (p : Post) (s : State),
    s.running = true →
    1 ≤ p.role.toNat →
    p.a0.toNat < 64 →
    s.hasLink p.a0.toNat = true →
    (s.link p.a0.toNat).tr.state = 4 →
    ∃ t, exec (.ulRetrain p) s = .next t ∧ (t.link p.a0.toNat).tr.state = 0 ∧ (t.link p.a0.toNat).tr.cause = 6 ∧ t.stuck 2 0 = true ∧ Unchanged [.sys, .integ, .trc, .ttrc, .ul, .roles, .evr] s t) ∧
  (∀ (p : Post) (s : State),
    s.running = true →
    1 ≤ p.role.toNat →
    p.a0.toNat < 64 →
    (s.link p.a0.toNat).tr.state ≠ 4 →
    ∃ t, exec (.ulRetrain p) s = .next t ∧ t.stuck 2 6 = true ∧ Unchanged [.sys, .integ, .trc, .ttrc, .ul, .roles, .evr] s t)

/-- R404 to R411, R414, R419 to R428, R570: in LOCK a slot sends IDLE, in CAP the capability words; in UP it sends the NAK that is due once the partner's first good flit has come, then a keepalive that is due, IDLE alone until that first flit, then held flits in replay, the insertion path, the channel of the pattern, else IDLE; in LOCK eight good flits on one pairing fix the phase; in UP a good flit with the expected number joins its buffer and one with a bad check value asks for a replay; a NAK acknowledges what lies before it and begins the replay; credits that never return are leaked; flits of a channel join into messages, and a bad message is discarded, counted and recorded. -/
def Obligations.UplinkFlits : Prop :=
  (∀ (k : BitVec 6) (b : Bool) (s : State),
    (s.link k.toNat).tr.state = 1 →
    exec (.flitSlot k b) s = .next (s.setLink k.toNat ((s.link k.toNat).sendLcf 0 []))) ∧
  (∀ (k : BitVec 6) (b : Bool) (s : State),
    (s.link k.toNat).tr.state = 2 →
    (s.link k.toNat).tr.gotCap = false →
    ((s.link k.toNat).rx.all fun r => r.buf.isEmpty) = true →
    (s.link k.toNat).tr.sentSeen = false →
    exec (.flitSlot k b) s = .next (s.setLink k.toNat ((s.link k.toNat).sendLcf 3 (s.capWords (s.link k.toNat))))) ∧
  (∀ (k : BitVec 6) (b : Bool) (s : State),
    (s.link k.toNat).tr.state = 4 →
    (s.link k.toNat).nakDue = true →
    (s.link k.toNat).tr.goodSinceUp = true →
    exec (.flitSlot k b) s = .next (s.setLink k.toNat (Link.sendLcf (Link.count { s.link k.toNat with nakDue := false, nakOut := true } 4) 2 (le 2 (s.link k.toNat).rxExp.toNat)))) ∧
  (∀ (k : BitVec 6) (b : Bool) (s : State),
    (s.link k.toNat).tr.state = 4 →
    ((s.link k.toNat).nakDue = false ∨ (s.link k.toNat).tr.goodSinceUp = false) →
    (s.link k.toNat).keepDue = true →
    exec (.flitSlot k b) s = .next (s.setLink k.toNat (Link.sendLcf { s.link k.toNat with keepDue := false } 1 []))) ∧
  (∀ (k : BitVec 6) (b : Bool) (s : State),
    (s.link k.toNat).tr.state = 4 →
    (s.link k.toNat).keepDue = false →
    (s.link k.toNat).tr.goodSinceUp = false →
    exec (.flitSlot k b) s = .next (s.setLink k.toNat ((s.link k.toNat).sendLcf 0 []))) ∧
  (∀ (k : BitVec 6) (f : TxFlit) (r : List TxFlit) (s : State),
    (s.link k.toNat).tr.state = 4 →
    (s.link k.toNat).keepDue = false →
    (s.link k.toNat).nakDue = false →
    (s.link k.toNat).tr.goodSinceUp = true →
    (s.link k.toNat).replay = f :: r →
    (s.link k.toNat).replayAt = some f.seq.toNat →
    f.sends < 16 →
    ∃ t, exec (.flitSlot k false) s = .next t ∧ (t.link k.toNat).out = flitWords (flitBytes (f.word0 true) (s.link k.toNat).word1 f.payload) ∧ (t.link k.toNat).replayAt = some (f.seq.toNat + 1) ∧
    (t.link k.toNat).replay.length = (s.link k.toNat).replay.length ∧ (t.link k.toNat).txNext = (s.link k.toNat).txNext ∧ Unchanged [.ul] s t) ∧
  (∀ (k : BitVec 6) (f : TxFlit) (r : List TxFlit) (b : Bool) (s : State),
    (s.link k.toNat).tr.state = 4 →
    (s.link k.toNat).keepDue = false →
    (s.link k.toNat).nakDue = false →
    (s.link k.toNat).tr.goodSinceUp = true →
    (s.link k.toNat).replay = f :: r →
    (s.link k.toNat).replayAt = some f.seq.toNat →
    16 ≤ f.sends →
    b = false →
    ∃ t, exec (.flitSlot k b) s = .next t ∧ (t.link k.toNat).tr.state = 0 ∧ (t.link k.toNat).tr.cause = 8 ∧ t.stuck 2 0 = true ∧ Unchanged [.sys, .integ, .trc, .ttrc, .ul, .evr] s t) ∧
  (∀ (k : BitVec 6) (m : Msg) (r : List Msg) (b : Bool) (s : State),
    (s.link k.toNat).tr.state = 4 →
    (s.link k.toNat).keepDue = false →
    (s.link k.toNat).nakDue = false →
    (s.link k.toNat).tr.goodSinceUp = true →
    (s.link k.toNat).replayAt = none →
    (s.link k.toNat).insertion = m :: r →
    0 < ((s.link k.toNat).txv 0).avail.toNat →
    (s.link k.toNat).replay.length < 512 →
    ∃ t, exec (.flitSlot k b) s = .next t ∧ (t.link k.toNat).insertion = r ∧ (t.link k.toNat).txNext = (s.link k.toNat).txNext + 1 ∧ (t.link k.toNat).patPos = (s.link k.toNat).patPos ∧
    (t.link k.toNat).replay = (s.link k.toNat).replay ++ [⟨(s.link k.toNat).txNext, 0, m.mtype, true, true, m.body.take 52, 1⟩] ∧
    (t.link k.toNat).out = flitWords (flitBytes (TxFlit.word0 ⟨(s.link k.toNat).txNext, 0, m.mtype, true, true, m.body.take 52, 1⟩ false) (s.link k.toNat).word1 (m.body.take 52)) ∧ Unchanged [.ul] s t) ∧
  (∀ (k : BitVec 6) (v : Nat) (m : Msg) (r : List Msg) (b : Bool) (s : State),
    (s.link k.toNat).tr.state = 4 →
    (s.link k.toNat).keepDue = false →
    (s.link k.toNat).nakDue = false →
    (s.link k.toNat).tr.goodSinceUp = true →
    (s.link k.toNat).replayAt = none →
    ((s.link k.toNat).insertion = [] ∨ ((s.link k.toNat).txv 0).avail = 0) →
    v = bits s.vcPat (2 * (s.link k.toNat).patPos.toNat + 1) (2 * (s.link k.toNat).patPos.toNat) →
    (s.link k.toNat).tx.length = 4 →
    ((s.link k.toNat).txv v).begun = none →
    ((s.link k.toNat).txv v).queue = m :: r →
    m.body.length ≤ 52 →
    4 < ((s.link k.toNat).txv v).avail.toNat →
    (s.link k.toNat).replay.length < 512 →
    ∃ t, exec (.flitSlot k b) s = .next t ∧ ((t.link k.toNat).txv v).queue = r ∧ ((t.link k.toNat).txv v).begun = none ∧ ((t.link k.toNat).txv v).avail = ((s.link k.toNat).txv v).avail - 1 ∧
    ((t.link k.toNat).txv v).unretired = ((s.link k.toNat).txv v).unretired ++ [(s.link k.toNat).txNext] ∧ (t.link k.toNat).txNext = (s.link k.toNat).txNext + 1 ∧ (t.link k.toNat).patPos = (s.link k.toNat).patPos + 1 ∧
    (t.link k.toNat).replay = (s.link k.toNat).replay ++ [⟨(s.link k.toNat).txNext, BitVec.ofNat 2 v, m.mtype, true, true, m.body, 1⟩] ∧
    (t.link k.toNat).out = flitWords (flitBytes (TxFlit.word0 ⟨(s.link k.toNat).txNext, BitVec.ofNat 2 v, m.mtype, true, true, m.body, 1⟩ false) (s.link k.toNat).word1 m.body) ∧ Unchanged [.ul] s t) ∧
  (∀ (k : BitVec 6) (b : Bool) (s : State),
    (s.link k.toNat).tr.state = 4 →
    (s.link k.toNat).keepDue = false →
    (s.link k.toNat).nakDue = false →
    (s.link k.toNat).tr.goodSinceUp = true →
    (s.link k.toNat).replayAt = none →
    (s.link k.toNat).insertion = [] →
    (∀ v ∈ List.range 4, (s.link k.toNat).ready v = false) →
    exec (.flitSlot k b) s = .next (s.setLink k.toNat (Link.sendLcf { s.link k.toNat with patPos := (s.link k.toNat).patPos + 1 } 0 []))) ∧
  (∀ (k : BitVec 6) (q : Bool) (d : BitVec 256 × BitVec 256) (s : State),
    (s.link k.toNat).tr.state = 1 →
    (7 ≤ (if q then (s.link k.toNat).tr.goodRunB else (s.link k.toNat).tr.goodRun)) →
    flitGood (flitOfWords d.1 d.2) = true →
    ∃ t, exec (.flitReceive k q d) s = .next t ∧ (t.link k.toNat).tr = { (s.link k.toNat).tr with pairing := q, goodRun := 0, goodRunB := 0, phaseFound := true, state := 2 } ∧ Unchanged [.ul] s t) ∧
  (∀ (k : BitVec 6) (d : BitVec 256 × BitVec 256) (s : State),
    (s.link k.toNat).tr.state = 1 →
    flitGood (flitOfWords d.1 d.2) = false →
    exec (.flitReceive k false d) s = .next (s.setLink k.toNat { s.link k.toNat with tr := { (s.link k.toNat).tr with goodRun := 0 } })) ∧
  (∀ (k : BitVec 6) (q : Bool) (d : BitVec 256 × BitVec 256) (r0 r1 r2 r3 : RxVc) (s : State),
    (s.link k.toNat).tr.state = 4 →
    (s.link k.toNat).tr.pairing = q →
    flitGood (flitOfWords d.1 d.2) = true →
    fLcf (flitOfWords d.1 d.2) = false →
    fRpl (flitOfWords d.1 d.2) = false →
    leAt (flitOfWords d.1 d.2) 4 4 = 0 →
    fSeq (flitOfWords d.1 d.2) = (s.link k.toNat).rxExp →
    fVc (flitOfWords d.1 d.2) = 0 →
    (s.link k.toNat).rx = [r0, r1, r2, r3] →
    r0.buf.length < s.rxCap 0 →
    ∃ t, exec (.flitReceive k q d) s = .next t ∧ (t.link k.toNat).rx = [{ r0 with buf := r0.buf ++ [flitOf (flitOfWords d.1 d.2)] }, r1, r2, r3] ∧ (t.link k.toNat).rxExp = (s.link k.toNat).rxExp + 1 ∧ (t.link k.toNat).ackV = true ∧
    (t.link k.toNat).tr = { (s.link k.toNat).tr with badRun := 0, goodSinceUp := true } ∧ (t.link k.toNat).nakOut = false ∧ (t.link k.toNat).nakDue = (s.link k.toNat).nakDue ∧ (t.link k.toNat).replay = (s.link k.toNat).replay ∧ (t.link k.toNat).tx = (s.link k.toNat).tx ∧ Unchanged [.ul] s t) ∧
  (∀ (k : BitVec 6) (q : Bool) (d : BitVec 256 × BitVec 256) (s : State),
    (s.link k.toNat).tr.state = 4 →
    (s.link k.toNat).tr.pairing = q →
    flitGood (flitOfWords d.1 d.2) = false →
    (s.link k.toNat).tr.badRun < 15 →
    exec (.flitReceive k q d) s = .next (s.setLink k.toNat (Link.wantNak (Link.count { s.link k.toNat with tr := { (s.link k.toNat).tr with badRun := (s.link k.toNat).tr.badRun + 1 } } 3)))) ∧
  (∀ (k : BitVec 6) (q : Bool) (d : BitVec 256 × BitVec 256) (s : State),
    (s.link k.toNat).tr.state = 4 →
    (s.link k.toNat).tr.pairing = q →
    flitGood (flitOfWords d.1 d.2) = false →
    15 ≤ (s.link k.toNat).tr.badRun →
    ∃ t, exec (.flitReceive k q d) s = .next t ∧ (t.link k.toNat).tr.state = 0 ∧ (t.link k.toNat).tr.cause = 4 ∧ t.stuck 2 0 = true ∧ Unchanged [.sys, .integ, .trc, .ttrc, .ul, .evr] s t) ∧
  (∀ (k : BitVec 6) (q : Bool) (d : BitVec 256 × BitVec 256) (s : State),
    (s.link k.toNat).tr.state = 4 →
    (s.link k.toNat).tr.pairing ≠ q →
    exec (.flitReceive k q d) s = .next s) ∧
  (∀ (k : BitVec 6) (n : BitVec 12) (s : State),
    (s.link k.toNat).tr.state = 4 →
    ((s.link k.toNat).replay.any fun f => f.seq == n) = true →
    ∃ t, exec (.nak k n) s = .next t ∧ (t.link k.toNat).replayAt = (if (ackFlits (n - 1) (s.link k.toNat).replay).any fun f => f.seq == n then some n.toNat else (s.link k.toNat).replayAt) ∧
    (t.link k.toNat).replay = ackFlits (n - 1) (s.link k.toNat).replay ∧ (∀ j, j ≠ k.toNat → t.link j = s.link j) ∧ Unchanged [.ul] s t) ∧
  (∀ (k : BitVec 6) (n : BitVec 12) (f g : TxFlit) (s : State),
    (s.link k.toNat).tr.state = 4 →
    (s.link k.toNat).replay = [f, g] →
    f.seq = n - 1 →
    g.seq = n →
    exec (.nak k n) s = .next (s.setLink k.toNat { s.link k.toNat with replay := [g], replayAt := some n.toNat })) ∧
  (∀ (k : BitVec 6) (n : BitVec 12) (s : State),
    (s.link k.toNat).tr.state = 4 →
    ((s.link k.toNat).replay.any fun f => f.seq == n || f.seq == n - 1) = false →
    ∃ t, exec (.nak k n) s = .next t ∧ t.link k.toNat = s.link k.toNat ∧ (∀ j, j ≠ k.toNat → t.link j = s.link j) ∧ Unchanged [.ul] s t) ∧
  (∀ (k : BitVec 6) (s : State),
    (s.link k.toNat).tr.state = 4 →
    exec (.keepaliveDue k) s = .next (s.setLink k.toNat { s.link k.toNat with keepDue := true })) ∧
  (∀ (k : BitVec 6) (s : State),
    (s.link k.toNat).tr.state ≠ 4 →
    exec (.keepaliveDue k) s = .next s) ∧
  (∀ (k : BitVec 6) (f : TxFlit) (r : List TxFlit) (s : State),
    (s.link k.toNat).tr.state = 4 →
    (s.link k.toNat).tr.goodSinceUp = true →
    (s.link k.toNat).replay = f :: r →
    exec (.flitReplayTimeout k) s = .next (s.setLink k.toNat { s.link k.toNat with replayAt := some f.seq.toNat })) ∧
  (∀ (k : BitVec 6) (s : State),
    (s.link k.toNat).replay = [] →
    exec (.flitReplayTimeout k) s = .next s) ∧
  (∀ (k : BitVec 6) (v : BitVec 2) (q : BitVec 12) (r : List (BitVec 12)) (s : State),
    (s.link k.toNat).tr.state = 4 →
    (s.link k.toNat).tr.goodSinceUp = true →
    (s.link k.toNat).replay = [] →
    ((s.link k.toNat).txv v.toNat).unretired = q :: r →
    (s.link k.toNat).tx.length = 4 →
    ((s.link k.toNat).txv v.toNat).advertised.toNat * s.crdFloor / 16 ≤ (((s.link k.toNat).txv v.toNat).window - 1).toNat →
    ∃ t, exec (.creditLeak k v) s = .next t ∧ ((t.link k.toNat).txv v.toNat) = { (s.link k.toNat).txv v.toNat with unretired := r, window := ((s.link k.toNat).txv v.toNat).window - 1 } ∧
    Tab.get 0 (t.link k.toNat).cnt 7 = satInc (Tab.get 0 (s.link k.toNat).cnt 7) ∧ (t.link k.toNat).tr = (s.link k.toNat).tr ∧ Unchanged [.ul] s t) ∧
  (∀ (k : BitVec 6) (v : BitVec 2) (s : State),
    ((s.link k.toNat).txv v.toNat).unretired = [] →
    exec (.creditLeak k v) s = .next s) ∧
  (∀ (k : BitVec 6) (f : TxFlit) (r0 r1 r2 r3 : RxVc) (s : State),
    s.isT = true →
    (s.link k.toNat).rx = [r0, r1, r2, r3] →
    r0.buf = [f] →
    r0.queue = [] →
    r0.openFlits = 0 →
    0 < Config.rxDepth 0 →
    f.vc = 0 →
    f.first = true →
    f.last = true →
    f.mtype = 0x10 →
    f.payload.length = 24 →
    exec (.messageDelivery k 0) s = .next (s.setLink k.toNat { s.link k.toNat with rx := [{ r0 with buf := [], credits := r0.credits + 1, queue := [(1, ⟨0x10, f.payload⟩)] }, r1, r2, r3] })) ∧
  (∀ (k : BitVec 6) (f : TxFlit) (m : Byte) (p : List Byte) (r0 r1 r2 r3 : RxVc) (s : State),
    s.isT = true →
    (s.link k.toNat).rx = [r0, r1, r2, r3] →
    r1.buf = [f] →
    r1.queue = [] →
    r1.openFlits < Config.rxDepth 1 →
    f.first = false →
    f.last = true →
    r1.openMsg = some (m, p) →
    m = 0x41 →
    p.length + f.payload.length ≤ 4096 →
    p ≠ [] →
    exec (.messageDelivery k 1) s = .next (s.setLink k.toNat { s.link k.toNat with rx := [r0, { r1 with buf := [], openMsg := none, openFlits := 0, credits := r1.credits + 1, queue := [(r1.openFlits + 1, ⟨0x41, p ++ f.payload⟩)] }, r2, r3] })) ∧
  (∀ (k : BitVec 6) (v : BitVec 2) (f : TxFlit) (r : List TxFlit) (s : State),
    ((s.link k.toNat).rx.getD v.toNat default).buf = f :: r →
    ((s.link k.toNat).rx.getD v.toNat default).queue = [] →
    ((s.link k.toNat).rx.getD v.toNat default).openFlits = 0 →
    0 < Config.rxDepth v →
    ((s.link k.toNat).rx.getD v.toNat default).openMsg = none →
    f.first = true →
    f.last = false →
    exec (.messageDelivery k v) s = .next (let x := (s.link k.toNat).rx.getD v.toNat default
    s.setLink k.toNat { s.link k.toNat with rx := (s.link k.toNat).rx.set v.toNat { x with buf := r, openMsg := some (f.mtype, f.payload), openFlits := 1, credits := x.credits + 1 } })) ∧
  (∀ (k : BitVec 6) (v : BitVec 2) (f : TxFlit) (r : List TxFlit) (s : State),
    ((s.link k.toNat).rx.getD v.toNat default).buf = f :: r →
    ((s.link k.toNat).rx.getD v.toNat default).queue = [] →
    ((s.link k.toNat).rx.getD v.toNat default).openFlits = 0 →
    0 < Config.rxDepth v →
    ((s.link k.toNat).rx.getD v.toNat default).openMsg = none →
    f.first = false →
    ∃ t, exec (.messageDelivery k v) s = .next t ∧ t.ul.badMsg = satInc s.ul.badMsg ∧ t.ul.lastBad = BitVec.ofNat 32 (fieldAt 4 24 3 + fieldAt f.mtype.toNat 16 8 + k.toNat) ∧ t.stuck 2 0 = true ∧ Unchanged [.sys, .integ, .trc, .ttrc, .ul, .evr] s t) ∧
  (∀ (k : BitVec 6) (v : BitVec 2) (f : TxFlit) (r : List TxFlit) (s : State),
    ((s.link k.toNat).rx.getD v.toNat default).buf = f :: r →
    Config.rxDepth v ≤ ((s.link k.toNat).rx.getD v.toNat default).held →
    exec (.messageDelivery k v) s = .next (let x := (s.link k.toNat).rx.getD v.toNat default
    s.setLink k.toNat { s.link k.toNat with rx := (s.link k.toNat).rx.set v.toNat { x with buf := r, credits := x.credits + 1, drops := satInc x.drops } })) ∧
  (∀ (k : BitVec 6) (v : BitVec 2) (s : State),
    ((s.link k.toNat).rx.getD v.toNat default).buf = [] →
    exec (.messageDelivery k v) s = .next s)

/-- R443, R444, R450 to R454: a frame is accepted or discarded and counted by kind; a change of a port's state is recorded; an abort leaves first, otherwise the highest class whose gate is open; a gate entry opens its gates; a pending list takes over at its time, and a frame whose gate closes under it is counted as overrun; a change is refused with its reason while one is pending, for an empty list, and without TAI. -/
def Obligations.NorthboundPorts : Prop :=
  (∀ (q : BitVec 1) (f : EthFrame) (s : State),
    s.isT = true →
    s.running = true →
    s.portOn q.toNat = true →
    (s.port q.toNat).up = true →
    exec (.ethFrameReceive q f) s = .next (s.setPort q.toNat { s.port q.toNat with cnt := Tab.upd 0 (s.port q.toNat).cnt (s.ethVerdict q.toNat f) satInc })) ∧
  (∀ (q : BitVec 1) (f : EthFrame) (s : State),
    (s.port q.toNat).up = false →
    exec (.ethFrameReceive q f) s = .next s) ∧
  (∀ (q : BitVec 1) (u l : Bool) (s : State),
    s.isT = true →
    s.running = true →
    s.portOn q.toNat = true →
    (s.port q.toNat).up = u →
    exec (.nbPortState q u l) s = .next (s.setPort q.toNat { s.port q.toNat with up := u, fecLock := l })) ∧
  (∀ (q : BitVec 1) (u l : Bool) (s : State),
    s.isT = true →
    s.running = true →
    s.portOn q.toNat = true →
    (s.port q.toNat).up ≠ u →
    ∃ t, exec (.nbPortState q u l) s = .next t ∧ t.nb = (s.setPort q.toNat { s.port q.toNat with up := u, fecLock := l }).nb ∧ Unchanged [.nb, .sys, .trc, .ul, .evr, .ttrc] s t) ∧
  (∀ (q : BitVec 1) (n : BitVec 128) (f : NbFrame) (r : List NbFrame) (s : State),
    s.isT = true →
    s.running = true →
    s.portOn q.toNat = true →
    (s.port q.toNat).up = true →
    (s.port q.toNat).abortQ = f :: r →
    exec (.egressFrameSelect q n) s = .next (s.setPort q.toNat { s.port q.toNat with
      abortQ := r, sent := (s.port q.toNat).sent ++ [s.wire q.toNat 8 f], cnt := Tab.upd 0 (s.port q.toNat).cnt 0 satInc })) ∧
  (∀ (q : BitVec 1) (n : BitVec 128) (f : NbFrame) (r : List NbFrame) (s : State),
    s.isT = true →
    s.running = true →
    s.portOn q.toNat = true →
    (s.port q.toNat).up = true →
    (s.port q.toNat).abortQ = [] →
    (s.port q.toNat).cls = [[], [], [], [], [], [], [], f :: r] →
    (s.port q.toNat).oper = none →
    (s.port q.toNat).pendList = none →
    ∃ t, exec (.egressFrameSelect q n) s = .next t ∧ (t.port q.toNat).cls = [[], [], [], [], [], [], [], r] ∧ (t.port q.toNat).sent = (s.port q.toNat).sent ++ [s.wire q.toNat 7 f] ∧ (t.port q.toNat).seq = (s.port q.toNat).seq ∧ Unchanged [.nb] s t) ∧
  (∀ (q : BitVec 1) (n : BitVec 128) (s : State),
    (s.port q.toNat).abortQ = [] →
    (∀ c ∈ List.range 8, (s.port q.toNat).cls.getD c [] = []) →
    exec (.egressFrameSelect q n) s = .next s) ∧
  (∀ (q : BitVec 1) (e : BitVec 7) (b : Option (BitVec 3)) (l : GateList) (x : Nat × Byte) (s : State),
    (s.port q.toNat).oper = some l →
    (gateEdges l.cyc.toNat l.entries 0)[e.toNat]? = some x →
    s.taiOk = true →
    (∀ c ∈ b, (s.port q.toNat).gates.getLsbD c.toNat = true → x.2.getLsbD c.toNat = true) →
    exec (.gateEntryStart q e b) s = .next (s.setPort q.toNat { s.port q.toNat with gates := x.2 })) ∧
  (∀ (q : BitVec 1) (e : BitVec 7) (c : BitVec 3) (l : GateList) (x : Nat × Byte) (s : State),
    (s.port q.toNat).oper = some l →
    (gateEdges l.cyc.toNat l.entries 0)[e.toNat]? = some x →
    s.taiOk = true →
    (s.port q.toNat).gates.getLsbD c.toNat = true →
    x.2.getLsbD c.toNat = false →
    exec (.gateEntryStart q e (some c)) s = .next (s.setPort q.toNat { s.port q.toNat with gates := x.2, cnt := Tab.upd 0 (s.port q.toNat).cnt 7 satInc })) ∧
  (∀ (q : BitVec 1) (e : BitVec 7) (b : Option (BitVec 3)) (s : State),
    (s.port q.toNat).oper = none →
    exec (.gateEntryStart q e b) s = .next s) ∧
  (∀ (q : BitVec 1) (l : GateList) (s : State),
    (s.port q.toNat).pendList = some l →
    ∃ t, exec (.gateChangeTime q none) s = .next t ∧ t.nb = (s.setPort q.toNat { s.port q.toNat with
      pendList := none, oper := some l, operStart := (s.port q.toNat).cht, gates := (l.entries.head?.map (·.1)).getD 0xFF }).nb ∧ Unchanged [.nb, .sys, .trc, .ul, .evr, .ttrc] s t) ∧
  (∀ (q : BitVec 1) (c : BitVec 3) (g : Byte) (d : Word) (l : GateList) (s : State),
    (s.port q.toNat).pendList = some l →
    l.entries.head? = some (g, d) →
    (s.gatesNow q.toNat).getLsbD c.toNat = true →
    g.getLsbD c.toNat = false →
    ∃ t, exec (.gateChangeTime q (some c)) s = .next t ∧ t.nb = (s.setPort q.toNat { s.port q.toNat with
      pendList := none, oper := some l, operStart := (s.port q.toNat).cht, gates := g, cnt := Tab.upd 0 (s.port q.toNat).cnt 7 satInc }).nb ∧ Unchanged [.nb, .sys, .trc, .ul, .evr, .ttrc] s t) ∧
  (∀ (q : BitVec 1) (b : Option (BitVec 3)) (s : State),
    (s.port q.toNat).pendList = none →
    exec (.gateChangeTime q b) s = .next s) ∧
  (∀ (a : Acc) (q : BitVec 1) (s : State),
    Allowed s a (0x90000 + 0x1000 * q.toNat) 2 →
    s.isT = true →
    a.data.getLsbD 31 = false →
    ∃ t, exec (.nbGateChgWrite a q) s = .next t ∧ t.nb = (s.setPort q.toNat { s.port q.toNat with admLen := BitVec.ofNat 7 (bits a.data.toNat 22 16), chgErr := (s.port q.toNat).chgErr && !a.data.getLsbD 29 }).nb ∧
    Unchanged [.nb, .heat, .test, .sys, .trc, .ul, .evr, .ttrc] s t) ∧
  (∀ (a : Acc) (q : BitVec 1) (s : State),
    Allowed s a (0x90000 + 0x1000 * q.toNat) 2 →
    s.isT = true →
    a.data.getLsbD 31 = true →
    (s.port q.toNat).pendList.isSome = true →
    ∃ t, exec (.nbGateChgWrite a q) s = .next t ∧ (t.port q.toNat).chgErr = true ∧ (t.port q.toNat).reason = 1 ∧ (t.port q.toNat).pendList = (s.port q.toNat).pendList ∧ (t.port q.toNat).oper = (s.port q.toNat).oper ∧ t.stuck 2 1 = true ∧ Unchanged [.sys, .integ, .heat, .trc, .ttrc, .ul, .nb, .evr, .test] s t) ∧
  (∀ (a : Acc) (q : BitVec 1) (s : State),
    Allowed s a (0x90000 + 0x1000 * q.toNat) 2 →
    s.isT = true →
    a.data.getLsbD 31 = true →
    (s.port q.toNat).pendList = none →
    bits a.data.toNat 22 16 = 1 →
    s.rwd (0x90404 + 0x1000 * q.toNat) 0 ≠ 0 →
    s.admCyc q.toNat ≠ 0 →
    s.tb.taiValid = false →
    ∃ t, exec (.nbGateChgWrite a q) s = .next t ∧ (t.port q.toNat).chgErr = true ∧ (t.port q.toNat).reason = 3 ∧ (t.port q.toNat).pendList = none ∧ t.stuck 2 1 = true ∧ Unchanged [.sys, .integ, .heat, .trc, .ttrc, .ul, .nb, .evr, .test] s t) ∧
  (∀ (a : Acc) (q : BitVec 1) (s : State),
    Allowed s a (0x90000 + 0x1000 * q.toNat) 2 →
    s.isT = true →
    a.data.getLsbD 31 = true →
    (s.port q.toNat).pendList = none →
    bits a.data.toNat 22 16 = 1 →
    0 < s.rwd (0x90404 + 0x1000 * q.toNat) 0 →
    s.rwd (0x90404 + 0x1000 * q.toNat) 0 < 2 ^ 32 →
    s.admCyc q.toNat ≠ 0 →
    s.tb.taiValid = true →
    ∃ t, exec (.nbGateChgWrite a q) s = .next t ∧ (t.port q.toNat).pendList = some ⟨[(BitVec.ofNat 8 (s.rwd (0x90400 + 0x1000 * q.toNat) 0), BitVec.ofNat 32 (s.rwd (0x90404 + 0x1000 * q.toNat) 0))], BitVec.ofNat 32 (s.admCyc q.toNat)⟩ ∧ (t.port q.toNat).oper = (s.port q.toNat).oper ∧ Unchanged [.sys, .integ, .heat, .trc, .ttrc, .ul, .nb, .evr, .test] s t)

/-- R448, R449, R456 to R462: a frame of a known sender counts and one of a stranger is recorded; a fallback from PLCA is counted and recorded; DISCOVER is sent and a new peer takes an entry, the node ID of another is a clash; exchanges of a round are numbered and settle PROP_NS; a transmit opportunity sends the oldest frames; a request takes a place or repeats its answer; a proxy access takes a tag and its response completes it. -/
def Obligations.RackBusAndRequests : Prop :=
  (∀ (f : EthFrame) (s : State),
    s.isT = true →
    s.running = true →
    s.portOn 2 = true →
    f.fcsOk = true →
    64 ≤ f.len.toNat →
    f.len.toNat ≤ 1522 →
    f.dst ≠ s.portMac 2 →
    f.dst ≠ s.t1sGrp →
    f.dst ≠ s.abortGrp →
    exec (.t1sFrameReceive f) s = .next (s.setT1s { s.nb.t1s with cnt := Tab.upd 0 s.nb.t1s.cnt 3 satInc })) ∧
  (∀ (f : EthFrame) (s : State),
    s.isT = true →
    s.running = true →
    s.portOn 2 = true →
    f.fcsOk = true →
    64 ≤ f.len.toNat →
    f.len.toNat ≤ 1522 →
    f.dst = s.portMac 2 →
    f.etype.toNat ≠ s.etype →
    ∃ t, exec (.t1sFrameReceive f) s = .next t ∧ t.nb = { s.nb with t1s := { s.nb.t1s with cnt := Tab.upd 0 s.nb.t1s.cnt 2 satInc } } ∧ t.stuck 2 1 = true ∧ Unchanged [.sys, .integ, .trc, .ttrc, .ul, .nb, .evr] s t) ∧
  (∀ (f : EthFrame) (s : State),
    (f.fcsOk = false ∨ f.len.toNat < 64 ∨ 1522 < f.len.toNat) →
    exec (.t1sFrameReceive f) s = .next s) ∧
  (∀ (b : Bool) (s : State),
    s.isT = true →
    s.running = true →
    s.portOn 2 = true →
    s.plcaActive b = b →
    s.nb.t1s.plca ≠ b →
    ∃ t, exec (.plcaModeChange b) s = .next t ∧ t.nb = { s.nb with t1s := { s.nb.t1s with plca := b, cnt := Tab.upd 0 s.nb.t1s.cnt 6 satInc } } ∧ Unchanged [.nb, .sys, .trc, .ul, .evr, .ttrc] s t) ∧
  (∀ (b : Bool) (s : State),
    s.nb.t1s.plca = s.plcaActive b →
    exec (.plcaModeChange b) s = .next s) ∧
  (∀ (s : State),
    s.t1sTalks = true →
    exec .discoverSend s = .next (s.northOn 2 0x12 (le 1 s.gradeCode ++ le 1 s.nodeId ++ le 1 (if s.nb.t1s.plca then 1 else 0) ++ [0] ++ le 4 blkVersion ++ le 8 s.digestShown.toNat ++ le 4 s.trayNo ++ [0, 0, 0, 0]) (some s.t1sGrp) false)) ∧
  (∀ (s : State),
    s.t1sTalks = false →
    exec .discoverSend s = .next s) ∧
  (∀ (m : BitVec 48) (n : Byte) (r : BitVec 18) (s : State),
    s.isT = true →
    s.running = true →
    s.portOn 2 = true →
    n.toNat ≠ s.nodeId →
    (s.nb.t1s.peers.any fun p => p.mac == m) = false →
    s.nb.t1s.peers.length < 16 →
    exec (.discover m n r) s = .next (s.setT1s { s.nb.t1s with peers := s.nb.t1s.peers ++ [⟨m, r, n, 0xFFFF, 16, 0, 0, none⟩] })) ∧
  (∀ (m : BitVec 48) (n : Byte) (r : BitVec 18) (s : State),
    s.isT = true →
    s.running = true →
    s.portOn 2 = true →
    n.toNat = s.nodeId →
    n ≠ 255 →
    m ≠ s.portMac 2 →
    s.nb.t1s.clash = false →
    ∃ t, exec (.discover m n r) s = .next t ∧ t.nb.t1s.clash = true ∧ t.stuck 2 1 = true ∧ Unchanged [.sys, .integ, .trc, .ttrc, .ul, .nb, .evr] s t) ∧
  (∀ (i : BitVec 4) (p : Peer) (s : State),
    s.t1sTalks = true →
    s.nb.t1s.peers[i.toNat]? = some p →
    p.left ≠ 0 →
    exec (.echoExchange i) s = .next (State.northOn (s.setT1s { s.nb.t1s with
      peers := s.nb.t1s.peers.set i.toNat { p with left := p.left - 1, xn := some s.nb.t1s.xn }, xn := s.nb.t1s.xn + 1 }) 2 0x13 (le 2 s.nb.t1s.xn.toNat ++ le 6 0) (some p.mac) false)) ∧
  (∀ (i : BitVec 4) (s : State),
    s.nb.t1s.peers[i.toNat]? = none →
    exec (.echoExchange i) s = .next s) ∧
  (∀ (m : BitVec 48) (x : BitVec 16) (s : State),
    s.isT = true →
    s.running = true →
    s.portOn 2 = true →
    (s.nb.t1s.peers.any fun p => p.mac == m) = true →
    exec (.echoReq m x) s = .next (s.setT1s { s.nb.t1s with echoDue := s.nb.t1s.echoDue ++ [(m, x)] })) ∧
  (∀ (m : BitVec 48) (x : BitVec 16) (s : State),
    (s.nb.t1s.peers.any fun p => p.mac == m) = false →
    exec (.echoReq m x) s = .next s) ∧
  (∀ (m : BitVec 48) (x : BitVec 16) (w c : Word) (p : Peer) (s : State),
    s.isT = true →
    s.running = true →
    s.portOn 2 = true →
    s.nb.t1s.peers = [p] →
    p.mac = m →
    p.xn = some x →
    p.left ≠ 0 →
    exec (.echoRsp m x w c) s = .next (s.setT1s { s.nb.t1s with peers := [{ p with xn := none, sum := p.sum + s.echoDelay w c, done := p.done + 1 }] })) ∧
  (∀ (m : BitVec 48) (x : BitVec 16) (w c : Word) (p : Peer) (s : State),
    s.isT = true →
    s.running = true →
    s.portOn 2 = true →
    s.nb.t1s.peers = [p] →
    p.xn ≠ some x →
    exec (.echoRsp m x w c) s = .next s) ∧
  (∀ (s : State),
    s.t1sTalks = true →
    s.nb.t1s.echoDue = [] →
    s.nb.t1s.plca = false →
    exec (.transmitOpportunity 0) s = .next (s.setT1s { s.nb.t1s with
      queue := s.nb.t1s.queue.drop (1 + s.nbf 0x16B 1 0), sent := s.nb.t1s.sent ++ (s.nb.t1s.queue.take (1 + s.nbf 0x16B 1 0)).map (s.wire 2 0)
      cnt := Tab.upd 0 s.nb.t1s.cnt 0 fun c => satAdd c (s.nb.t1s.queue.take (1 + s.nbf 0x16B 1 0)).length })) ∧
  (∀ (s : State),
    s.t1sTalks = true →
    s.nb.t1s.plca = false →
    ∃ t, exec (.transmitOpportunity 1) s = .next t ∧ t.nb.t1s.queue = s.nb.t1s.queue ∧ t.nb.t1s.sent = s.nb.t1s.sent ∧ t.nb.t1s.evidence = s.nb.t1s.evidence ∧ Unchanged [.nb] s t) ∧
  (∀ (e : BitVec 3) (s : State),
    s.t1sTalks = false →
    exec (.transmitOpportunity e) s = .next s) ∧
  (∀ (q : BitVec 2) (m : BitVec 48) (n : Word) (e : List ReqEntry) (s : State),
    s.isT = true →
    s.running = true →
    q.toNat ≤ 2 →
    e ≠ [] →
    e.length ≤ 64 →
    s.nb.doneReqs = [] →
    s.nb.places = [] →
    ∃ t, exec (.regReq q m n e) s = .next t ∧ t.nb = { s.nb with places := [(0, some ⟨q, m, n, e, [], false⟩)] } ∧ Unchanged [.sys, .trc, .ttrc, .ul, .nb, .roles, .evr] s t) ∧
  (∀ (q : BitVec 2) (m : BitVec 48) (n : Word) (e : List ReqEntry) (b : List Byte) (s : State),
    s.isT = true →
    s.running = true →
    q.toNat ≤ 2 →
    e ≠ [] →
    e.length ≤ 64 →
    s.nb.doneReqs = [(m, n, b)] →
    s.portEn = 0 →
    ∃ t, exec (.regReq q m n e) s = .next t ∧ t.nb = { s.nb with reqDup := satInc s.nb.reqDup } ∧ Unchanged [.sys, .trc, .ttrc, .ul, .nb, .roles, .evr] s t) ∧
  (∀ (g : BitVec 9) (w : Bool) (o : BitVec 26) (d : Word) (s : State),
    s.isT = true →
    s.running = true →
    o.toNat % 4 = 0 →
    s.nb.proxyOut = [] →
    exec (.proxyAccess (.port g) w o d) s = .next (State.send { s with nb := { s.nb with proxyOut := [(0, some ⟨BitVec.ofNat 6 (o.toNat / 2 ^ 20), .port g⟩)], proxyCnt := Tab.upd 0 s.nb.proxyCnt 0 satInc } }
      (o.toNat / 2 ^ 20) 0 0x32 ([0] ++ le 1 ((if w then 1 else 0) + 4 * (s.path 0).held) ++ [0, 0] ++ le 4 (o.toNat % 2 ^ 20) ++ le 4 (if w then d.toNat else 0)))) ∧
  (∀ (g : BitVec 9) (w : Bool) (o : BitVec 26) (d : Word) (s : State),
    s.isT = true →
    s.running = true →
    o.toNat % 4 ≠ 0 →
    exec (.proxyAccess (.port g) w o d) s = .next { s with nb := { s.nb with proxyCnt := Tab.upd 0 s.nb.proxyCnt 4 satInc }, heat := { s.heat with rsp := s.heat.rsp ++ [⟨g, 0, 3⟩] } }) ∧
  (∀ (g f : Byte) (o d : Word) (s : State),
    s.isD = true →
    s.nb.proxyIn.length < 256 →
    exec (.proxyReq g f o d) s = .next (let t := s.take 0 0 0x32; { t with nb := { t.nb with proxyIn := t.nb.proxyIn ++ [⟨g, f, o, d⟩] } })) ∧
  (∀ (g f : Byte) (o d : Word) (s : State),
    s.isD = true →
    256 ≤ s.nb.proxyIn.length →
    exec (.proxyReq g f o d) s = .next (s.take 0 0 0x32)) ∧
  (∀ (k : BitVec 6) (g x : Byte) (d : Word) (r : BitVec 9) (s : State),
    s.isT = true →
    Tab.get none s.nb.proxyOut g.toNat = some ⟨k, .port r⟩ →
    x.toNat ≤ 3 →
    exec (.proxyRsp k g x d) s = .next (let t := s.take k.toNat 0 0x33
    { t with nb := { t.nb with proxyOut := Tab.set none t.nb.proxyOut g.toNat none, proxyCnt := Tab.upd 0 t.nb.proxyCnt (1 + x.toNat) satInc }, heat := { t.heat with rsp := t.heat.rsp ++ [⟨r, d, BitVec.ofNat 3 x.toNat⟩] } })) ∧
  (∀ (k : BitVec 6) (g x : Byte) (d : Word) (s : State),
    s.isT = true →
    Tab.get none s.nb.proxyOut g.toNat = none →
    exec (.proxyRsp k g x d) s = .next (s.take k.toNat 0 0x33))

/-- R494, R495, R497 to R502: a due flush starts with the next operation; a completed page program moves its places to the head and empties them from the buffer, a failed one ends the flush with its sticky bit; an erase counts what the sector held; an odometer entry is programmed at the next multiple of 1,024 hours units; a die sends its unflushed places and marks them, the tray buffers them; EVR_FLUSH is a trigger; the power-fail flush writes what was buffered. -/
def Obligations.RecorderFlash : Prop :=
  (∀ (s : State),
    s.isT = true →
    s.running = true →
    s.evr.ready = true →
    s.pwr.pf = false →
    s.evr.op = none →
    s.evr.flushLeft = 0 →
    s.evr.buf ≠ [] →
    s.evr.flushReq = true →
    s.evr.headN.toNat < 16384 →
    exec (.recorderFlush false) s = .next { s with evr := { s.evr with
      flushLeft := s.evr.buf.length, urgentPend := false, flushReq := false, op := some .recProgram, opN := min s.evr.buf.length (8 - s.evr.headN.toNat % 8) } }) ∧
  (∀ (b : Bool) (s : State),
    s.evr.op.isSome = true →
    exec (.recorderFlush b) s = .next s) ∧
  (∀ (p : List Byte) (r : List (List Byte)) (s : State),
    s.evr.op = some .recProgram →
    s.evr.opN = 1 →
    s.evr.buf = p :: r →
    s.evr.headN.toNat < 16384 →
    exec (.flashOperationDone .recProgram true) s = .next { s with
      flash := Tab.setAll flashErased s.flash (0x01020000 + 32 * s.evr.headN.toNat) p
      evr := { s.evr with op := none, opN := 0, buf := r, flushLeft := s.evr.flushLeft - 1, headN := s.evr.headN + 1 } }) ∧
  (∀ (o : FlashOp) (s : State),
    s.evr.op = some o →
    ∃ t, exec (.flashOperationDone o false) s = .next t ∧ t.evr.op = none ∧ t.evr.flushLeft = 0 ∧ t.evr.flashFail = true ∧ t.evr.headN = s.evr.headN ∧ t.evr.wptr = s.evr.wptr ∧ t.flash = s.flash ∧ t.stuck 2 7 = true ∧ Unchanged [.sys, .integ, .trc, .ttrc, .ul, .evr, .flash] s t) ∧
  (∀ (o : FlashOp) (b : Bool) (s : State),
    s.evr.op ≠ some o →
    exec (.flashOperationDone o b) s = .next s) ∧
  (∀ (s : State),
    s.evr.op = some .odoProgram →
    s.evr.odoErase = false →
    ∃ t, exec (.flashOperationDone .odoProgram true) s = .next t ∧ t.flash = Tab.setAll flashErased s.flash (0x01010000 + 32 * (s.evr.odoPos % 256)) s.evr.odoEntry ∧ t.evr.odoPos = (s.evr.odoPos % 256 + 1) % 256 ∧ t.evr.op = none ∧ Unchanged [.evr, .flash] s t) ∧
  (∀ (s : State),
    s.isT = true →
    s.running = true →
    s.evr.ready = true →
    s.pwr.pf = false →
    s.evr.op = none →
    s.aonRuns = true →
    exec .odometerEntry s = .next { s with evr := { s.evr with hours := BitVec.ofNat 32 ((s.evr.hours.toNat / 1024 + 1) * 1024), op := some .odoProgram } }) ∧
  (∀ (s : State),
    s.pwr.pf = true →
    exec .odometerEntry s = .next s) ∧
  (∀ (s : State),
    s.isT = true →
    s.running = true →
    s.evr.odoErase = true →
    s.pwr.pf = false →
    s.evr.op = none →
    exec .odometerSectorErase s = .next { s with evr := { s.evr with op := some .odoErase } }) ∧
  (∀ (s : State),
    s.evr.odoErase = false →
    exec .odometerSectorErase s = .next s) ∧
  (∀ (p : List Byte) (s : State),
    s.isD = true →
    s.running = true →
    (s.link 0).tr.state = 4 →
    ((s.link 0).txv 3).queue = [] →
    s.evr.ring = [(p, false)] →
    s.evr.flushReq = true →
    exec (.recFlushSend false) s = .next (let t := s.send 0 3 0x61 (le 2 1 ++ le 6 0 ++ p)
    { t with evr := { t.evr with ring := [(p, true)], urgentPend := false, flushReq := false } })) ∧
  (∀ (b : Bool) (s : State),
    (s.link 0).tr.state ≠ 4 →
    exec (.recFlushSend b) s = .next s) ∧
  (∀ (k : BitVec 6) (p : List Byte) (s : State),
    s.isT = true →
    s.running = true →
    bits (leAt p 2 1) 3 2 = 0 →
    s.evr.buf.length < 512 →
    s.urgent = 0 →
    exec (.recFlush k [p]) s = .next (let t := s.take k.toNat 3 0x61; { t with evr := { t.evr with buf := t.evr.buf ++ [p] } })) ∧
  (∀ (k : BitVec 6) (p : List Byte) (s : State),
    s.isT = true →
    s.running = true →
    bits (leAt p 2 1) 3 2 = 0 →
    512 ≤ s.evr.buf.length →
    s.urgent = 0 →
    exec (.recFlush k [p]) s = .next (let t := s.take k.toNat 3 0x61; { t with evr := { t.evr with drop := satInc t.evr.drop, dropPend := true } })) ∧
  (∀ (p : Post) (s : State),
    s.running = true →
    1 ≤ p.role.toNat →
    exec (.evrFlush p) s = .next (State.setResult { s with evr := { s.evr with flushReq := true } } 0x0901 1 p)) ∧
  (∀ (p : List Byte) (s : State),
    s.evr.pfLeft = some 1 →
    s.evr.op = none →
    s.evr.odoErase = true →
    s.evr.buf = [p] →
    s.evr.headN.toNat < 16384 →
    exec .powerFailFlushDone s = .next { s with
      flash := Tab.setAll flashErased s.flash (0x01020000 + 32 * s.evr.headN.toNat) p
      evr := { s.evr with odoSkip := true, buf := [], headN := s.evr.headN + 1, flushLeft := 0, pfLeft := none, pfDone := true } }) ∧
  (∀ (s : State),
    s.evr.pfLeft = none →
    exec .powerFailFlushDone s = .next s)

/-- R502, R537, R541 to R546: the power-fail signal enters the state with the memory in self-refresh and what is buffered due for the flash, and the end leaves it once the flush is done; PF_IN of a die is a flush trigger; a power-down is acknowledged at a boundary with nothing outstanding and every output at its reset value; a hold-up test isolates only above the re-arm level, and a sample at it ends the test. -/
def Obligations.PowerEvents : Prop :=
  (∀ (b : Bool) (s : State),
    s.isT = true →
    s.running = true →
    s.pwr.pf = false →
    s.evr.ready = true →
    s.pwr.huIso = false →
    s.ld.st = 0 →
    s.te.st ≠ 1 →
    (b = false ∨ s.busFlags.testBit 3 = true) →
    ∃ t, exec (.powerFailSignal b) s = .next t ∧ t.pwr = { s.pwr with pf := true, pfOut := true, pfIn := s.pwr.pfIn || b, selfRefresh := true, pfLowMv := 0xFFFFFFFF } ∧
    t.evr.pfLeft = some t.evr.buf.length ∧ t.evr.pfDone = false ∧ t.flash = s.flash ∧ Unchanged [.sys, .pwr, .integ, .ld, .tray, .trc, .ttrc, .te, .ul, .evr, .flash] s t) ∧
  (∀ (s : State),
    s.isT = true →
    s.pwr.pf = true →
    exec (.powerFailSignal true) s = .next s) ∧
  (∀ (s : State),
    s.isD = true →
    s.running = true →
    exec (.powerFailSignal true) s = .next { s with pwr := { s.pwr with pfIn := true }, evr := { s.evr with flushReq := true } }) ∧
  (∀ (n : Word) (s : State),
    s.isT = true →
    s.pwr.pf = true →
    s.evr.pfDone = true →
    ∃ t, exec (.powerFailEnd n) s = .next t ∧ t.pwr = { s.pwr with pf := false, pfOut := false, pfIn := false, selfRefresh := s.pwr.pdStopped } ∧ Unchanged [.sys, .pwr, .trc, .ttrc, .ul, .evr] s t) ∧
  (∀ (n : Word) (s : State),
    s.isT = true →
    s.evr.pfDone = false →
    exec (.powerFailEnd n) s = .next s) ∧
  (∀ (n : Word) (s : State),
    s.isD = true →
    exec (.powerFailEnd n) s = .next { s with pwr := { s.pwr with pfIn := false } }) ∧
  (∀ (b : Bool) (s : State),
    exec (.blkPdReq b) s = .next { s with pwr := { s.pwr with pdReq := b } }) ∧
  (∀ (s : State),
    s.running = true →
    s.heat.taken = true →
    s.pwr.pdReq = true →
    s.pwr.pdStopped = true →
    s.pwr.pdAck = false →
    s.scanOut = 0 →
    s.pdFlushed = true →
    exec (.blkPdAck false) s = .next { s with
      pwr := { s.pwr with pdAck := true, pfOut := false, huIso := false }, sys := { s.sys with phase := 7 }, ul := { s.ul with links := [] }
      led := { s.led with req := false }, ump := { s.ump with drainReq := false } }) ∧
  (∀ (b : Bool) (s : State),
    (b = true ∨ 0 < s.scanOut ∨ s.pdFlushed = false) →
    exec (.blkPdAck b) s = .next s) ∧
  (∀ (c : BitVec 12) (s : State),
    s.isT = true →
    s.running = true →
    s.pwr.huDue = true →
    s.pwr.huIso = false →
    s.pwr.pf = false →
    s.raCode < c.toNat →
    exec (.holdupMeasurement c) s = .next { s with pwr := { s.pwr with huIso := true, huDue := false, huV := [], huI := [] } }) ∧
  (∀ (c : BitVec 12) (s : State),
    s.isT = true →
    s.running = true →
    s.pwr.huDue = true →
    s.pwr.huIso = false →
    s.pwr.pf = false →
    c.toNat ≤ s.raCode →
    ∃ t, exec (.holdupMeasurement c) s = .next t ∧ t.pwr = { s.pwr with huIso := false, huDue := false, huAbort := 1 } ∧ Unchanged [.sys, .pwr, .trc, .ttrc, .ul, .evr] s t) ∧
  (∀ (c : BitVec 12) (s : State),
    s.pwr.huDue = false →
    exec (.holdupMeasurement c) s = .next s) ∧
  (∀ (s : State),
    s.pwr.huIso = true →
    ∃ t, exec (.holdupMeasurementEnd true) s = .next t ∧ t.pwr = { s.pwr with huIso := false, huDue := false, huAbort := 1 } ∧ Unchanged [.sys, .pwr, .trc, .ttrc, .ul, .evr] s t) ∧
  (∀ (c p n : Nat) (s : State),
    s.pwr.huIso = true →
    s.huLen / 2 ≤ s.pwr.huV.length →
    s.huLen / 2 ≤ s.pwr.huI.length →
    s.holdupSmall = false →
    s.holdupFigures = (c, p, some n) →
    n < 2 ^ 32 →
    ∃ t, exec (.holdupMeasurementEnd false) s = .next t ∧ t.pwr = { s.pwr with huIso := false, huValid := true, huOk := decide (10000 + s.snf 0xB7 1 ≤ n), huAbort := 0, huCap := BitVec.ofNat 32 c, huTime := BitVec.ofNat 32 n, huLoad := BitVec.ofNat 32 p } ∧
    t.evr.pfShort = (s.evr.pfShort || decide (n < 10000 + s.snf 0xB7 1)) ∧ Unchanged [.sys, .pwr, .trc, .ttrc, .ul, .evr] s t) ∧
  (∀ (b : Bool) (s : State),
    s.pwr.huIso = false →
    exec (.holdupMeasurementEnd b) s = .next s)

/-- R216, R217, R229: for every parameter set and every split of a message the fold of the part before and the value of the part after is the running value of the whole, whatever the running value it starts from; and the final value of a region from Init is its check value. -/
def Obligations.ScanFoldIdentity : Prop :=
  (∀ (p : BitVec 2) (r : DWord) (a b : List Byte), (p.toNat < 2 → r.toNat < 2 ^ 32) →
    scanRun p r (a ++ b) = scanFold p (scanRun p r a) b.length (scanRun p 0 b)) ∧
  (∀ (p : BitVec 2) (m : List Byte), scanFinal p (scanRun p (scanInit p) m) = checkValue p m) ∧
  (∀ (p : BitVec 2) (bs : List (List Byte)),
    scanFinal p (bs.foldl (fun r b => scanFold p r b.length (scanRun p 0 b)) (scanInit p)) = checkValue p bs.flatten)

/-- R226: a descriptor of LEN units has ceil(LEN / 2) segments; segment j begins at ADDR + 256 j and is 256 bytes long but for a last one of 128 when LEN is odd, so that the segments cover the region; building makes one read for the next segment. -/
def Obligations.ScanSegments : Prop :=
  (∀ (d : Desc),
    (2 * d.segs = d.len.toNat ∨ 2 * d.segs = d.len.toNat + 1) ∧ ((List.range d.segs).map d.segLen).sum = 128 * d.len.toNat ∧
    ∀ j, j < d.segs → d.segLen j = if j + 1 = d.segs ∧ d.len.toNat % 2 = 1 then 128 else 256) ∧
  (∀ (c : BitVec 3) (p : Running) (s : State),
    s.isD = true →
    s.running = true →
    s.workStopped = false →
    (s.chan c.toNat).slot ((s.chan c.toNat).q.toNat % 64) = .free →
    (s.chan c.toNat).run = [p] →
    p.ended = none →
    p.built < p.d.segs →
    s.scn.issue = [] →
    ∃ t, exec (.scanReadBuild c) s = .next t ∧ t.scn.issue = [(c, BitVec.ofNat 6 ((s.chan c.toNat).q.toNat % 64), p.d.addr + BitVec.ofNat 64 (256 * p.built), p.d.segLen p.built == 256)] ∧
    (t.chan c.toNat).run = [{ p with built := p.built + 1, slots := p.slots ++ [BitVec.ofNat 6 ((s.chan c.toNat).q.toNat % 64)] }] ∧ (t.chan c.toNat).q = (s.chan c.toNat).q + 1 ∧ Unchanged [.scn] s t)

/-- R286, R288 to R290: the empty sketch, a sketch that a value enters and the merge of two keep COUNT equal to the sum of all buckets while CSAT is 0, and SUM exact while SSAT is 0. -/
def Obligations.SketchCountsAgree : Prop :=
  (∀ (f n : Nat),
    Tab.wf 0 (Sketch.empty f n).bkt = true ∧ (Sketch.empty f n).count.toNat = ((Sketch.empty f n).bkt.map fun p => p.2.toNat).sum ∧ (Sketch.empty f n).sum = 0) ∧
  (∀ (k : Sketch) (x : DWord),
    Tab.wf 0 k.bkt = true →
    (k.csat = false → k.count.toNat = (k.bkt.map fun p => p.2.toNat).sum) →
    Tab.wf 0 (k.enter x).bkt = true ∧ ((k.enter x).csat = false → (k.enter x).count.toNat = ((k.enter x).bkt.map fun p => p.2.toNat).sum) ∧
    ((k.enter x).ssat = false → (k.enter x).sum.toNat = k.sum.toNat + x.toNat)) ∧
  (∀ (a b : Sketch),
    Tab.wf 0 a.bkt = true →
    Tab.wf 0 b.bkt = true →
    (a.csat = false → a.count.toNat = (a.bkt.map fun p => p.2.toNat).sum) →
    (b.csat = false → b.count.toNat = (b.bkt.map fun p => p.2.toNat).sum) →
    Tab.wf 0 (a.merge b).bkt = true ∧ ((a.merge b).csat = false → (a.merge b).count.toNat = ((a.merge b).bkt.map fun p => p.2.toNat).sum) ∧
    ((a.merge b).ssat = false → (a.merge b).sum.toNat = a.sum.toNat + b.sum.toNat))

/-- R305: differences, products and ratios of finite values are exact, division and the arithmetic right shift round towards minus infinity, and a result outside the signed 64-bit range becomes the infinity of its sign. -/
def Obligations.FrontStageExact : Prop :=
  ∀ (x y : Int) (sh : Nat),
    (let cut (r : Int) : Ext := if r < -(2 ^ 63) then .ninf else if r < 2 ^ 63 then .fin r else .pinf
     Ext.diff (.fin x) (.fin y) = cut (x - y) ∧
     (∃ r : Int, r * 2 ^ sh ≤ x * y ∧ x * y < (r + 1) * 2 ^ sh ∧ Ext.prod sh (.fin x) (.fin y) = cut r) ∧
     (y ≠ 0 → ∃ r : Int, Ext.ratio (.fin x) (.fin y) = cut r ∧ (0 < y → r * y ≤ x * 2 ^ 16 ∧ x * 2 ^ 16 < (r + 1) * y) ∧
        (y < 0 → (r + 1) * y < x * 2 ^ 16 ∧ x * 2 ^ 16 ≤ r * y)))

/-- R189 to R203, R209, R210: with EFFORT 0 and no static table the encoder stores the sample; what the tray decodes from those bytes is the same header, the same items and the same status bytes, whatever reference, tables and predictor modes either side holds. -/
def Obligations.RawFramesReadBack : Prop :=
  ∀ (h : FrameHdr) (v : List DWord) (st : List Byte) (psn key : Bool) (pm qm : Nat → Nat) (rf : List DWord × List Byte × DWord) (ts : List (List Nat)) (dr : FrameHdr → Option (List DWord × List Byte × DWord)),
    1 ≤ h.kind →
    h.kind ≤ 3 →
    v.length = kindItems h.kind →
    h.nitem = kindItems h.kind →
    (st.length = if h.kind = 1 then 64 else 0) →
    (if h.kind = 1 then h.rdiv < 8 ∧ 1 ≤ h.span ∧ h.span < 65536 else h.rdiv = 0 ∧ h.span = 0) →
    (h.kind ≠ 1 → (v.all fun x => decide (x.toNat < 2 ^ 32)) = true) →
    decodeSample ts qm dr (encodeSample ⟨0, none⟩ h psn pm v st rf key).1 =
      .ok ⟨{ h with flags := 1 + (if psn then 2 else 0) + (if h.kind = 1 then 4 else 0), table := 0, ref := 0 }, true, v, st⟩

/-- R370: VERD_ACK sets ACKED for the die it names when its VSEQ is the die's, and is refused with ILLEGAL_STATE when it is not; every change of a verdict, which the heat boundaries make, clears ACKED. -/
def Obligations.VerdictAcknowledged : Prop :=
  (∀ (p : Post) (s : State),
    s.running = true →
    s.isT = true →
    1 ≤ p.role.toNat →
    p.a0.toNat < 64 →
    p.a1.toNat < 65536 →
    (s.verd p.a0.toNat).vseq.toNat = p.a1.toNat →
    exec (.verdAck p) s = .next ((s.setVerd p.a0.toNat { s.verd p.a0.toNat with acked := true }).setResult 0x0602 1 p)) ∧
  (∀ (p : Post) (s : State),
    s.running = true →
    s.isT = true →
    1 ≤ p.role.toNat →
    p.a0.toNat < 64 →
    p.a1.toNat < 65536 →
    (s.verd p.a0.toNat).vseq.toNat ≠ p.a1.toNat →
    ∃ t, exec (.verdAck p) s = .next t ∧ t.ump = s.ump ∧ s.verdict 0x0602 p = (2, s) ∧ t.stuck 2 6 = true ∧ (s.mailPaths.contains p.path.toNat = true → (t.path p.path.toNat).result = 2) ∧ Unchanged [.sys, .integ, .trc, .ttrc, .ul, .roles, .evr] s t) ∧
  (∀ (m : BitVec 23) (u : List (BitVec 10)) (k : Nat) (s t : State),
    exec (.heatBoundary m u) s = .next t →
    (t.verd k).v ≠ (s.verd k).v →
    (t.verd k).acked = false) ∧
  (∀ (u : List (BitVec 10)) (k : Nat) (s t : State),
    exec (.substituteHeatBoundary u) s = .next t →
    (t.verd k).v ≠ (s.verd k).v →
    (t.verd k).acked = false)

/-- R398: block reset sets every count, LASTREL and B to 0, every mode to PLAIN, every binding to off, TLY_LEFT to 0 and SVC to START_UP, and clears HALTED and the remote queue; an image activation changes none of these. -/
def Obligations.TallyReset : Prop :=
  (∀ (s : State),
    ∃ t, exec .blockResetAssert s = .next t ∧ (∀ n, t.tly.c n = 0 ∧ Tab.get 0 t.tly.last n = 0 ∧ Tab.get 0 t.tly.next n = 0 ∧ t.tly.mode n = 0 ∧ Tab.get 0 t.tly.bind n = 0) ∧
    t.tly.left = 0 ∧ t.tly.svc = 1 ∧ t.tly.halted = false ∧ t.tly.remote = []) ∧
  (∀ (s t : State),
    exec .imageActivation s = .next t →
    t.tly = s.tly)

end
end

