-- ==== Sys2Proof/Laws/State.lean ====
section
/-! SUPPORT. What every setter of a part of State reads as afterwards, part by part, and what a fold over the state leaves. -/

namespace Sys2Proof.Machine

@[simp] theorem State.setInr_parts (s : State) (v : Intake) :
    (s.setInr v).sys = s.sys ∧ (s.setInr v).pwr = s.pwr ∧ (s.setInr v).fuse = s.fuse ∧ (s.setInr v).bist = s.bist ∧
    (s.setInr v).integ = s.integ ∧ (s.setInr v).heat = s.heat ∧ (s.setInr v).ld = s.ld ∧
    (s.setInr v).tray = s.tray ∧ (s.setInr v).prb = s.prb ∧ (s.setInr v).creg = s.creg ∧ (s.setInr v).sns = s.sns ∧
    (s.setInr v).tb = s.tb ∧ (s.setInr v).ptp = s.ptp ∧ (s.setInr v).tt = s.tt ∧ (s.setInr v).trc = s.trc ∧
    (s.setInr v).ttrc = s.ttrc ∧ (s.setInr v).cmp = s.cmp ∧ (s.setInr v).scn = s.scn ∧ (s.setInr v).led = s.led ∧
    (s.setInr v).fpc = s.fpc ∧ (s.setInr v).red = s.red ∧ (s.setInr v).inr = v ∧ (s.setInr v).te = s.te ∧
    (s.setInr v).ump = s.ump ∧ (s.setInr v).tly = s.tly ∧ (s.setInr v).ul = s.ul ∧ (s.setInr v).nb = s.nb ∧
    (s.setInr v).roles = s.roles ∧ (s.setInr v).evr = s.evr ∧ (s.setInr v).test = s.test ∧ (s.setInr v).rw = s.rw ∧
    (s.setInr v).wc2 = s.wc2 ∧ (s.setInr v).flash = s.flash ∧ (s.setInr v).lp5 = s.lp5 ∧
    (s.setInr v).pending = s.pending := by
  simp [State.setInr]

@[simp] theorem State.setFpc_parts (s : State) (v : Compare) :
    (s.setFpc v).sys = s.sys ∧ (s.setFpc v).pwr = s.pwr ∧ (s.setFpc v).fuse = s.fuse ∧ (s.setFpc v).bist = s.bist ∧
    (s.setFpc v).integ = s.integ ∧ (s.setFpc v).heat = s.heat ∧ (s.setFpc v).ld = s.ld ∧
    (s.setFpc v).tray = s.tray ∧ (s.setFpc v).prb = s.prb ∧ (s.setFpc v).creg = s.creg ∧ (s.setFpc v).sns = s.sns ∧
    (s.setFpc v).tb = s.tb ∧ (s.setFpc v).ptp = s.ptp ∧ (s.setFpc v).tt = s.tt ∧ (s.setFpc v).trc = s.trc ∧
    (s.setFpc v).ttrc = s.ttrc ∧ (s.setFpc v).cmp = s.cmp ∧ (s.setFpc v).scn = s.scn ∧ (s.setFpc v).led = s.led ∧
    (s.setFpc v).fpc = v ∧ (s.setFpc v).red = s.red ∧ (s.setFpc v).inr = s.inr ∧ (s.setFpc v).te = s.te ∧
    (s.setFpc v).ump = s.ump ∧ (s.setFpc v).tly = s.tly ∧ (s.setFpc v).ul = s.ul ∧ (s.setFpc v).nb = s.nb ∧
    (s.setFpc v).roles = s.roles ∧ (s.setFpc v).evr = s.evr ∧ (s.setFpc v).test = s.test ∧ (s.setFpc v).rw = s.rw ∧
    (s.setFpc v).wc2 = s.wc2 ∧ (s.setFpc v).flash = s.flash ∧ (s.setFpc v).lp5 = s.lp5 ∧
    (s.setFpc v).pending = s.pending := by
  simp [State.setFpc]

@[simp] theorem State.setCmp_parts (s : State) (v : Comp) :
    (s.setCmp v).sys = s.sys ∧ (s.setCmp v).pwr = s.pwr ∧ (s.setCmp v).fuse = s.fuse ∧ (s.setCmp v).bist = s.bist ∧
    (s.setCmp v).integ = s.integ ∧ (s.setCmp v).heat = s.heat ∧ (s.setCmp v).ld = s.ld ∧
    (s.setCmp v).tray = s.tray ∧ (s.setCmp v).prb = s.prb ∧ (s.setCmp v).creg = s.creg ∧ (s.setCmp v).sns = s.sns ∧
    (s.setCmp v).tb = s.tb ∧ (s.setCmp v).ptp = s.ptp ∧ (s.setCmp v).tt = s.tt ∧ (s.setCmp v).trc = s.trc ∧
    (s.setCmp v).ttrc = s.ttrc ∧ (s.setCmp v).cmp = v ∧ (s.setCmp v).scn = s.scn ∧ (s.setCmp v).led = s.led ∧
    (s.setCmp v).fpc = s.fpc ∧ (s.setCmp v).red = s.red ∧ (s.setCmp v).inr = s.inr ∧ (s.setCmp v).te = s.te ∧
    (s.setCmp v).ump = s.ump ∧ (s.setCmp v).tly = s.tly ∧ (s.setCmp v).ul = s.ul ∧ (s.setCmp v).nb = s.nb ∧
    (s.setCmp v).roles = s.roles ∧ (s.setCmp v).evr = s.evr ∧ (s.setCmp v).test = s.test ∧ (s.setCmp v).rw = s.rw ∧
    (s.setCmp v).wc2 = s.wc2 ∧ (s.setCmp v).flash = s.flash ∧ (s.setCmp v).lp5 = s.lp5 ∧
    (s.setCmp v).pending = s.pending := by
  simp [State.setCmp]

@[simp] theorem State.setUmp_parts (s : State) (v : Umpire) :
    (s.setUmp v).sys = s.sys ∧ (s.setUmp v).pwr = s.pwr ∧ (s.setUmp v).fuse = s.fuse ∧ (s.setUmp v).bist = s.bist ∧
    (s.setUmp v).integ = s.integ ∧ (s.setUmp v).heat = s.heat ∧ (s.setUmp v).ld = s.ld ∧
    (s.setUmp v).tray = s.tray ∧ (s.setUmp v).prb = s.prb ∧ (s.setUmp v).creg = s.creg ∧ (s.setUmp v).sns = s.sns ∧
    (s.setUmp v).tb = s.tb ∧ (s.setUmp v).ptp = s.ptp ∧ (s.setUmp v).tt = s.tt ∧ (s.setUmp v).trc = s.trc ∧
    (s.setUmp v).ttrc = s.ttrc ∧ (s.setUmp v).cmp = s.cmp ∧ (s.setUmp v).scn = s.scn ∧ (s.setUmp v).led = s.led ∧
    (s.setUmp v).fpc = s.fpc ∧ (s.setUmp v).red = s.red ∧ (s.setUmp v).inr = s.inr ∧ (s.setUmp v).te = s.te ∧
    (s.setUmp v).ump = v ∧ (s.setUmp v).tly = s.tly ∧ (s.setUmp v).ul = s.ul ∧ (s.setUmp v).nb = s.nb ∧
    (s.setUmp v).roles = s.roles ∧ (s.setUmp v).evr = s.evr ∧ (s.setUmp v).test = s.test ∧ (s.setUmp v).rw = s.rw ∧
    (s.setUmp v).wc2 = s.wc2 ∧ (s.setUmp v).flash = s.flash ∧ (s.setUmp v).lp5 = s.lp5 ∧
    (s.setUmp v).pending = s.pending := by
  simp [State.setUmp]

@[simp] theorem State.setInt_parts (s : State) (v : Integ) :
    (s.setInt v).sys = s.sys ∧ (s.setInt v).pwr = s.pwr ∧ (s.setInt v).fuse = s.fuse ∧ (s.setInt v).bist = s.bist ∧
    (s.setInt v).integ = v ∧ (s.setInt v).heat = s.heat ∧ (s.setInt v).ld = s.ld ∧ (s.setInt v).tray = s.tray ∧
    (s.setInt v).prb = s.prb ∧ (s.setInt v).creg = s.creg ∧ (s.setInt v).sns = s.sns ∧ (s.setInt v).tb = s.tb ∧
    (s.setInt v).ptp = s.ptp ∧ (s.setInt v).tt = s.tt ∧ (s.setInt v).trc = s.trc ∧ (s.setInt v).ttrc = s.ttrc ∧
    (s.setInt v).cmp = s.cmp ∧ (s.setInt v).scn = s.scn ∧ (s.setInt v).led = s.led ∧ (s.setInt v).fpc = s.fpc ∧
    (s.setInt v).red = s.red ∧ (s.setInt v).inr = s.inr ∧ (s.setInt v).te = s.te ∧ (s.setInt v).ump = s.ump ∧
    (s.setInt v).tly = s.tly ∧ (s.setInt v).ul = s.ul ∧ (s.setInt v).nb = s.nb ∧ (s.setInt v).roles = s.roles ∧
    (s.setInt v).evr = s.evr ∧ (s.setInt v).test = s.test ∧ (s.setInt v).rw = s.rw ∧ (s.setInt v).wc2 = s.wc2 ∧
    (s.setInt v).flash = s.flash ∧ (s.setInt v).lp5 = s.lp5 ∧ (s.setInt v).pending = s.pending := by
  simp [State.setInt]

@[simp] theorem State.setHeat_parts (s : State) (v : Heat) :
    (s.setHeat v).sys = s.sys ∧ (s.setHeat v).pwr = s.pwr ∧ (s.setHeat v).fuse = s.fuse ∧
    (s.setHeat v).bist = s.bist ∧ (s.setHeat v).integ = s.integ ∧ (s.setHeat v).heat = v ∧
    (s.setHeat v).ld = s.ld ∧ (s.setHeat v).tray = s.tray ∧ (s.setHeat v).prb = s.prb ∧
    (s.setHeat v).creg = s.creg ∧ (s.setHeat v).sns = s.sns ∧ (s.setHeat v).tb = s.tb ∧ (s.setHeat v).ptp = s.ptp ∧
    (s.setHeat v).tt = s.tt ∧ (s.setHeat v).trc = s.trc ∧ (s.setHeat v).ttrc = s.ttrc ∧ (s.setHeat v).cmp = s.cmp ∧
    (s.setHeat v).scn = s.scn ∧ (s.setHeat v).led = s.led ∧ (s.setHeat v).fpc = s.fpc ∧ (s.setHeat v).red = s.red ∧
    (s.setHeat v).inr = s.inr ∧ (s.setHeat v).te = s.te ∧ (s.setHeat v).ump = s.ump ∧ (s.setHeat v).tly = s.tly ∧
    (s.setHeat v).ul = s.ul ∧ (s.setHeat v).nb = s.nb ∧ (s.setHeat v).roles = s.roles ∧ (s.setHeat v).evr = s.evr ∧
    (s.setHeat v).test = s.test ∧ (s.setHeat v).rw = s.rw ∧ (s.setHeat v).wc2 = s.wc2 ∧
    (s.setHeat v).flash = s.flash ∧ (s.setHeat v).lp5 = s.lp5 ∧ (s.setHeat v).pending = s.pending := by
  simp [State.setHeat]

@[simp] theorem State.setLed_parts (s : State) (v : Ledger) :
    (s.setLed v).sys = s.sys ∧ (s.setLed v).pwr = s.pwr ∧ (s.setLed v).fuse = s.fuse ∧ (s.setLed v).bist = s.bist ∧
    (s.setLed v).integ = s.integ ∧ (s.setLed v).heat = s.heat ∧ (s.setLed v).ld = s.ld ∧
    (s.setLed v).tray = s.tray ∧ (s.setLed v).prb = s.prb ∧ (s.setLed v).creg = s.creg ∧ (s.setLed v).sns = s.sns ∧
    (s.setLed v).tb = s.tb ∧ (s.setLed v).ptp = s.ptp ∧ (s.setLed v).tt = s.tt ∧ (s.setLed v).trc = s.trc ∧
    (s.setLed v).ttrc = s.ttrc ∧ (s.setLed v).cmp = s.cmp ∧ (s.setLed v).scn = s.scn ∧ (s.setLed v).led = v ∧
    (s.setLed v).fpc = s.fpc ∧ (s.setLed v).red = s.red ∧ (s.setLed v).inr = s.inr ∧ (s.setLed v).te = s.te ∧
    (s.setLed v).ump = s.ump ∧ (s.setLed v).tly = s.tly ∧ (s.setLed v).ul = s.ul ∧ (s.setLed v).nb = s.nb ∧
    (s.setLed v).roles = s.roles ∧ (s.setLed v).evr = s.evr ∧ (s.setLed v).test = s.test ∧ (s.setLed v).rw = s.rw ∧
    (s.setLed v).wc2 = s.wc2 ∧ (s.setLed v).flash = s.flash ∧ (s.setLed v).lp5 = s.lp5 ∧
    (s.setLed v).pending = s.pending := by
  simp [State.setLed]

@[simp] theorem State.setLd_parts (s : State) (v : Loader) :
    (s.setLd v).sys = s.sys ∧ (s.setLd v).pwr = s.pwr ∧ (s.setLd v).fuse = s.fuse ∧ (s.setLd v).bist = s.bist ∧
    (s.setLd v).integ = s.integ ∧ (s.setLd v).heat = s.heat ∧ (s.setLd v).ld = v ∧ (s.setLd v).tray = s.tray ∧
    (s.setLd v).prb = s.prb ∧ (s.setLd v).creg = s.creg ∧ (s.setLd v).sns = s.sns ∧ (s.setLd v).tb = s.tb ∧
    (s.setLd v).ptp = s.ptp ∧ (s.setLd v).tt = s.tt ∧ (s.setLd v).trc = s.trc ∧ (s.setLd v).ttrc = s.ttrc ∧
    (s.setLd v).cmp = s.cmp ∧ (s.setLd v).scn = s.scn ∧ (s.setLd v).led = s.led ∧ (s.setLd v).fpc = s.fpc ∧
    (s.setLd v).red = s.red ∧ (s.setLd v).inr = s.inr ∧ (s.setLd v).te = s.te ∧ (s.setLd v).ump = s.ump ∧
    (s.setLd v).tly = s.tly ∧ (s.setLd v).ul = s.ul ∧ (s.setLd v).nb = s.nb ∧ (s.setLd v).roles = s.roles ∧
    (s.setLd v).evr = s.evr ∧ (s.setLd v).test = s.test ∧ (s.setLd v).rw = s.rw ∧ (s.setLd v).wc2 = s.wc2 ∧
    (s.setLd v).flash = s.flash ∧ (s.setLd v).lp5 = s.lp5 ∧ (s.setLd v).pending = s.pending := by
  simp [State.setLd]

@[simp] theorem State.setNb_parts (s : State) (v : North) :
    (s.setNb v).sys = s.sys ∧ (s.setNb v).pwr = s.pwr ∧ (s.setNb v).fuse = s.fuse ∧ (s.setNb v).bist = s.bist ∧
    (s.setNb v).integ = s.integ ∧ (s.setNb v).heat = s.heat ∧ (s.setNb v).ld = s.ld ∧ (s.setNb v).tray = s.tray ∧
    (s.setNb v).prb = s.prb ∧ (s.setNb v).creg = s.creg ∧ (s.setNb v).sns = s.sns ∧ (s.setNb v).tb = s.tb ∧
    (s.setNb v).ptp = s.ptp ∧ (s.setNb v).tt = s.tt ∧ (s.setNb v).trc = s.trc ∧ (s.setNb v).ttrc = s.ttrc ∧
    (s.setNb v).cmp = s.cmp ∧ (s.setNb v).scn = s.scn ∧ (s.setNb v).led = s.led ∧ (s.setNb v).fpc = s.fpc ∧
    (s.setNb v).red = s.red ∧ (s.setNb v).inr = s.inr ∧ (s.setNb v).te = s.te ∧ (s.setNb v).ump = s.ump ∧
    (s.setNb v).tly = s.tly ∧ (s.setNb v).ul = s.ul ∧ (s.setNb v).nb = v ∧ (s.setNb v).roles = s.roles ∧
    (s.setNb v).evr = s.evr ∧ (s.setNb v).test = s.test ∧ (s.setNb v).rw = s.rw ∧ (s.setNb v).wc2 = s.wc2 ∧
    (s.setNb v).flash = s.flash ∧ (s.setNb v).lp5 = s.lp5 ∧ (s.setNb v).pending = s.pending := by
  simp [State.setNb]

@[simp] theorem State.setPwr_parts (s : State) (v : Power) :
    (s.setPwr v).sys = s.sys ∧ (s.setPwr v).pwr = v ∧ (s.setPwr v).fuse = s.fuse ∧ (s.setPwr v).bist = s.bist ∧
    (s.setPwr v).integ = s.integ ∧ (s.setPwr v).heat = s.heat ∧ (s.setPwr v).ld = s.ld ∧
    (s.setPwr v).tray = s.tray ∧ (s.setPwr v).prb = s.prb ∧ (s.setPwr v).creg = s.creg ∧ (s.setPwr v).sns = s.sns ∧
    (s.setPwr v).tb = s.tb ∧ (s.setPwr v).ptp = s.ptp ∧ (s.setPwr v).tt = s.tt ∧ (s.setPwr v).trc = s.trc ∧
    (s.setPwr v).ttrc = s.ttrc ∧ (s.setPwr v).cmp = s.cmp ∧ (s.setPwr v).scn = s.scn ∧ (s.setPwr v).led = s.led ∧
    (s.setPwr v).fpc = s.fpc ∧ (s.setPwr v).red = s.red ∧ (s.setPwr v).inr = s.inr ∧ (s.setPwr v).te = s.te ∧
    (s.setPwr v).ump = s.ump ∧ (s.setPwr v).tly = s.tly ∧ (s.setPwr v).ul = s.ul ∧ (s.setPwr v).nb = s.nb ∧
    (s.setPwr v).roles = s.roles ∧ (s.setPwr v).evr = s.evr ∧ (s.setPwr v).test = s.test ∧ (s.setPwr v).rw = s.rw ∧
    (s.setPwr v).wc2 = s.wc2 ∧ (s.setPwr v).flash = s.flash ∧ (s.setPwr v).lp5 = s.lp5 ∧
    (s.setPwr v).pending = s.pending := by
  simp [State.setPwr]

@[simp] theorem State.setPrb_parts (s : State) (v : Probes) :
    (s.setPrb v).sys = s.sys ∧ (s.setPrb v).pwr = s.pwr ∧ (s.setPrb v).fuse = s.fuse ∧ (s.setPrb v).bist = s.bist ∧
    (s.setPrb v).integ = s.integ ∧ (s.setPrb v).heat = s.heat ∧ (s.setPrb v).ld = s.ld ∧
    (s.setPrb v).tray = s.tray ∧ (s.setPrb v).prb = v ∧ (s.setPrb v).creg = s.creg ∧ (s.setPrb v).sns = s.sns ∧
    (s.setPrb v).tb = s.tb ∧ (s.setPrb v).ptp = s.ptp ∧ (s.setPrb v).tt = s.tt ∧ (s.setPrb v).trc = s.trc ∧
    (s.setPrb v).ttrc = s.ttrc ∧ (s.setPrb v).cmp = s.cmp ∧ (s.setPrb v).scn = s.scn ∧ (s.setPrb v).led = s.led ∧
    (s.setPrb v).fpc = s.fpc ∧ (s.setPrb v).red = s.red ∧ (s.setPrb v).inr = s.inr ∧ (s.setPrb v).te = s.te ∧
    (s.setPrb v).ump = s.ump ∧ (s.setPrb v).tly = s.tly ∧ (s.setPrb v).ul = s.ul ∧ (s.setPrb v).nb = s.nb ∧
    (s.setPrb v).roles = s.roles ∧ (s.setPrb v).evr = s.evr ∧ (s.setPrb v).test = s.test ∧ (s.setPrb v).rw = s.rw ∧
    (s.setPrb v).wc2 = s.wc2 ∧ (s.setPrb v).flash = s.flash ∧ (s.setPrb v).lp5 = s.lp5 ∧
    (s.setPrb v).pending = s.pending := by
  simp [State.setPrb]

@[simp] theorem State.setEvr_parts (s : State) (v : Recorder) :
    (s.setEvr v).sys = s.sys ∧ (s.setEvr v).pwr = s.pwr ∧ (s.setEvr v).fuse = s.fuse ∧ (s.setEvr v).bist = s.bist ∧
    (s.setEvr v).integ = s.integ ∧ (s.setEvr v).heat = s.heat ∧ (s.setEvr v).ld = s.ld ∧
    (s.setEvr v).tray = s.tray ∧ (s.setEvr v).prb = s.prb ∧ (s.setEvr v).creg = s.creg ∧ (s.setEvr v).sns = s.sns ∧
    (s.setEvr v).tb = s.tb ∧ (s.setEvr v).ptp = s.ptp ∧ (s.setEvr v).tt = s.tt ∧ (s.setEvr v).trc = s.trc ∧
    (s.setEvr v).ttrc = s.ttrc ∧ (s.setEvr v).cmp = s.cmp ∧ (s.setEvr v).scn = s.scn ∧ (s.setEvr v).led = s.led ∧
    (s.setEvr v).fpc = s.fpc ∧ (s.setEvr v).red = s.red ∧ (s.setEvr v).inr = s.inr ∧ (s.setEvr v).te = s.te ∧
    (s.setEvr v).ump = s.ump ∧ (s.setEvr v).tly = s.tly ∧ (s.setEvr v).ul = s.ul ∧ (s.setEvr v).nb = s.nb ∧
    (s.setEvr v).roles = s.roles ∧ (s.setEvr v).evr = v ∧ (s.setEvr v).test = s.test ∧ (s.setEvr v).rw = s.rw ∧
    (s.setEvr v).wc2 = s.wc2 ∧ (s.setEvr v).flash = s.flash ∧ (s.setEvr v).lp5 = s.lp5 ∧
    (s.setEvr v).pending = s.pending := by
  simp [State.setEvr]

@[simp] theorem State.setRed_parts (s : State) (v : Reduce) :
    (s.setRed v).sys = s.sys ∧ (s.setRed v).pwr = s.pwr ∧ (s.setRed v).fuse = s.fuse ∧ (s.setRed v).bist = s.bist ∧
    (s.setRed v).integ = s.integ ∧ (s.setRed v).heat = s.heat ∧ (s.setRed v).ld = s.ld ∧
    (s.setRed v).tray = s.tray ∧ (s.setRed v).prb = s.prb ∧ (s.setRed v).creg = s.creg ∧ (s.setRed v).sns = s.sns ∧
    (s.setRed v).tb = s.tb ∧ (s.setRed v).ptp = s.ptp ∧ (s.setRed v).tt = s.tt ∧ (s.setRed v).trc = s.trc ∧
    (s.setRed v).ttrc = s.ttrc ∧ (s.setRed v).cmp = s.cmp ∧ (s.setRed v).scn = s.scn ∧ (s.setRed v).led = s.led ∧
    (s.setRed v).fpc = s.fpc ∧ (s.setRed v).red = v ∧ (s.setRed v).inr = s.inr ∧ (s.setRed v).te = s.te ∧
    (s.setRed v).ump = s.ump ∧ (s.setRed v).tly = s.tly ∧ (s.setRed v).ul = s.ul ∧ (s.setRed v).nb = s.nb ∧
    (s.setRed v).roles = s.roles ∧ (s.setRed v).evr = s.evr ∧ (s.setRed v).test = s.test ∧ (s.setRed v).rw = s.rw ∧
    (s.setRed v).wc2 = s.wc2 ∧ (s.setRed v).flash = s.flash ∧ (s.setRed v).lp5 = s.lp5 ∧
    (s.setRed v).pending = s.pending := by
  simp [State.setRed]

@[simp] theorem State.setScn_parts (s : State) (v : Scan) :
    (s.setScn v).sys = s.sys ∧ (s.setScn v).pwr = s.pwr ∧ (s.setScn v).fuse = s.fuse ∧ (s.setScn v).bist = s.bist ∧
    (s.setScn v).integ = s.integ ∧ (s.setScn v).heat = s.heat ∧ (s.setScn v).ld = s.ld ∧
    (s.setScn v).tray = s.tray ∧ (s.setScn v).prb = s.prb ∧ (s.setScn v).creg = s.creg ∧ (s.setScn v).sns = s.sns ∧
    (s.setScn v).tb = s.tb ∧ (s.setScn v).ptp = s.ptp ∧ (s.setScn v).tt = s.tt ∧ (s.setScn v).trc = s.trc ∧
    (s.setScn v).ttrc = s.ttrc ∧ (s.setScn v).cmp = s.cmp ∧ (s.setScn v).scn = v ∧ (s.setScn v).led = s.led ∧
    (s.setScn v).fpc = s.fpc ∧ (s.setScn v).red = s.red ∧ (s.setScn v).inr = s.inr ∧ (s.setScn v).te = s.te ∧
    (s.setScn v).ump = s.ump ∧ (s.setScn v).tly = s.tly ∧ (s.setScn v).ul = s.ul ∧ (s.setScn v).nb = s.nb ∧
    (s.setScn v).roles = s.roles ∧ (s.setScn v).evr = s.evr ∧ (s.setScn v).test = s.test ∧ (s.setScn v).rw = s.rw ∧
    (s.setScn v).wc2 = s.wc2 ∧ (s.setScn v).flash = s.flash ∧ (s.setScn v).lp5 = s.lp5 ∧
    (s.setScn v).pending = s.pending := by
  simp [State.setScn]

@[simp] theorem State.setSns_parts (s : State) (v : Sense) :
    (s.setSns v).sys = s.sys ∧ (s.setSns v).pwr = s.pwr ∧ (s.setSns v).fuse = s.fuse ∧ (s.setSns v).bist = s.bist ∧
    (s.setSns v).integ = s.integ ∧ (s.setSns v).heat = s.heat ∧ (s.setSns v).ld = s.ld ∧
    (s.setSns v).tray = s.tray ∧ (s.setSns v).prb = s.prb ∧ (s.setSns v).creg = s.creg ∧ (s.setSns v).sns = v ∧
    (s.setSns v).tb = s.tb ∧ (s.setSns v).ptp = s.ptp ∧ (s.setSns v).tt = s.tt ∧ (s.setSns v).trc = s.trc ∧
    (s.setSns v).ttrc = s.ttrc ∧ (s.setSns v).cmp = s.cmp ∧ (s.setSns v).scn = s.scn ∧ (s.setSns v).led = s.led ∧
    (s.setSns v).fpc = s.fpc ∧ (s.setSns v).red = s.red ∧ (s.setSns v).inr = s.inr ∧ (s.setSns v).te = s.te ∧
    (s.setSns v).ump = s.ump ∧ (s.setSns v).tly = s.tly ∧ (s.setSns v).ul = s.ul ∧ (s.setSns v).nb = s.nb ∧
    (s.setSns v).roles = s.roles ∧ (s.setSns v).evr = s.evr ∧ (s.setSns v).test = s.test ∧ (s.setSns v).rw = s.rw ∧
    (s.setSns v).wc2 = s.wc2 ∧ (s.setSns v).flash = s.flash ∧ (s.setSns v).lp5 = s.lp5 ∧
    (s.setSns v).pending = s.pending := by
  simp [State.setSns]

@[simp] theorem State.setTly_parts (s : State) (v : Tally) :
    (s.setTly v).sys = s.sys ∧ (s.setTly v).pwr = s.pwr ∧ (s.setTly v).fuse = s.fuse ∧ (s.setTly v).bist = s.bist ∧
    (s.setTly v).integ = s.integ ∧ (s.setTly v).heat = s.heat ∧ (s.setTly v).ld = s.ld ∧
    (s.setTly v).tray = s.tray ∧ (s.setTly v).prb = s.prb ∧ (s.setTly v).creg = s.creg ∧ (s.setTly v).sns = s.sns ∧
    (s.setTly v).tb = s.tb ∧ (s.setTly v).ptp = s.ptp ∧ (s.setTly v).tt = s.tt ∧ (s.setTly v).trc = s.trc ∧
    (s.setTly v).ttrc = s.ttrc ∧ (s.setTly v).cmp = s.cmp ∧ (s.setTly v).scn = s.scn ∧ (s.setTly v).led = s.led ∧
    (s.setTly v).fpc = s.fpc ∧ (s.setTly v).red = s.red ∧ (s.setTly v).inr = s.inr ∧ (s.setTly v).te = s.te ∧
    (s.setTly v).ump = s.ump ∧ (s.setTly v).tly = v ∧ (s.setTly v).ul = s.ul ∧ (s.setTly v).nb = s.nb ∧
    (s.setTly v).roles = s.roles ∧ (s.setTly v).evr = s.evr ∧ (s.setTly v).test = s.test ∧ (s.setTly v).rw = s.rw ∧
    (s.setTly v).wc2 = s.wc2 ∧ (s.setTly v).flash = s.flash ∧ (s.setTly v).lp5 = s.lp5 ∧
    (s.setTly v).pending = s.pending := by
  simp [State.setTly]

@[simp] theorem State.setTb_parts (s : State) (v : Timebase) :
    (s.setTb v).sys = s.sys ∧ (s.setTb v).pwr = s.pwr ∧ (s.setTb v).fuse = s.fuse ∧ (s.setTb v).bist = s.bist ∧
    (s.setTb v).integ = s.integ ∧ (s.setTb v).heat = s.heat ∧ (s.setTb v).ld = s.ld ∧ (s.setTb v).tray = s.tray ∧
    (s.setTb v).prb = s.prb ∧ (s.setTb v).creg = s.creg ∧ (s.setTb v).sns = s.sns ∧ (s.setTb v).tb = v ∧
    (s.setTb v).ptp = s.ptp ∧ (s.setTb v).tt = s.tt ∧ (s.setTb v).trc = s.trc ∧ (s.setTb v).ttrc = s.ttrc ∧
    (s.setTb v).cmp = s.cmp ∧ (s.setTb v).scn = s.scn ∧ (s.setTb v).led = s.led ∧ (s.setTb v).fpc = s.fpc ∧
    (s.setTb v).red = s.red ∧ (s.setTb v).inr = s.inr ∧ (s.setTb v).te = s.te ∧ (s.setTb v).ump = s.ump ∧
    (s.setTb v).tly = s.tly ∧ (s.setTb v).ul = s.ul ∧ (s.setTb v).nb = s.nb ∧ (s.setTb v).roles = s.roles ∧
    (s.setTb v).evr = s.evr ∧ (s.setTb v).test = s.test ∧ (s.setTb v).rw = s.rw ∧ (s.setTb v).wc2 = s.wc2 ∧
    (s.setTb v).flash = s.flash ∧ (s.setTb v).lp5 = s.lp5 ∧ (s.setTb v).pending = s.pending := by
  simp [State.setTb]

@[simp] theorem State.setPtp_parts (s : State) (v : Ptp) :
    (s.setPtp v).sys = s.sys ∧ (s.setPtp v).pwr = s.pwr ∧ (s.setPtp v).fuse = s.fuse ∧ (s.setPtp v).bist = s.bist ∧
    (s.setPtp v).integ = s.integ ∧ (s.setPtp v).heat = s.heat ∧ (s.setPtp v).ld = s.ld ∧
    (s.setPtp v).tray = s.tray ∧ (s.setPtp v).prb = s.prb ∧ (s.setPtp v).creg = s.creg ∧ (s.setPtp v).sns = s.sns ∧
    (s.setPtp v).tb = s.tb ∧ (s.setPtp v).ptp = v ∧ (s.setPtp v).tt = s.tt ∧ (s.setPtp v).trc = s.trc ∧
    (s.setPtp v).ttrc = s.ttrc ∧ (s.setPtp v).cmp = s.cmp ∧ (s.setPtp v).scn = s.scn ∧ (s.setPtp v).led = s.led ∧
    (s.setPtp v).fpc = s.fpc ∧ (s.setPtp v).red = s.red ∧ (s.setPtp v).inr = s.inr ∧ (s.setPtp v).te = s.te ∧
    (s.setPtp v).ump = s.ump ∧ (s.setPtp v).tly = s.tly ∧ (s.setPtp v).ul = s.ul ∧ (s.setPtp v).nb = s.nb ∧
    (s.setPtp v).roles = s.roles ∧ (s.setPtp v).evr = s.evr ∧ (s.setPtp v).test = s.test ∧ (s.setPtp v).rw = s.rw ∧
    (s.setPtp v).wc2 = s.wc2 ∧ (s.setPtp v).flash = s.flash ∧ (s.setPtp v).lp5 = s.lp5 ∧
    (s.setPtp v).pending = s.pending := by
  simp [State.setPtp]

@[simp] theorem State.setTt_parts (s : State) (v : TimeTransfer) :
    (s.setTt v).sys = s.sys ∧ (s.setTt v).pwr = s.pwr ∧ (s.setTt v).fuse = s.fuse ∧ (s.setTt v).bist = s.bist ∧
    (s.setTt v).integ = s.integ ∧ (s.setTt v).heat = s.heat ∧ (s.setTt v).ld = s.ld ∧ (s.setTt v).tray = s.tray ∧
    (s.setTt v).prb = s.prb ∧ (s.setTt v).creg = s.creg ∧ (s.setTt v).sns = s.sns ∧ (s.setTt v).tb = s.tb ∧
    (s.setTt v).ptp = s.ptp ∧ (s.setTt v).tt = v ∧ (s.setTt v).trc = s.trc ∧ (s.setTt v).ttrc = s.ttrc ∧
    (s.setTt v).cmp = s.cmp ∧ (s.setTt v).scn = s.scn ∧ (s.setTt v).led = s.led ∧ (s.setTt v).fpc = s.fpc ∧
    (s.setTt v).red = s.red ∧ (s.setTt v).inr = s.inr ∧ (s.setTt v).te = s.te ∧ (s.setTt v).ump = s.ump ∧
    (s.setTt v).tly = s.tly ∧ (s.setTt v).ul = s.ul ∧ (s.setTt v).nb = s.nb ∧ (s.setTt v).roles = s.roles ∧
    (s.setTt v).evr = s.evr ∧ (s.setTt v).test = s.test ∧ (s.setTt v).rw = s.rw ∧ (s.setTt v).wc2 = s.wc2 ∧
    (s.setTt v).flash = s.flash ∧ (s.setTt v).lp5 = s.lp5 ∧ (s.setTt v).pending = s.pending := by
  simp [State.setTt]

@[simp] theorem State.setTrc_parts (s : State) (v : Trace) :
    (s.setTrc v).sys = s.sys ∧ (s.setTrc v).pwr = s.pwr ∧ (s.setTrc v).fuse = s.fuse ∧ (s.setTrc v).bist = s.bist ∧
    (s.setTrc v).integ = s.integ ∧ (s.setTrc v).heat = s.heat ∧ (s.setTrc v).ld = s.ld ∧
    (s.setTrc v).tray = s.tray ∧ (s.setTrc v).prb = s.prb ∧ (s.setTrc v).creg = s.creg ∧ (s.setTrc v).sns = s.sns ∧
    (s.setTrc v).tb = s.tb ∧ (s.setTrc v).ptp = s.ptp ∧ (s.setTrc v).tt = s.tt ∧ (s.setTrc v).trc = v ∧
    (s.setTrc v).ttrc = s.ttrc ∧ (s.setTrc v).cmp = s.cmp ∧ (s.setTrc v).scn = s.scn ∧ (s.setTrc v).led = s.led ∧
    (s.setTrc v).fpc = s.fpc ∧ (s.setTrc v).red = s.red ∧ (s.setTrc v).inr = s.inr ∧ (s.setTrc v).te = s.te ∧
    (s.setTrc v).ump = s.ump ∧ (s.setTrc v).tly = s.tly ∧ (s.setTrc v).ul = s.ul ∧ (s.setTrc v).nb = s.nb ∧
    (s.setTrc v).roles = s.roles ∧ (s.setTrc v).evr = s.evr ∧ (s.setTrc v).test = s.test ∧ (s.setTrc v).rw = s.rw ∧
    (s.setTrc v).wc2 = s.wc2 ∧ (s.setTrc v).flash = s.flash ∧ (s.setTrc v).lp5 = s.lp5 ∧
    (s.setTrc v).pending = s.pending := by
  simp [State.setTrc]

@[simp] theorem State.setTtr_parts (s : State) (v : TrayTrace) :
    (s.setTtr v).sys = s.sys ∧ (s.setTtr v).pwr = s.pwr ∧ (s.setTtr v).fuse = s.fuse ∧ (s.setTtr v).bist = s.bist ∧
    (s.setTtr v).integ = s.integ ∧ (s.setTtr v).heat = s.heat ∧ (s.setTtr v).ld = s.ld ∧
    (s.setTtr v).tray = s.tray ∧ (s.setTtr v).prb = s.prb ∧ (s.setTtr v).creg = s.creg ∧ (s.setTtr v).sns = s.sns ∧
    (s.setTtr v).tb = s.tb ∧ (s.setTtr v).ptp = s.ptp ∧ (s.setTtr v).tt = s.tt ∧ (s.setTtr v).trc = s.trc ∧
    (s.setTtr v).ttrc = v ∧ (s.setTtr v).cmp = s.cmp ∧ (s.setTtr v).scn = s.scn ∧ (s.setTtr v).led = s.led ∧
    (s.setTtr v).fpc = s.fpc ∧ (s.setTtr v).red = s.red ∧ (s.setTtr v).inr = s.inr ∧ (s.setTtr v).te = s.te ∧
    (s.setTtr v).ump = s.ump ∧ (s.setTtr v).tly = s.tly ∧ (s.setTtr v).ul = s.ul ∧ (s.setTtr v).nb = s.nb ∧
    (s.setTtr v).roles = s.roles ∧ (s.setTtr v).evr = s.evr ∧ (s.setTtr v).test = s.test ∧ (s.setTtr v).rw = s.rw ∧
    (s.setTtr v).wc2 = s.wc2 ∧ (s.setTtr v).flash = s.flash ∧ (s.setTtr v).lp5 = s.lp5 ∧
    (s.setTtr v).pending = s.pending := by
  simp [State.setTtr]

@[simp] theorem State.setTe_parts (s : State) (v : Tree) :
    (s.setTe v).sys = s.sys ∧ (s.setTe v).pwr = s.pwr ∧ (s.setTe v).fuse = s.fuse ∧ (s.setTe v).bist = s.bist ∧
    (s.setTe v).integ = s.integ ∧ (s.setTe v).heat = s.heat ∧ (s.setTe v).ld = s.ld ∧ (s.setTe v).tray = s.tray ∧
    (s.setTe v).prb = s.prb ∧ (s.setTe v).creg = s.creg ∧ (s.setTe v).sns = s.sns ∧ (s.setTe v).tb = s.tb ∧
    (s.setTe v).ptp = s.ptp ∧ (s.setTe v).tt = s.tt ∧ (s.setTe v).trc = s.trc ∧ (s.setTe v).ttrc = s.ttrc ∧
    (s.setTe v).cmp = s.cmp ∧ (s.setTe v).scn = s.scn ∧ (s.setTe v).led = s.led ∧ (s.setTe v).fpc = s.fpc ∧
    (s.setTe v).red = s.red ∧ (s.setTe v).inr = s.inr ∧ (s.setTe v).te = v ∧ (s.setTe v).ump = s.ump ∧
    (s.setTe v).tly = s.tly ∧ (s.setTe v).ul = s.ul ∧ (s.setTe v).nb = s.nb ∧ (s.setTe v).roles = s.roles ∧
    (s.setTe v).evr = s.evr ∧ (s.setTe v).test = s.test ∧ (s.setTe v).rw = s.rw ∧ (s.setTe v).wc2 = s.wc2 ∧
    (s.setTe v).flash = s.flash ∧ (s.setTe v).lp5 = s.lp5 ∧ (s.setTe v).pending = s.pending := by
  simp [State.setTe]

/-- A fold whose step leaves `sys` alone leaves it alone. -/
@[simp] theorem foldl_sys {α : Type} (f : State → α → State) (l : List α) (s : State)
    (h : ∀ t x, (f t x).sys = t.sys) : (l.foldl f s).sys = s.sys := by
  induction l generalizing s with
  | nil => rfl
  | cons x l ih => rw [List.foldl_cons, ih, h]

/-- A fold whose step leaves `pwr` alone leaves it alone. -/
@[simp] theorem foldl_pwr {α : Type} (f : State → α → State) (l : List α) (s : State)
    (h : ∀ t x, (f t x).pwr = t.pwr) : (l.foldl f s).pwr = s.pwr := by
  induction l generalizing s with
  | nil => rfl
  | cons x l ih => rw [List.foldl_cons, ih, h]

/-- A fold whose step leaves `fuse` alone leaves it alone. -/
@[simp] theorem foldl_fuse {α : Type} (f : State → α → State) (l : List α) (s : State)
    (h : ∀ t x, (f t x).fuse = t.fuse) : (l.foldl f s).fuse = s.fuse := by
  induction l generalizing s with
  | nil => rfl
  | cons x l ih => rw [List.foldl_cons, ih, h]

/-- A fold whose step leaves `bist` alone leaves it alone. -/
@[simp] theorem foldl_bist {α : Type} (f : State → α → State) (l : List α) (s : State)
    (h : ∀ t x, (f t x).bist = t.bist) : (l.foldl f s).bist = s.bist := by
  induction l generalizing s with
  | nil => rfl
  | cons x l ih => rw [List.foldl_cons, ih, h]

/-- A fold whose step leaves `integ` alone leaves it alone. -/
@[simp] theorem foldl_integ {α : Type} (f : State → α → State) (l : List α) (s : State)
    (h : ∀ t x, (f t x).integ = t.integ) : (l.foldl f s).integ = s.integ := by
  induction l generalizing s with
  | nil => rfl
  | cons x l ih => rw [List.foldl_cons, ih, h]

/-- A fold whose step leaves `heat` alone leaves it alone. -/
@[simp] theorem foldl_heat {α : Type} (f : State → α → State) (l : List α) (s : State)
    (h : ∀ t x, (f t x).heat = t.heat) : (l.foldl f s).heat = s.heat := by
  induction l generalizing s with
  | nil => rfl
  | cons x l ih => rw [List.foldl_cons, ih, h]

/-- A fold whose step leaves `ld` alone leaves it alone. -/
@[simp] theorem foldl_ld {α : Type} (f : State → α → State) (l : List α) (s : State)
    (h : ∀ t x, (f t x).ld = t.ld) : (l.foldl f s).ld = s.ld := by
  induction l generalizing s with
  | nil => rfl
  | cons x l ih => rw [List.foldl_cons, ih, h]

/-- A fold whose step leaves `tray` alone leaves it alone. -/
@[simp] theorem foldl_tray {α : Type} (f : State → α → State) (l : List α) (s : State)
    (h : ∀ t x, (f t x).tray = t.tray) : (l.foldl f s).tray = s.tray := by
  induction l generalizing s with
  | nil => rfl
  | cons x l ih => rw [List.foldl_cons, ih, h]

/-- A fold whose step leaves `prb` alone leaves it alone. -/
@[simp] theorem foldl_prb {α : Type} (f : State → α → State) (l : List α) (s : State)
    (h : ∀ t x, (f t x).prb = t.prb) : (l.foldl f s).prb = s.prb := by
  induction l generalizing s with
  | nil => rfl
  | cons x l ih => rw [List.foldl_cons, ih, h]

/-- A fold whose step leaves `creg` alone leaves it alone. -/
@[simp] theorem foldl_creg {α : Type} (f : State → α → State) (l : List α) (s : State)
    (h : ∀ t x, (f t x).creg = t.creg) : (l.foldl f s).creg = s.creg := by
  induction l generalizing s with
  | nil => rfl
  | cons x l ih => rw [List.foldl_cons, ih, h]

/-- A fold whose step leaves `sns` alone leaves it alone. -/
@[simp] theorem foldl_sns {α : Type} (f : State → α → State) (l : List α) (s : State)
    (h : ∀ t x, (f t x).sns = t.sns) : (l.foldl f s).sns = s.sns := by
  induction l generalizing s with
  | nil => rfl
  | cons x l ih => rw [List.foldl_cons, ih, h]

/-- A fold whose step leaves `tb` alone leaves it alone. -/
@[simp] theorem foldl_tb {α : Type} (f : State → α → State) (l : List α) (s : State)
    (h : ∀ t x, (f t x).tb = t.tb) : (l.foldl f s).tb = s.tb := by
  induction l generalizing s with
  | nil => rfl
  | cons x l ih => rw [List.foldl_cons, ih, h]

/-- A fold whose step leaves `ptp` alone leaves it alone. -/
@[simp] theorem foldl_ptp {α : Type} (f : State → α → State) (l : List α) (s : State)
    (h : ∀ t x, (f t x).ptp = t.ptp) : (l.foldl f s).ptp = s.ptp := by
  induction l generalizing s with
  | nil => rfl
  | cons x l ih => rw [List.foldl_cons, ih, h]

/-- A fold whose step leaves `tt` alone leaves it alone. -/
@[simp] theorem foldl_tt {α : Type} (f : State → α → State) (l : List α) (s : State)
    (h : ∀ t x, (f t x).tt = t.tt) : (l.foldl f s).tt = s.tt := by
  induction l generalizing s with
  | nil => rfl
  | cons x l ih => rw [List.foldl_cons, ih, h]

/-- A fold whose step leaves `trc` alone leaves it alone. -/
@[simp] theorem foldl_trc {α : Type} (f : State → α → State) (l : List α) (s : State)
    (h : ∀ t x, (f t x).trc = t.trc) : (l.foldl f s).trc = s.trc := by
  induction l generalizing s with
  | nil => rfl
  | cons x l ih => rw [List.foldl_cons, ih, h]

/-- A fold whose step leaves `ttrc` alone leaves it alone. -/
@[simp] theorem foldl_ttrc {α : Type} (f : State → α → State) (l : List α) (s : State)
    (h : ∀ t x, (f t x).ttrc = t.ttrc) : (l.foldl f s).ttrc = s.ttrc := by
  induction l generalizing s with
  | nil => rfl
  | cons x l ih => rw [List.foldl_cons, ih, h]

/-- A fold whose step leaves `cmp` alone leaves it alone. -/
@[simp] theorem foldl_cmp {α : Type} (f : State → α → State) (l : List α) (s : State)
    (h : ∀ t x, (f t x).cmp = t.cmp) : (l.foldl f s).cmp = s.cmp := by
  induction l generalizing s with
  | nil => rfl
  | cons x l ih => rw [List.foldl_cons, ih, h]

/-- A fold whose step leaves `scn` alone leaves it alone. -/
@[simp] theorem foldl_scn {α : Type} (f : State → α → State) (l : List α) (s : State)
    (h : ∀ t x, (f t x).scn = t.scn) : (l.foldl f s).scn = s.scn := by
  induction l generalizing s with
  | nil => rfl
  | cons x l ih => rw [List.foldl_cons, ih, h]

/-- A fold whose step leaves `led` alone leaves it alone. -/
@[simp] theorem foldl_led {α : Type} (f : State → α → State) (l : List α) (s : State)
    (h : ∀ t x, (f t x).led = t.led) : (l.foldl f s).led = s.led := by
  induction l generalizing s with
  | nil => rfl
  | cons x l ih => rw [List.foldl_cons, ih, h]

/-- A fold whose step leaves `fpc` alone leaves it alone. -/
@[simp] theorem foldl_fpc {α : Type} (f : State → α → State) (l : List α) (s : State)
    (h : ∀ t x, (f t x).fpc = t.fpc) : (l.foldl f s).fpc = s.fpc := by
  induction l generalizing s with
  | nil => rfl
  | cons x l ih => rw [List.foldl_cons, ih, h]

/-- A fold whose step leaves `red` alone leaves it alone. -/
@[simp] theorem foldl_red {α : Type} (f : State → α → State) (l : List α) (s : State)
    (h : ∀ t x, (f t x).red = t.red) : (l.foldl f s).red = s.red := by
  induction l generalizing s with
  | nil => rfl
  | cons x l ih => rw [List.foldl_cons, ih, h]

/-- A fold whose step leaves `inr` alone leaves it alone. -/
@[simp] theorem foldl_inr {α : Type} (f : State → α → State) (l : List α) (s : State)
    (h : ∀ t x, (f t x).inr = t.inr) : (l.foldl f s).inr = s.inr := by
  induction l generalizing s with
  | nil => rfl
  | cons x l ih => rw [List.foldl_cons, ih, h]

/-- A fold whose step leaves `te` alone leaves it alone. -/
@[simp] theorem foldl_te {α : Type} (f : State → α → State) (l : List α) (s : State)
    (h : ∀ t x, (f t x).te = t.te) : (l.foldl f s).te = s.te := by
  induction l generalizing s with
  | nil => rfl
  | cons x l ih => rw [List.foldl_cons, ih, h]

/-- A fold whose step leaves `ump` alone leaves it alone. -/
@[simp] theorem foldl_ump {α : Type} (f : State → α → State) (l : List α) (s : State)
    (h : ∀ t x, (f t x).ump = t.ump) : (l.foldl f s).ump = s.ump := by
  induction l generalizing s with
  | nil => rfl
  | cons x l ih => rw [List.foldl_cons, ih, h]

/-- A fold whose step leaves `tly` alone leaves it alone. -/
@[simp] theorem foldl_tly {α : Type} (f : State → α → State) (l : List α) (s : State)
    (h : ∀ t x, (f t x).tly = t.tly) : (l.foldl f s).tly = s.tly := by
  induction l generalizing s with
  | nil => rfl
  | cons x l ih => rw [List.foldl_cons, ih, h]

/-- A fold whose step leaves `ul` alone leaves it alone. -/
@[simp] theorem foldl_ul {α : Type} (f : State → α → State) (l : List α) (s : State)
    (h : ∀ t x, (f t x).ul = t.ul) : (l.foldl f s).ul = s.ul := by
  induction l generalizing s with
  | nil => rfl
  | cons x l ih => rw [List.foldl_cons, ih, h]

/-- A fold whose step leaves `nb` alone leaves it alone. -/
@[simp] theorem foldl_nb {α : Type} (f : State → α → State) (l : List α) (s : State)
    (h : ∀ t x, (f t x).nb = t.nb) : (l.foldl f s).nb = s.nb := by
  induction l generalizing s with
  | nil => rfl
  | cons x l ih => rw [List.foldl_cons, ih, h]

/-- A fold whose step leaves `roles` alone leaves it alone. -/
@[simp] theorem foldl_roles {α : Type} (f : State → α → State) (l : List α) (s : State)
    (h : ∀ t x, (f t x).roles = t.roles) : (l.foldl f s).roles = s.roles := by
  induction l generalizing s with
  | nil => rfl
  | cons x l ih => rw [List.foldl_cons, ih, h]

/-- A fold whose step leaves `evr` alone leaves it alone. -/
@[simp] theorem foldl_evr {α : Type} (f : State → α → State) (l : List α) (s : State)
    (h : ∀ t x, (f t x).evr = t.evr) : (l.foldl f s).evr = s.evr := by
  induction l generalizing s with
  | nil => rfl
  | cons x l ih => rw [List.foldl_cons, ih, h]

/-- A fold whose step leaves `test` alone leaves it alone. -/
@[simp] theorem foldl_test {α : Type} (f : State → α → State) (l : List α) (s : State)
    (h : ∀ t x, (f t x).test = t.test) : (l.foldl f s).test = s.test := by
  induction l generalizing s with
  | nil => rfl
  | cons x l ih => rw [List.foldl_cons, ih, h]

/-- A fold whose step leaves `rw` alone leaves it alone. -/
@[simp] theorem foldl_rw {α : Type} (f : State → α → State) (l : List α) (s : State)
    (h : ∀ t x, (f t x).rw = t.rw) : (l.foldl f s).rw = s.rw := by
  induction l generalizing s with
  | nil => rfl
  | cons x l ih => rw [List.foldl_cons, ih, h]

/-- A fold whose step leaves `wc2` alone leaves it alone. -/
@[simp] theorem foldl_wc2 {α : Type} (f : State → α → State) (l : List α) (s : State)
    (h : ∀ t x, (f t x).wc2 = t.wc2) : (l.foldl f s).wc2 = s.wc2 := by
  induction l generalizing s with
  | nil => rfl
  | cons x l ih => rw [List.foldl_cons, ih, h]

/-- A fold whose step leaves `flash` alone leaves it alone. -/
@[simp] theorem foldl_flash {α : Type} (f : State → α → State) (l : List α) (s : State)
    (h : ∀ t x, (f t x).flash = t.flash) : (l.foldl f s).flash = s.flash := by
  induction l generalizing s with
  | nil => rfl
  | cons x l ih => rw [List.foldl_cons, ih, h]

/-- A fold whose step leaves `lp5` alone leaves it alone. -/
@[simp] theorem foldl_lp5 {α : Type} (f : State → α → State) (l : List α) (s : State)
    (h : ∀ t x, (f t x).lp5 = t.lp5) : (l.foldl f s).lp5 = s.lp5 := by
  induction l generalizing s with
  | nil => rfl
  | cons x l ih => rw [List.foldl_cons, ih, h]

/-- A fold whose step leaves `pending` alone leaves it alone. -/
@[simp] theorem foldl_pending {α : Type} (f : State → α → State) (l : List α) (s : State)
    (h : ∀ t x, (f t x).pending = t.pending) : (l.foldl f s).pending = s.pending := by
  induction l generalizing s with
  | nil => rfl
  | cons x l ih => rw [List.foldl_cons, ih, h]

end Sys2Proof.Machine
end

