-- ==== Sys2Proof/Laws/Ops.lean ====
section
/-! SUPPORT. What the shared operations of Machine/Ops.lean leave alone: one lemma per operation, the parts of the block it
cannot touch. -/

set_option linter.unusedTactic false
set_option linter.unreachableTactic false
set_option linter.unnecessarySeqFocus false

namespace Sys2Proof.Machine

@[simp] theorem State.freed_parts (s : State) :
    (State.freed s).pwr = s.pwr ∧ (State.freed s).fuse = s.fuse ∧ (State.freed s).bist = s.bist ∧
    (State.freed s).integ = s.integ ∧ (State.freed s).heat = s.heat ∧ (State.freed s).ld = s.ld ∧
    (State.freed s).tray = s.tray ∧ (State.freed s).prb = s.prb ∧ (State.freed s).creg = s.creg ∧
    (State.freed s).sns = s.sns ∧ (State.freed s).tb = s.tb ∧ (State.freed s).ptp = s.ptp ∧
    (State.freed s).tt = s.tt ∧ (State.freed s).trc = s.trc ∧ (State.freed s).ttrc = s.ttrc ∧
    (State.freed s).cmp = s.cmp ∧ (State.freed s).scn = s.scn ∧ (State.freed s).led = s.led ∧
    (State.freed s).fpc = s.fpc ∧ (State.freed s).red = s.red ∧ (State.freed s).inr = s.inr ∧
    (State.freed s).te = s.te ∧ (State.freed s).ump = s.ump ∧ (State.freed s).tly = s.tly ∧
    (State.freed s).ul = s.ul ∧ (State.freed s).nb = s.nb ∧ (State.freed s).roles = s.roles ∧
    (State.freed s).evr = s.evr ∧ (State.freed s).test = s.test ∧ (State.freed s).rw = s.rw ∧
    (State.freed s).wc2 = s.wc2 ∧ (State.freed s).flash = s.flash ∧ (State.freed s).lp5 = s.lp5 ∧
    (State.freed s).pending = s.pending ∧ (State.freed s).sys.build = s.sys.build ∧
    (State.freed s).sys.aonHeld = s.sys.aonHeld ∧ (State.freed s).sys.rstHeld = s.sys.rstHeld ∧
    (State.freed s).sys.corePg = s.sys.corePg ∧ (State.freed s).sys.pgRose = s.sys.pgRose ∧
    (State.freed s).sys.firstRelease = s.sys.firstRelease ∧ (State.freed s).sys.strapErr = s.sys.strapErr ∧
    (State.freed s).sys.x2 = s.sys.x2 ∧ (State.freed s).sys.pkg = s.sys.pkg ∧ (State.freed s).sys.die = s.sys.die ∧
    (State.freed s).sys.lp5Grade = s.sys.lp5Grade ∧ (State.freed s).sys.phase = s.sys.phase ∧
    (State.freed s).sys.powerup = s.sys.powerup ∧ (State.freed s).sys.pht = s.sys.pht ∧
    (State.freed s).sys.resetCount = s.sys.resetCount ∧ (State.freed s).sys.tray = s.sys.tray ∧
    (State.freed s).sys.trayValid = s.sys.trayValid ∧ (State.freed s).sys.sfdpDone = s.sys.sfdpDone ∧
    (State.freed s).sys.scanDone = s.sys.scanDone ∧ (State.freed s).sys.lp5Done = s.sys.lp5Done := by
  unfold State.freed
  first
  | (simp; done)
  | ((repeat' split) <;> simp; done)
  | (simp only []; (repeat' split) <;> simp; done)

@[simp] theorem State.stick_parts (s : State) (r b : Nat) :
    (State.stick s r b).sys = s.sys ∧ (State.stick s r b).pwr = s.pwr ∧ (State.stick s r b).fuse = s.fuse ∧
    (State.stick s r b).bist = s.bist ∧ (State.stick s r b).heat = s.heat ∧ (State.stick s r b).ld = s.ld ∧
    (State.stick s r b).tray = s.tray ∧ (State.stick s r b).prb = s.prb ∧ (State.stick s r b).creg = s.creg ∧
    (State.stick s r b).sns = s.sns ∧ (State.stick s r b).tb = s.tb ∧ (State.stick s r b).ptp = s.ptp ∧
    (State.stick s r b).tt = s.tt ∧ (State.stick s r b).trc = s.trc ∧ (State.stick s r b).ttrc = s.ttrc ∧
    (State.stick s r b).cmp = s.cmp ∧ (State.stick s r b).scn = s.scn ∧ (State.stick s r b).led = s.led ∧
    (State.stick s r b).fpc = s.fpc ∧ (State.stick s r b).red = s.red ∧ (State.stick s r b).inr = s.inr ∧
    (State.stick s r b).te = s.te ∧ (State.stick s r b).ump = s.ump ∧ (State.stick s r b).tly = s.tly ∧
    (State.stick s r b).ul = s.ul ∧ (State.stick s r b).nb = s.nb ∧ (State.stick s r b).roles = s.roles ∧
    (State.stick s r b).evr = s.evr ∧ (State.stick s r b).test = s.test ∧ (State.stick s r b).rw = s.rw ∧
    (State.stick s r b).wc2 = s.wc2 ∧ (State.stick s r b).flash = s.flash ∧ (State.stick s r b).lp5 = s.lp5 ∧
    (State.stick s r b).pending = s.pending := by
  unfold State.stick
  first
  | (simp; done)
  | ((repeat' split) <;> simp; done)
  | (simp only []; (repeat' split) <;> simp; done)

@[simp] theorem State.buffer_parts (s : State) (q : RecIn) :
    (State.buffer s q).sys = s.sys ∧ (State.buffer s q).pwr = s.pwr ∧ (State.buffer s q).fuse = s.fuse ∧
    (State.buffer s q).bist = s.bist ∧ (State.buffer s q).integ = s.integ ∧ (State.buffer s q).heat = s.heat ∧
    (State.buffer s q).ld = s.ld ∧ (State.buffer s q).tray = s.tray ∧ (State.buffer s q).prb = s.prb ∧
    (State.buffer s q).creg = s.creg ∧ (State.buffer s q).sns = s.sns ∧ (State.buffer s q).tb = s.tb ∧
    (State.buffer s q).ptp = s.ptp ∧ (State.buffer s q).tt = s.tt ∧ (State.buffer s q).trc = s.trc ∧
    (State.buffer s q).ttrc = s.ttrc ∧ (State.buffer s q).cmp = s.cmp ∧ (State.buffer s q).scn = s.scn ∧
    (State.buffer s q).led = s.led ∧ (State.buffer s q).fpc = s.fpc ∧ (State.buffer s q).red = s.red ∧
    (State.buffer s q).inr = s.inr ∧ (State.buffer s q).te = s.te ∧ (State.buffer s q).ump = s.ump ∧
    (State.buffer s q).tly = s.tly ∧ (State.buffer s q).ul = s.ul ∧ (State.buffer s q).nb = s.nb ∧
    (State.buffer s q).roles = s.roles ∧ (State.buffer s q).test = s.test ∧ (State.buffer s q).rw = s.rw ∧
    (State.buffer s q).wc2 = s.wc2 ∧ (State.buffer s q).flash = s.flash ∧ (State.buffer s q).lp5 = s.lp5 ∧
    (State.buffer s q).pending = s.pending := by
  unfold State.buffer
  first
  | (simp; done)
  | ((repeat' split) <;> simp; done)
  | (simp only []; (repeat' split) <;> simp; done)

@[simp] theorem State.captureBuoy_parts (s : State) (kind : Nat) (slot : BitVec 23) (heat : DWord) :
    (State.captureBuoy s kind slot heat).sys = s.sys ∧ (State.captureBuoy s kind slot heat).pwr = s.pwr ∧
    (State.captureBuoy s kind slot heat).fuse = s.fuse ∧ (State.captureBuoy s kind slot heat).bist = s.bist ∧
    (State.captureBuoy s kind slot heat).integ = s.integ ∧ (State.captureBuoy s kind slot heat).heat = s.heat ∧
    (State.captureBuoy s kind slot heat).ld = s.ld ∧ (State.captureBuoy s kind slot heat).tray = s.tray ∧
    (State.captureBuoy s kind slot heat).prb = s.prb ∧ (State.captureBuoy s kind slot heat).creg = s.creg ∧
    (State.captureBuoy s kind slot heat).sns = s.sns ∧ (State.captureBuoy s kind slot heat).tb = s.tb ∧
    (State.captureBuoy s kind slot heat).ptp = s.ptp ∧ (State.captureBuoy s kind slot heat).tt = s.tt ∧
    (State.captureBuoy s kind slot heat).ttrc = s.ttrc ∧ (State.captureBuoy s kind slot heat).cmp = s.cmp ∧
    (State.captureBuoy s kind slot heat).scn = s.scn ∧ (State.captureBuoy s kind slot heat).led = s.led ∧
    (State.captureBuoy s kind slot heat).fpc = s.fpc ∧ (State.captureBuoy s kind slot heat).red = s.red ∧
    (State.captureBuoy s kind slot heat).inr = s.inr ∧ (State.captureBuoy s kind slot heat).te = s.te ∧
    (State.captureBuoy s kind slot heat).ump = s.ump ∧ (State.captureBuoy s kind slot heat).tly = s.tly ∧
    (State.captureBuoy s kind slot heat).ul = s.ul ∧ (State.captureBuoy s kind slot heat).nb = s.nb ∧
    (State.captureBuoy s kind slot heat).roles = s.roles ∧ (State.captureBuoy s kind slot heat).evr = s.evr ∧
    (State.captureBuoy s kind slot heat).test = s.test ∧ (State.captureBuoy s kind slot heat).rw = s.rw ∧
    (State.captureBuoy s kind slot heat).wc2 = s.wc2 ∧ (State.captureBuoy s kind slot heat).flash = s.flash ∧
    (State.captureBuoy s kind slot heat).lp5 = s.lp5 ∧ (State.captureBuoy s kind slot heat).pending = s.pending := by
  unfold State.captureBuoy
  first
  | (simp; done)
  | ((repeat' split) <;> simp; done)
  | (simp only []; (repeat' split) <;> simp; done)

@[simp] theorem State.resumeBuoy_parts (s : State) (heat : DWord) :
    (State.resumeBuoy s heat).sys = s.sys ∧ (State.resumeBuoy s heat).pwr = s.pwr ∧
    (State.resumeBuoy s heat).fuse = s.fuse ∧ (State.resumeBuoy s heat).bist = s.bist ∧
    (State.resumeBuoy s heat).integ = s.integ ∧ (State.resumeBuoy s heat).heat = s.heat ∧
    (State.resumeBuoy s heat).ld = s.ld ∧ (State.resumeBuoy s heat).tray = s.tray ∧
    (State.resumeBuoy s heat).prb = s.prb ∧ (State.resumeBuoy s heat).creg = s.creg ∧
    (State.resumeBuoy s heat).sns = s.sns ∧ (State.resumeBuoy s heat).tb = s.tb ∧
    (State.resumeBuoy s heat).ptp = s.ptp ∧ (State.resumeBuoy s heat).tt = s.tt ∧
    (State.resumeBuoy s heat).ttrc = s.ttrc ∧ (State.resumeBuoy s heat).cmp = s.cmp ∧
    (State.resumeBuoy s heat).scn = s.scn ∧ (State.resumeBuoy s heat).led = s.led ∧
    (State.resumeBuoy s heat).fpc = s.fpc ∧ (State.resumeBuoy s heat).red = s.red ∧
    (State.resumeBuoy s heat).inr = s.inr ∧ (State.resumeBuoy s heat).te = s.te ∧
    (State.resumeBuoy s heat).ump = s.ump ∧ (State.resumeBuoy s heat).tly = s.tly ∧
    (State.resumeBuoy s heat).ul = s.ul ∧ (State.resumeBuoy s heat).nb = s.nb ∧
    (State.resumeBuoy s heat).roles = s.roles ∧ (State.resumeBuoy s heat).evr = s.evr ∧
    (State.resumeBuoy s heat).test = s.test ∧ (State.resumeBuoy s heat).rw = s.rw ∧
    (State.resumeBuoy s heat).wc2 = s.wc2 ∧ (State.resumeBuoy s heat).flash = s.flash ∧
    (State.resumeBuoy s heat).lp5 = s.lp5 ∧ (State.resumeBuoy s heat).pending = s.pending := by
  unfold State.resumeBuoy
  first
  | (simp; done)
  | ((repeat' split) <;> simp; done)
  | (simp only []; (repeat' split) <;> simp; done)

@[simp] theorem State.buoy_parts (s : State) (kind : Nat) (slot : BitVec 23) (heat : DWord) :
    (State.buoy s kind slot heat).sys = s.sys ∧ (State.buoy s kind slot heat).pwr = s.pwr ∧
    (State.buoy s kind slot heat).fuse = s.fuse ∧ (State.buoy s kind slot heat).bist = s.bist ∧
    (State.buoy s kind slot heat).integ = s.integ ∧ (State.buoy s kind slot heat).heat = s.heat ∧
    (State.buoy s kind slot heat).ld = s.ld ∧ (State.buoy s kind slot heat).tray = s.tray ∧
    (State.buoy s kind slot heat).prb = s.prb ∧ (State.buoy s kind slot heat).creg = s.creg ∧
    (State.buoy s kind slot heat).sns = s.sns ∧ (State.buoy s kind slot heat).tb = s.tb ∧
    (State.buoy s kind slot heat).ptp = s.ptp ∧ (State.buoy s kind slot heat).tt = s.tt ∧
    (State.buoy s kind slot heat).ttrc = s.ttrc ∧ (State.buoy s kind slot heat).cmp = s.cmp ∧
    (State.buoy s kind slot heat).scn = s.scn ∧ (State.buoy s kind slot heat).led = s.led ∧
    (State.buoy s kind slot heat).fpc = s.fpc ∧ (State.buoy s kind slot heat).red = s.red ∧
    (State.buoy s kind slot heat).inr = s.inr ∧ (State.buoy s kind slot heat).te = s.te ∧
    (State.buoy s kind slot heat).ump = s.ump ∧ (State.buoy s kind slot heat).tly = s.tly ∧
    (State.buoy s kind slot heat).ul = s.ul ∧ (State.buoy s kind slot heat).nb = s.nb ∧
    (State.buoy s kind slot heat).roles = s.roles ∧ (State.buoy s kind slot heat).evr = s.evr ∧
    (State.buoy s kind slot heat).test = s.test ∧ (State.buoy s kind slot heat).rw = s.rw ∧
    (State.buoy s kind slot heat).wc2 = s.wc2 ∧ (State.buoy s kind slot heat).flash = s.flash ∧
    (State.buoy s kind slot heat).lp5 = s.lp5 ∧ (State.buoy s kind slot heat).pending = s.pending := by
  unfold State.buoy
  first
  | (simp; done)
  | ((repeat' split) <;> simp; done)
  | (simp only []; (repeat' split) <;> simp; done)

@[simp] theorem State.later_parts (s : State) :
    (State.later s).pwr = s.pwr ∧ (State.later s).fuse = s.fuse ∧ (State.later s).bist = s.bist ∧
    (State.later s).integ = s.integ ∧ (State.later s).heat = s.heat ∧ (State.later s).ld = s.ld ∧
    (State.later s).tray = s.tray ∧ (State.later s).prb = s.prb ∧ (State.later s).creg = s.creg ∧
    (State.later s).sns = s.sns ∧ (State.later s).tb = s.tb ∧ (State.later s).ptp = s.ptp ∧
    (State.later s).tt = s.tt ∧ (State.later s).ttrc = s.ttrc ∧ (State.later s).cmp = s.cmp ∧
    (State.later s).scn = s.scn ∧ (State.later s).led = s.led ∧ (State.later s).fpc = s.fpc ∧
    (State.later s).red = s.red ∧ (State.later s).inr = s.inr ∧ (State.later s).te = s.te ∧
    (State.later s).ump = s.ump ∧ (State.later s).tly = s.tly ∧ (State.later s).ul = s.ul ∧
    (State.later s).nb = s.nb ∧ (State.later s).roles = s.roles ∧ (State.later s).evr = s.evr ∧
    (State.later s).test = s.test ∧ (State.later s).rw = s.rw ∧ (State.later s).wc2 = s.wc2 ∧
    (State.later s).flash = s.flash ∧ (State.later s).lp5 = s.lp5 ∧ (State.later s).pending = s.pending ∧
    (State.later s).sys.build = s.sys.build ∧ (State.later s).sys.aonHeld = s.sys.aonHeld ∧
    (State.later s).sys.rstHeld = s.sys.rstHeld ∧ (State.later s).sys.corePg = s.sys.corePg ∧
    (State.later s).sys.pgRose = s.sys.pgRose ∧ (State.later s).sys.firstRelease = s.sys.firstRelease ∧
    (State.later s).sys.strapErr = s.sys.strapErr ∧ (State.later s).sys.x2 = s.sys.x2 ∧
    (State.later s).sys.pkg = s.sys.pkg ∧ (State.later s).sys.die = s.sys.die ∧
    (State.later s).sys.lp5Grade = s.sys.lp5Grade ∧ (State.later s).sys.phase = s.sys.phase ∧
    (State.later s).sys.powerup = s.sys.powerup ∧ (State.later s).sys.pht = s.sys.pht ∧
    (State.later s).sys.resetCount = s.sys.resetCount ∧ (State.later s).sys.tray = s.sys.tray ∧
    (State.later s).sys.trayValid = s.sys.trayValid ∧ (State.later s).sys.sfdpDone = s.sys.sfdpDone ∧
    (State.later s).sys.scanDone = s.sys.scanDone ∧ (State.later s).sys.lp5Done = s.sys.lp5Done := by
  unfold State.later
  first
  | (simp; done)
  | ((repeat' split) <;> simp; done)
  | (simp only []; (repeat' split) <;> simp; done)

@[simp] theorem State.laterTo_parts (s : State) (ofs : BitVec 11) :
    (State.laterTo s ofs).sys = s.sys ∧ (State.laterTo s ofs).pwr = s.pwr ∧ (State.laterTo s ofs).fuse = s.fuse ∧
    (State.laterTo s ofs).bist = s.bist ∧ (State.laterTo s ofs).integ = s.integ ∧
    (State.laterTo s ofs).heat = s.heat ∧ (State.laterTo s ofs).ld = s.ld ∧ (State.laterTo s ofs).tray = s.tray ∧
    (State.laterTo s ofs).prb = s.prb ∧ (State.laterTo s ofs).creg = s.creg ∧ (State.laterTo s ofs).sns = s.sns ∧
    (State.laterTo s ofs).tb = s.tb ∧ (State.laterTo s ofs).ptp = s.ptp ∧ (State.laterTo s ofs).tt = s.tt ∧
    (State.laterTo s ofs).ttrc = s.ttrc ∧ (State.laterTo s ofs).cmp = s.cmp ∧ (State.laterTo s ofs).scn = s.scn ∧
    (State.laterTo s ofs).led = s.led ∧ (State.laterTo s ofs).fpc = s.fpc ∧ (State.laterTo s ofs).red = s.red ∧
    (State.laterTo s ofs).inr = s.inr ∧ (State.laterTo s ofs).te = s.te ∧ (State.laterTo s ofs).ump = s.ump ∧
    (State.laterTo s ofs).tly = s.tly ∧ (State.laterTo s ofs).ul = s.ul ∧ (State.laterTo s ofs).nb = s.nb ∧
    (State.laterTo s ofs).roles = s.roles ∧ (State.laterTo s ofs).evr = s.evr ∧
    (State.laterTo s ofs).test = s.test ∧ (State.laterTo s ofs).rw = s.rw ∧ (State.laterTo s ofs).wc2 = s.wc2 ∧
    (State.laterTo s ofs).flash = s.flash ∧ (State.laterTo s ofs).lp5 = s.lp5 ∧
    (State.laterTo s ofs).pending = s.pending := by
  unfold State.laterTo
  first
  | (simp; done)
  | ((repeat' split) <;> simp; done)
  | (simp only []; (repeat' split) <;> simp; done)

@[simp] theorem State.capReady_parts (s : State) :
    (State.capReady s).sys = s.sys ∧ (State.capReady s).pwr = s.pwr ∧ (State.capReady s).fuse = s.fuse ∧
    (State.capReady s).bist = s.bist ∧ (State.capReady s).integ = s.integ ∧ (State.capReady s).heat = s.heat ∧
    (State.capReady s).ld = s.ld ∧ (State.capReady s).tray = s.tray ∧ (State.capReady s).prb = s.prb ∧
    (State.capReady s).creg = s.creg ∧ (State.capReady s).sns = s.sns ∧ (State.capReady s).tb = s.tb ∧
    (State.capReady s).ptp = s.ptp ∧ (State.capReady s).tt = s.tt ∧ (State.capReady s).ttrc = s.ttrc ∧
    (State.capReady s).cmp = s.cmp ∧ (State.capReady s).scn = s.scn ∧ (State.capReady s).led = s.led ∧
    (State.capReady s).fpc = s.fpc ∧ (State.capReady s).red = s.red ∧ (State.capReady s).inr = s.inr ∧
    (State.capReady s).te = s.te ∧ (State.capReady s).ump = s.ump ∧ (State.capReady s).tly = s.tly ∧
    (State.capReady s).ul = s.ul ∧ (State.capReady s).nb = s.nb ∧ (State.capReady s).roles = s.roles ∧
    (State.capReady s).evr = s.evr ∧ (State.capReady s).test = s.test ∧ (State.capReady s).rw = s.rw ∧
    (State.capReady s).wc2 = s.wc2 ∧ (State.capReady s).flash = s.flash ∧ (State.capReady s).lp5 = s.lp5 ∧
    (State.capReady s).pending = s.pending := by
  unfold State.capReady
  first
  | (simp; done)
  | ((repeat' split) <;> simp; done)
  | (simp only []; (repeat' split) <;> simp; done)

@[simp] theorem State.capture_parts (s : State) (word : Nat) :
    (State.capture s word).sys = s.sys ∧ (State.capture s word).pwr = s.pwr ∧
    (State.capture s word).fuse = s.fuse ∧ (State.capture s word).bist = s.bist ∧
    (State.capture s word).integ = s.integ ∧ (State.capture s word).heat = s.heat ∧
    (State.capture s word).ld = s.ld ∧ (State.capture s word).tray = s.tray ∧ (State.capture s word).prb = s.prb ∧
    (State.capture s word).creg = s.creg ∧ (State.capture s word).sns = s.sns ∧ (State.capture s word).tb = s.tb ∧
    (State.capture s word).ptp = s.ptp ∧ (State.capture s word).tt = s.tt ∧ (State.capture s word).ttrc = s.ttrc ∧
    (State.capture s word).cmp = s.cmp ∧ (State.capture s word).scn = s.scn ∧ (State.capture s word).led = s.led ∧
    (State.capture s word).fpc = s.fpc ∧ (State.capture s word).red = s.red ∧ (State.capture s word).inr = s.inr ∧
    (State.capture s word).te = s.te ∧ (State.capture s word).ump = s.ump ∧ (State.capture s word).tly = s.tly ∧
    (State.capture s word).ul = s.ul ∧ (State.capture s word).nb = s.nb ∧ (State.capture s word).roles = s.roles ∧
    (State.capture s word).evr = s.evr ∧ (State.capture s word).test = s.test ∧ (State.capture s word).rw = s.rw ∧
    (State.capture s word).wc2 = s.wc2 ∧ (State.capture s word).flash = s.flash ∧
    (State.capture s word).lp5 = s.lp5 ∧ (State.capture s word).pending = s.pending := by
  unfold State.capture
  first
  | (simp; done)
  | ((repeat' split) <;> simp; done)
  | (simp only []; (repeat' split) <;> simp; done)

@[simp] theorem State.emFeed_parts (s : State) (x : EmInput) :
    (State.emFeed s x).sys = s.sys ∧ (State.emFeed s x).pwr = s.pwr ∧ (State.emFeed s x).fuse = s.fuse ∧
    (State.emFeed s x).bist = s.bist ∧ (State.emFeed s x).integ = s.integ ∧ (State.emFeed s x).heat = s.heat ∧
    (State.emFeed s x).ld = s.ld ∧ (State.emFeed s x).tray = s.tray ∧ (State.emFeed s x).prb = s.prb ∧
    (State.emFeed s x).creg = s.creg ∧ (State.emFeed s x).sns = s.sns ∧ (State.emFeed s x).tb = s.tb ∧
    (State.emFeed s x).ptp = s.ptp ∧ (State.emFeed s x).tt = s.tt ∧ (State.emFeed s x).trc = s.trc ∧
    (State.emFeed s x).cmp = s.cmp ∧ (State.emFeed s x).scn = s.scn ∧ (State.emFeed s x).led = s.led ∧
    (State.emFeed s x).fpc = s.fpc ∧ (State.emFeed s x).red = s.red ∧ (State.emFeed s x).inr = s.inr ∧
    (State.emFeed s x).te = s.te ∧ (State.emFeed s x).ump = s.ump ∧ (State.emFeed s x).tly = s.tly ∧
    (State.emFeed s x).ul = s.ul ∧ (State.emFeed s x).nb = s.nb ∧ (State.emFeed s x).roles = s.roles ∧
    (State.emFeed s x).evr = s.evr ∧ (State.emFeed s x).test = s.test ∧ (State.emFeed s x).rw = s.rw ∧
    (State.emFeed s x).wc2 = s.wc2 ∧ (State.emFeed s x).flash = s.flash ∧ (State.emFeed s x).lp5 = s.lp5 ∧
    (State.emFeed s x).pending = s.pending := by
  unfold State.emFeed
  first
  | (simp; done)
  | ((repeat' split) <;> simp; done)
  | (simp only []; (repeat' split) <;> simp; done)

@[simp] theorem State.internalNow_parts (s : State) (code : Nat) (data : List Byte) :
    (State.internalNow s code data).sys = s.sys ∧ (State.internalNow s code data).pwr = s.pwr ∧
    (State.internalNow s code data).fuse = s.fuse ∧ (State.internalNow s code data).bist = s.bist ∧
    (State.internalNow s code data).integ = s.integ ∧ (State.internalNow s code data).heat = s.heat ∧
    (State.internalNow s code data).ld = s.ld ∧ (State.internalNow s code data).tray = s.tray ∧
    (State.internalNow s code data).prb = s.prb ∧ (State.internalNow s code data).creg = s.creg ∧
    (State.internalNow s code data).sns = s.sns ∧ (State.internalNow s code data).tb = s.tb ∧
    (State.internalNow s code data).ptp = s.ptp ∧ (State.internalNow s code data).tt = s.tt ∧
    (State.internalNow s code data).cmp = s.cmp ∧ (State.internalNow s code data).scn = s.scn ∧
    (State.internalNow s code data).led = s.led ∧ (State.internalNow s code data).fpc = s.fpc ∧
    (State.internalNow s code data).red = s.red ∧ (State.internalNow s code data).inr = s.inr ∧
    (State.internalNow s code data).te = s.te ∧ (State.internalNow s code data).ump = s.ump ∧
    (State.internalNow s code data).tly = s.tly ∧ (State.internalNow s code data).ul = s.ul ∧
    (State.internalNow s code data).nb = s.nb ∧ (State.internalNow s code data).roles = s.roles ∧
    (State.internalNow s code data).evr = s.evr ∧ (State.internalNow s code data).test = s.test ∧
    (State.internalNow s code data).rw = s.rw ∧ (State.internalNow s code data).wc2 = s.wc2 ∧
    (State.internalNow s code data).flash = s.flash ∧ (State.internalNow s code data).lp5 = s.lp5 ∧
    (State.internalNow s code data).pending = s.pending := by
  unfold State.internalNow
  first
  | (simp; done)
  | ((repeat' split) <;> simp; done)
  | (simp only []; (repeat' split) <;> simp; done)

@[simp] theorem State.internal_parts (s : State) (code : Nat) (data : List Byte) :
    (State.internal s code data).pwr = s.pwr ∧ (State.internal s code data).fuse = s.fuse ∧
    (State.internal s code data).bist = s.bist ∧ (State.internal s code data).integ = s.integ ∧
    (State.internal s code data).heat = s.heat ∧ (State.internal s code data).ld = s.ld ∧
    (State.internal s code data).tray = s.tray ∧ (State.internal s code data).prb = s.prb ∧
    (State.internal s code data).creg = s.creg ∧ (State.internal s code data).sns = s.sns ∧
    (State.internal s code data).tb = s.tb ∧ (State.internal s code data).ptp = s.ptp ∧
    (State.internal s code data).tt = s.tt ∧ (State.internal s code data).cmp = s.cmp ∧
    (State.internal s code data).scn = s.scn ∧ (State.internal s code data).led = s.led ∧
    (State.internal s code data).fpc = s.fpc ∧ (State.internal s code data).red = s.red ∧
    (State.internal s code data).inr = s.inr ∧ (State.internal s code data).te = s.te ∧
    (State.internal s code data).ump = s.ump ∧ (State.internal s code data).tly = s.tly ∧
    (State.internal s code data).ul = s.ul ∧ (State.internal s code data).nb = s.nb ∧
    (State.internal s code data).roles = s.roles ∧ (State.internal s code data).evr = s.evr ∧
    (State.internal s code data).test = s.test ∧ (State.internal s code data).rw = s.rw ∧
    (State.internal s code data).wc2 = s.wc2 ∧ (State.internal s code data).flash = s.flash ∧
    (State.internal s code data).lp5 = s.lp5 ∧ (State.internal s code data).pending = s.pending ∧
    (State.internal s code data).sys.build = s.sys.build ∧
    (State.internal s code data).sys.aonHeld = s.sys.aonHeld ∧
    (State.internal s code data).sys.rstHeld = s.sys.rstHeld ∧
    (State.internal s code data).sys.corePg = s.sys.corePg ∧
    (State.internal s code data).sys.pgRose = s.sys.pgRose ∧
    (State.internal s code data).sys.firstRelease = s.sys.firstRelease ∧
    (State.internal s code data).sys.strapErr = s.sys.strapErr ∧ (State.internal s code data).sys.x2 = s.sys.x2 ∧
    (State.internal s code data).sys.pkg = s.sys.pkg ∧ (State.internal s code data).sys.die = s.sys.die ∧
    (State.internal s code data).sys.lp5Grade = s.sys.lp5Grade ∧
    (State.internal s code data).sys.phase = s.sys.phase ∧
    (State.internal s code data).sys.powerup = s.sys.powerup ∧ (State.internal s code data).sys.pht = s.sys.pht ∧
    (State.internal s code data).sys.resetCount = s.sys.resetCount ∧
    (State.internal s code data).sys.tray = s.sys.tray ∧
    (State.internal s code data).sys.trayValid = s.sys.trayValid ∧
    (State.internal s code data).sys.sfdpDone = s.sys.sfdpDone ∧
    (State.internal s code data).sys.scanDone = s.sys.scanDone ∧
    (State.internal s code data).sys.lp5Done = s.sys.lp5Done := by
  unfold State.internal
  first
  | (simp; done)
  | ((repeat' split) <;> simp; done)
  | (simp only []; (repeat' split) <;> simp; done)

@[simp] theorem State.setLink_parts (s : State) (k : Nat) (l : Link) :
    (State.setLink s k l).sys = s.sys ∧ (State.setLink s k l).pwr = s.pwr ∧ (State.setLink s k l).fuse = s.fuse ∧
    (State.setLink s k l).bist = s.bist ∧ (State.setLink s k l).integ = s.integ ∧
    (State.setLink s k l).heat = s.heat ∧ (State.setLink s k l).ld = s.ld ∧ (State.setLink s k l).tray = s.tray ∧
    (State.setLink s k l).prb = s.prb ∧ (State.setLink s k l).creg = s.creg ∧ (State.setLink s k l).sns = s.sns ∧
    (State.setLink s k l).tb = s.tb ∧ (State.setLink s k l).ptp = s.ptp ∧ (State.setLink s k l).tt = s.tt ∧
    (State.setLink s k l).trc = s.trc ∧ (State.setLink s k l).ttrc = s.ttrc ∧ (State.setLink s k l).cmp = s.cmp ∧
    (State.setLink s k l).scn = s.scn ∧ (State.setLink s k l).led = s.led ∧ (State.setLink s k l).fpc = s.fpc ∧
    (State.setLink s k l).red = s.red ∧ (State.setLink s k l).inr = s.inr ∧ (State.setLink s k l).te = s.te ∧
    (State.setLink s k l).ump = s.ump ∧ (State.setLink s k l).tly = s.tly ∧ (State.setLink s k l).nb = s.nb ∧
    (State.setLink s k l).roles = s.roles ∧ (State.setLink s k l).evr = s.evr ∧
    (State.setLink s k l).test = s.test ∧ (State.setLink s k l).rw = s.rw ∧ (State.setLink s k l).wc2 = s.wc2 ∧
    (State.setLink s k l).flash = s.flash ∧ (State.setLink s k l).lp5 = s.lp5 ∧
    (State.setLink s k l).pending = s.pending := by
  unfold State.setLink
  first
  | (simp; done)
  | ((repeat' split) <;> simp; done)
  | (simp only []; (repeat' split) <;> simp; done)

@[simp] theorem State.send_parts (s : State) (k v mtype : Nat) (body : List Byte) :
    (State.send s k v mtype body).sys = s.sys ∧ (State.send s k v mtype body).pwr = s.pwr ∧
    (State.send s k v mtype body).fuse = s.fuse ∧ (State.send s k v mtype body).bist = s.bist ∧
    (State.send s k v mtype body).integ = s.integ ∧ (State.send s k v mtype body).heat = s.heat ∧
    (State.send s k v mtype body).ld = s.ld ∧ (State.send s k v mtype body).tray = s.tray ∧
    (State.send s k v mtype body).prb = s.prb ∧ (State.send s k v mtype body).creg = s.creg ∧
    (State.send s k v mtype body).sns = s.sns ∧ (State.send s k v mtype body).tb = s.tb ∧
    (State.send s k v mtype body).ptp = s.ptp ∧ (State.send s k v mtype body).tt = s.tt ∧
    (State.send s k v mtype body).trc = s.trc ∧ (State.send s k v mtype body).ttrc = s.ttrc ∧
    (State.send s k v mtype body).cmp = s.cmp ∧ (State.send s k v mtype body).scn = s.scn ∧
    (State.send s k v mtype body).led = s.led ∧ (State.send s k v mtype body).fpc = s.fpc ∧
    (State.send s k v mtype body).red = s.red ∧ (State.send s k v mtype body).inr = s.inr ∧
    (State.send s k v mtype body).te = s.te ∧ (State.send s k v mtype body).ump = s.ump ∧
    (State.send s k v mtype body).tly = s.tly ∧ (State.send s k v mtype body).nb = s.nb ∧
    (State.send s k v mtype body).roles = s.roles ∧ (State.send s k v mtype body).evr = s.evr ∧
    (State.send s k v mtype body).test = s.test ∧ (State.send s k v mtype body).rw = s.rw ∧
    (State.send s k v mtype body).wc2 = s.wc2 ∧ (State.send s k v mtype body).flash = s.flash ∧
    (State.send s k v mtype body).lp5 = s.lp5 ∧ (State.send s k v mtype body).pending = s.pending := by
  unfold State.send
  first
  | (simp; done)
  | ((repeat' split) <;> simp; done)
  | (simp only []; (repeat' split) <;> simp; done)

@[simp] theorem State.insert_parts (s : State) (k mtype : Nat) (body : List Byte) :
    (State.insert s k mtype body).sys = s.sys ∧ (State.insert s k mtype body).pwr = s.pwr ∧
    (State.insert s k mtype body).fuse = s.fuse ∧ (State.insert s k mtype body).bist = s.bist ∧
    (State.insert s k mtype body).integ = s.integ ∧ (State.insert s k mtype body).heat = s.heat ∧
    (State.insert s k mtype body).ld = s.ld ∧ (State.insert s k mtype body).tray = s.tray ∧
    (State.insert s k mtype body).prb = s.prb ∧ (State.insert s k mtype body).creg = s.creg ∧
    (State.insert s k mtype body).sns = s.sns ∧ (State.insert s k mtype body).tb = s.tb ∧
    (State.insert s k mtype body).ptp = s.ptp ∧ (State.insert s k mtype body).tt = s.tt ∧
    (State.insert s k mtype body).trc = s.trc ∧ (State.insert s k mtype body).ttrc = s.ttrc ∧
    (State.insert s k mtype body).cmp = s.cmp ∧ (State.insert s k mtype body).scn = s.scn ∧
    (State.insert s k mtype body).led = s.led ∧ (State.insert s k mtype body).fpc = s.fpc ∧
    (State.insert s k mtype body).red = s.red ∧ (State.insert s k mtype body).inr = s.inr ∧
    (State.insert s k mtype body).te = s.te ∧ (State.insert s k mtype body).ump = s.ump ∧
    (State.insert s k mtype body).tly = s.tly ∧ (State.insert s k mtype body).nb = s.nb ∧
    (State.insert s k mtype body).roles = s.roles ∧ (State.insert s k mtype body).evr = s.evr ∧
    (State.insert s k mtype body).test = s.test ∧ (State.insert s k mtype body).rw = s.rw ∧
    (State.insert s k mtype body).wc2 = s.wc2 ∧ (State.insert s k mtype body).flash = s.flash ∧
    (State.insert s k mtype body).lp5 = s.lp5 ∧ (State.insert s k mtype body).pending = s.pending := by
  unfold State.insert
  first
  | (simp; done)
  | ((repeat' split) <;> simp; done)
  | (simp only []; (repeat' split) <;> simp; done)

@[simp] theorem State.eventQuiet_parts (s : State) (q : RecIn) :
    (State.eventQuiet s q).pwr = s.pwr ∧ (State.eventQuiet s q).fuse = s.fuse ∧
    (State.eventQuiet s q).bist = s.bist ∧ (State.eventQuiet s q).integ = s.integ ∧
    (State.eventQuiet s q).heat = s.heat ∧ (State.eventQuiet s q).ld = s.ld ∧
    (State.eventQuiet s q).tray = s.tray ∧ (State.eventQuiet s q).prb = s.prb ∧
    (State.eventQuiet s q).creg = s.creg ∧ (State.eventQuiet s q).sns = s.sns ∧ (State.eventQuiet s q).tb = s.tb ∧
    (State.eventQuiet s q).ptp = s.ptp ∧ (State.eventQuiet s q).tt = s.tt ∧ (State.eventQuiet s q).cmp = s.cmp ∧
    (State.eventQuiet s q).scn = s.scn ∧ (State.eventQuiet s q).led = s.led ∧ (State.eventQuiet s q).fpc = s.fpc ∧
    (State.eventQuiet s q).red = s.red ∧ (State.eventQuiet s q).inr = s.inr ∧ (State.eventQuiet s q).te = s.te ∧
    (State.eventQuiet s q).ump = s.ump ∧ (State.eventQuiet s q).tly = s.tly ∧ (State.eventQuiet s q).ul = s.ul ∧
    (State.eventQuiet s q).nb = s.nb ∧ (State.eventQuiet s q).roles = s.roles ∧
    (State.eventQuiet s q).test = s.test ∧ (State.eventQuiet s q).rw = s.rw ∧ (State.eventQuiet s q).wc2 = s.wc2 ∧
    (State.eventQuiet s q).flash = s.flash ∧ (State.eventQuiet s q).lp5 = s.lp5 ∧
    (State.eventQuiet s q).pending = s.pending ∧ (State.eventQuiet s q).sys.build = s.sys.build ∧
    (State.eventQuiet s q).sys.aonHeld = s.sys.aonHeld ∧ (State.eventQuiet s q).sys.rstHeld = s.sys.rstHeld ∧
    (State.eventQuiet s q).sys.corePg = s.sys.corePg ∧ (State.eventQuiet s q).sys.pgRose = s.sys.pgRose ∧
    (State.eventQuiet s q).sys.firstRelease = s.sys.firstRelease ∧
    (State.eventQuiet s q).sys.strapErr = s.sys.strapErr ∧ (State.eventQuiet s q).sys.x2 = s.sys.x2 ∧
    (State.eventQuiet s q).sys.pkg = s.sys.pkg ∧ (State.eventQuiet s q).sys.die = s.sys.die ∧
    (State.eventQuiet s q).sys.lp5Grade = s.sys.lp5Grade ∧ (State.eventQuiet s q).sys.phase = s.sys.phase ∧
    (State.eventQuiet s q).sys.powerup = s.sys.powerup ∧ (State.eventQuiet s q).sys.pht = s.sys.pht ∧
    (State.eventQuiet s q).sys.resetCount = s.sys.resetCount ∧ (State.eventQuiet s q).sys.tray = s.sys.tray ∧
    (State.eventQuiet s q).sys.trayValid = s.sys.trayValid ∧ (State.eventQuiet s q).sys.sfdpDone = s.sys.sfdpDone ∧
    (State.eventQuiet s q).sys.scanDone = s.sys.scanDone ∧ (State.eventQuiet s q).sys.lp5Done = s.sys.lp5Done := by
  unfold State.eventQuiet
  first
  | (simp; done)
  | ((repeat' split) <;> simp; done)
  | (simp only []; (repeat' split) <;> simp; done)

/-- The trigger leaves alone what the packets and records of its cycle leave alone. -/
theorem State.fireWith_parts (s : State) (src : Nat) (more : State → State)
    (h : ∀ t, (more t).sys = t.sys ∧ (more t).pwr = t.pwr ∧ (more t).fuse = t.fuse ∧ (more t).bist = t.bist ∧
    (more t).integ = t.integ ∧ (more t).heat = t.heat ∧ (more t).ld = t.ld ∧ (more t).tray = t.tray ∧
    (more t).prb = t.prb ∧ (more t).creg = t.creg ∧ (more t).sns = t.sns ∧ (more t).tb = t.tb ∧
    (more t).ptp = t.ptp ∧ (more t).tt = t.tt ∧ (more t).cmp = t.cmp ∧ (more t).scn = t.scn ∧
    (more t).led = t.led ∧ (more t).fpc = t.fpc ∧ (more t).red = t.red ∧ (more t).inr = t.inr ∧
    (more t).te = t.te ∧ (more t).ump = t.ump ∧ (more t).tly = t.tly ∧ (more t).nb = t.nb ∧
    (more t).roles = t.roles ∧ (more t).test = t.test ∧ (more t).rw = t.rw ∧ (more t).wc2 = t.wc2 ∧
    (more t).flash = t.flash ∧ (more t).lp5 = t.lp5 ∧ (more t).pending = t.pending) :
    (State.fireWith s src more).sys = s.sys ∧ (State.fireWith s src more).pwr = s.pwr ∧
    (State.fireWith s src more).fuse = s.fuse ∧ (State.fireWith s src more).bist = s.bist ∧
    (State.fireWith s src more).integ = s.integ ∧ (State.fireWith s src more).heat = s.heat ∧
    (State.fireWith s src more).ld = s.ld ∧ (State.fireWith s src more).tray = s.tray ∧
    (State.fireWith s src more).prb = s.prb ∧ (State.fireWith s src more).creg = s.creg ∧
    (State.fireWith s src more).sns = s.sns ∧ (State.fireWith s src more).tb = s.tb ∧
    (State.fireWith s src more).ptp = s.ptp ∧ (State.fireWith s src more).tt = s.tt ∧
    (State.fireWith s src more).cmp = s.cmp ∧ (State.fireWith s src more).scn = s.scn ∧
    (State.fireWith s src more).led = s.led ∧ (State.fireWith s src more).fpc = s.fpc ∧
    (State.fireWith s src more).red = s.red ∧ (State.fireWith s src more).inr = s.inr ∧
    (State.fireWith s src more).te = s.te ∧ (State.fireWith s src more).ump = s.ump ∧
    (State.fireWith s src more).tly = s.tly ∧ (State.fireWith s src more).nb = s.nb ∧
    (State.fireWith s src more).roles = s.roles ∧ (State.fireWith s src more).test = s.test ∧
    (State.fireWith s src more).rw = s.rw ∧ (State.fireWith s src more).wc2 = s.wc2 ∧
    (State.fireWith s src more).flash = s.flash ∧ (State.fireWith s src more).lp5 = s.lp5 ∧
    (State.fireWith s src more).pending = s.pending := by
  unfold State.fireWith
  simp only []
  split <;> simp [h]

@[simp] theorem State.fire_parts (s : State) (src : Nat) :
    (State.fire s src).sys = s.sys ∧ (State.fire s src).pwr = s.pwr ∧ (State.fire s src).fuse = s.fuse ∧
    (State.fire s src).bist = s.bist ∧ (State.fire s src).integ = s.integ ∧ (State.fire s src).heat = s.heat ∧
    (State.fire s src).ld = s.ld ∧ (State.fire s src).tray = s.tray ∧ (State.fire s src).prb = s.prb ∧
    (State.fire s src).creg = s.creg ∧ (State.fire s src).sns = s.sns ∧ (State.fire s src).tb = s.tb ∧
    (State.fire s src).ptp = s.ptp ∧ (State.fire s src).tt = s.tt ∧ (State.fire s src).cmp = s.cmp ∧
    (State.fire s src).scn = s.scn ∧ (State.fire s src).led = s.led ∧ (State.fire s src).fpc = s.fpc ∧
    (State.fire s src).red = s.red ∧ (State.fire s src).inr = s.inr ∧ (State.fire s src).te = s.te ∧
    (State.fire s src).ump = s.ump ∧ (State.fire s src).tly = s.tly ∧ (State.fire s src).nb = s.nb ∧
    (State.fire s src).roles = s.roles ∧ (State.fire s src).test = s.test ∧ (State.fire s src).rw = s.rw ∧
    (State.fire s src).wc2 = s.wc2 ∧ (State.fire s src).flash = s.flash ∧ (State.fire s src).lp5 = s.lp5 ∧
    (State.fire s src).pending = s.pending := by
  exact State.fireWith_parts s src id fun t => by simp

@[simp] theorem State.happen_parts (s : State) (q : RecIn) :
    (State.happen s q).pwr = s.pwr ∧ (State.happen s q).fuse = s.fuse ∧ (State.happen s q).bist = s.bist ∧
    (State.happen s q).integ = s.integ ∧ (State.happen s q).heat = s.heat ∧ (State.happen s q).ld = s.ld ∧
    (State.happen s q).tray = s.tray ∧ (State.happen s q).prb = s.prb ∧ (State.happen s q).creg = s.creg ∧
    (State.happen s q).sns = s.sns ∧ (State.happen s q).tb = s.tb ∧ (State.happen s q).ptp = s.ptp ∧
    (State.happen s q).tt = s.tt ∧ (State.happen s q).cmp = s.cmp ∧ (State.happen s q).scn = s.scn ∧
    (State.happen s q).led = s.led ∧ (State.happen s q).fpc = s.fpc ∧ (State.happen s q).red = s.red ∧
    (State.happen s q).inr = s.inr ∧ (State.happen s q).te = s.te ∧ (State.happen s q).ump = s.ump ∧
    (State.happen s q).tly = s.tly ∧ (State.happen s q).nb = s.nb ∧ (State.happen s q).roles = s.roles ∧
    (State.happen s q).test = s.test ∧ (State.happen s q).rw = s.rw ∧ (State.happen s q).wc2 = s.wc2 ∧
    (State.happen s q).flash = s.flash ∧ (State.happen s q).lp5 = s.lp5 ∧ (State.happen s q).pending = s.pending ∧
    (State.happen s q).sys.build = s.sys.build ∧ (State.happen s q).sys.aonHeld = s.sys.aonHeld ∧
    (State.happen s q).sys.rstHeld = s.sys.rstHeld ∧ (State.happen s q).sys.corePg = s.sys.corePg ∧
    (State.happen s q).sys.pgRose = s.sys.pgRose ∧ (State.happen s q).sys.firstRelease = s.sys.firstRelease ∧
    (State.happen s q).sys.strapErr = s.sys.strapErr ∧ (State.happen s q).sys.x2 = s.sys.x2 ∧
    (State.happen s q).sys.pkg = s.sys.pkg ∧ (State.happen s q).sys.die = s.sys.die ∧
    (State.happen s q).sys.lp5Grade = s.sys.lp5Grade ∧ (State.happen s q).sys.phase = s.sys.phase ∧
    (State.happen s q).sys.powerup = s.sys.powerup ∧ (State.happen s q).sys.pht = s.sys.pht ∧
    (State.happen s q).sys.resetCount = s.sys.resetCount ∧ (State.happen s q).sys.tray = s.sys.tray ∧
    (State.happen s q).sys.trayValid = s.sys.trayValid ∧ (State.happen s q).sys.sfdpDone = s.sys.sfdpDone ∧
    (State.happen s q).sys.scanDone = s.sys.scanDone ∧ (State.happen s q).sys.lp5Done = s.sys.lp5Done := by
  unfold State.happen
  simp only []
  split
  · simp
  · split
    · simp
    · have h := State.fireWith_parts s 0 (fun t => (t.buffer q).internalNow q.code.toNat q.data) fun t => by simp
      simp [h]

@[simp] theorem State.event_parts (s : State) (code : Nat) (data : List Byte) (role path : Nat) :
    (State.event s code data role path).pwr = s.pwr ∧ (State.event s code data role path).fuse = s.fuse ∧
    (State.event s code data role path).bist = s.bist ∧ (State.event s code data role path).integ = s.integ ∧
    (State.event s code data role path).heat = s.heat ∧ (State.event s code data role path).ld = s.ld ∧
    (State.event s code data role path).tray = s.tray ∧ (State.event s code data role path).prb = s.prb ∧
    (State.event s code data role path).creg = s.creg ∧ (State.event s code data role path).sns = s.sns ∧
    (State.event s code data role path).tb = s.tb ∧ (State.event s code data role path).ptp = s.ptp ∧
    (State.event s code data role path).tt = s.tt ∧ (State.event s code data role path).cmp = s.cmp ∧
    (State.event s code data role path).scn = s.scn ∧ (State.event s code data role path).led = s.led ∧
    (State.event s code data role path).fpc = s.fpc ∧ (State.event s code data role path).red = s.red ∧
    (State.event s code data role path).inr = s.inr ∧ (State.event s code data role path).te = s.te ∧
    (State.event s code data role path).ump = s.ump ∧ (State.event s code data role path).tly = s.tly ∧
    (State.event s code data role path).nb = s.nb ∧ (State.event s code data role path).roles = s.roles ∧
    (State.event s code data role path).test = s.test ∧ (State.event s code data role path).rw = s.rw ∧
    (State.event s code data role path).wc2 = s.wc2 ∧ (State.event s code data role path).flash = s.flash ∧
    (State.event s code data role path).lp5 = s.lp5 ∧ (State.event s code data role path).pending = s.pending ∧
    (State.event s code data role path).sys.build = s.sys.build ∧
    (State.event s code data role path).sys.aonHeld = s.sys.aonHeld ∧
    (State.event s code data role path).sys.rstHeld = s.sys.rstHeld ∧
    (State.event s code data role path).sys.corePg = s.sys.corePg ∧
    (State.event s code data role path).sys.pgRose = s.sys.pgRose ∧
    (State.event s code data role path).sys.firstRelease = s.sys.firstRelease ∧
    (State.event s code data role path).sys.strapErr = s.sys.strapErr ∧
    (State.event s code data role path).sys.x2 = s.sys.x2 ∧
    (State.event s code data role path).sys.pkg = s.sys.pkg ∧
    (State.event s code data role path).sys.die = s.sys.die ∧
    (State.event s code data role path).sys.lp5Grade = s.sys.lp5Grade ∧
    (State.event s code data role path).sys.phase = s.sys.phase ∧
    (State.event s code data role path).sys.powerup = s.sys.powerup ∧
    (State.event s code data role path).sys.pht = s.sys.pht ∧
    (State.event s code data role path).sys.resetCount = s.sys.resetCount ∧
    (State.event s code data role path).sys.tray = s.sys.tray ∧
    (State.event s code data role path).sys.trayValid = s.sys.trayValid ∧
    (State.event s code data role path).sys.sfdpDone = s.sys.sfdpDone ∧
    (State.event s code data role path).sys.scanDone = s.sys.scanDone ∧
    (State.event s code data role path).sys.lp5Done = s.sys.lp5Done := by
  unfold State.event
  first
  | (simp; done)
  | ((repeat' split) <;> simp; done)
  | (simp only []; (repeat' split) <;> simp; done)

@[simp] theorem State.firstOf_parts (s old : State) :
    (State.firstOf s old).sys = s.sys ∧ (State.firstOf s old).pwr = s.pwr ∧ (State.firstOf s old).fuse = s.fuse ∧
    (State.firstOf s old).bist = s.bist ∧ (State.firstOf s old).heat = s.heat ∧ (State.firstOf s old).ld = s.ld ∧
    (State.firstOf s old).tray = s.tray ∧ (State.firstOf s old).prb = s.prb ∧ (State.firstOf s old).creg = s.creg ∧
    (State.firstOf s old).sns = s.sns ∧ (State.firstOf s old).tb = s.tb ∧ (State.firstOf s old).ptp = s.ptp ∧
    (State.firstOf s old).tt = s.tt ∧ (State.firstOf s old).trc = s.trc ∧ (State.firstOf s old).ttrc = s.ttrc ∧
    (State.firstOf s old).cmp = s.cmp ∧ (State.firstOf s old).scn = s.scn ∧ (State.firstOf s old).led = s.led ∧
    (State.firstOf s old).fpc = s.fpc ∧ (State.firstOf s old).red = s.red ∧ (State.firstOf s old).inr = s.inr ∧
    (State.firstOf s old).te = s.te ∧ (State.firstOf s old).ump = s.ump ∧ (State.firstOf s old).tly = s.tly ∧
    (State.firstOf s old).ul = s.ul ∧ (State.firstOf s old).nb = s.nb ∧ (State.firstOf s old).roles = s.roles ∧
    (State.firstOf s old).evr = s.evr ∧ (State.firstOf s old).test = s.test ∧ (State.firstOf s old).rw = s.rw ∧
    (State.firstOf s old).wc2 = s.wc2 ∧ (State.firstOf s old).flash = s.flash ∧ (State.firstOf s old).lp5 = s.lp5 ∧
    (State.firstOf s old).pending = s.pending := by
  unfold State.firstOf
  first
  | (simp; done)
  | ((repeat' split) <;> simp; done)
  | (simp only []; (repeat' split) <;> simp; done)

/-- One cycle leaves `pwr` alone where what happens in it does. -/
@[simp] theorem State.oneCycle_pwr (s : State) (f : State → State) (h : ∀ t, (f t).pwr = t.pwr) :
    (s.oneCycle f).pwr = s.pwr := by
  unfold State.oneCycle
  split <;> simp [h]

/-- One cycle leaves `fuse` alone where what happens in it does. -/
@[simp] theorem State.oneCycle_fuse (s : State) (f : State → State) (h : ∀ t, (f t).fuse = t.fuse) :
    (s.oneCycle f).fuse = s.fuse := by
  unfold State.oneCycle
  split <;> simp [h]

/-- One cycle leaves `bist` alone where what happens in it does. -/
@[simp] theorem State.oneCycle_bist (s : State) (f : State → State) (h : ∀ t, (f t).bist = t.bist) :
    (s.oneCycle f).bist = s.bist := by
  unfold State.oneCycle
  split <;> simp [h]

/-- One cycle leaves `heat` alone where what happens in it does. -/
@[simp] theorem State.oneCycle_heat (s : State) (f : State → State) (h : ∀ t, (f t).heat = t.heat) :
    (s.oneCycle f).heat = s.heat := by
  unfold State.oneCycle
  split <;> simp [h]

/-- One cycle leaves `ld` alone where what happens in it does. -/
@[simp] theorem State.oneCycle_ld (s : State) (f : State → State) (h : ∀ t, (f t).ld = t.ld) :
    (s.oneCycle f).ld = s.ld := by
  unfold State.oneCycle
  split <;> simp [h]

/-- One cycle leaves `tray` alone where what happens in it does. -/
@[simp] theorem State.oneCycle_tray (s : State) (f : State → State) (h : ∀ t, (f t).tray = t.tray) :
    (s.oneCycle f).tray = s.tray := by
  unfold State.oneCycle
  split <;> simp [h]

/-- One cycle leaves `prb` alone where what happens in it does. -/
@[simp] theorem State.oneCycle_prb (s : State) (f : State → State) (h : ∀ t, (f t).prb = t.prb) :
    (s.oneCycle f).prb = s.prb := by
  unfold State.oneCycle
  split <;> simp [h]

/-- One cycle leaves `creg` alone where what happens in it does. -/
@[simp] theorem State.oneCycle_creg (s : State) (f : State → State) (h : ∀ t, (f t).creg = t.creg) :
    (s.oneCycle f).creg = s.creg := by
  unfold State.oneCycle
  split <;> simp [h]

/-- One cycle leaves `sns` alone where what happens in it does. -/
@[simp] theorem State.oneCycle_sns (s : State) (f : State → State) (h : ∀ t, (f t).sns = t.sns) :
    (s.oneCycle f).sns = s.sns := by
  unfold State.oneCycle
  split <;> simp [h]

/-- One cycle leaves `tb` alone where what happens in it does. -/
@[simp] theorem State.oneCycle_tb (s : State) (f : State → State) (h : ∀ t, (f t).tb = t.tb) :
    (s.oneCycle f).tb = s.tb := by
  unfold State.oneCycle
  split <;> simp [h]

/-- One cycle leaves `ptp` alone where what happens in it does. -/
@[simp] theorem State.oneCycle_ptp (s : State) (f : State → State) (h : ∀ t, (f t).ptp = t.ptp) :
    (s.oneCycle f).ptp = s.ptp := by
  unfold State.oneCycle
  split <;> simp [h]

/-- One cycle leaves `tt` alone where what happens in it does. -/
@[simp] theorem State.oneCycle_tt (s : State) (f : State → State) (h : ∀ t, (f t).tt = t.tt) :
    (s.oneCycle f).tt = s.tt := by
  unfold State.oneCycle
  split <;> simp [h]

/-- One cycle leaves `cmp` alone where what happens in it does. -/
@[simp] theorem State.oneCycle_cmp (s : State) (f : State → State) (h : ∀ t, (f t).cmp = t.cmp) :
    (s.oneCycle f).cmp = s.cmp := by
  unfold State.oneCycle
  split <;> simp [h]

/-- One cycle leaves `scn` alone where what happens in it does. -/
@[simp] theorem State.oneCycle_scn (s : State) (f : State → State) (h : ∀ t, (f t).scn = t.scn) :
    (s.oneCycle f).scn = s.scn := by
  unfold State.oneCycle
  split <;> simp [h]

/-- One cycle leaves `led` alone where what happens in it does. -/
@[simp] theorem State.oneCycle_led (s : State) (f : State → State) (h : ∀ t, (f t).led = t.led) :
    (s.oneCycle f).led = s.led := by
  unfold State.oneCycle
  split <;> simp [h]

/-- One cycle leaves `fpc` alone where what happens in it does. -/
@[simp] theorem State.oneCycle_fpc (s : State) (f : State → State) (h : ∀ t, (f t).fpc = t.fpc) :
    (s.oneCycle f).fpc = s.fpc := by
  unfold State.oneCycle
  split <;> simp [h]

/-- One cycle leaves `red` alone where what happens in it does. -/
@[simp] theorem State.oneCycle_red (s : State) (f : State → State) (h : ∀ t, (f t).red = t.red) :
    (s.oneCycle f).red = s.red := by
  unfold State.oneCycle
  split <;> simp [h]

/-- One cycle leaves `inr` alone where what happens in it does. -/
@[simp] theorem State.oneCycle_inr (s : State) (f : State → State) (h : ∀ t, (f t).inr = t.inr) :
    (s.oneCycle f).inr = s.inr := by
  unfold State.oneCycle
  split <;> simp [h]

/-- One cycle leaves `te` alone where what happens in it does. -/
@[simp] theorem State.oneCycle_te (s : State) (f : State → State) (h : ∀ t, (f t).te = t.te) :
    (s.oneCycle f).te = s.te := by
  unfold State.oneCycle
  split <;> simp [h]

/-- One cycle leaves `ump` alone where what happens in it does. -/
@[simp] theorem State.oneCycle_ump (s : State) (f : State → State) (h : ∀ t, (f t).ump = t.ump) :
    (s.oneCycle f).ump = s.ump := by
  unfold State.oneCycle
  split <;> simp [h]

/-- One cycle leaves `tly` alone where what happens in it does. -/
@[simp] theorem State.oneCycle_tly (s : State) (f : State → State) (h : ∀ t, (f t).tly = t.tly) :
    (s.oneCycle f).tly = s.tly := by
  unfold State.oneCycle
  split <;> simp [h]

/-- One cycle leaves `nb` alone where what happens in it does. -/
@[simp] theorem State.oneCycle_nb (s : State) (f : State → State) (h : ∀ t, (f t).nb = t.nb) :
    (s.oneCycle f).nb = s.nb := by
  unfold State.oneCycle
  split <;> simp [h]

/-- One cycle leaves `roles` alone where what happens in it does. -/
@[simp] theorem State.oneCycle_roles (s : State) (f : State → State) (h : ∀ t, (f t).roles = t.roles) :
    (s.oneCycle f).roles = s.roles := by
  unfold State.oneCycle
  split <;> simp [h]

/-- One cycle leaves `test` alone where what happens in it does. -/
@[simp] theorem State.oneCycle_test (s : State) (f : State → State) (h : ∀ t, (f t).test = t.test) :
    (s.oneCycle f).test = s.test := by
  unfold State.oneCycle
  split <;> simp [h]

/-- One cycle leaves `rw` alone where what happens in it does. -/
@[simp] theorem State.oneCycle_rw (s : State) (f : State → State) (h : ∀ t, (f t).rw = t.rw) :
    (s.oneCycle f).rw = s.rw := by
  unfold State.oneCycle
  split <;> simp [h]

/-- One cycle leaves `wc2` alone where what happens in it does. -/
@[simp] theorem State.oneCycle_wc2 (s : State) (f : State → State) (h : ∀ t, (f t).wc2 = t.wc2) :
    (s.oneCycle f).wc2 = s.wc2 := by
  unfold State.oneCycle
  split <;> simp [h]

/-- One cycle leaves `flash` alone where what happens in it does. -/
@[simp] theorem State.oneCycle_flash (s : State) (f : State → State) (h : ∀ t, (f t).flash = t.flash) :
    (s.oneCycle f).flash = s.flash := by
  unfold State.oneCycle
  split <;> simp [h]

/-- One cycle leaves `lp5` alone where what happens in it does. -/
@[simp] theorem State.oneCycle_lp5 (s : State) (f : State → State) (h : ∀ t, (f t).lp5 = t.lp5) :
    (s.oneCycle f).lp5 = s.lp5 := by
  unfold State.oneCycle
  split <;> simp [h]

/-- One cycle leaves `pending` alone where what happens in it does. -/
@[simp] theorem State.oneCycle_pending (s : State) (f : State → State) (h : ∀ t, (f t).pending = t.pending) :
    (s.oneCycle f).pending = s.pending := by
  unfold State.oneCycle
  split <;> simp [h]

/-- One cycle leaves the build alone where what happens in it does. -/
@[simp] theorem State.oneCycle_build (s : State) (f : State → State) (h : ∀ t, (f t).sys.build = t.sys.build) :
    (s.oneCycle f).sys.build = s.sys.build := by
  have hl : ∀ (l : List RecIn) (t : State), (l.foldl State.happen t).sys.build = t.sys.build := by
    intro l
    induction l with
    | nil => simp
    | cons q l ih => intro t; simp [ih]
  unfold State.oneCycle
  split <;> simp [h, hl]

@[simp] theorem State.note_parts (s : State) (code : Nat) (data : List Byte) :
    (State.note s code data).pwr = s.pwr ∧ (State.note s code data).fuse = s.fuse ∧
    (State.note s code data).bist = s.bist ∧ (State.note s code data).integ = s.integ ∧
    (State.note s code data).heat = s.heat ∧ (State.note s code data).ld = s.ld ∧
    (State.note s code data).tray = s.tray ∧ (State.note s code data).prb = s.prb ∧
    (State.note s code data).creg = s.creg ∧ (State.note s code data).sns = s.sns ∧
    (State.note s code data).tb = s.tb ∧ (State.note s code data).ptp = s.ptp ∧
    (State.note s code data).tt = s.tt ∧ (State.note s code data).cmp = s.cmp ∧
    (State.note s code data).scn = s.scn ∧ (State.note s code data).led = s.led ∧
    (State.note s code data).fpc = s.fpc ∧ (State.note s code data).red = s.red ∧
    (State.note s code data).inr = s.inr ∧ (State.note s code data).te = s.te ∧
    (State.note s code data).ump = s.ump ∧ (State.note s code data).tly = s.tly ∧
    (State.note s code data).nb = s.nb ∧ (State.note s code data).roles = s.roles ∧
    (State.note s code data).test = s.test ∧ (State.note s code data).rw = s.rw ∧
    (State.note s code data).wc2 = s.wc2 ∧ (State.note s code data).flash = s.flash ∧
    (State.note s code data).lp5 = s.lp5 ∧ (State.note s code data).pending = s.pending ∧
    (State.note s code data).sys.build = s.sys.build ∧ (State.note s code data).sys.aonHeld = s.sys.aonHeld ∧
    (State.note s code data).sys.rstHeld = s.sys.rstHeld ∧ (State.note s code data).sys.corePg = s.sys.corePg ∧
    (State.note s code data).sys.pgRose = s.sys.pgRose ∧
    (State.note s code data).sys.firstRelease = s.sys.firstRelease ∧
    (State.note s code data).sys.strapErr = s.sys.strapErr ∧ (State.note s code data).sys.x2 = s.sys.x2 ∧
    (State.note s code data).sys.pkg = s.sys.pkg ∧ (State.note s code data).sys.die = s.sys.die ∧
    (State.note s code data).sys.lp5Grade = s.sys.lp5Grade ∧ (State.note s code data).sys.phase = s.sys.phase ∧
    (State.note s code data).sys.powerup = s.sys.powerup ∧ (State.note s code data).sys.pht = s.sys.pht ∧
    (State.note s code data).sys.resetCount = s.sys.resetCount ∧ (State.note s code data).sys.tray = s.sys.tray ∧
    (State.note s code data).sys.trayValid = s.sys.trayValid ∧
    (State.note s code data).sys.sfdpDone = s.sys.sfdpDone ∧
    (State.note s code data).sys.scanDone = s.sys.scanDone ∧
    (State.note s code data).sys.lp5Done = s.sys.lp5Done := by
  unfold State.note
  first
  | (simp; done)
  | ((repeat' split) <;> simp; done)
  | (simp only []; (repeat' split) <;> simp; done)

@[simp] theorem State.memCes_parts (s : State) (m n : Nat) :
    (State.memCes s m n).sys = s.sys ∧ (State.memCes s m n).pwr = s.pwr ∧ (State.memCes s m n).fuse = s.fuse ∧
    (State.memCes s m n).bist = s.bist ∧ (State.memCes s m n).heat = s.heat ∧ (State.memCes s m n).ld = s.ld ∧
    (State.memCes s m n).tray = s.tray ∧ (State.memCes s m n).prb = s.prb ∧ (State.memCes s m n).creg = s.creg ∧
    (State.memCes s m n).sns = s.sns ∧ (State.memCes s m n).tb = s.tb ∧ (State.memCes s m n).ptp = s.ptp ∧
    (State.memCes s m n).tt = s.tt ∧ (State.memCes s m n).trc = s.trc ∧ (State.memCes s m n).ttrc = s.ttrc ∧
    (State.memCes s m n).cmp = s.cmp ∧ (State.memCes s m n).scn = s.scn ∧ (State.memCes s m n).led = s.led ∧
    (State.memCes s m n).fpc = s.fpc ∧ (State.memCes s m n).red = s.red ∧ (State.memCes s m n).inr = s.inr ∧
    (State.memCes s m n).te = s.te ∧ (State.memCes s m n).ump = s.ump ∧ (State.memCes s m n).tly = s.tly ∧
    (State.memCes s m n).ul = s.ul ∧ (State.memCes s m n).nb = s.nb ∧ (State.memCes s m n).roles = s.roles ∧
    (State.memCes s m n).evr = s.evr ∧ (State.memCes s m n).test = s.test ∧ (State.memCes s m n).rw = s.rw ∧
    (State.memCes s m n).wc2 = s.wc2 ∧ (State.memCes s m n).flash = s.flash ∧ (State.memCes s m n).lp5 = s.lp5 ∧
    (State.memCes s m n).pending = s.pending := by
  unfold State.memCes
  first
  | (simp; done)
  | ((repeat' split) <;> simp; done)
  | (simp only []; (repeat' split) <;> simp; done)

@[simp] theorem State.memErr_parts (s : State) (m : Nat) (ue : Bool) (addr : Nat) :
    (State.memErr s m ue addr).pwr = s.pwr ∧ (State.memErr s m ue addr).fuse = s.fuse ∧
    (State.memErr s m ue addr).bist = s.bist ∧ (State.memErr s m ue addr).heat = s.heat ∧
    (State.memErr s m ue addr).ld = s.ld ∧ (State.memErr s m ue addr).tray = s.tray ∧
    (State.memErr s m ue addr).prb = s.prb ∧ (State.memErr s m ue addr).creg = s.creg ∧
    (State.memErr s m ue addr).sns = s.sns ∧ (State.memErr s m ue addr).tb = s.tb ∧
    (State.memErr s m ue addr).ptp = s.ptp ∧ (State.memErr s m ue addr).tt = s.tt ∧
    (State.memErr s m ue addr).cmp = s.cmp ∧ (State.memErr s m ue addr).scn = s.scn ∧
    (State.memErr s m ue addr).led = s.led ∧ (State.memErr s m ue addr).fpc = s.fpc ∧
    (State.memErr s m ue addr).red = s.red ∧ (State.memErr s m ue addr).inr = s.inr ∧
    (State.memErr s m ue addr).te = s.te ∧ (State.memErr s m ue addr).ump = s.ump ∧
    (State.memErr s m ue addr).tly = s.tly ∧ (State.memErr s m ue addr).nb = s.nb ∧
    (State.memErr s m ue addr).roles = s.roles ∧ (State.memErr s m ue addr).test = s.test ∧
    (State.memErr s m ue addr).rw = s.rw ∧ (State.memErr s m ue addr).wc2 = s.wc2 ∧
    (State.memErr s m ue addr).flash = s.flash ∧ (State.memErr s m ue addr).lp5 = s.lp5 ∧
    (State.memErr s m ue addr).pending = s.pending ∧ (State.memErr s m ue addr).sys.build = s.sys.build ∧
    (State.memErr s m ue addr).sys.aonHeld = s.sys.aonHeld ∧
    (State.memErr s m ue addr).sys.rstHeld = s.sys.rstHeld ∧ (State.memErr s m ue addr).sys.corePg = s.sys.corePg ∧
    (State.memErr s m ue addr).sys.pgRose = s.sys.pgRose ∧
    (State.memErr s m ue addr).sys.firstRelease = s.sys.firstRelease ∧
    (State.memErr s m ue addr).sys.strapErr = s.sys.strapErr ∧ (State.memErr s m ue addr).sys.x2 = s.sys.x2 ∧
    (State.memErr s m ue addr).sys.pkg = s.sys.pkg ∧ (State.memErr s m ue addr).sys.die = s.sys.die ∧
    (State.memErr s m ue addr).sys.lp5Grade = s.sys.lp5Grade ∧ (State.memErr s m ue addr).sys.phase = s.sys.phase ∧
    (State.memErr s m ue addr).sys.powerup = s.sys.powerup ∧ (State.memErr s m ue addr).sys.pht = s.sys.pht ∧
    (State.memErr s m ue addr).sys.resetCount = s.sys.resetCount ∧
    (State.memErr s m ue addr).sys.tray = s.sys.tray ∧ (State.memErr s m ue addr).sys.trayValid = s.sys.trayValid ∧
    (State.memErr s m ue addr).sys.sfdpDone = s.sys.sfdpDone ∧
    (State.memErr s m ue addr).sys.scanDone = s.sys.scanDone ∧
    (State.memErr s m ue addr).sys.lp5Done = s.sys.lp5Done := by
  unfold State.memErr
  first
  | (simp; done)
  | ((repeat' split) <;> simp; done)
  | (simp only []; (repeat' split) <;> simp; done)

@[simp] theorem State.noted_parts (s : State) (r b key : Nat) :
    (State.noted s r b key).sys = s.sys ∧ (State.noted s r b key).pwr = s.pwr ∧
    (State.noted s r b key).fuse = s.fuse ∧ (State.noted s r b key).bist = s.bist ∧
    (State.noted s r b key).heat = s.heat ∧ (State.noted s r b key).ld = s.ld ∧
    (State.noted s r b key).tray = s.tray ∧ (State.noted s r b key).prb = s.prb ∧
    (State.noted s r b key).creg = s.creg ∧ (State.noted s r b key).sns = s.sns ∧
    (State.noted s r b key).tb = s.tb ∧ (State.noted s r b key).ptp = s.ptp ∧ (State.noted s r b key).tt = s.tt ∧
    (State.noted s r b key).trc = s.trc ∧ (State.noted s r b key).ttrc = s.ttrc ∧
    (State.noted s r b key).cmp = s.cmp ∧ (State.noted s r b key).scn = s.scn ∧
    (State.noted s r b key).led = s.led ∧ (State.noted s r b key).fpc = s.fpc ∧
    (State.noted s r b key).red = s.red ∧ (State.noted s r b key).inr = s.inr ∧ (State.noted s r b key).te = s.te ∧
    (State.noted s r b key).ump = s.ump ∧ (State.noted s r b key).tly = s.tly ∧ (State.noted s r b key).ul = s.ul ∧
    (State.noted s r b key).nb = s.nb ∧ (State.noted s r b key).roles = s.roles ∧
    (State.noted s r b key).evr = s.evr ∧ (State.noted s r b key).test = s.test ∧
    (State.noted s r b key).rw = s.rw ∧ (State.noted s r b key).wc2 = s.wc2 ∧
    (State.noted s r b key).flash = s.flash ∧ (State.noted s r b key).lp5 = s.lp5 ∧
    (State.noted s r b key).pending = s.pending := by
  unfold State.noted
  first
  | (simp; done)
  | ((repeat' split) <;> simp; done)
  | (simp only []; (repeat' split) <;> simp; done)

@[simp] theorem State.stickOnce_parts (s : State) (r b key code : Nat) (data : List Byte) :
    (State.stickOnce s r b key code data).pwr = s.pwr ∧ (State.stickOnce s r b key code data).fuse = s.fuse ∧
    (State.stickOnce s r b key code data).bist = s.bist ∧ (State.stickOnce s r b key code data).heat = s.heat ∧
    (State.stickOnce s r b key code data).ld = s.ld ∧ (State.stickOnce s r b key code data).tray = s.tray ∧
    (State.stickOnce s r b key code data).prb = s.prb ∧ (State.stickOnce s r b key code data).creg = s.creg ∧
    (State.stickOnce s r b key code data).sns = s.sns ∧ (State.stickOnce s r b key code data).tb = s.tb ∧
    (State.stickOnce s r b key code data).ptp = s.ptp ∧ (State.stickOnce s r b key code data).tt = s.tt ∧
    (State.stickOnce s r b key code data).cmp = s.cmp ∧ (State.stickOnce s r b key code data).scn = s.scn ∧
    (State.stickOnce s r b key code data).led = s.led ∧ (State.stickOnce s r b key code data).fpc = s.fpc ∧
    (State.stickOnce s r b key code data).red = s.red ∧ (State.stickOnce s r b key code data).inr = s.inr ∧
    (State.stickOnce s r b key code data).te = s.te ∧ (State.stickOnce s r b key code data).ump = s.ump ∧
    (State.stickOnce s r b key code data).tly = s.tly ∧ (State.stickOnce s r b key code data).nb = s.nb ∧
    (State.stickOnce s r b key code data).roles = s.roles ∧ (State.stickOnce s r b key code data).test = s.test ∧
    (State.stickOnce s r b key code data).rw = s.rw ∧ (State.stickOnce s r b key code data).wc2 = s.wc2 ∧
    (State.stickOnce s r b key code data).flash = s.flash ∧ (State.stickOnce s r b key code data).lp5 = s.lp5 ∧
    (State.stickOnce s r b key code data).pending = s.pending ∧
    (State.stickOnce s r b key code data).sys.build = s.sys.build ∧
    (State.stickOnce s r b key code data).sys.aonHeld = s.sys.aonHeld ∧
    (State.stickOnce s r b key code data).sys.rstHeld = s.sys.rstHeld ∧
    (State.stickOnce s r b key code data).sys.corePg = s.sys.corePg ∧
    (State.stickOnce s r b key code data).sys.pgRose = s.sys.pgRose ∧
    (State.stickOnce s r b key code data).sys.firstRelease = s.sys.firstRelease ∧
    (State.stickOnce s r b key code data).sys.strapErr = s.sys.strapErr ∧
    (State.stickOnce s r b key code data).sys.x2 = s.sys.x2 ∧
    (State.stickOnce s r b key code data).sys.pkg = s.sys.pkg ∧
    (State.stickOnce s r b key code data).sys.die = s.sys.die ∧
    (State.stickOnce s r b key code data).sys.lp5Grade = s.sys.lp5Grade ∧
    (State.stickOnce s r b key code data).sys.phase = s.sys.phase ∧
    (State.stickOnce s r b key code data).sys.powerup = s.sys.powerup ∧
    (State.stickOnce s r b key code data).sys.pht = s.sys.pht ∧
    (State.stickOnce s r b key code data).sys.resetCount = s.sys.resetCount ∧
    (State.stickOnce s r b key code data).sys.tray = s.sys.tray ∧
    (State.stickOnce s r b key code data).sys.trayValid = s.sys.trayValid ∧
    (State.stickOnce s r b key code data).sys.sfdpDone = s.sys.sfdpDone ∧
    (State.stickOnce s r b key code data).sys.scanDone = s.sys.scanDone ∧
    (State.stickOnce s r b key code data).sys.lp5Done = s.sys.lp5Done := by
  unfold State.stickOnce
  first
  | (simp; done)
  | ((repeat' split) <;> simp; done)
  | (simp only []; (repeat' split) <;> simp; done)

@[simp] theorem State.stickNote_parts (s : State) (r b code : Nat) (data : List Byte) :
    (State.stickNote s r b code data).pwr = s.pwr ∧ (State.stickNote s r b code data).fuse = s.fuse ∧
    (State.stickNote s r b code data).bist = s.bist ∧ (State.stickNote s r b code data).heat = s.heat ∧
    (State.stickNote s r b code data).ld = s.ld ∧ (State.stickNote s r b code data).tray = s.tray ∧
    (State.stickNote s r b code data).prb = s.prb ∧ (State.stickNote s r b code data).creg = s.creg ∧
    (State.stickNote s r b code data).sns = s.sns ∧ (State.stickNote s r b code data).tb = s.tb ∧
    (State.stickNote s r b code data).ptp = s.ptp ∧ (State.stickNote s r b code data).tt = s.tt ∧
    (State.stickNote s r b code data).cmp = s.cmp ∧ (State.stickNote s r b code data).scn = s.scn ∧
    (State.stickNote s r b code data).led = s.led ∧ (State.stickNote s r b code data).fpc = s.fpc ∧
    (State.stickNote s r b code data).red = s.red ∧ (State.stickNote s r b code data).inr = s.inr ∧
    (State.stickNote s r b code data).te = s.te ∧ (State.stickNote s r b code data).ump = s.ump ∧
    (State.stickNote s r b code data).tly = s.tly ∧ (State.stickNote s r b code data).nb = s.nb ∧
    (State.stickNote s r b code data).roles = s.roles ∧ (State.stickNote s r b code data).test = s.test ∧
    (State.stickNote s r b code data).rw = s.rw ∧ (State.stickNote s r b code data).wc2 = s.wc2 ∧
    (State.stickNote s r b code data).flash = s.flash ∧ (State.stickNote s r b code data).lp5 = s.lp5 ∧
    (State.stickNote s r b code data).pending = s.pending ∧
    (State.stickNote s r b code data).sys.build = s.sys.build ∧
    (State.stickNote s r b code data).sys.aonHeld = s.sys.aonHeld ∧
    (State.stickNote s r b code data).sys.rstHeld = s.sys.rstHeld ∧
    (State.stickNote s r b code data).sys.corePg = s.sys.corePg ∧
    (State.stickNote s r b code data).sys.pgRose = s.sys.pgRose ∧
    (State.stickNote s r b code data).sys.firstRelease = s.sys.firstRelease ∧
    (State.stickNote s r b code data).sys.strapErr = s.sys.strapErr ∧
    (State.stickNote s r b code data).sys.x2 = s.sys.x2 ∧ (State.stickNote s r b code data).sys.pkg = s.sys.pkg ∧
    (State.stickNote s r b code data).sys.die = s.sys.die ∧
    (State.stickNote s r b code data).sys.lp5Grade = s.sys.lp5Grade ∧
    (State.stickNote s r b code data).sys.phase = s.sys.phase ∧
    (State.stickNote s r b code data).sys.powerup = s.sys.powerup ∧
    (State.stickNote s r b code data).sys.pht = s.sys.pht ∧
    (State.stickNote s r b code data).sys.resetCount = s.sys.resetCount ∧
    (State.stickNote s r b code data).sys.tray = s.sys.tray ∧
    (State.stickNote s r b code data).sys.trayValid = s.sys.trayValid ∧
    (State.stickNote s r b code data).sys.sfdpDone = s.sys.sfdpDone ∧
    (State.stickNote s r b code data).sys.scanDone = s.sys.scanDone ∧
    (State.stickNote s r b code data).sys.lp5Done = s.sys.lp5Done := by
  unfold State.stickNote
  first
  | (simp; done)
  | ((repeat' split) <;> simp; done)
  | (simp only []; (repeat' split) <;> simp; done)

@[simp] theorem State.overload_parts (s : State) (p : Nat) :
    (State.overload s p).sys = s.sys ∧ (State.overload s p).pwr = s.pwr ∧ (State.overload s p).fuse = s.fuse ∧
    (State.overload s p).bist = s.bist ∧ (State.overload s p).integ = s.integ ∧
    (State.overload s p).heat = s.heat ∧ (State.overload s p).ld = s.ld ∧ (State.overload s p).tray = s.tray ∧
    (State.overload s p).prb = s.prb ∧ (State.overload s p).creg = s.creg ∧ (State.overload s p).sns = s.sns ∧
    (State.overload s p).tb = s.tb ∧ (State.overload s p).ptp = s.ptp ∧ (State.overload s p).tt = s.tt ∧
    (State.overload s p).trc = s.trc ∧ (State.overload s p).ttrc = s.ttrc ∧ (State.overload s p).cmp = s.cmp ∧
    (State.overload s p).scn = s.scn ∧ (State.overload s p).led = s.led ∧ (State.overload s p).fpc = s.fpc ∧
    (State.overload s p).red = s.red ∧ (State.overload s p).inr = s.inr ∧ (State.overload s p).te = s.te ∧
    (State.overload s p).tly = s.tly ∧ (State.overload s p).ul = s.ul ∧ (State.overload s p).nb = s.nb ∧
    (State.overload s p).roles = s.roles ∧ (State.overload s p).evr = s.evr ∧ (State.overload s p).test = s.test ∧
    (State.overload s p).rw = s.rw ∧ (State.overload s p).wc2 = s.wc2 ∧ (State.overload s p).flash = s.flash ∧
    (State.overload s p).lp5 = s.lp5 ∧ (State.overload s p).pending = s.pending := by
  unfold State.overload
  first
  | (simp; done)
  | ((repeat' split) <;> simp; done)
  | (simp only []; (repeat' split) <;> simp; done)

end Sys2Proof.Machine
end

