-- ==== Sys2Proof/Laws/Tab.lean ====
section
/-! SUPPORT. The laws of the sparse stores: a read after a write, and that every operation keeps the canonical form. -/

namespace Sys2Proof

section

variable {α : Type} [DecidableEq α] (d : α)

/-- A read of what was just written, whatever the store held. -/
@[simp] theorem Tab.get_set_self (t : Tab α) (i : Nat) (v : α) : Tab.get d (Tab.set d t i v) i = v := by
  induction t with
  | nil => simp only [Tab.set]; split <;> simp_all [Tab.get]
  | cons p t ih =>
    obtain ⟨j, w⟩ := p
    simp only [Tab.set]
    split
    · split
      · simpa [*] using ih
      · simp_all [Tab.get]
    · split
      · simp [Tab.get]
      · split <;> simp_all [Tab.get]

/-- A write leaves every other index alone. -/
theorem Tab.get_set_other (t : Tab α) {i k : Nat} (v : α) (h : k ≠ i) : Tab.get d (Tab.set d t i v) k = Tab.get d t k := by
  induction t with
  | nil => simp only [Tab.set]; split <;> simp_all [Tab.get]
  | cons p t ih =>
    obtain ⟨j, w⟩ := p
    simp only [Tab.set]
    split
    · split
      · subst_vars; simpa [Tab.get, h] using ih
      · simp [Tab.get, ih]
    · split
      · simp [Tab.get, h]
      · split
        · subst_vars; simp [Tab.get, h]
        · simp [Tab.get, ih]

/-- Both in one. -/
theorem Tab.get_set (t : Tab α) (i k : Nat) (v : α) : Tab.get d (Tab.set d t i v) k = if k = i then v else Tab.get d t k := by
  split
  · subst_vars; simp
  · exact Tab.get_set_other d t v ‹_›

@[simp] theorem Tab.get_nil (i : Nat) : Tab.get d [] i = d := rfl

@[simp] theorem Tab.get_upd_self (t : Tab α) (i : Nat) (f : α → α) : Tab.get d (Tab.upd d t i f) i = f (Tab.get d t i) := by
  simp [Tab.upd]

theorem Tab.get_upd_other (t : Tab α) {i k : Nat} (f : α → α) (h : k ≠ i) : Tab.get d (Tab.upd d t i f) k = Tab.get d t k :=
  Tab.get_set_other d t _ h

/-- What a block of values written from `lo` reads as. -/
theorem Tab.get_setAll (t : Tab α) (lo : Nat) (l : List α) (k : Nat) :
    Tab.get d (Tab.setAll d t lo l) k = if lo ≤ k ∧ k < lo + l.length then l.getD (k - lo) d else Tab.get d t k := by
  induction l generalizing t lo with
  | nil => simp only [Tab.setAll, List.length_nil]; rw [if_neg (by omega)]
  | cons v l ih =>
    rw [Tab.setAll, ih, Tab.get_set]
    by_cases h : k = lo
    · subst h; simp
    · by_cases h2 : lo + 1 ≤ k ∧ k < lo + 1 + l.length
      · rw [if_pos h2, if_pos (by simp only [List.length_cons]; omega), show k - lo = (k - (lo + 1)) + 1 by omega]; simp
      · rw [if_neg h2, if_neg h, if_neg (by simp only [List.length_cons]; omega)]

/-- A canonical store from `b` on is canonical from any lower bound. -/
theorem Tab.wfFrom_mono {b c : Nat} (h : c ≤ b) (t : Tab α) (w : Tab.wfFrom d b t = true) : Tab.wfFrom d c t = true := by
  cases t with
  | nil => rfl
  | cons p t =>
    simp only [Tab.wfFrom, Bool.and_eq_true, decide_eq_true_eq] at w ⊢
    exact ⟨⟨by omega, w.1.2⟩, w.2⟩

/-- Writing what an unlisted index reads as below everything listed changes nothing. -/
theorem Tab.set_default_below (t : Tab α) {c i : Nat} {v : α} (h : i < c) (w : Tab.wfFrom d c t = true) (hv : v = d) :
    Tab.set d t i v = t := by
  subst hv
  induction t generalizing c with
  | nil => simp [Tab.set]
  | cons p t ih =>
    obtain ⟨j, x⟩ := p
    simp only [Tab.wfFrom, Bool.and_eq_true, decide_eq_true_eq] at w
    simp only [Tab.set, if_true]
    rw [if_neg (by omega), ih (by omega) w.2]

theorem Tab.wfFrom_set (t : Tab α) {b i : Nat} (v : α) (h : b ≤ i) (w : Tab.wfFrom d b t = true) :
    Tab.wfFrom d b (Tab.set d t i v) = true := by
  induction t generalizing b with
  | nil => simp only [Tab.set]; split <;> simp_all [Tab.wfFrom]
  | cons p t ih =>
    obtain ⟨j, x⟩ := p
    simp only [Tab.wfFrom, Bool.and_eq_true, decide_eq_true_eq] at w
    obtain ⟨⟨hb, hx⟩, ht⟩ := w
    simp only [Tab.set]
    split
    · rename_i hv
      split
      · exact ih h (Tab.wfFrom_mono d (by omega) t ht)
      · simp only [Tab.wfFrom, Bool.and_eq_true, decide_eq_true_eq]
        refine ⟨⟨hb, hx⟩, ?_⟩
        by_cases hi : j + 1 ≤ i
        · exact ih hi ht
        · have : Tab.set d t i v = t := Tab.set_default_below d t (show i < j + 1 by omega) ht hv
          rw [this]; exact ht
    · split
      · simp only [Tab.wfFrom, Bool.and_eq_true, decide_eq_true_eq]
        exact ⟨⟨h, ‹_›⟩, ⟨by omega, hx⟩, ht⟩
      · split
        · subst_vars
          simp only [Tab.wfFrom, Bool.and_eq_true, decide_eq_true_eq]
          exact ⟨⟨h, ‹_›⟩, ht⟩
        · simp only [Tab.wfFrom, Bool.and_eq_true, decide_eq_true_eq]
          exact ⟨⟨hb, hx⟩, ih (by omega) ht⟩

/-- A write keeps the canonical form. -/
theorem Tab.wf_set (t : Tab α) (i : Nat) (v : α) (w : Tab.wf d t = true) : Tab.wf d (Tab.set d t i v) = true :=
  Tab.wfFrom_set d t v (Nat.zero_le i) w

theorem Tab.wf_upd (t : Tab α) (i : Nat) (f : α → α) (w : Tab.wf d t = true) : Tab.wf d (Tab.upd d t i f) = true :=
  Tab.wf_set d t i _ w

/-- So does a write of a block. -/
theorem Tab.wf_setAll (t : Tab α) (lo : Nat) (l : List α) (w : Tab.wf d t = true) : Tab.wf d (Tab.setAll d t lo l) = true := by
  induction l generalizing t lo with
  | nil => exact w
  | cons v l ih => exact ih _ _ (Tab.wf_set d t lo v w)

theorem Tab.wfFrom_mapV (t : Tab α) (f : α → α) {b : Nat} (w : Tab.wfFrom d b t = true) :
    Tab.wfFrom d b (Tab.mapV d t f) = true := by
  induction t generalizing b with
  | nil => rfl
  | cons p t ih =>
    obtain ⟨j, x⟩ := p
    simp only [Tab.wfFrom, Bool.and_eq_true, decide_eq_true_eq] at w
    have h := ih w.2
    simp only [Tab.mapV, List.map_cons, List.filter_cons] at h ⊢
    split
    · simp_all [Tab.wfFrom]
    · exact Tab.wfFrom_mono d (by omega) _ h

/-- And a change of every value. -/
theorem Tab.wf_mapV (t : Tab α) (f : α → α) (w : Tab.wf d t = true) : Tab.wf d (Tab.mapV d t f) = true :=
  Tab.wfFrom_mapV d t f w

@[simp] theorem Tab.wf_nil : Tab.wf d ([] : Tab α) = true := rfl

/-- Two canonical stores that read the same everywhere are the same. -/
theorem Tab.ext_wfFrom {t u : Tab α} {b : Nat} (ht : Tab.wfFrom d b t = true) (hu : Tab.wfFrom d b u = true)
    (h : ∀ i, Tab.get d t i = Tab.get d u i) : t = u := by
  induction t generalizing b u with
  | nil =>
    cases u with
    | nil => rfl
    | cons q u =>
      simp only [Tab.wfFrom, Bool.and_eq_true, decide_eq_true_eq] at hu
      exact absurd (by simpa [Tab.get] using (h q.1).symm) hu.1.2
  | cons p t ih =>
    obtain ⟨j, x⟩ := p
    simp only [Tab.wfFrom, Bool.and_eq_true, decide_eq_true_eq] at ht
    cases u with
    | nil => exact absurd (by simpa [Tab.get] using h j) ht.1.2
    | cons q u =>
      obtain ⟨k, y⟩ := q
      simp only [Tab.wfFrom, Bool.and_eq_true, decide_eq_true_eq] at hu
      have low : ∀ (v : Tab α) (c i : Nat), i < c → Tab.wfFrom d c v = true → Tab.get d v i = d := by
        intro v
        induction v with
        | nil => intros; rfl
        | cons r v ihv =>
          obtain ⟨m, z⟩ := r
          intro c i hi hw
          simp only [Tab.wfFrom, Bool.and_eq_true, decide_eq_true_eq] at hw
          simp only [Tab.get]
          rw [if_neg (by omega)]
          exact ihv _ _ (by omega) hw.2
      have hjk : j = k := by
        rcases Nat.lt_trichotomy j k with hlt | heq | hgt
        · have := h j
          simp only [Tab.get, if_true] at this
          rw [if_neg (by omega), low u _ _ (by omega) hu.2] at this
          exact absurd this ht.1.2
        · exact heq
        · have := h k
          simp only [Tab.get, if_true] at this
          rw [if_neg (by omega), low t _ _ (by omega) ht.2] at this
          exact absurd this.symm hu.1.2
      subst hjk
      have hxy : x = y := by simpa [Tab.get] using h j
      subst hxy
      congr 1
      refine ih ht.2 hu.2 fun i => ?_
      by_cases hi : i = j
      · subst hi; rw [low t _ _ (Nat.lt_succ_self _) ht.2, low u _ _ (Nat.lt_succ_self _) hu.2]
      · simpa [Tab.get, hi] using h i

end

end Sys2Proof
end

