-- ==== Sys2Proof/Tests/Slice0.lean ====
section
/-! SUPPORT. The author's own tests: ill-formed commands refused by each check of WellFormed, values taken from the spec's
worked examples and tables, and a witness for the hypotheses of every statement. -/

namespace Sys2Proof.Tests

set_option Elab.async false

open Sys2Proof Sys2Proof.Machine

/-- A die in service. -/
def wD : State :=
  { State.resetOf .die with sys := { (State.resetOf .die).sys with phase := 5, rstHeld := false, firstRelease := false } }

/-- A tray in service. -/
def wT : State :=
  { State.resetOf .tray with sys := { (State.resetOf .tray).sys with phase := 5, rstHeld := false, firstRelease := false } }

/-- A tray in phase STORE. -/
def wT3 : State := { wT with sys := { wT.sys with phase := 3 } }


/-- A frame of the eight shared-sensor words, raw. -/
def shrW : List Byte :=
  frameBytes { kind := 3, flags := 1, table := 0, rdiv := 0, fsid := 5, span := 0, nitem := 8, tag := 7, ref := 0 }
    (([1, 2, 3, 4, 5, 6, 7, 0xFFFFFFFF] : List Nat).flatMap (le 4))

/-- A tray at the end of STORE whose validity sector names an image of no bytes. -/
def wVal : State :=
  { wT3 with
      sys := { wT3.sys with sfdpDone := true, scanDone := true, lp5Done := true }
      nb := { wT3.nb with flashReady := true }
      flash := [(0x1000000, 66), (0x1000001, 77), (0x1000002, 75), (0x1000003, 86), (0x1000004, 0), (0x1000005, 0),
        (0x1000006, 0), (0x1000007, 0), (0x1000008, 0), (0x1000009, 0), (0x100000a, 0), (0x100000b, 0), (0x100000c,
        0), (0x100000d, 0), (0x100000e, 0), (0x100000f, 0), (0x1000018, 0), (0x1000019, 0), (0x100001a, 0),
        (0x100001b, 0)] }

/-- A tray that has taken a Sync of its master, on a port that is enabled. -/
def wPtp : State :=
  { wT with
      ld := { wT.ld with cur := some ⟨0x2000, [(6, 1), (64, 0xB), (69, 2), (0x330, 1)]⟩ }
      ptp := { wT.ptp with master := some ⟨5, ⟨0, 0, 0, 0, 0, 9, 0⟩⟩, syncT1 := some 0, reqReady := true } }

/-- A tray whose blob of no nodes stands in LPDDR5X, in CHECKING: magic, version 1, length 64, digest. -/
def blobW : State :=
  { wT with
      te := { wT.te with st := 2 }
      lp5 := [(0, 0x42), (1, 0x4D), (2, 0x4B), (3, 0x54), (4, 1), (16, 64), (24, 144), (25, 69), (26, 48), (27, 117), (28, 2),
        (29, 180), (30, 107), (31, 162)]
      ld := { wT.ld with cur := some ⟨0x2000, [(6, 1), (0x28, 144), (0x29, 69), (0x2A, 48), (0x2B, 117), (0x2C, 2), (0x2D, 180),
        (0x2E, 107), (0x2F, 162), (64, 0xA), (69, 1), (0x120, 64)]⟩ } }

/-- The state that a command answers with. -/
def after (i : Instr) (s : State) : State :=
  match exec i s with
  | .next t => t
  | _ => s

/-- A tray whose boundary has a verdict reset to make: a suspected die 5. -/
def vch : State :=
  { wT with
      heat := { wT.heat with begun := true, heat := 7 }
      ump := { wT.ump with verd := [(5, { (default : Verd) with v := 2, acked := true, resetDue := some (1, 0) })] }
      ld := { wT.ld with cur := some ⟨0x2000, [(6, 1), (64, 9), (69, 1)]⟩ } }

/-- The same in substitute heats. -/
def vcs : State := { vch with tb := { vch.tb with substitute := true } }

def vchT : State := after (.heatBoundary 5 []) vch

def vcsT : State := after (.substituteHeatBoundary []) vcs

/-! Each theorem shows a state and operands that meet the hypotheses of one clause of a statement. -/

theorem witness_stepRunsFront_1 :
    ∃ (c : Instr) (rest : List Instr) (s : State), s.pending = c :: rest :=
  ⟨.jtTrst, [.commandPoll], { wD with pending := [.jtTrst, .commandPoll] }, by decide⟩

theorem witness_emptyQueueIdles_1 :
    ∃ (s : State), s.pending = [] ∧ s.heat.raq = [] :=
  ⟨wD, by decide⟩

theorem witness_emptyQueueIdles_2 :
    ∃ (s : State), s.pending = [] ∧ s.running = false :=
  ⟨State.reset, by decide⟩

theorem witness_emptyQueueIdles_3 :
    ∃ (s : State) (q : RaReq) (rest : List RaReq), s.pending = [] ∧ s.running = true ∧ s.test.busy = false ∧ s.heat.raq = q :: rest ∧ rest = [] ∧ q.test = false ∧ q.wr = false ∧ q.off.toNat = 0 :=
  ⟨{ wD with heat := { wD.heat with raq := [⟨false, false, 0xF, 0, 0, 3⟩] } }, ⟨false, false, 0xF, 0, 0, 3⟩, [], by decide⟩

theorem witness_execKeepsQueueAndBuild_1 :
    ∃ (i : Instr) (s t : State), exec i s = .next t :=
  ⟨.jtTrst, wD, { wD with test := default }, by exact rfl⟩

theorem witness_stepKeepsMemoryForm_1 :
    ∃ (s t : State), s.memWf = true ∧ step s = .next t :=
  ⟨State.reset, State.reset, by exact ⟨rfl, rfl⟩⟩

theorem witness_resetsAndStraps_2 :
    ∃ (s : State), s.isD = true :=
  ⟨wD, by decide⟩

theorem witness_resetsAndStraps_3 :
    ∃ (s : State), s.isT = true :=
  ⟨wT, by decide⟩

theorem witness_resetsAndStraps_6 :
    ∃ (s : State), s.isT = true ∧ s.sys.rstHeld = true ∧ s.sys.aonHeld = false :=
  ⟨{ wT with sys := { wT.sys with rstHeld := true, phase := 0, pgRose := true } }, by decide⟩

theorem witness_resetsAndStraps_7 :
    ∃ (s : State), s.isD = true ∧ s.sys.rstHeld = true ∧ s.sys.aonHeld = false :=
  ⟨{ wD with sys := { wD.sys with rstHeld := true, phase := 0, firstRelease := true } }, by decide⟩

theorem witness_resetsAndStraps_8 :
    ∃ (g : Bool) (s : State), g ≠ s.isT ∧ s.sys.rstHeld = true ∧ s.sys.aonHeld = false :=
  ⟨true, { wD with sys := { wD.sys with rstHeld := true, phase := 0, firstRelease := true } }, by decide⟩

theorem witness_resetsAndStraps_9 :
    ∃ (s : State), s.sys.rstHeld = true ∧ s.sys.aonHeld = false :=
  ⟨{ wD with sys := { wD.sys with rstHeld := true, phase := 0, firstRelease := true } }, by decide⟩

theorem witness_startUpPhases_1 :
    ∃ (s : State), s.sys.phase = 1 ∧ s.fuse.next < 137 :=
  ⟨{ { wD with sys := { wD.sys with phase := 1 } } with fuse := { wD.fuse with next := 136 } }, by decide⟩

theorem witness_startUpPhases_2 :
    ∃ (s : State), s.sys.phase = 1 ∧ s.fuse.next = 137 ∧ s.makerSet = true :=
  ⟨{ { wD with sys := { wD.sys with phase := 1 } } with fuse := { wD.fuse with next := 137, map := [(32, 1)] } }, by decide⟩

theorem witness_startUpPhases_3 :
    ∃ (s : State), s.sys.phase = 1 ∧ s.fuse.next = 137 ∧ s.makerSet = false :=
  ⟨{ { wD with sys := { wD.sys with phase := 1 } } with fuse := { wD.fuse with next := 137 } }, by decide⟩

theorem witness_startUpPhases_4 :
    ∃ (g : BitVec 3) (s : State), s.bist.busy = true ∧ s.bist.target ≠ 4 ∧ s.bistRunning.contains g.toNat = true :=
  ⟨0, { wD with sys := { wD.sys with phase := 2 }, bist := { wD.bist with busy := true } }, by decide⟩

theorem witness_startUpPhases_5 :
    ∃ (g : BitVec 3) (m : MacroResult) (s : State), s.bist.busy = true ∧ s.bist.target ≠ 4 ∧ s.bistRunning.contains g.toNat = true ∧ bistGroup m.mem.toNat m.mac.toNat = g.toNat ∧ m.cells ≠ [] ∧ softCovers m.cells [] none = true ∧ s.bist.verify.getLsbD g.toNat = false ∧ s.hardRepaired m.mem.toNat m.mac.toNat = false :=
  ⟨0, ⟨1, 0, [(3, 4), (5, 4), (7, 9)]⟩, { wD with sys := { wD.sys with phase := 2 }, bist := { wD.bist with busy := true } }, by decide⟩

theorem witness_startUpPhases_6 :
    ∃ (s : State), s.bist.busy = true ∧ s.sys.phase = 2 ∧ s.bist.abistDone = false :=
  ⟨{ wD with sys := { wD.sys with phase := 2 }, bist := { wD.bist with busy := true } }, by decide⟩

theorem witness_startUpPhases_7 :
    ∃ (s : State), s.sys.phase = 2 ∧ s.bist.done = 0xFF ∧ s.bist.abistDone = true :=
  ⟨{ { wD with sys := { wD.sys with phase := 2 }, bist := { wD.bist with busy := true } } with bist := { wD.bist with busy := true, done := 0xFF, abistDone := true } }, by decide⟩

theorem witness_startUpPhases_8 :
    ∃ (s : State), s.isT = true ∧ s.sys.phase = 3 ∧ s.sys.sfdpDone = false :=
  ⟨wT3, by decide⟩

theorem witness_startUpPhases_9 :
    ∃ (f : Byte) (s : State), s.isT = true ∧ s.sys.phase = 3 ∧ s.sys.lp5Done = false ∧ f = 0 ∧ s.sys.lp5Grade ≠ 3 :=
  ⟨0, wT3, by decide⟩

theorem witness_startUpPhases_10 :
    ∃ (f : Byte) (s : State), s.isT = true ∧ s.sys.phase = 3 ∧ s.sys.lp5Done = false ∧ f ≠ 0 :=
  ⟨3, wT3, by decide⟩

theorem witness_roleGate_1 :
    ∃ (a : Acc) (s : State), Allowed s a 0x10 1 ∧ s.statePaths.contains a.path.toNat = true ∧ (s.path a.path.toNat).busy = false ∧ (s.path a.path.toNat).held < Acc.req a ∧ ((s.answered a true 0x10 0).setPath a.path.toNat { (s.answered a true 0x10 0).path a.path.toNat with lastFail := false }).roleLocked a.path.toNat = false :=
  ⟨⟨0, 0, 0xF, 0x20⟩, wD, by decide⟩

theorem witness_roleGate_2 :
    ∃ (a : Acc) (s : State), Allowed s a 0x10 1 ∧ s.statePaths.contains a.path.toNat = true ∧ (s.path a.path.toNat).busy = false ∧ 0 < Acc.req a ∧ Acc.req a < (s.path a.path.toNat).held ∧ (s.path a.path.toNat).lastFail = false ∧ Tab.set PathState.init s.roles.paths a.path.toNat (s.path a.path.toNat) = s.roles.paths ∧ s.roles = (s.answered a true 0x10 0).roles :=
  ⟨⟨0, 0, 0xF, 0x10⟩, { wT with roles := { wT.roles with paths := [(0, { PathState.init with role := 3, roleC := 0 })] } }, by decide⟩

theorem witness_roleGate_3 :
    ∃ (a : Acc) (s : State), Allowed s a 0x3C 1 ∧ s.statePaths.contains a.path.toNat = true ∧ ((s.answered a true 0x3C 0).path a.path.toNat).busy = false :=
  ⟨⟨10, 0, 0xF, 0xFFFFFFFF⟩, wD, by decide⟩

theorem witness_roleGate_4 :
    ∃ (p : BitVec 4) (s : State), s.statePaths.contains p.toNat = true ∧ (s.path p.toNat).busy = true ∧ s.roleMatch p.toNat = true ∧ (s.path p.toNat).req ≠ 1 :=
  ⟨0, { wD with fuse := { wD.fuse with map := [(32, 1)] }, roles := { wD.roles with fails := 7, paths := [(0, { PathState.init with busy := true, req := 3, checkValid := true, checkNonce := 1, resp := [(0, 3997172368), (1, 2333489243), (2, 387110184), (3, 3654483070), (4, 3320543334), (5, 1291211381), (6, 2859557786), (7, 3859879859)] })] } }, by decide +kernel⟩

theorem witness_roleGate_5 :
    ∃ (p : BitVec 4) (s : State), s.statePaths.contains p.toNat = true ∧ (s.path p.toNat).busy = true ∧ s.roleMatch p.toNat = false :=
  ⟨0, { wD with roles := { wD.roles with fails := 7, paths := [(0, { PathState.init with busy := true })] } }, by decide⟩

theorem witness_roleGate_6 :
    ∃ (p : BitVec 4) (s : State), s.running = true ∧ s.aonRuns = true ∧ s.statePaths.contains p.toNat = true ∧ 1 < (s.path p.toNat).held :=
  ⟨0, { wT with roles := { wT.roles with paths := [(0, { PathState.init with role := 3, roleC := 0 })] } }, by decide⟩

theorem witness_roleGate_7 :
    ∃ (p : BitVec 4) (s : State), s.aonRuns = true ∧ s.statePaths.contains p.toNat = true :=
  ⟨8, wT, by decide⟩

theorem witness_roleGate_8 :
    ∃ (s : State), s.aonRuns = true :=
  ⟨wD, by decide⟩

theorem witness_roleGate_9 :
    ∃ (p : BitVec 4) (s : State), s.aonRuns = true ∧ s.statePaths.contains p.toNat = true :=
  ⟨10, wD, by decide⟩

theorem witness_roleGate_10 :
    ∃ (i : BitVec 4) (s : State), s.isT = true ∧ s.aonRuns = true ∧ 1 ≤ i.toNat ∧ i.toNat ≤ 8 ∧ (Tab.get none s.roles.sessions i.toNat).isSome = true ∧ (s.path i.toNat).held = 1 :=
  ⟨8, { wT with roles := { wT.roles with sessions := [(8, some ⟨1, 5⟩)] } }, by decide⟩

theorem witness_roleFall_1 :
    ∃ (new : Nat), (new = 1 ∨ new = 2) :=
  ⟨2, by decide⟩

theorem witness_accessPaths_1 :
    ∃ (ofs : BitVec 25) (s : State), s.running = true ∧ s.heat.raq.length < 16 ∧ (s.isD = true ∨ 4 * ofs.toNat < 0x04000000) :=
  ⟨0x3FFFF, { wD with heat := { wD.heat with raq := List.replicate 15 ⟨false, true, 0xF, 16, 0, 0⟩ } }, by decide⟩

theorem witness_accessPaths_2 :
    ∃ (ofs : BitVec 25) (s : State), s.isT = true ∧ s.running = true ∧ s.heat.raq.length < 16 ∧ 0x04000000 ≤ 4 * ofs.toNat :=
  ⟨0x1000000, wT, by decide⟩

theorem witness_accessPaths_3 :
    ∃ (s : State), 16 ≤ s.heat.raq.length :=
  ⟨{ wD with heat := { wD.heat with raq := List.replicate 16 ⟨false, true, 0xF, 16, 0, 0⟩ } }, by decide⟩

theorem witness_accessPaths_4 :
    ∃ (a : Acc) (off : BitVec 20) (s : State), Allowed s a off.toNat (s.writeRole off.toNat) ∧ (s.ownWrite a off.toNat).isNone = true :=
  ⟨⟨0, 0, 0xF, 5⟩, 0xC0000, wD, by decide⟩

theorem witness_accessPaths_5 :
    ∃ (k : BitVec 6) (s : State), s.running = true ∧ s.hasLink k.toNat = true :=
  ⟨63, wT, by decide⟩

theorem witness_accessPaths_6 :
    ∃ (q : ProxyIn) (rest : List ProxyIn) (s : State), s.isD = true ∧ s.running = true ∧ s.heat.raq.length < 8 ∧ s.nb.proxyIn = q :: rest ∧ bits q.flags.toNat 3 2 = 0 :=
  ⟨⟨7, 1, 0, 0⟩, [], { wD with nb := { wD.nb with proxyIn := [⟨7, 1, 0, 0⟩] } }, by decide⟩

theorem witness_accessPaths_7 :
    ∃ (q : ProxyIn) (rest : List ProxyIn) (s : State), s.isD = true ∧ s.running = true ∧ s.heat.raq.length < 8 ∧ s.nb.proxyIn = q :: rest ∧ q.flags = 4 ∧ q.off = 0 :=
  ⟨⟨7, 4, 0, 0⟩, [], { wD with nb := { wD.nb with proxyIn := [⟨7, 4, 0, 0⟩] } }, by decide⟩

theorem witness_accessPaths_8 :
    ∃ (i : BitVec 4) (q : ReqPlace) (e : ReqEntry) (s : State), s.isT = true ∧ s.running = true ∧ Tab.get none s.nb.places i.toNat = some q ∧ q.left = [e] ∧ q.waiting = false ∧ e.write = false ∧ e.offset = 0 :=
  ⟨3, ⟨0, 7, 9, [⟨false, 0, 0⟩], [], false⟩, ⟨false, 0, 0⟩, { wT with nb := { wT.nb with places := [(3, some ⟨0, 7, 9, [⟨false, 0, 0⟩], [], false⟩)] } }, by decide⟩

theorem witness_accessPaths_9 :
    ∃ (i : BitVec 4) (q : ReqPlace) (e : ReqEntry) (s : State), s.isT = true ∧ s.running = true ∧ Tab.get none s.nb.places i.toNat = some q ∧ q.left = [e] ∧ q.waiting = false ∧ e.offset.toNat % 4 ≠ 0 :=
  ⟨3, ⟨0, 7, 9, [⟨false, 2, 0⟩], [], false⟩, ⟨false, 2, 0⟩, { wT with nb := { wT.nb with places := [(3, some ⟨0, 7, 9, [⟨false, 2, 0⟩], [], false⟩)] } }, by decide⟩

theorem witness_accessPaths_10 :
    ∃ (v : BitVec 66) (s : State), s.running = true ∧ s.heat.raq.length < 16 ∧ v = 0x20000000000000000 ∧ s.test.busy = false ∧ s.integ.xingStop = 0 :=
  ⟨0x20000000000000000, wD, by decide⟩

theorem witness_commandMailbox_1 :
    ∃ (a : Acc) (s : State), Allowed s a 0xC0020 1 ∧ s.mailPaths.contains a.path.toNat = true ∧ ((s.answered a true 0xC0020 0).path a.path.toNat).pend = false :=
  ⟨⟨0, 0, 0xF, 0x12340703⟩, wD, by decide⟩

theorem witness_commandMailbox_2 :
    ∃ (a : Acc) (s : State), Allowed s a 0xC0020 1 ∧ s.mailPaths.contains a.path.toNat = true ∧ ((s.answered a true 0xC0020 0).path a.path.toNat).pend = true :=
  ⟨⟨0, 0, 0xF, 0x12340703⟩, { wD with roles := { wD.roles with paths := [(0, { PathState.init with pend := true })] } }, by decide⟩

theorem witness_commandMailbox_3 :
    ∃ (s : State), s.running = true ∧ (s.oneCycle fun s => s.mailPaths.foldl State.takePost s).sns.sample = [] :=
  ⟨wD, by decide⟩

theorem witness_commandMailbox_4 :
    ∃ (s : State), s.running = true ∧ s.sns.sample ≠ [] ∧ s.sns.sampleHeat = s.heat.heat - 1 ∧ (∀ p ∈ s.mailPaths, (s.path p).pend = false) :=
  ⟨{ wD with sns := { wD.sns with sample := [0], sampleHeat := BitVec.allOnes 64 - 1 } }, by decide⟩

theorem witness_bistAndFuses_1 :
    ∃ (p : Post) (s : State), s.running = true ∧ 2 ≤ p.role.toNat ∧ p.a0 = 4 ∧ p.a1 = 0 ∧ s.bist.busy = false :=
  ⟨⟨0, 3, 7, 4, 0, 0⟩, wD, by decide⟩

theorem witness_bistAndFuses_2 :
    ∃ (p : Post) (s : State), s.running = true ∧ s.isD = true ∧ 2 ≤ p.role.toNat ∧ p.a0 = 1 ∧ p.a1 = 0 ∧ s.bist.busy = false ∧ s.trc.capEn = some false ∧ s.trc.dumping = false :=
  ⟨⟨0, 2, 7, 1, 0, 0⟩, { wD with trc := { wD.trc with capEn := some false } }, by decide⟩

theorem witness_bistAndFuses_3 :
    ∃ (p : Post) (s : State), s.running = true ∧ 2 ≤ p.role.toNat ∧ s.bist.busy = true ∧ s.bist.target ≠ 0 :=
  ⟨⟨0, 3, 7, 0, 0, 0⟩, { wD with bist := { wD.bist with busy := true, isolated := true, target := 1 } }, by decide⟩

theorem witness_bistAndFuses_4 :
    ∃ (s : State), s.bist.busy = true ∧ s.bist.isolated = true ∧ s.bist.target = 1 ∧ s.bist.finishing = false :=
  ⟨{ wD with bist := { wD.bist with busy := true, isolated := true, target := 1 } }, by decide⟩

theorem witness_bistAndFuses_5 :
    ∃ (p : Post) (s : State), s.running = true ∧ p.role.toNat = 3 ∧ p.a0 = 3 ∧ s.fuse.busy = false ∧ (∀ i ∈ List.range 8, s.fuseWord (32 + i) = 0) :=
  ⟨⟨0, 3, 7, 3, 0, 0⟩, wD, by decide⟩

theorem witness_bistAndFuses_6 :
    ∃ (b : Nat) (rest : List Nat) (s : State), s.fuse.busy = true ∧ s.fuse.bits = b :: rest :=
  ⟨1024, [1025], { wD with fuse := { wD.fuse with busy := true, bits := [1024, 1025] } }, by decide⟩

theorem witness_bistAndFuses_7 :
    ∃ (b : Nat) (rest : List Nat) (s : State), s.fuse.busy = true ∧ s.fuse.bits = b :: rest :=
  ⟨1024, [], { wD with fuse := { wD.fuse with busy := true, bits := [1024] } }, by decide⟩

theorem witness_bistAndFuses_8 :
    ∃ (s : State), s.fuse.busy = true ∧ s.fuse.bits = [] ∧ s.fuse.area = 3 ∧ s.fuse.fail = false :=
  ⟨{ wD with fuse := { wD.fuse with busy := true, area := 3 } }, by decide⟩

theorem witness_stickyStagingComplement_1 :
    ∃ (a : Acc) (n : BitVec 2) (s : State), Allowed s a (0xA0000 + 4 * n.toNat) 1 ∧ s.stickyWord n.toNat &&& a.data ≠ 0 :=
  ⟨⟨0, 0, 0xF, 0x80000001⟩, 3, { wD with integ := { wD.integ with sticky3 := 0x80000003 } }, by decide⟩

theorem witness_stickyStagingComplement_2 :
    ∃ (a : Acc) (n : BitVec 2) (s : State), Allowed s a (0xA0000 + 4 * n.toNat) 1 ∧ s.stickyWord n.toNat &&& a.data = 0 :=
  ⟨⟨0, 0, 0xF, 0xFFFFFFFF⟩, 0, wD, by decide⟩

theorem witness_stickyStagingComplement_3 :
    ∃ (a : Acc) (off : BitVec 20) (s : State), Allowed s a off.toNat 2 ∧ s.wc2Low off.toNat = true :=
  ⟨⟨9, 2, 0xF, 5⟩, 0x61FF8, wD, by decide⟩

theorem witness_stickyStagingComplement_4 :
    ∃ (off : BitVec 20) (s : State), s.wc2Low off.toNat = false :=
  ⟨0x62000, wD, by decide⟩

theorem witness_stickyStagingComplement_5 :
    ∃ (s : State), s.running = true ∧ s.cpl 6 0 = false :=
  ⟨wD, by decide⟩

theorem witness_stickyStagingComplement_6 :
    ∃ (i : Byte) (s : State), s.running = true ∧ s.statePaths.contains i.toNat = true ∧ s.cpl 1 i.toNat = false :=
  ⟨10, wD, by decide⟩

theorem witness_stickyStagingComplement_7 :
    ∃ (m : BitVec 4) (i : Byte) (s : State), s.cpl m.toNat i.toNat = true :=
  ⟨6, 0, { wD with integ := { wD.integ with cplStat := [(1536, true)] } }, by decide⟩

theorem witness_stickyStagingComplement_8 :
    ∃ (p : Post) (s : State), s.running = true ∧ p.role.toNat = 3 ∧ p.a0 = 6 ∧ s.tly.svc = 2 :=
  ⟨⟨0, 3, 7, 6, 0, 0⟩, { wD with tly := { wD.tly with svc := 2 } }, by decide⟩

theorem witness_stickyFirst_1 :
    ∃ (r b : Nat) (r2 b2 : Nat), r < 4 ∧ b < 32 ∧ r2 < 4 ∧ b2 < 32 :=
  ⟨3, 31, 0, 0, by decide⟩

theorem witness_crossingsAndDormancy_1 :
    ∃ (d : BitVec 6) (s : State), s.running = true ∧ d.toNat < 40 ∧ d.toNat ≠ s.coreDom ∧ s.integ.xingStop.getLsbD d.toNat = false :=
  ⟨39, wD, by decide⟩

theorem witness_crossingsAndDormancy_2 :
    ∃ (d : BitVec 6) (s : State), s.integ.xingStop.getLsbD d.toNat = true :=
  ⟨3, { wD with integ := { wD.integ with xingStop := 8 } }, by decide⟩

theorem witness_crossingsAndDormancy_3 :
    ∃ (d : BitVec 6) (s : State), s.running = true ∧ s.isD = true ∧ d.toNat < 32 ∧ s.integ.xingStop.getLsbD d.toNat = false ∧ s.heat.dormant.getLsbD d.toNat = false :=
  ⟨31, wD, by decide⟩

theorem witness_crossingsAndDormancy_4 :
    ∃ (d : BitVec 6) (s : State), s.running = true ∧ s.isD = true ∧ d.toNat < 32 ∧ s.heat.dormant.getLsbD d.toNat = true ∧ s.heat.lpOwed.getLsbD d.toNat = false :=
  ⟨0, { wD with heat := { wD.heat with dormant := 1 } }, by decide⟩

theorem witness_crossingsAndDormancy_5 :
    ∃ (d : BitVec 6) (s : State), s.running = true ∧ s.isD = true ∧ d.toNat = 39 ∧ s.integ.xingStop.getLsbD 39 = false :=
  ⟨39, wD, by decide⟩

theorem witness_crossingsAndDormancy_6 :
    ∃ (d : BitVec 6) (s : State), s.running = true ∧ s.isD = true ∧ s.heat.taken = true ∧ d.toNat < 32 ∧ s.integ.xingStop.getLsbD d.toNat = true :=
  ⟨5, { wD with heat := { wD.heat with taken := true }, integ := { wD.integ with xingStop := 32 } }, by decide⟩

theorem witness_crossingsAndDormancy_7 :
    ∃ (r : BitVec 5) (s : State), s.running = true ∧ r.toNat < s.nRegion :=
  ⟨7, wT, by decide⟩

theorem witness_crossingsAndDormancy_8 :
    ∃ (r : BitVec 5) (s : State), s.running = false ∧ r.toNat < s.nRegion :=
  ⟨31, State.reset, by decide⟩

theorem witness_crossingsAndDormancy_9 :
    ∃ (r : BitVec 5) (s : State), s.running = true ∧ s.heat.lpOwed.getLsbD r.toNat = true :=
  ⟨1, { wD with heat := { wD.heat with lpOwed := 2 } }, by decide⟩

theorem witness_crossingsAndDormancy_10 :
    ∃ (r : BitVec 5) (s : State), s.running = true ∧ r.toNat < s.nRegion :=
  ⟨31, wD, by decide⟩

theorem witness_crossingsAndDormancy_11 :
    ∃ (r : BitVec 5) (s : State), s.running = true ∧ s.heat.lpAck.getLsbD r.toNat = true ∧ s.heat.lpReq.getLsbD r.toNat = false :=
  ⟨0, { wD with heat := { wD.heat with lpAck := 1 } }, by decide⟩

theorem witness_crossingsAndDormancy_12 :
    ∃ (r : BitVec 5) (s : State), s.running = true ∧ s.heat.taken = true ∧ s.heat.dormant.getLsbD r.toNat = true ∧ s.heat.lpReq.getLsbD r.toNat = false ∧ s.heat.lpAck.getLsbD r.toNat = false ∧ s.heat.lpOwed.getLsbD r.toNat = false :=
  ⟨0, { wD with heat := { wD.heat with taken := true, dormant := 1 } }, by decide⟩

theorem witness_imageCommands_1 :
    ∃ (p : Post) (s : State), s.running = true ∧ 2 ≤ p.role.toNat ∧ s.ld.st = 0 ∧ bits s.imgCtrl 27 26 ≠ 3 ∧ s.pwr.pf = false :=
  ⟨⟨0, 2, 7, 0, 0, 0⟩, wD, by decide⟩

theorem witness_imageCommands_2 :
    ∃ (p : Post) (s : State), s.running = true ∧ 2 ≤ p.role.toNat ∧ s.ld.st ≠ 0 :=
  ⟨⟨0, 3, 7, 0, 0, 0⟩, { wD with ld := { wD.ld with st := 5 } }, by decide⟩

theorem witness_imageCommands_3 :
    ∃ (a : Acc) (s : State), Allowed s a 0x1004 1 ∧ s.ld.st = 1 ∧ s.ld.srcLoad = 2 ∧ s.ld.shadow.len = 0 ∧ a.data = 0x364B4D42 :=
  ⟨⟨0, 0, 0xF, 0x364B4D42⟩, { wD with ld := { wD.ld with st := 1, srcLoad := 2 } }, by decide⟩

theorem witness_imageCommands_4 :
    ∃ (a : Acc) (s : State), Allowed s a 0x1004 1 ∧ s.ld.st = 1 ∧ s.ld.srcLoad = 2 ∧ s.ld.shadow = ⟨0, []⟩ ∧ a.data ≠ 0x364B4D42 :=
  ⟨⟨0, 0, 0xF, 0⟩, { wD with ld := { wD.ld with st := 1, srcLoad := 2 } }, by decide⟩

theorem witness_imageCommands_5 :
    ∃ (p : Post) (s : State), s.running = true ∧ 2 ≤ p.role.toNat ∧ s.ld.st = 1 ∧ s.ld.srcLoad = 2 ∧ 64 ≤ s.ld.shadow.len ∧ s.ld.shadow.num 0x10 4 ≤ s.ld.shadow.len :=
  ⟨⟨0, 3, 7, 0, 0, 0⟩, { wD with ld := { wD.ld with st := 1, srcLoad := 2, shadow := ⟨64, []⟩ } }, by decide⟩

theorem witness_imageCommands_6 :
    ∃ (p : Post) (s : State), s.running = true ∧ 2 ≤ p.role.toNat ∧ s.ld.st = 1 ∧ s.ld.srcLoad = 2 ∧ s.ld.shadow.len < 64 :=
  ⟨⟨0, 3, 7, 0, 0, 0⟩, { wD with ld := { wD.ld with st := 1, srcLoad := 2, shadow := ⟨63, []⟩ } }, by decide⟩

theorem witness_imageCommands_7 :
    ∃ (p : Post) (s : State), s.running = true ∧ 2 ≤ p.role.toNat ∧ s.ld.st = 3 ∧ s.ld.srcLoad = 2 :=
  ⟨⟨0, 3, 7, 0, 0, 0⟩, { wD with ld := { wD.ld with st := 3, srcLoad := 2 } }, by decide⟩

theorem witness_imageCommands_8 :
    ∃ (p : Post) (s : State), s.running = true ∧ 2 ≤ p.role.toNat ∧ s.ld.st = 3 :=
  ⟨⟨0, 3, 7, 0, 0, 0⟩, { wD with ld := { wD.ld with st := 3, srcLoad := 2 } }, by decide⟩

theorem witness_imageCommands_9 :
    ∃ (p : Post) (s : State), s.running = true ∧ s.isT = true ∧ 1 ≤ p.role.toNat ∧ p.a0.toNat < 64 ∧ s.noImage p.a0.toNat = true :=
  ⟨⟨0, 1, 7, 63, 0, 0⟩, { wT with ld := { wT.ld with cur := some ⟨0x600, [(6, 1), (64, 0xD), (69, 1), (1288, 0x80)]⟩ } }, by decide⟩

theorem witness_imageCommands_10 :
    ∃ (p : Post) (s : State), s.running = true ∧ s.isT = true ∧ 1 ≤ p.role.toNat ∧ p.a0.toNat < 64 ∧ s.noImage p.a0.toNat = false :=
  ⟨⟨0, 1, 7, 0, 0, 0⟩, { wT with tray := { wT.tray with cache := [(0, ⟨64, []⟩)] } }, by decide⟩

theorem witness_imageDelivery_1 :
    ∃ (s : State), s.isD = true ∧ s.ld.st = 0 ∧ s.pwr.pf = false :=
  ⟨wD, by decide⟩

theorem witness_imageDelivery_2 :
    ∃ (o : Word) (s : State), s.isD = true ∧ s.ld.st = 1 ∧ s.ld.srcLoad = 3 ∧ o.toNat ≠ s.ld.shadow.len :=
  ⟨64, { wD with ld := { wD.ld with st := 1, srcLoad := 3 } }, by decide⟩

theorem witness_imageDelivery_3 :
    ∃ (o : Word) (b : List Byte) (s : State), s.isD = true ∧ s.ld.st = 1 ∧ s.ld.srcLoad = 3 ∧ o = 0 ∧ s.ld.shadow.len = 0 ∧ b = [0x42, 0x4D, 0x4B, 0x36] :=
  ⟨0, [0x42, 0x4D, 0x4B, 0x36], { wD with ld := { wD.ld with st := 1, srcLoad := 3 } }, by decide⟩

theorem witness_imageDelivery_4 :
    ∃ (d : Delivery) (s : State), s.isT = true ∧ s.pwr.selfRefresh = false ∧ s.pwr.memFail = false ∧ s.tray.deliveries = [d] ∧ s.tray.rotate = d.link ∧ (s.link d.link.toNat).tr.state = 4 ∧ ((s.link d.link.toNat).txv 3).queue = [] ∧ (Tab.get default s.tray.cache d.entry.toNat).len = d.sent + 64 :=
  ⟨⟨63, 0, 4096⟩, { wT with tray := { wT.tray with deliveries := [⟨63, 0, 4096⟩], rotate := 63, cache := [(0, ⟨4160, []⟩)] }, ul := { wT.ul with links := [(63, { Link.init with tr := { Link.init.tr with state := 4 } })] } }, by decide⟩

theorem witness_imageDelivery_5 :
    ∃ (k : BitVec 6) (asked : Bool) (s : State), s.isT = true ∧ s.user = true ∧ (s.link k.toNat).tr.state = 4 ∧ (s.tray.offers.find? fun o => o.1 == k) = some (k, asked) ∧ (asked = true ∨ s.wantsImage k.toNat = true) :=
  ⟨63, true, { wT with ld := { wT.ld with cur := some ⟨64, []⟩ }, tray := { wT.tray with offers := [(63, true)] }, ul := { wT.ul with links := [(63, { Link.init with tr := { Link.init.tr with state := 4 } })] } }, by decide⟩

theorem witness_imageDelivery_6 :
    ∃ (s : State), s.isT = true ∧ s.tray.offers = [] :=
  ⟨wT, by decide⟩

theorem witness_imageDelivery_7 :
    ∃ (k : BitVec 6) (d : DWord) (s : State), s.isT = true ∧ s.tray.offers = [(k, true)] ∧ d = s.expDigest k.toNat :=
  ⟨63, 0, { wT with tray := { wT.tray with offers := [(63, true)] } }, by decide⟩

theorem witness_imageInForce_1 :
    ∃ (s : State), s.ld.st = 2 ∧ s.ld.startup = false :=
  ⟨{ wD with ld := { wD.ld with st := 2 } }, by decide⟩

theorem witness_imageInForce_2 :
    ∃ (s : State), s.ld.st = 2 ∧ s.ld.startup = true ∧ s.sys.phase = 4 ∧ s.shadowFail ≠ none :=
  ⟨{ wD with ld := { wD.ld with st := 2, startup := true }, sys := { wD.sys with phase := 4 } }, by decide⟩

theorem witness_imageInForce_3 :
    ∃ (f : Nat × Nat × Nat × Nat) (s : State), s.ld.st = 2 ∧ s.ld.startup = false ∧ s.shadowFail = some f :=
  ⟨(1, 0, 0xF, 0), { wD with ld := { wD.ld with st := 2, srcLoad := 2 } }, by decide⟩

theorem witness_imageInForce_4 :
    ∃ (f : Byte) (s : State), s.isT = true ∧ s.ld.st = 4 ∧ 1 ≤ f.toNat ∧ f.toNat ≤ 6 :=
  ⟨6, { wT with ld := { wT.ld with st := 4 } }, by decide⟩

theorem witness_imageInForce_5 :
    ∃ (s : State), s.isT = true ∧ s.ld.st = 4 ∧ s.ld.latAct = 0 :=
  ⟨{ wT with ld := { wT.ld with st := 4 } }, by decide⟩

theorem witness_imageInForce_6 :
    ∃ (s : State), s.running = true ∧ s.heat.taken = true ∧ s.heat.inGap = false ∧ s.ld.st = 5 ∧ (s.ld.goNow = true ∨ s.ld.latAct ≠ 1 ∨ s.ld.latStroke.toNat ≤ s.tb.stroke.toNat) :=
  ⟨{ wT with ld := { wT.ld with st := 5, latAct := 1, latStroke := 7 }, tb := { wT.tb with stroke := 7 }, heat := { wT.heat with begun := true, taken := true } }, by decide⟩

theorem witness_imageInForce_7 :
    ∃ (s : State), s.isT = true ∧ s.sys.phase = 3 ∧ s.sys.sfdpDone = true ∧ s.sys.scanDone = true ∧ s.sys.lp5Done = true ∧ s.nb.flashReady = false :=
  ⟨{ wT3 with sys := { wT3.sys with sfdpDone := true, scanDone := true, lp5Done := true } }, by decide⟩

theorem witness_imageInForce_8 :
    ∃ (s : State), s.isT = true ∧ s.sys.phase = 3 ∧ s.sys.sfdpDone = true ∧ s.sys.scanDone = true ∧ s.sys.lp5Done = true ∧ s.nb.flashReady = true ∧ leAt (s.flashBytes validBase 32) 0 4 ≠ 0x564B4D42 :=
  ⟨{ wT3 with sys := { wT3.sys with sfdpDone := true, scanDone := true, lp5Done := true }, nb := { wT3.nb with flashReady := true } }, by decide⟩

theorem witness_imageInForce_9 :
    ∃ (s : State), s.isT = true ∧ s.sys.phase = 3 ∧ s.sys.sfdpDone = true ∧ s.sys.scanDone = true ∧ s.sys.lp5Done = true ∧ s.nb.flashReady = true ∧ leAt (s.flashBytes validBase 32) 0 4 = 0x564B4D42 ∧ leAt (s.flashBytes validBase 32) 8 8 + leAt (s.flashBytes validBase 32) 16 8 = 2 ^ 64 - 1 ∧ leAt (s.flashBytes validBase 32) 24 4 + leAt (s.flashBytes validBase 32) 28 4 = 2 ^ 32 - 1 :=
  ⟨wVal, by decide⟩

theorem witness_imageInForce_10 :
    ∃ (s : State), s.isT = true ∧ s.sys.phase = 3 ∧ s.nb.flashReady = true ∧ s.sys.scanDone = false :=
  ⟨{ wT3 with nb := { wT3.nb with flashReady := true } }, by decide⟩

theorem witness_imageInForce_11 :
    ∃ (s : State), s.isT = true ∧ s.sys.phase = 3 ∧ s.nb.flashReady = true ∧ s.sys.scanDone = false ∧ s.flash = [] :=
  ⟨{ wT3 with nb := { wT3.nb with flashReady := true } }, by decide⟩

theorem witness_latchingReads_1 :
    ∃ (s : State), s.running = true ∧ s.isD = true :=
  ⟨wD, by decide⟩

theorem witness_latchingReads_2 :
    ∃ (n : BitVec 12) (s : State), s.running = true ∧ s.isD = true ∧ Tab.get false s.prb.snapBad n.toNat = false :=
  ⟨4095, wD, by decide⟩

theorem witness_latchingReads_3 :
    ∃ (n : BitVec 12) (s : State), s.running = true ∧ s.isD = true ∧ s.creg.latchN = some n :=
  ⟨4095, { wD with creg := { wD.creg with latchN := some 4095, latch := 9 } }, by decide⟩

theorem witness_latchingReads_4 :
    ∃ (s : State), s.running = true ∧ s.isD = true :=
  ⟨wD, by decide⟩

theorem witness_latchingReads_5 :
    ∃ (s : State), s.running = true :=
  ⟨wD, by decide⟩

theorem witness_latchingReads_6 :
    ∃ (s : State), s.running = true ∧ s.isD = true :=
  ⟨wD, by decide⟩

theorem witness_latchingReads_7 :
    ∃ (s : State), s.running = true ∧ s.isT = true :=
  ⟨{ wT with tb := { wT.tb with taiValid := true } }, by decide⟩

theorem witness_latchingReads_8 :
    ∃ (s : State), s.running = true :=
  ⟨{ wT with tly := { wT.tly with dump := [1, 2, 3, 4] } }, by decide⟩

theorem witness_latchingReads_9 :
    ∃ (s : State), s.running = true ∧ s.isD = true :=
  ⟨{ wD with led := { wD.led with ring := [(0, [9])] } }, by decide⟩

theorem witness_latchingReads_10 :
    ∃ (s : State), s.running = true ∧ s.isD = true :=
  ⟨wD, by decide⟩

theorem witness_latchingReads_11 :
    ∃ (s : State), s.running = true ∧ s.isT = true :=
  ⟨wT, by decide⟩

theorem witness_latchingReads_12 :
    ∃ (s : State), s.running = true ∧ s.isT = true :=
  ⟨wT, by decide⟩

theorem witness_selectWrites_1 :
    ∃ (a : Acc) (s : State), Allowed s a 0x30030 1 :=
  ⟨⟨0, 0, 0xF, 0x3FFF⟩, wT, by decide⟩

theorem witness_selectWrites_2 :
    ∃ (a : Acc) (s : State), Allowed s a 0x80100 1 ∧ s.isT = true ∧ a.data.toNat % 32 < s.nFig :=
  ⟨⟨0, 0, 0xF, 2⟩, { wT with ld := { wT.ld with cur := some ⟨0x400, [(6, 1), (64, 8), (68, 0), (69, 2), (73, 1), (551, 3)]⟩ } }, by decide⟩

theorem witness_selectWrites_3 :
    ∃ (a : Acc) (s : State), Allowed s a 0x80100 1 ∧ s.isT = true ∧ s.nFig ≤ a.data.toNat % 32 :=
  ⟨⟨0, 0, 0xF, 31⟩, wT, by decide⟩

theorem witness_selectWrites_4 :
    ∃ (a : Acc) (s : State), Allowed s a 0x70800 1 ∧ s.isT = true ∧ s.te.pub = none :=
  ⟨⟨0, 0, 0xF, 63⟩, wT, by decide⟩

theorem witness_selectWrites_5 :
    ∃ (a : Acc) (x : Scored) (d : DieScore) (s : State), Allowed s a 0x70800 1 ∧ s.isT = true ∧ s.te.pub = some x ∧ x.dies.find? (fun p => p.1 == a.data.setWidth 6) = some (a.data.setWidth 6, d) :=
  ⟨⟨0, 0, 0xF, 63⟩, ⟨0, [(63, default)]⟩, default, { wT with te := { wT.te with pub := some ⟨0, [(63, default)]⟩ } }, by decide⟩

theorem witness_selectWrites_6 :
    ∃ (a : Acc) (s : State), Allowed s a 0x63000 1 ∧ s.isT = true :=
  ⟨⟨0, 0, 0xF, 63⟩, wT, by decide⟩

theorem witness_selectWrites_7 :
    ∃ (a : Acc) (s : State), Allowed s a 0xB0040 1 :=
  ⟨⟨0, 0, 0xF, 0x1FFFF⟩, wD, by decide⟩

theorem witness_selectWrites_8 :
    ∃ (s : State), s.running = true ∧ s.evr.held = none :=
  ⟨{ wD with evr := { wD.evr with ring := [([7], false)] } }, by decide⟩

theorem witness_selectWrites_9 :
    ∃ (b : List Byte) (s : State), s.running = true ∧ s.evr.held = some b :=
  ⟨[1], { wD with evr := { wD.evr with held := some [1] } }, by decide⟩

theorem witness_protectedCommits_1 :
    ∃ (a : Acc) (n : BitVec 8) (hi : Bool) (w : Word) (s : State), (Allowed s a ((0x61000 + 16 * n.toNat + (if hi then 0 else 8)) + 4) 2) ∧ (s.integ.staged = some (BitVec.ofNat 20 (0x61000 + 16 * n.toNat + (if hi then 0 else 8)), w)) ∧ a.data = ~~~ w ∧ s.detWordOk n.toNat hi w = true :=
  ⟨⟨9, 2, 0xF, 0xFFFFFFFF⟩, 255, true, 0, { wD with integ := { wD.integ with staged := some (0x61FF0, 0) } }, by decide⟩

theorem witness_protectedCommits_2 :
    ∃ (a : Acc) (n : BitVec 8) (hi : Bool) (w : Word) (s : State), (Allowed s a ((0x61000 + 16 * n.toNat + (if hi then 0 else 8)) + 4) 2) ∧ (s.integ.staged = some (BitVec.ofNat 20 (0x61000 + 16 * n.toNat + (if hi then 0 else 8)), w)) ∧ (a.data ≠ ~~~ w ∨ s.detWordOk n.toNat hi w = false) :=
  ⟨⟨9, 2, 0xF, 0xFFFFFFFE⟩, 255, true, 1, { wD with integ := { wD.integ with staged := some (0x61FF0, 1) } }, by decide⟩

theorem witness_protectedCommits_3 :
    ∃ (a : Acc) (i : BitVec 6) (w : BitVec 2) (v : Word) (s : State), Allowed s a ((0x60000 + 32 * i.toNat + 8 * w.toNat) + 4) 2 ∧ s.integ.staged = some (BitVec.ofNat 20 (0x60000 + 32 * i.toNat + 8 * w.toNat), v) ∧ a.data = ~~~ v ∧ s.nRule ≤ i.toNat ∧ v = 0 ∧ (∀ j ∈ List.range 4, s.polStored i.toNat j = 0) :=
  ⟨⟨9, 2, 0xF, 0xFFFFFFFF⟩, 63, 3, 0, { wD with integ := { wD.integ with staged := some (0x607F8, 0) } }, by decide⟩

theorem witness_protectedCommits_4 :
    ∃ (a : Acc) (i : BitVec 6) (w : BitVec 2) (s : State), Allowed s a ((0x60000 + 32 * i.toNat + 8 * w.toNat) + 4) 2 ∧ s.integ.staged = none :=
  ⟨⟨9, 2, 0xF, 0⟩, 0, 0, wD, by decide⟩

theorem witness_protectedCommits_5 :
    ∃ (a : Acc) (hi : Bool) (v : Word) (s : State), (Allowed s a ((if hi then 0x62810 else 0x62808) + 4) 2) ∧ (s.integ.staged = some (BitVec.ofNat 20 (if hi then 0x62810 else 0x62808), v)) ∧ a.data = ~~~ v ∧ (s.isT = true ∨ (hi = false ∧ v.toNat ≤ 1)) :=
  ⟨⟨9, 2, 0xF, 0xFFFFFFFE⟩, false, 1, { wD with integ := { wD.integ with staged := some (0x62808, 1) } }, by decide⟩

theorem witness_protectedCommits_6 :
    ∃ (a : Acc) (v : Word) (s : State), Allowed s a 0x2024 2 ∧ s.isT = true ∧ s.integ.staged = some (0x2020, v) ∧ a.data = ~~~ v ∧ s.tb.manual = true ∧ v.toInt.natAbs ≤ 219902325 ∧ s.cpl 5 0 = false :=
  ⟨⟨9, 2, 0xF, 0xF2E48E8A⟩, 219902325, { wT with integ := { wT.integ with staged := some (0x2020, 219902325) }, tb := { wT.tb with manual := true } }, by decide⟩

theorem witness_protectedCommits_7 :
    ∃ (a : Acc) (v : Word) (s : State), Allowed s a 0x2024 2 ∧ s.isT = true ∧ s.integ.staged = some (0x2020, v) ∧ s.tb.manual = false :=
  ⟨⟨9, 2, 0xF, 0⟩, 5, { wT with integ := { wT.integ with staged := some (0x2020, 5) } }, by decide⟩

theorem witness_tallyWrites_1 :
    ∃ (a : Acc) (n : BitVec 6) (s : State), Allowed s a (0x50500 + 4 * n.toNat) 1 ∧ n.toNat < 48 ∧ a.path ≠ 9 ∧ BitVec.setWidth 16 a.data ≠ 0 ∧ s.tly.halted = false ∧ s.tly.mode n.toNat = 0 :=
  ⟨⟨0, 1, 0xF, 0xFFFF⟩, 47, { wD with tly := { wD.tly with svc := 2, cnt := [(47, 0xFFFFFFFF)] } }, by decide⟩

theorem witness_tallyWrites_2 :
    ∃ (a : Acc) (n : BitVec 6) (s : State), Allowed s a (0x50500 + 4 * n.toNat) 1 ∧ n.toNat < 48 ∧ a.path = 9 ∧ s.tly.svc = 0 :=
  ⟨⟨9, 1, 0xF, 1⟩, 0, { wD with tly := { wD.tly with svc := 0 } }, by decide⟩

theorem witness_tallyWrites_3 :
    ∃ (a : Acc) (s : State), Allowed s a 0x5070C 1 ∧ s.isD = true ∧ s.tly.svc ≠ 0 ∧ a.data.toNat % 128 < 64 ∧ bits a.data.toNat 13 8 < 48 ∧ bits a.data.toNat 31 16 ≠ 0 :=
  ⟨⟨0, 0, 0xF, 0x00012F3F⟩, { wD with tly := { wD.tly with svc := 1 } }, by decide⟩

theorem witness_tallyWrites_4 :
    ∃ (a : Acc) (s : State), Allowed s a 0x5070C 1 ∧ 64 ≤ a.data.toNat % 128 ∧ a.data.toNat % 128 ≠ 127 :=
  ⟨⟨0, 0, 0xF, 0x00010040⟩, wT, by decide⟩

theorem witness_tallyWrites_5 :
    ∃ (a : Acc) (n : BitVec 6) (s : State), Allowed s a (0x50100 + 4 * n.toNat) 1 ∧ n.toNat < 48 ∧ s.cfgReason n.toNat a.data.toNat = 0 ∧ a.data.toNat % 4 = 0 :=
  ⟨⟨0, 0, 0xF, 0x10000⟩, 47, { wD with tly := { wD.tly with cfg := [(47, 0x20001)], cnt := [(47, 9)] } }, by decide⟩

theorem witness_tallyWrites_6 :
    ∃ (a : Acc) (n : BitVec 6) (s : State), Allowed s a (0x50100 + 4 * n.toNat) 1 ∧ n.toNat < 48 ∧ s.cfgReason n.toNat a.data.toNat = 0 ∧ a.data.toNat % 4 = 2 :=
  ⟨⟨0, 0, 0xF, 2⟩, 0, { wD with rw := [(0x14080, some 0x00040002)] }, by decide⟩

theorem witness_tallyWrites_7 :
    ∃ (a : Acc) (n : BitVec 6) (s : State), Allowed s a (0x50100 + 4 * n.toNat) 1 ∧ n.toNat < 48 ∧ s.cfgReason n.toNat a.data.toNat ≠ 0 :=
  ⟨⟨0, 0, 0xF, 1⟩, 0, wD, by decide⟩

theorem witness_tallyWrites_8 :
    ∃ (a : Acc) (j : BitVec 4) (s : State), Allowed s a (0x50600 + 4 * j.toNat) 1 ∧ bits a.data.toNat 15 8 = 3 ∧ a.data.toNat % 64 < 48 ∧ s.tly.mode (a.data.toNat % 64) = 0 :=
  ⟨⟨0, 0, 0xF, 0x32F⟩, 15, wD, by decide⟩

theorem witness_tallyWrites_9 :
    ∃ (a : Acc) (j : BitVec 4) (s : State), Allowed s a (0x50600 + 4 * j.toNat) 1 ∧ bits a.data.toNat 15 8 = 3 ∧ (48 ≤ a.data.toNat % 64 ∨ s.tly.mode (a.data.toNat % 64) ≠ 0) :=
  ⟨⟨0, 0, 0xF, 0x330⟩, 15, wD, by decide⟩

theorem witness_tallyWrites_10 :
    ∃ (a : Acc) (s : State), Allowed s a 0x50700 1 ∧ BitVec.setWidth 2 a.data ≠ s.tly.svc :=
  ⟨⟨0, 0, 0xF, 2⟩, wD, by decide⟩

theorem witness_engineWrites_1 :
    ∃ (a : Acc) (s : State), Allowed s a 0x30000 1 ∧ a.data.getLsbD 0 = true :=
  ⟨⟨0, 0, 0xF, 1⟩, wD, by decide⟩

theorem witness_engineWrites_2 :
    ∃ (a : Acc) (s : State), Allowed s a 0x30000 1 ∧ a.data.getLsbD 0 = false :=
  ⟨⟨0, 0, 0xF, 0xFFFFFFFE⟩, wD, by decide⟩

theorem witness_engineWrites_3 :
    ∃ (a : Acc) (s : State), Allowed s a 0x200C 2 ∧ s.isT = true ∧ a.data.getLsbD 0 = s.tb.manual :=
  ⟨⟨9, 2, 0xF, 0⟩, wT, by decide⟩

theorem witness_engineWrites_4 :
    ∃ (a : Acc) (s : State), Allowed s a 0x200C 2 ∧ s.isT = true ∧ a.data.getLsbD 0 = true ∧ s.tb.manual = false :=
  ⟨⟨9, 2, 0xF, 1⟩, wT, by decide⟩

theorem witness_engineWrites_5 :
    ∃ (a : Acc) (hi : Bool) (s : State), (Allowed s a (if hi then 0x62834 else 0x62830) 1) ∧ s.isT = true :=
  ⟨⟨0, 0, 0xF, 5⟩, true, wT, by decide⟩

theorem witness_engineWrites_6 :
    ∃ (a : Acc) (s : State), Allowed s a 0x4001C 1 ∧ s.isD = true ∧ (s.answered a true 0x4001C 0).postCheck a.data.toNat = 0 :=
  ⟨⟨0, 1, 0xF, 7⟩, { wD with ld := { wD.ld with cur := some ⟨64, []⟩ }, rw := [(0x10042, some 0x1000)] }, by decide⟩

theorem witness_engineWrites_7 :
    ∃ (a : Acc) (s : State), Allowed s a 0x4001C 1 ∧ s.isD = true ∧ (s.answered a true 0x4001C 0).postCheck a.data.toNat ≠ 0 :=
  ⟨⟨0, 1, 0xF, 7⟩, wD, by decide⟩

theorem witness_engineWrites_8 :
    ∃ (a : Acc) (i : BitVec 10) (s : State), Allowed s a (0x4C00C + 16 * i.toNat) 1 ∧ s.isD = true :=
  ⟨⟨0, 0, 0xF, 0x80030001⟩, 1023, wD, by decide⟩

theorem witness_engineWrites_9 :
    ∃ (a : Acc) (s : State), Allowed s a 0x70018 1 ∧ s.isT = true ∧ s.te.st = 1 ∧ s.te.recv.toNat + 4 ≤ s.blobLen :=
  ⟨⟨0, 0, 0xF, 7⟩, { wT with te := { wT.te with st := 1 }, ld := { wT.ld with cur := some ⟨0x400, [(6, 1), (64, 10), (69, 2), (73, 1), (544, 72)]⟩ } }, by decide⟩

theorem witness_engineWrites_10 :
    ∃ (a : Acc) (s : State), Allowed s a 0x70018 1 ∧ s.isT = true ∧ s.te.st = 1 ∧ s.blobLen < s.te.recv.toNat + 4 :=
  ⟨⟨0, 0, 0xF, 7⟩, { wT with te := { wT.te with st := 1 } }, by decide⟩

theorem witness_engineWrites_11 :
    ∃ (a : Acc) (s : State), Allowed s a 0x92004 2 ∧ s.isT = true :=
  ⟨⟨9, 2, 0xF, 0x105⟩, wT, by decide⟩

theorem witness_snapshotHolds_1 :
    ∃ (p : Post) (s : State), s.running = true ∧ s.isD = true ∧ 1 ≤ p.role.toNat ∧ p.a2 = 0 ∧ (p.a1 ++ p.a0 : DWord) ≠ 0 ∧ s.prb.pending = false ∧ s.prb.held = false ∧ s.user = true ∧ (maskList (p.a1 ++ p.a0 : DWord)).all s.cluEn = true :=
  ⟨⟨0, 1, 7, 1, 0, 0⟩, { wD with ld := { wD.ld with cur := some ⟨0x10000, [(6, 2), (64, 1), (69, 2), (80, 2), (85, 0x50), (640, 0x80), (20480, 1)]⟩ } }, by decide⟩

theorem witness_snapshotHolds_2 :
    ∃ (p : Post) (s : State), s.running = true ∧ s.isD = true ∧ 1 ≤ p.role.toNat ∧ (s.prb.pending = true ∨ s.prb.held = true ∨ s.user = false) :=
  ⟨⟨0, 1, 7, 1, 0, 0⟩, wD, by decide⟩

theorem witness_snapshotHolds_3 :
    ∃ (p : Post) (s : State), s.running = true ∧ s.isD = true ∧ 1 ≤ p.role.toNat ∧ s.prb.pending = true :=
  ⟨⟨0, 1, 7, 0, 0, 0⟩, { wD with prb := { wD.prb with pending := true } }, by decide⟩

theorem witness_snapshotHolds_4 :
    ∃ (p : Post) (s : State), s.running = true ∧ s.isD = true ∧ 1 ≤ p.role.toNat ∧ s.prb.pending = false ∧ s.prb.held = true :=
  ⟨⟨0, 1, 7, 0, 0, 0⟩, { wD with prb := { wD.prb with held := true } }, by decide⟩

theorem witness_snapshotHolds_5 :
    ∃ (s : State), s.isD = true ∧ s.prb.pending = true ∧ s.creg.pendMask ≠ 0 ∧ (maskList s.creg.pendMask).all s.prb.due.getLsbD = true :=
  ⟨{ wD with prb := { wD.prb with pending := true, due := 0x8000000000000000 }, creg := { wD.creg with pendMask := 0x8000000000000000, pendHold := 3 } }, by decide⟩

theorem witness_snapshotHolds_6 :
    ∃ (s : State), s.isD = true ∧ s.prb.held = true ∧ s.creg.released = true ∧ (maskList s.creg.snapMask).all s.prb.heldDue.getLsbD = true :=
  ⟨{ wD with prb := { wD.prb with held := true, heldDue := 1 }, creg := { wD.creg with snapMask := 1, released := true } }, by decide⟩

theorem witness_snapshotHolds_7 :
    ∃ (s : State), s.isD = true ∧ s.prb.held = true ∧ s.creg.released = false ∧ (maskList s.creg.snapMask).all s.prb.heldDue.getLsbD = true ∧ s.creg.snapHeat.toNat + s.prb.hold.toNat ≤ (s.heat.heat - 1).toNat :=
  ⟨{ wD with prb := { wD.prb with held := true, heldDue := 1, hold := 3 }, creg := { wD.creg with snapMask := 1, snapHeat := 5 }, heat := { wD.heat with heat := 9 } }, by decide⟩

theorem witness_snapshotHolds_8 :
    ∃ (s : State), s.prb.held = true ∧ s.creg.released = false ∧ (s.heat.heat - 1).toNat < s.creg.snapHeat.toNat + s.prb.hold.toNat :=
  ⟨{ wD with prb := { wD.prb with held := true, hold := 3 }, heat := { wD.heat with heat := 2 } }, by decide⟩

theorem witness_countersAndSamples_1 :
    ∃ (r : BitVec 5) (s : State), s.running = true ∧ s.isD = true ∧ s.heat.dormant.getLsbD r.toNat = true :=
  ⟨31, { wD with heat := { wD.heat with dormant := 0xFFFFFFFF } }, by decide⟩

theorem witness_countersAndSamples_2 :
    ∃ (s : State), s.running = true ∧ s.isD = true :=
  ⟨{ wD with ld := { wD.ld with cur := some ⟨0x10000, [(6, 2), (64, 1), (69, 2), (80, 2), (85, 0x50), (640, 0x80), (20480, 1)]⟩ } }, by decide⟩

theorem witness_countersAndSamples_3 :
    ∃ (n : BitVec 12) (s : State), s.running = true ∧ s.isD = true ∧ s.regionDis (s.cluRegion (n.toNat / 64)) = false ∧ s.cntMode n.toNat = 1 ∧ (s.cntProg n.toNat).testBit 4 = false :=
  ⟨0, { wD with ld := { wD.ld with cur := some ⟨0x10000, [(6, 2), (64, 1), (69, 2), (80, 2), (85, 0x50), (640, 0x80), (20480, 1)]⟩ }, prb := { wD.prb with live := [(0, 0xFFFFFFFFFFFFFFFF)], delta := [(0, 3)] } }, by decide⟩

theorem witness_countersAndSamples_4 :
    ∃ (n : BitVec 12) (s : State), s.running = true ∧ s.isD = true ∧ s.regionDis (s.cluRegion (n.toNat / 64)) = true :=
  ⟨0, { wD with ld := { wD.ld with cur := some ⟨0x10000, [(6, 2), (64, 1), (69, 2), (80, 2), (85, 0x50), (640, 0x80), (20480, 1)]⟩ }, integ := { wD.integ with xingStop := 1 } }, by decide⟩

theorem witness_countersAndSamples_5 :
    ∃ (c : BitVec 6) (s : State), s.running = true ∧ s.isD = true ∧ s.user = true ∧ s.prb.heldDue.getLsbD c.toNat = true ∧ ((s.link 0).txv 1).queue = [] :=
  ⟨63, { wD with ld := { wD.ld with cur := some ⟨0x10000, [(6, 2), (64, 1), (69, 2), (80, 2), (85, 0x50), (640, 0x80), (20480, 1)]⟩ }, prb := { wD.prb with heldDue := 0x8000000000000000 } }, by decide⟩

theorem witness_countersAndSamples_6 :
    ∃ (c : BitVec 6) (pe bad : Bool) (s : State), s.running = true ∧ s.isD = true ∧ s.user = true ∧ s.prb.heldDue.getLsbD c.toNat = false ∧ s.prb.due.getLsbD c.toNat = true ∧ ((s.link 0).txv 1).queue = [] ∧ bad = (pe || (List.range 64).any fun u => Tab.get false s.prb.snapBad (64 * c.toNat + u)) :=
  ⟨0, false, true, { wD with ld := { wD.ld with cur := some ⟨0x10000, [(6, 2), (64, 1), (69, 2), (80, 2), (85, 0x50), (640, 0x80), (20480, 1)]⟩ }, prb := { wD.prb with due := 1, snapBad := [(63, true)] } }, by decide +kernel⟩

theorem witness_countersAndSamples_7 :
    ∃ (c : BitVec 6) (s : State), s.prb.heldDue.getLsbD c.toNat = false ∧ s.prb.due.getLsbD c.toNat = false :=
  ⟨0, wD, by decide⟩

theorem witness_countersAndSamples_8 :
    ∃ (s : State), s.running = true ∧ s.isD = true ∧ s.user = true ∧ s.sns.sampleSent = false ∧ s.sns.sample ≠ [] ∧ s.warden = false :=
  ⟨{ wD with ld := { wD.ld with cur := some ⟨0x10000, [(6, 2), (64, 1), (69, 2), (80, 2), (85, 0x50), (640, 0x80), (20480, 1)]⟩ }, sns := { wD.sns with sample := List.replicate 96 0 } }, by decide⟩

theorem witness_countersAndSamples_9 :
    ∃ (s : State), s.sns.sampleSent = true :=
  ⟨{ wD with sns := { wD.sns with sampleSent := true } }, by decide⟩

theorem witness_analogueSense_1 :
    ∃ (s : State), s.running = true ∧ s.user = true ∧ s.senseRuns = true ∧ s.pwr.huIso = false ∧ s.nSeq ≠ 0 ∧ s.snf (0x70 + s.sns.pos.toNat) 1 < 0x14 ∧ s.sns.first = none :=
  ⟨{ wD with ld := { wD.ld with cur := some ⟨0x1000, [(6, 1), (64, 3), (69, 2), (512, 2), (516, 1), (528, 1), (624, 3), (625, 32)]⟩ } }, by decide⟩

theorem witness_analogueSense_2 :
    ∃ (c1 : BitVec 12) (b1 : Bool) (s : State), s.running = true ∧ s.user = true ∧ s.senseRuns = true ∧ s.pwr.huIso = false ∧ s.nSeq ≠ 0 ∧ s.snf (0x70 + s.sns.pos.toNat) 1 < 16 ∧ s.sns.first = some (c1, b1) :=
  ⟨4, true, { wD with ld := { wD.ld with cur := some ⟨0x1000, [(6, 1), (64, 3), (69, 2), (512, 2), (516, 1), (528, 1), (624, 3), (625, 32)]⟩ }, sns := { wD.sns with first := some (4, true) } }, by decide⟩

theorem witness_analogueSense_3 :
    ∃ (s : State), s.running = true ∧ s.user = true ∧ s.senseRuns = true ∧ s.pwr.huIso = false ∧ s.nSeq ≠ 0 ∧ 0x20 ≤ s.snf (0x70 + s.sns.pos.toNat) 1 ∧ s.snf (0x70 + s.sns.pos.toNat) 1 < 0x28 :=
  ⟨{ wD with ld := { wD.ld with cur := some ⟨0x1000, [(6, 1), (64, 3), (69, 2), (512, 2), (516, 1), (528, 1), (624, 3), (625, 32)]⟩ }, sns := { wD.sns with pos := 1 } }, by decide⟩

theorem witness_analogueSense_4 :
    ∃ (c : BitVec 12) (s : State), s.running = true ∧ s.user = true ∧ s.senseRuns = true ∧ s.pwr.huIso = true ∧ (s.pwr.huV = s.pwr.huI ∧ s.raCode < c.toNat) :=
  ⟨0xFFF, { wT with ld := { wD.ld with cur := some ⟨0x1000, [(6, 1), (64, 3), (69, 2), (512, 2), (516, 1), (528, 1), (624, 3), (625, 32)]⟩ }, pwr := { wT.pwr with huIso := true } }, by decide⟩

theorem witness_analogueSense_5 :
    ∃ (c : BitVec 12) (s : State), s.running = true ∧ s.user = true ∧ s.senseRuns = true ∧ s.pwr.huIso = true ∧ (s.pwr.huV = [] ∧ c.toNat ≤ s.raCode) :=
  ⟨0, { wT with ld := { wD.ld with cur := some ⟨0x1000, [(6, 1), (64, 3), (69, 2), (512, 2), (516, 1), (528, 1), (624, 3), (625, 32)]⟩ }, pwr := { wT.pwr with huIso := true } }, by decide⟩

theorem witness_analogueSense_6 :
    ∃ (r : BitVec 5) (s : State), s.running = true ∧ s.senseRuns = true ∧ s.roscEn r.toNat = true ∧ s.sns.roscOpen.getLsbD r.toNat = false :=
  ⟨0, { wD with ld := { wD.ld with cur := some ⟨0x1000, [(6, 1), (64, 3), (69, 2), (512, 2), (516, 1), (528, 1), (624, 3), (625, 32)]⟩ } }, by decide⟩

theorem witness_analogueSense_7 :
    ∃ (r : BitVec 5) (s : State), s.running = true ∧ s.senseRuns = true ∧ s.sns.roscOpen.getLsbD r.toNat = true :=
  ⟨31, { wD with sns := { wD.sns with roscOpen := 0x80000000 } }, by decide⟩

theorem witness_analogueSense_8 :
    ∃ (r : BitVec 5) (s : State), s.running = true ∧ s.senseRuns = true ∧ s.droopTh r.toNat ≠ 0 :=
  ⟨0, { wD with ld := { wD.ld with cur := some ⟨0x1000, [(6, 1), (64, 3), (69, 2), (512, 2), (516, 1), (528, 1), (624, 3), (625, 32)]⟩ } }, by decide⟩

theorem witness_analogueSense_9 :
    ∃ (r : BitVec 5) (d : BitVec 3) (s : State), s.running = true ∧ s.senseRuns = true ∧ s.droopTh r.toNat ≠ 0 ∧ 1 ≤ d.toNat ∧ d.toNat ≤ 4 ∧ Tab.get 0 s.sns.droopDeep r.toNat = 0 :=
  ⟨0, 4, { wD with ld := { wD.ld with cur := some ⟨0x1000, [(6, 1), (64, 3), (69, 2), (512, 2), (516, 1), (528, 1), (624, 3), (625, 32)]⟩ } }, by decide⟩

theorem witness_strokes_1 :
    ∃ (s : State), s.sys.rstHeld = false ∧ s.sys.x2 = false :=
  ⟨{ wD with tb := { wD.tb with stroke := 0xFFFFFFFFFFFFFFFF } }, by decide⟩

theorem witness_strokes_2 :
    ∃ (s : State), s.sys.rstHeld = false ∧ s.sys.x2 = true ∧ s.tb.lastPhase = some true :=
  ⟨{ wD with sys := { wD.sys with x2 := true }, tb := { wD.tb with lastPhase := some true } }, by decide⟩

theorem witness_strokes_3 :
    ∃ (s : State), s.sys.rstHeld = false ∧ s.sys.x2 = true ∧ s.tb.lastPhase = some false :=
  ⟨{ wD with sys := { wD.sys with x2 := true }, tb := { wD.tb with lastPhase := some false } }, by decide⟩

theorem witness_strokes_4 :
    ∃ (s : State), s.sys.rstHeld = false ∧ s.sys.x2 = true ∧ s.tb.lastPhase = some true :=
  ⟨{ wD with sys := { wD.sys with x2 := true }, tb := { wD.tb with lastPhase := some true } }, by decide⟩

theorem witness_strokes_5 :
    ∃ (s : State), s.sys.rstHeld = false ∧ s.sys.x2 = false ∧ s.tb.valid = false ∧ s.heat.begun = false :=
  ⟨wD, by decide⟩

theorem witness_strokes_6 :
    ∃ (v : DWord) (s : State), s.sys.rstHeld = false ∧ s.sys.x2 = false ∧ s.tb.valid = true ∧ v = s.tb.stroke + 1 :=
  ⟨1, { wD with tb := { wD.tb with valid := true } }, by decide⟩

theorem witness_strokes_7 :
    ∃ (v : DWord) (s : State), s.sys.rstHeld = false ∧ s.isD = true ∧ s.sys.x2 = false ∧ s.tb.valid = true ∧ v ≠ s.tb.stroke + 1 ∧ s.heat.begun = false :=
  ⟨9, { wD with tb := { wD.tb with valid := true } }, by decide⟩

theorem witness_strokes_8 :
    ∃ (s : State), s.sys.rstHeld = false ∧ s.sys.x2 = true :=
  ⟨{ wD with sys := { wD.sys with x2 := true } }, by decide⟩

theorem witness_strokes_9 :
    ∃ (j h : DWord) (s : State), s.isT = true ∧ s.running = true ∧ 0 ≤ j.toInt ∧ h ≠ BitVec.allOnes 64 :=
  ⟨5, 9, wT, by decide⟩

theorem witness_strokes_10 :
    ∃ (k : BitVec 6) (j : DWord) (s : State), s.isT = true ∧ s.running = true ∧ j.toInt < 0 ∧ (Tab.get 0 s.inr.done (1 + k.toNat)).toNat < (Tab.get 0 s.inr.done (65 + k.toNat)).toNat :=
  ⟨63, 0xFFFFFFFFFFFFFFFF, { wT with inr := { wT.inr with done := [(128, 9)] } }, by decide⟩

theorem witness_clockExchange_1 :
    ∃ (q : BitVec 1) (h : PtpHdr) (s : State), s.ptpOk h = true ∧ s.fromMaster h = true ∧ q.toNat = s.tbf 0x40 1 ∧ -7 ≤ ptpInt h ∧ ptpInt h ≤ 1 ∧ h.twoStep = false :=
  ⟨0, ⟨0, 2, 0, 7, 5, 0, false, 0⟩, { wT with ld := { wT.ld with cur := some ⟨0x2000, [(6, 1), (64, 0xB), (69, 2)]⟩ }, ptp := { wT.ptp with master := some ⟨5, ⟨0, 0, 0, 0, 0, 9, 0⟩⟩ } }, by decide⟩

theorem witness_clockExchange_2 :
    ∃ (h : PtpHdr) (s : State), s.isT = true ∧ s.running = true ∧ s.user = true ∧ (s.ptpOk h = false ∨ s.fromMaster h = false) :=
  ⟨⟨0, 2, 0, 7, 5, 0, true, 0⟩, { wT with ld := { wT.ld with cur := some ⟨0x2000, [(6, 1), (64, 0xB), (69, 2)]⟩ } }, by decide⟩

theorem witness_clockExchange_3 :
    ∃ (h : PtpHdr) (s : State), s.ptpOk h = true ∧ s.fromMaster h = true ∧ s.ptp.syncSeq = some h.seq ∧ s.ptp.syncT1 = none :=
  ⟨⟨0, 2, 0, 7, 5, 0, false, 0⟩, { wT with ld := { wT.ld with cur := some ⟨0x2000, [(6, 1), (64, 0xB), (69, 2)]⟩ }, ptp := { wT.ptp with master := some ⟨5, ⟨0, 0, 0, 0, 0, 9, 0⟩⟩, syncSeq := some 7 } }, by decide⟩

theorem witness_clockExchange_4 :
    ∃ (t1 : Int) (q : NbPort) (s : State), s.isT = true ∧ s.running = true ∧ s.user = true ∧ s.ptp.syncT1 = some t1 ∧ s.ptp.reqReady = true ∧ s.ptp.master.isSome = true ∧ s.portOn (s.tbf 0x40 1) = true ∧ (s.port (s.tbf 0x40 1)).push (s.vlan.testBit 15) 7 ⟨0, 0x191B01, s.delayReq (s.ptp.reqSeq + 1).toNat, s.tb.stroke⟩ = q ∧ ((s.port (s.tbf 0x40 1)).cls.getD 7 []).length < (q.cls.getD 7 []).length :=
  ⟨0, (wPtp.port (wPtp.tbf 0x40 1)).push (wPtp.vlan.testBit 15) 7 ⟨0, 0x191B01, wPtp.delayReq (wPtp.ptp.reqSeq + 1).toNat, wPtp.tb.stroke⟩, wPtp, by exact ⟨rfl, by decide, by decide, rfl, rfl, rfl, by decide +kernel, rfl, by decide +kernel⟩⟩

theorem witness_clockExchange_5 :
    ∃ (h : PtpHdr) (t3 : Int) (s : State), s.ptpOk h = true ∧ s.fromMaster h = true ∧ s.ptp.reqT3 = some t3 ∧ h.seq = s.ptp.reqSeq ∧ s.cpl 5 0 = true :=
  ⟨⟨0, 2, 0, 7, 5, 0, false, 0⟩, 3, { wT with ld := { wT.ld with cur := some ⟨0x2000, [(6, 1), (64, 0xB), (69, 2)]⟩ }, ptp := { wT.ptp with master := some ⟨5, ⟨0, 0, 0, 0, 0, 9, 0⟩⟩, reqT3 := some 3, reqSeq := 7 }, integ := { wT.integ with cplStat := [(1280, true)] } }, by decide⟩

theorem witness_clockExchange_6 :
    ∃ (h : PtpHdr) (t3 : Int) (m1 m2 m3 : Meas) (s : State), s.ptpOk h = true ∧ s.fromMaster h = true ∧ s.ptp.reqT3 = some t3 ∧ h.seq = s.ptp.reqSeq ∧ s.cpl 5 0 = false ∧ s.tb.state = 2 ∧ s.tb.stepDue = none ∧ s.ptp.acquire = [m1, m2, m3] :=
  ⟨⟨0, 2, 0, 7, 5, 0, false, 0⟩, 3, ⟨0, 0, 0⟩, ⟨0, 0, 0⟩, ⟨0, 0, 0⟩, { wT with ld := { wT.ld with cur := some ⟨0x2000, [(6, 1), (64, 0xB), (69, 2)]⟩ }, ptp := { wT.ptp with master := some ⟨5, ⟨0, 0, 0, 0, 0, 9, 0⟩⟩, reqT3 := some 3, reqSeq := 7, acquire := [⟨0, 0, 0⟩, ⟨0, 0, 0⟩, ⟨0, 0, 0⟩] }, tb := { wT.tb with state := 2 } }, by decide⟩

theorem witness_clockExchange_7 :
    ∃ (s : State), s.isT = true ∧ s.running = true ∧ s.user = true ∧ s.ptp.reqT3 = none :=
  ⟨{ wT with ld := { wT.ld with cur := some ⟨0x2000, [(6, 1), (64, 0xB), (69, 2)]⟩ } }, by decide⟩

theorem witness_clockExchange_8 :
    ∃ (h : PtpHdr) (d : PtpDataset) (s : State), s.ptpOk h = true ∧ 255 ≤ d.stepsRemoved.toNat :=
  ⟨⟨0, 2, 0, 7, 5, 0, false, 0⟩, ⟨0, 0, 0, 0, 0, 9, 255⟩, { wT with ld := { wT.ld with cur := some ⟨0x2000, [(6, 1), (64, 0xB), (69, 2)]⟩ } }, by decide⟩

theorem witness_clockExchange_9 :
    ∃ (h : PtpHdr) (d : PtpDataset) (s : State), s.ptpOk h = true ∧ d.stepsRemoved.toNat < 255 ∧ s.ptp.foreign = [] ∧ s.tb.state = 0 :=
  ⟨⟨0, 2, 0, 7, 5, 0, false, 0⟩, ⟨0, 0, 0, 0, 0, 9, 254⟩, { wT with ld := { wT.ld with cur := some ⟨0x2000, [(6, 1), (64, 0xB), (69, 2)]⟩ } }, by decide⟩

theorem witness_clockExchange_10 :
    ∃ (s : State), s.isT = true ∧ s.running = true ∧ s.user = true ∧ s.tb.stepped = true ∧ s.tb.state = 4 :=
  ⟨{ wT with ld := { wT.ld with cur := some ⟨0x2000, [(6, 1), (64, 0xB), (69, 2)]⟩ }, tb := { wT.tb with stepped := true, state := 4 } }, by decide⟩

theorem witness_clockExchange_11 :
    ∃ (f : Foreign) (s : State), s.isT = true ∧ s.running = true ∧ s.user = true ∧ s.tb.stepped = false ∧ s.ptp.master = some f ∧ s.ptp.foreign = [f] ∧ s.tb.state = 2 :=
  ⟨⟨5, ⟨0, 0, 0, 0, 0, 9, 0⟩⟩, { wT with ld := { wT.ld with cur := some ⟨0x2000, [(6, 1), (64, 0xB), (69, 2)]⟩ }, ptp := { wT.ptp with master := some ⟨5, ⟨0, 0, 0, 0, 0, 9, 0⟩⟩, foreign := [⟨5, ⟨0, 0, 0, 0, 0, 9, 0⟩⟩] }, tb := { wT.tb with state := 2 } }, by decide⟩

theorem witness_timeTransfer_1 :
    ∃ (s : State), s.isT = true ∧ s.running = true ∧ s.user = true ∧ s.heat.heat ≠ BitVec.allOnes 64 ∧ s.tbf 0x48 2 ≤ 1 ∧ s.tt.sent = false ∧ s.tt.roundOpen = false ∧ s.ul.links = [] :=
  ⟨{ wT with ld := { wT.ld with cur := some ⟨0x2000, [(6, 1), (64, 0xB), (69, 2)]⟩ }, heat := { wT.heat with heat := 3 } }, by decide⟩

theorem witness_timeTransfer_2 :
    ∃ (k : Nat) (s : State), k < 64 ∧ s.isT = true ∧ s.running = true ∧ s.user = true ∧ s.heat.heat ≠ BitVec.allOnes 64 ∧ s.tbf 0x48 2 ≤ 1 ∧ s.tt.sent = false ∧ s.tt.roundOpen = false ∧ s.trained = [k] :=
  ⟨63, { wT with ld := { wT.ld with cur := some ⟨0x2000, [(6, 1), (64, 0xB), (69, 2)]⟩ }, heat := { wT.heat with heat := 3 }, ul := { wT.ul with links := [(63, { Link.init with tr := { Link.init.tr with state := 4 } })] } }, by decide⟩

theorem witness_timeTransfer_3 :
    ∃ (s : State), s.tt.sent = true :=
  ⟨{ wT with tt := { wT.tt with sent := true } }, by decide⟩

theorem witness_timeTransfer_4 :
    ∃ (s : State), s.isD = true ∧ s.running = true :=
  ⟨wD, by decide⟩

theorem witness_timeTransfer_5 :
    ∃ (k : BitVec 6) (s : State), s.isT = true ∧ s.running = true ∧ s.user = true ∧ (Tab.get default s.tt.links k.toNat).out = [] :=
  ⟨63, { wT with ld := { wT.ld with cur := some ⟨0x2000, [(6, 1), (64, 0xB), (69, 2)]⟩ } }, by decide⟩

theorem witness_timeTransfer_6 :
    ∃ (k : BitVec 6) (x : BitVec 16) (s : State), s.isT = true ∧ s.running = true ∧ s.user = true ∧ (Tab.get default s.tt.links k.toNat).out = [(x, false)] ∧ s.tt.roundOpen = false ∧ (Tab.get default s.tt.links k.toNat).haveLen = false :=
  ⟨0, 7, { wT with ld := { wT.ld with cur := some ⟨0x2000, [(6, 1), (64, 0xB), (69, 2)]⟩ }, tt := { wT.tt with links := [(0, { (default : TtLink) with out := [(7, false)] })] } }, by decide⟩

theorem witness_timeTransfer_7 :
    ∃ (s : State), s.isD = true ∧ s.running = true :=
  ⟨wD, by decide⟩

theorem witness_heatBoundaries_1 :
    ∃ (s : State), s.running = true ∧ s.onBoundary s.tb.stroke.toNat = true ∧ s.heat.taken = false ∧ s.tb.substitute = false ∧ (s.heat.begun = false ∨ s.heat.inGap = true) :=
  ⟨wD, by decide⟩

theorem witness_heatBoundaries_2 :
    ∃ (s : State), s.running = true ∧ s.onBoundary s.tb.stroke.toNat = true ∧ s.heat.taken = false ∧ s.tb.substitute = false ∧ s.heat.begun = true ∧ s.heat.inGap = false :=
  ⟨{ wD with heat := { wD.heat with begun := true, heat := 4, first := 2 }, ld := { wD.ld with cur := some ⟨0x2000, [(6, 2), (64, 4), (69, 4), (80, 11), (85, 2), (512, 1), (1024, 10)]⟩ }, tb := { wD.tb with stroke := 20 } }, by decide⟩

theorem witness_heatBoundaries_3 :
    ∃ (s : State), s.heat.taken = true :=
  ⟨{ wD with heat := { wD.heat with taken := true } }, by decide⟩

theorem witness_heatBoundaries_4 :
    ∃ (s : State), s.tb.substitute = true :=
  ⟨{ wD with tb := { wD.tb with substitute := true } }, by decide⟩

theorem witness_heatBoundaries_5 :
    ∃ (s : State), s.running = true ∧ s.tb.substitute = true ∧ s.heat.begun = true ∧ s.heat.inGap = false :=
  ⟨{ wT with tb := { wT.tb with substitute := true }, heat := { wT.heat with begun := true, heat := 7 } }, by decide⟩

theorem witness_heatBoundaries_6 :
    ∃ (s : State), s.running = true ∧ s.tb.substitute = true ∧ (s.heat.begun = false ∨ s.heat.inGap = true) :=
  ⟨{ wT with tb := { wT.tb with substitute := true }, heat := { wT.heat with heat := 7 } }, by decide⟩

theorem witness_heatBoundaries_7 :
    ∃ (s : State), s.tb.substitute = false :=
  ⟨wT, by decide⟩

theorem witness_heatBoundaries_8 :
    ∃ (i : BitVec 10) (s : State), s.running = true ∧ s.user = true ∧ Tab.get (0 : BitVec 7) s.heat.divNext i.toNat ≠ 0 ∧ s.heat.heat.toNat % max (Tab.get (0 : BitVec 7) s.heat.divNext i.toNat).toNat (s.divOf i.toNat) = 0 :=
  ⟨1023, { wD with heat := { wD.heat with begun := true, first := 2, divNext := [(1023, 64)], heat := 64 }, ld := { wD.ld with cur := some ⟨0x2000, [(6, 2), (64, 4), (69, 4), (80, 11), (85, 2), (512, 1), (1024, 10)]⟩ }, tb := { wD.tb with stroke := 20 } }, by decide⟩

theorem witness_heatBoundaries_9 :
    ∃ (i : BitVec 10) (s : State), s.running = true ∧ s.user = true ∧ s.isD = true ∧ s.heat.rdivPend.getLsbD (i.toNat % 32) = true ∧ s.heat.heat.toNat % 2 ^ max (Tab.get (0 : BitVec 3) s.heat.rdivNext (i.toNat % 32)).toNat (s.rdivLog (i.toNat % 32)) = 0 :=
  ⟨31, { wD with heat := { wD.heat with begun := true, first := 2, rdivPend := 0x80000000, rdivNext := [(31, 6)], heat := 64 }, ld := { wD.ld with cur := some ⟨0x2000, [(6, 2), (64, 4), (69, 4), (80, 11), (85, 2), (512, 1), (1024, 10)]⟩ }, tb := { wD.tb with stroke := 20 } }, by decide⟩

theorem witness_tracePackets_1 :
    ∃ (t : BitVec 9) (v : BitVec 16) (e : BitVec 6) (s : State), (Tab.get default s.trc.taps t.toNat).slot ≠ some (v, e) :=
  ⟨0, 0xFFFE, 1, { wD with ld := { wD.ld with cur := some ⟨0x2000, [(6, 1), (64, 6), (69, 2), (576, 0), (577, 0x40), (581, 0xC0), (586, 0), (587, 0)]⟩ }, trc := { wD.trc with capEn := some true } }, by decide⟩

theorem witness_tracePackets_2 :
    ∃ (n : BitVec 9) (v : BitVec 16) (e : BitVec 6) (o : BitVec 11) (x : TapStage) (s : State), s.running = true ∧ s.user = true ∧ (s.tapKind n.toNat = 1 ∨ s.tapKind n.toNat = 2) ∧ s.integ.xingStop.getLsbD (s.regionDom (s.tapRegion n.toNat)) = false ∧ Tab.get default s.trc.taps n.toNat = x ∧ x.slot = some (v, e) ∧ (v.getLsbD 0 = true ∨ s.tapKind n.toNat = 1) ∧ s.trc.tstate = 0 ∧ s.trc.resume = false ∧ s.capOn = true ∧ s.trc.fifoWords + 17 ≤ 4096 ∧ s.trc.lossPend = 0 ∧ s.trc.ofs.toNat < o.toNat :=
  ⟨0, 0xFFFF, 1, 2047, ⟨0, 0, some (0xFFFF, 1)⟩, { wD with ld := { wD.ld with cur := some ⟨0x2000, [(6, 1), (64, 6), (69, 2), (576, 0), (577, 0x40), (581, 0xC0), (586, 0), (587, 0)]⟩ }, trc := { wD.trc with capEn := some true, taps := [(0, ⟨0, 0, some (0xFFFF, 1)⟩)] } }, by decide⟩

theorem witness_tracePackets_3 :
    ∃ (t : BitVec 9) (s : State), s.tapKind t.toNat = 0 :=
  ⟨5, { wD with ld := { wD.ld with cur := some ⟨0x2000, [(6, 1), (64, 6), (69, 2), (576, 0), (577, 0x40), (581, 0xC0), (586, 0), (587, 0)]⟩ }, trc := { wD.trc with capEn := some true } }, by decide⟩

theorem witness_tracePackets_4 :
    ∃ (t : BitVec 9) (s : State), s.integ.xingStop.getLsbD (s.regionDom (s.tapRegion t.toNat)) = true :=
  ⟨5, { wD with integ := { wD.integ with xingStop := BitVec.allOnes 40 } }, by decide⟩

theorem witness_tracePackets_5 :
    ∃ (n : BitVec 9) (v : BitVec 16) (e : BitVec 6) (o : BitVec 11) (x : TapStage) (s : State), s.running = true ∧ s.user = true ∧ s.tapKind n.toNat = 3 ∧ s.integ.xingStop.getLsbD (s.regionDom (s.tapRegion n.toNat)) = false ∧ Tab.get default s.trc.taps n.toNat = x ∧ x.slot = some (v, e) ∧ s.trc.tstate = 0 ∧ s.trc.resume = false ∧ s.capOn = true ∧ s.trc.fifoWords = 4095 ∧ s.trc.lossPend = 0 ∧ s.trc.ofs.toNat < o.toNat :=
  ⟨1, 7, 1, 2047, ⟨0, 0, some (7, 1)⟩, { wD with ld := { wD.ld with cur := some ⟨0x2000, [(6, 1), (64, 6), (69, 2), (576, 0), (577, 0x40), (581, 0xC0), (586, 0), (587, 0)]⟩ }, trc := { wD.trc with capEn := some true, taps := [(1, ⟨0, 0, some (7, 1)⟩)], fifo := [List.replicate 4095 0] } }, by decide +kernel⟩

theorem witness_tracePackets_6 :
    ∃ (n : BitVec 23) (s : State), s.running = true ∧ n.toNat % 64 = 0 ∧ n ≠ 0 ∧ s.heat.inGap = false ∧ s.trc.resume = false ∧ s.capOn = true ∧ s.trc.tstate ≠ 3 :=
  ⟨0x7FFFC0, { wD with ld := { wD.ld with cur := some ⟨0x2000, [(6, 1), (64, 6), (69, 2), (576, 0), (577, 0x40), (581, 0xC0), (586, 0), (587, 0)]⟩ }, trc := { wD.trc with capEn := some true } }, by decide⟩

theorem witness_tracePackets_7 :
    ∃ (s : State), s.running = true ∧ s.heat.inGap = true ∧ s.trc.resume = false ∧ s.capOn = true ∧ s.trc.tstate ≠ 3 :=
  ⟨{ wD with ld := { wD.ld with cur := some ⟨0x2000, [(6, 1), (64, 6), (69, 2), (576, 0), (577, 0x40), (581, 0xC0), (586, 0), (587, 0)]⟩ }, trc := { wD.trc with capEn := some true }, heat := { wD.heat with inGap := true } }, by decide⟩

theorem witness_tracePackets_8 :
    ∃ (n : BitVec 23), n.toNat % 64 ≠ 0 :=
  ⟨63, by decide⟩

theorem witness_tracePackets_9 :
    ∃ (p : DWord) (s : State), s.writerRuns = true ∧ s.isD = true ∧ s.trc.fifo = [[p]] ∧ p.toNat / 2 ^ 60 = 3 ∧ s.mayWrite = true ∧ s.trc.tstate ≠ 2 ∧ s.ttrc.freezeLeft = none ∧ 2 ≤ s.trc.word ∧ s.trc.word < 511 ∧ s.trc.lossPend = 0 ∧ s.trc.encPend = [] :=
  ⟨0x3000000000000000, { wD with heat := { wD.heat with heat := 0 }, ld := { wD.ld with cur := some ⟨0x2000, [(6, 2), (64, 5), (69, 4), (80, 6), (85, 2), (1024 + 0x1C, 1), (1024 + 66, 1), (1024 + 67, 1), (1024 + 68, 1)]⟩ }, trc := { wD.trc with capEn := some true, fifo := [[0x3000000000000000]], word := 2, blk := 2047, blocks := [(2047, ⟨1, [0, 0]⟩)] } }, by decide⟩

theorem witness_tracePackets_10 :
    ∃ (s : State), s.writerRuns = false :=
  ⟨wD, by decide⟩

theorem witness_tracePackets_11 :
    ∃ (s : State), s.isT = true ∧ s.running = true ∧ s.ttrc.frozen = true :=
  ⟨{ wT with ttrc := { wT.ttrc with frozen := true } }, by decide⟩

theorem witness_tracePackets_12 :
    ∃ (s : State), s.isT = true ∧ s.running = true ∧ s.ttrc.frozen = false ∧ s.ttrc.freezeLeft ≠ some 0 ∧ s.dieBlocksN ≠ 0 ∧ s.spillBlocks = 0 ∧ s.nbExp 1 = false :=
  ⟨{ wT with ld := { wT.ld with cur := some ⟨0x2000, [(6, 1), (64, 6), (69, 2), (525, 0x3F)]⟩ } }, by decide⟩

theorem witness_tracePackets_13 :
    ∃ (s : State), s.isT = true ∧ s.writerRuns = true ∧ s.spillBlocks ≠ 0 ∧ s.workStopped = false ∧ s.lp5Runs = true ∧ s.pwr.memFail = false ∧ s.ttrc.copiedDie = false ∧ (Tab.get default s.ttrc.dieBlocks s.ttrc.dieBlk).gen ≠ 0 :=
  ⟨{ wT with heat := { wT.heat with heat := 0 }, ld := { wT.ld with cur := some ⟨0x2000, [(6, 2), (64, 5), (69, 4), (80, 6), (85, 2), (512 + 0xD, 0x3F), (512 + 0x19, 1), (1024 + 0x1C, 1), (1024 + 66, 1), (1024 + 67, 1), (1024 + 68, 1)]⟩ }, ttrc := { wT.ttrc with dieBlocks := [(0, ⟨9, []⟩)] } }, by decide⟩

theorem witness_tracePackets_14 :
    ∃ (s : State), s.spillBlocks = 0 :=
  ⟨wD, by decide⟩

theorem witness_traceControl_1 :
    ∃ (p : Post) (s : State), s.running = true ∧ s.isD = true ∧ s.user = true ∧ 1 ≤ p.role.toNat ∧ s.trc.tstate = 0 :=
  ⟨⟨0, 1, 7, 0, 0, 0⟩, { wD with ld := { wD.ld with cur := some ⟨0x2000, [(6, 1), (64, 6), (69, 2), (576, 0), (577, 0x40), (581, 0xC0), (586, 0), (587, 0)]⟩ }, trc := { wD.trc with capEn := some true } }, by decide⟩

theorem witness_traceControl_2 :
    ∃ (p : Post) (s : State), s.running = true ∧ s.isD = true ∧ s.user = true ∧ 1 ≤ p.role.toNat ∧ s.trc.tstate = 3 ∧ s.trc.dumping = false :=
  ⟨⟨0, 1, 7, 0, 0, 0⟩, { wD with ld := { wD.ld with cur := some ⟨0x2000, [(6, 1), (64, 6), (69, 2), (576, 0), (577, 0x40), (581, 0xC0), (586, 0), (587, 0)]⟩ }, trc := { wD.trc with capEn := some true, tstate := 3 } }, by decide⟩

theorem witness_traceControl_3 :
    ∃ (p : Post) (s : State), s.running = true ∧ s.isD = true ∧ s.user = true ∧ 1 ≤ p.role.toNat ∧ s.trc.tstate = 1 :=
  ⟨⟨0, 1, 7, 0, 0, 0⟩, { wD with ld := { wD.ld with cur := some ⟨0x2000, [(6, 1), (64, 6), (69, 2), (576, 0), (577, 0x40), (581, 0xC0), (586, 0), (587, 0)]⟩ }, trc := { wD.trc with capEn := some true, tstate := 1 } }, by decide⟩

theorem witness_traceControl_4 :
    ∃ (s : State), s.isD = true ∧ s.running = true ∧ s.trc.tstate ≠ 1 :=
  ⟨wD, by decide⟩

theorem witness_traceControl_5 :
    ∃ (s : State), s.isD = true ∧ s.running = true ∧ s.trc.tstate = 1 :=
  ⟨{ wD with trc := { wD.trc with tstate := 1 } }, by decide⟩

theorem witness_traceControl_6 :
    ∃ (s : State), s.isD = true ∧ s.running = true ∧ s.trc.dumping = true ∧ s.trc.dumpLeft = [] :=
  ⟨{ wD with trc := { wD.trc with dumping := true } }, by decide⟩

theorem witness_traceControl_7 :
    ∃ (b : Nat) (rest : List Nat) (s : State), s.isD = true ∧ s.running = true ∧ s.trc.dumping = true ∧ s.trc.dumpLeft = b :: rest :=
  ⟨0, [1], { wD with trc := { wD.trc with dumping := true, dumpLeft := [0, 1], blocks := [(0, ⟨1, [5, 6]⟩)] } }, by decide⟩

theorem witness_traceControl_8 :
    ∃ (p : Post) (s : State), s.running = true ∧ s.isT = true ∧ 1 ≤ p.role.toNat ∧ s.ttrc.frozen = true :=
  ⟨⟨0, 1, 7, 0, 0, 0⟩, { wT with ttrc := { wT.ttrc with frozen := true } }, by decide⟩

theorem witness_traceControl_9 :
    ∃ (p : Post) (s : State), s.running = true ∧ s.isT = true ∧ 1 ≤ p.role.toNat ∧ s.ttrc.frozen = false :=
  ⟨⟨0, 1, 7, 0, 0, 0⟩, wT, by decide⟩

theorem witness_traceControl_10 :
    ∃ (n : BitVec 5) (d : Option (BitVec 6)) (s : State), s.isT = true ∧ s.running = true ∧ s.user = true ∧ s.ttrc.emFire = some (n.toNat, d) ∧ s.trans n.toNat 6 2 = 0 :=
  ⟨0, none, { wT with ld := { wT.ld with cur := some ⟨0x2000, [(6, 1), (64, 6), (69, 2), (2624, 2), (2625, 7), (2626, 1), (2627, 0x30), (2628, 1)]⟩ }, ttrc := { wT.ttrc with emFire := some (0, none) } }, by decide⟩

theorem witness_traceControl_11 :
    ∃ (n : BitVec 5) (d : Option (BitVec 6)) (s : State), s.isT = true ∧ s.running = true ∧ s.user = true ∧ s.ttrc.emFire = some (n.toNat, d) :=
  ⟨0, none, { wT with ld := { wT.ld with cur := some ⟨0x2000, [(6, 1), (64, 6), (69, 2), (2624, 2), (2625, 7), (2626, 1), (2627, 0x30), (2628, 1), (2630, 0xFF)]⟩ }, ttrc := { wT.ttrc with emFire := some (0, none) } }, by decide⟩

theorem witness_traceControl_12 :
    ∃ (s : State), s.ttrc.emFire = none :=
  ⟨wT, by decide⟩

theorem witness_traceControl_13 :
    ∃ (s : State), s.isT = true ∧ s.ttrc.freezeLeft = some 0 ∧ s.ttrc.frozen = false :=
  ⟨{ wT with ttrc := { wT.ttrc with freezeLeft := some 0 } }, by decide⟩

theorem witness_scanDescriptorsFolding_1 :
    ∃ (c : BitVec 3) (d : Desc) (rest : List Desc) (s : State), s.isD = true ∧ s.running = true ∧ (s.chan c.toNat).queue = d :: rest ∧ (s.chan c.toNat).run = [] ∧ d.restore = false ∧ 0 < d.len.toNat :=
  ⟨7, ⟨0, 3, 0x1000, 0, 77⟩, [], { wD with scn := { wD.scn with chans := [(7, { (default : Channel) with queue := [⟨0, 3, 0x1000, 0, 77⟩] })] } }, by decide⟩

theorem witness_scanDescriptorsFolding_2 :
    ∃ (c : BitVec 3) (s : State), (s.chan c.toNat).queue = [] :=
  ⟨0, wD, by decide⟩

theorem witness_scanDescriptorsFolding_3 :
    ∃ (c : BitVec 3) (d : Desc) (s : State), s.isD = true ∧ s.running = true ∧ (s.chan c.toNat).queue = [d] ∧ (s.chan c.toNat).run = [] ∧ d.restore = true ∧ d.save = false ∧ d.ledger = false ∧ (s.ctx d.ctx).valid = false :=
  ⟨0, ⟨4, 3, 0, 0, 77⟩, { wD with scn := { wD.scn with chans := [(0, { (default : Channel) with queue := [⟨4, 3, 0, 0, 77⟩] })] } }, by decide⟩

theorem witness_scanDescriptorsFolding_4 :
    ∃ (c : BitVec 3) (p : Running) (s : State), s.isD = true ∧ s.running = true ∧ s.workStopped = false ∧ (s.chan c.toNat).slot ((s.chan c.toNat).q.toNat % 64) = .free ∧ (s.chan c.toNat).run = [p] ∧ p.ended = none ∧ p.built < p.d.segs ∧ s.scn.issue = [] :=
  ⟨0, ⟨⟨0, 3, 0x1000, 0, 77⟩, 1, [63], none, 0xFFFFFFFF, false, 0⟩, { wD with scn := { wD.scn with chans := [(0, { (default : Channel) with q := 0, run := [⟨⟨0, 3, 0x1000, 0, 77⟩, 1, [63], none, 0xFFFFFFFF, false, 0⟩], slots := [(63, .built true)] })] } }, by decide⟩

theorem witness_scanDescriptorsFolding_5 :
    ∃ (c : BitVec 3) (l : Option Bool) (s : State), s.isD = true ∧ s.running = true ∧ s.workStopped = false ∧ (s.chan c.toNat).slot ((s.chan c.toNat).q.toNat % 64) = .quarantined l :=
  ⟨0, none, { wD with scn := { wD.scn with chans := [(0, { (default : Channel) with slots := [(0, .quarantined none)] })] } }, by decide⟩

theorem witness_scanDescriptorsFolding_6 :
    ∃ (c : BitVec 3) (e : BitVec 6) (a : DWord) (z : Bool) (s : State), s.isD = true ∧ s.running = true ∧ s.scanOff = false ∧ s.scn.issue = [(c, e, a, z)] ∧ (s.chan c.toNat).slot e.toNat = .built z :=
  ⟨0, 63, 4096, true, { wD with scn := { wD.scn with chans := [(0, { (default : Channel) with slots := [(63, .built true)] })], issue := [(0, 63, 4096, true)] } }, by decide⟩

theorem witness_scanDescriptorsFolding_7 :
    ∃ (s : State), s.isD = true ∧ s.running = true ∧ s.scanOff = false ∧ s.scn.issue = [] :=
  ⟨wD, by decide⟩

theorem witness_scanDescriptorsFolding_8 :
    ∃ (s : State), s.scanOff = true :=
  ⟨{ wD with integ := { wD.integ with xingStop := 0xFFFFFFFFFF } }, by decide⟩

theorem witness_scanDescriptorsFolding_9 :
    ∃ (l : BitVec 1) (g : BitVec 9) (s : State), s.isD = true ∧ s.running = true ∧ s.scanOff = false ∧ (s.chan (g.toNat / 64)).slot (g.toNat % 64) = .issued (l == 1) true :=
  ⟨1, 511, { wD with scn := { wD.scn with chans := [(7, { (default : Channel) with slots := [(63, .issued true true)] })] } }, by decide +kernel⟩

theorem witness_scanDescriptorsFolding_10 :
    ∃ (l : BitVec 1) (g : BitVec 9) (s : State), s.isD = true ∧ s.running = true ∧ s.scanOff = false ∧ (s.chan (g.toNat / 64)).slot (g.toNat % 64) = .quarantined (some (l == 1)) :=
  ⟨0, 64, { wD with scn := { wD.scn with chans := [(1, { (default : Channel) with slots := [(0, .quarantined (some false))] })] } }, by decide⟩

theorem witness_scanDescriptorsFolding_11 :
    ∃ (g : BitVec 9) (s : State), s.isD = true ∧ 1 ≤ s.sys.phase.toNat ∧ s.sys.phase.toNat ≤ 6 ∧ s.scanOff = false ∧ (s.chan (g.toNat / 64)).slot (g.toNat % 64) = .free :=
  ⟨64, wD, by decide⟩

theorem witness_scanDescriptorsFolding_12 :
    ∃ (c : BitVec 3) (e : BitVec 6) (d : Desc) (s : State), s.isD = true ∧ s.running = true ∧ d.ledger = false ∧ d.save = false ∧ (s.chan c.toNat).run = [⟨d, 1, [e], none, 0, false, 0⟩] ∧ (s.chan c.toNat).slot e.toNat = .issued false true :=
  ⟨0, 5, ⟨0, 3, 0x1000, 0, 77⟩, { wD with scn := { wD.scn with chans := [(0, { (default : Channel) with slots := [(5, .issued false true)], run := [⟨⟨0, 3, 0x1000, 0, 77⟩, 1, [5], none, 0, false, 0⟩] })] } }, by decide⟩

theorem witness_scanDescriptorsFolding_13 :
    ∃ (p : Post) (d : Desc) (s : State), s.running = true ∧ s.isD = true ∧ 1 ≤ p.role.toNat ∧ p.a0 = 1 ∧ d.ledger = false ∧ d.save = false ∧ (s.chan 0).queue = [d] ∧ (s.chan 0).run = [] :=
  ⟨⟨0, 1, 7, 1, 0, 0⟩, ⟨0, 3, 0x1000, 0, 77⟩, { wD with scn := { wD.scn with chans := [(0, { (default : Channel) with queue := [⟨0, 3, 0x1000, 0, 77⟩] })] } }, by decide⟩

theorem witness_scanDescriptorsFolding_14 :
    ∃ (p : Post) (s : State), s.running = true ∧ s.isD = true ∧ 1 ≤ p.role.toNat ∧ p.a0 = 0 :=
  ⟨⟨0, 1, 7, 0, 0, 0⟩, wD, by decide⟩

theorem witness_scanDescriptorsFolding_15 :
    ∃ (c : BitVec 3) (e : BitVec 6) (b : List Byte) (q : Bool) (r : Running) (s : State), s.scn.take = [(c, e)] ∧ (s.chan c.toNat).slot e.toNat = .taken b q ∧ (s.chan c.toNat).run = [r] ∧ r.slots.contains e = true :=
  ⟨0, 5, [1], false, ⟨⟨0, 3, 0x1000, 0, 77⟩, 1, [5], none, 0xFFFFFFFF, false, 0⟩, { wD with scn := { wD.scn with chans := [(0, { (default : Channel) with slots := [(5, .taken [1] false)], run := [⟨⟨0, 3, 0x1000, 0, 77⟩, 1, [5], none, 0xFFFFFFFF, false, 0⟩] })], take := [(0, 5)] } }, by decide⟩

theorem witness_scanDescriptorsFolding_16 :
    ∃ (s : State), s.scn.take = [] :=
  ⟨wD, by decide⟩

theorem witness_scanDescriptorsFolding_17 :
    ∃ (c : BitVec 3) (e : BitVec 6) (es : List (BitVec 6)) (v : DWord) (q : Bool) (r : Running) (s : State), s.isD = true ∧ s.running = true ∧ (s.chan c.toNat).run = [r] ∧ r.ended = none ∧ r.slots = e :: es ∧ (s.chan c.toNat).slot e.toNat = .value v q ∧ (r.built ≠ r.d.segs ∨ es ≠ []) :=
  ⟨0, 5, [], 7, false, ⟨⟨0, 3, 0x1000, 0, 77⟩, 1, [5], none, 0xFFFFFFFF, false, 0⟩, { wD with scn := { wD.scn with chans := [(0, { (default : Channel) with slots := [(5, .value 7 false)], run := [⟨⟨0, 3, 0x1000, 0, 77⟩, 1, [5], none, 0xFFFFFFFF, false, 0⟩] })] } }, by decide⟩

theorem witness_scanDescriptorsFolding_18 :
    ∃ (c : BitVec 3) (e : BitVec 6) (v : DWord) (q : Bool) (r : Running) (s : State), s.isD = true ∧ s.running = true ∧ (s.chan c.toNat).run = [r] ∧ r.ended = none ∧ r.slots = [e] ∧ (s.chan c.toNat).slot e.toNat = .value v q ∧ r.built = r.d.segs ∧ r.d.ledger = false ∧ r.d.save = true ∧ s.tly.bind = [] :=
  ⟨0, 5, 7, false, ⟨⟨8, 3, 0x1000, 0, 77⟩, 2, [5], none, 0xFFFFFFFF, false, 256⟩, { wD with scn := { wD.scn with chans := [(0, { (default : Channel) with slots := [(5, .value 7 false)], run := [⟨⟨8, 3, 0x1000, 0, 77⟩, 2, [5], none, 0xFFFFFFFF, false, 256⟩] })] } }, by decide⟩

theorem witness_ledgerMarksReplay_1 :
    ∃ (e : LedgerIn) (s : State), s.isD = true ∧ s.running = true ∧ s.led.queue = [e] ∧ bits e.ltag.toNat 47 44 = 1 ∧ s.tly.bind = [] :=
  ⟨⟨7, 0x100000000005, 9, 3, 0, 0, 4⟩, { wD with led := { wD.led with queue := [⟨7, 0x100000000005, 9, 3, 0, 0, 4⟩], count := 0xFFFFFFFF } }, by decide⟩

theorem witness_ledgerMarksReplay_2 :
    ∃ (s : State), s.led.queue = [] ∧ s.isD = true :=
  ⟨wD, by decide⟩

theorem witness_ledgerMarksReplay_3 :
    ∃ (s : State), s.isD = true ∧ s.running = true ∧ s.led.marks.length < 4 ∧ s.tly.bind = [] :=
  ⟨wD, by decide⟩

theorem witness_ledgerMarksReplay_4 :
    ∃ (s : State), s.isD = true ∧ s.running = true ∧ 4 ≤ s.led.marks.length ∧ s.tly.bind = [] :=
  ⟨{ wD with led := { wD.led with marks := List.replicate 4 (0, 0, true) } }, by decide⟩

theorem witness_ledgerMarksReplay_5 :
    ∃ (s : State), s.isD = true ∧ s.running = true ∧ s.led.marks.length < 4 ∧ s.tly.bind = [] :=
  ⟨{ wD with led := { wD.led with hist := List.replicate 16 (0, 0) } }, by decide⟩

theorem witness_ledgerMarksReplay_6 :
    ∃ (p : Post) (s : State), s.running = true ∧ s.isD = true ∧ 1 ≤ p.role.toNat ∧ s.led.inStates (· != 0) = [] :=
  ⟨⟨0, 1, 7, 0, 0, 0⟩, wD, by decide⟩

theorem witness_ledgerMarksReplay_7 :
    ∃ (p : Post) (s : State), s.running = true ∧ s.isD = true ∧ 1 ≤ p.role.toNat ∧ s.led.inStates (· != 0) ≠ [] :=
  ⟨⟨0, 1, 7, 0, 0, 0⟩, { wD with led := { wD.led with shards := [(1023, ⟨0, 0, 1⟩)] } }, by decide⟩

theorem witness_ledgerMarksReplay_8 :
    ∃ (s : State), s.isD = true ∧ s.running = true ∧ s.led.rq = [] :=
  ⟨wD, by decide⟩

theorem witness_ledgerMarksReplay_9 :
    ∃ (n : Word) (l : List Byte) (s : State), s.isD = true ∧ s.running = true ∧ s.led.rq = [⟨n, l⟩] ∧ l.length < 32 :=
  ⟨5, [1], { wD with led := { wD.led with rq := [⟨5, [1]⟩] } }, by decide⟩

theorem witness_ledgerMarksReplay_10 :
    ∃ (n : Word) (s : State), s.isD = true ∧ s.running = true ∧ 8 ≤ s.led.rq.length ∧ (s.led.rq.all fun r => r.step != n) = true :=
  ⟨6, { wD with led := { wD.led with rq := List.replicate 8 ⟨5, [1]⟩ } }, by decide⟩

theorem witness_ledgerMarksReplay_11 :
    ∃ (r : ReplayIn) (l : List ReplayIn) (s : State), s.isD = true ∧ s.running = true ∧ s.led.rq = r :: l ∧ s.led.req = false ∧ s.led.ackHigh = false :=
  ⟨⟨5, [1]⟩, [], { wD with led := { wD.led with rq := [⟨5, [1]⟩] } }, by decide⟩

theorem witness_ledgerMarksReplay_12 :
    ∃ (s : State), s.led.rq = [] :=
  ⟨wD, by decide⟩

theorem witness_ledgerMarksReplay_13 :
    ∃ (s : State), s.isD = true ∧ s.running = true ∧ s.led.ackHigh = false ∧ s.led.req = false :=
  ⟨wD, by decide⟩

theorem witness_ledgerMarksReplay_14 :
    ∃ (n : Word) (m : Byte) (s : State), s.isD = true ∧ s.running = true ∧ s.led.ackHigh = false ∧ s.led.req = true ∧ s.led.rq = [⟨n, [m]⟩] :=
  ⟨5, 1, { wD with led := { wD.led with rq := [⟨5, [1]⟩], req := true } }, by decide⟩

theorem witness_ledgerMarksReplay_15 :
    ∃ (n : Word) (m : Byte) (s : State), s.isD = true ∧ s.running = true ∧ s.led.req = true ∧ s.led.rq = [⟨n, [m]⟩] :=
  ⟨5, 1, { wD with led := { wD.led with rq := [⟨5, [1]⟩], req := true } }, by decide⟩

theorem witness_ledgerMarksReplay_16 :
    ∃ (s : State), s.isD = true :=
  ⟨wD, by decide⟩

theorem witness_drains_1 :
    ∃ (d : BitVec 6) (s : State), s.isT = true ∧ s.running = true ∧ (s.verd d.toNat).drainDue = true ∧ (s.verd d.toNat).v = 3 ∧ s.drnEn d.toNat = true :=
  ⟨63, { wT with ld := { wT.ld with cur := some ⟨0x2000, [(6, 1), (64, 9), (69, 1), (295, 0x80)]⟩ }, ump := { wT.ump with verd := [(63, { (default : Verd) with v := 3, drainDue := true })] } }, by decide⟩

theorem witness_drains_2 :
    ∃ (d : BitVec 6) (s : State), s.isT = true ∧ s.running = true ∧ (s.verd d.toNat).drainDue = true ∧ (s.verd d.toNat).v = 3 ∧ s.drnEn d.toNat = false :=
  ⟨5, { wT with ump := { wT.ump with verd := [(5, { (default : Verd) with v := 3, drainDue := true })] } }, by decide⟩

theorem witness_drains_3 :
    ∃ (d : BitVec 6) (s : State), (s.verd d.toNat).drainDue = false :=
  ⟨5, wT, by decide⟩

theorem witness_drains_4 :
    ∃ (s : State), s.isD = true ∧ s.running = true ∧ s.drnEn 0 = true :=
  ⟨{ wD with ld := { wD.ld with cur := some ⟨0x2000, [(6, 1), (64, 9), (69, 1), (288, 1)]⟩ } }, by decide⟩

theorem witness_drains_5 :
    ∃ (s : State), s.isD = true ∧ s.running = true ∧ s.drnEn 0 = false :=
  ⟨wD, by decide⟩

theorem witness_drains_6 :
    ∃ (b : Bool) (s : State), s.isD = true ∧ s.running = true ∧ s.ump.drainAck ≠ b :=
  ⟨true, { wD with ump := { wD.ump with drainReq := true, suppressed := true } }, by decide⟩

theorem witness_drains_7 :
    ∃ (s : State), s.isD = true ∧ s.running = true :=
  ⟨wD, by decide⟩

theorem witness_drains_8 :
    ∃ (k : BitVec 6) (b : Byte) (s : State), s.isT = true ∧ s.running = true ∧ (s.verd k.toNat).v = 3 ∧ b.getLsbD 2 = true :=
  ⟨63, 7, { wT with ump := { wT.ump with verd := [(63, { (default : Verd) with v := 3 })] } }, by decide⟩

theorem witness_drains_9 :
    ∃ (k : BitVec 6) (b : Byte) (s : State), s.isT = true ∧ s.running = true ∧ (s.verd k.toNat).v = 3 ∧ b.getLsbD 2 = false ∧ b.getLsbD 1 = true :=
  ⟨0, 3, { wT with ump := { wT.ump with verd := [(0, { (default : Verd) with v := 3 })] } }, by decide⟩

theorem witness_drains_10 :
    ∃ (k : BitVec 6) (b : Byte) (s : State), s.isT = true ∧ s.running = true ∧ (s.verd k.toNat).v = 3 ∧ b.getLsbD 2 = false ∧ b.getLsbD 1 = false :=
  ⟨0, 1, { wT with ump := { wT.ump with verd := [(0, { (default : Verd) with v := 3 })] } }, by decide⟩

theorem witness_drains_11 :
    ∃ (k : BitVec 6) (s : State), s.isT = true ∧ s.running = true ∧ (s.verd k.toNat).v ≠ 3 :=
  ⟨0, wT, by decide⟩

theorem witness_drains_12 :
    ∃ (k : BitVec 6) (h : DWord) (s : State), s.isT = true ∧ s.running = true ∧ (s.verd k.toNat).drainAt = some h ∧ (s.verd k.toNat).drain = 1 ∧ s.drainTmo ≤ s.heatsSince h :=
  ⟨1, 0, { wT with ld := { wT.ld with cur := some ⟨0x2000, [(6, 1), (64, 9), (69, 1), (276, 7)]⟩ }, ump := { wT.ump with verd := [(1, { (default : Verd) with v := 3, drain := 1, drainAt := some 0 })] }, heat := { wT.heat with count := 7 } }, by decide⟩

theorem witness_drains_13 :
    ∃ (k : BitVec 6) (h : DWord) (s : State), (s.verd k.toNat).drainAt = some h ∧ s.heatsSince h < s.drainTmo :=
  ⟨1, 0, { wT with ld := { wT.ld with cur := some ⟨0x2000, [(6, 1), (64, 9), (69, 1), (276, 8)]⟩ }, ump := { wT.ump with verd := [(1, { (default : Verd) with v := 3, drain := 1, drainAt := some 0 })] }, heat := { wT.heat with count := 7 } }, by decide⟩

theorem witness_lendVerdictsLiveness_1 :
    ∃ (s : State), s.isD = true ∧ s.running = true :=
  ⟨wD, by decide⟩

theorem witness_lendVerdictsLiveness_2 :
    ∃ (s : State), s.isD = true ∧ s.running = true :=
  ⟨{ wD with pwr := { wD.pwr with lendTray := true } }, by decide⟩

theorem witness_lendVerdictsLiveness_3 :
    ∃ (k : BitVec 6) (h : DWord) (s : State), s.isT = true ∧ s.running = true ∧ (s.verd k.toNat).repAt = some h ∧ 2 ≤ (s.verd k.toNat).v.toNat ∧ (s.verd k.toNat).acked = false ∧ s.vrep ≠ 0 ∧ s.vrep ≤ s.heatsSince h :=
  ⟨63, 5, { wT with ld := { wT.ld with cur := some ⟨0x2000, [(6, 1), (64, 9), (69, 1), (268, 2)]⟩ }, ump := { wT.ump with verd := [(63, { (default : Verd) with v := 2, repAt := some 5 })] }, heat := { wT.heat with count := 7 } }, by decide⟩

theorem witness_lendVerdictsLiveness_4 :
    ∃ (k : BitVec 6) (s : State), (s.verd k.toNat).acked = true :=
  ⟨63, { wT with ump := { wT.ump with verd := [(63, { (default : Verd) with v := 2, repAt := some 5, acked := true })] } }, by decide⟩

theorem witness_lendVerdictsLiveness_5 :
    ∃ (p : Post) (s : State), s.running = true ∧ s.isT = true ∧ 1 ≤ p.role.toNat ∧ p.a0.toNat < 64 ∧ (s.verd p.a0.toNat).v ≠ 0 :=
  ⟨⟨0, 1, 7, 63, 0, 0⟩, { wT with ump := { wT.ump with verd := [(63, { (default : Verd) with v := 1 })] } }, by decide⟩

theorem witness_lendVerdictsLiveness_6 :
    ∃ (p : Post) (s : State), s.running = true ∧ s.isD = true ∧ 1 ≤ p.role.toNat ∧ p.a0 = 0 ∧ (s.verd own).v ≠ 0 :=
  ⟨⟨0, 1, 7, 0, 0, 0⟩, { wD with ump := { wD.ump with verd := [(64, { (default : Verd) with v := 1 })] } }, by decide⟩

theorem witness_lendVerdictsLiveness_7 :
    ∃ (p : Post) (s : State), s.running = true ∧ s.isT = true ∧ 1 ≤ p.role.toNat ∧ p.a0.toNat < 64 ∧ (s.verd p.a0.toNat).v = 0 :=
  ⟨⟨0, 1, 7, 5, 0, 0⟩, wT, by decide⟩

theorem witness_lendVerdictsLiveness_8 :
    ∃ (k : BitVec 6) (s : State), s.isT = true ∧ s.running = true ∧ s.inService k.toNat = true ∧ s.ump.disagree.getLsbD k.toNat = false ∧ s.ump.jobWritten = true ∧ max 1 s.disagreeH ≤ (s.verd k.toNat).differ :=
  ⟨63, { wT with ld := { wT.ld with cur := some ⟨0x2000, [(6, 2), (64, 9), (69, 2), (80, 0xD), (85, 6), (0x600 + 1032, 1), (522, 3)]⟩ }, ump := { wT.ump with jobWritten := true, verd := [(63, { (default : Verd) with differ := 3 })] } }, by decide⟩

theorem witness_lendVerdictsLiveness_9 :
    ∃ (k : BitVec 6) (s : State), (s.verd k.toNat).differ < max 1 s.disagreeH :=
  ⟨63, wT, by decide⟩

theorem witness_lendVerdictsLiveness_10 :
    ∃ (k : BitVec 6) (s : State), s.isT = true ∧ s.running = true ∧ s.ump.disagree.getLsbD k.toNat = true ∧ max 1 s.disagreeH ≤ (s.verd k.toNat).agree :=
  ⟨63, { wT with ump := { wT.ump with disagree := 0x8000000000000000, verd := [(63, { (default : Verd) with agree := 1 })] } }, by decide⟩

theorem witness_lendVerdictsLiveness_11 :
    ∃ (k : BitVec 6) (s : State), s.ump.disagree.getLsbD k.toNat = false :=
  ⟨63, wT, by decide⟩

theorem witness_lendVerdictsLiveness_12 :
    ∃ (s : State), s.isT = true ∧ s.running = true :=
  ⟨wT, by decide⟩

theorem witness_startAndAbort_1 :
    ∃ (p : Post) (s : State), s.running = true ∧ s.isT = true ∧ 1 ≤ p.role.toNat ∧ s.ump.startOpen = false ∧ p.a1 = 1 ∧ p.a2 = 0 ∧ (s.link 0).tr.state = 4 :=
  ⟨⟨0, 1, 7, 9, 1, 0⟩, { wT with ul := { wT.ul with links := [(0, { Link.init with tr := { Link.init.tr with state := 4 } })] } }, by decide⟩

theorem witness_startAndAbort_2 :
    ∃ (p : Post) (s : State), s.running = true ∧ s.isT = true ∧ 1 ≤ p.role.toNat ∧ s.ump.startOpen = true :=
  ⟨⟨0, 1, 7, 9, 1, 0⟩, { wT with ump := { wT.ump with startOpen := true } }, by decide⟩

theorem witness_startAndAbort_3 :
    ∃ (k : BitVec 6) (n : Word) (s : State), s.isT = true ∧ s.running = true ∧ s.ump.startOpen = true ∧ s.ump.startId = n ∧ s.ump.startMask.getLsbD k.toNat = true ∧ s.ump.startMask ≠ setBit s.ump.startDone k.toNat true ||| s.ump.startLate :=
  ⟨63, 9, { wT with ump := { wT.ump with startOpen := true, startId := 9, startMask := 0x8000000000000001 } }, by decide⟩

theorem witness_startAndAbort_4 :
    ∃ (k : BitVec 6) (n : Word) (s : State), s.isT = true ∧ s.running = true ∧ s.ump.startOpen = true ∧ s.ump.startId = n ∧ s.ump.startMask.getLsbD k.toNat = true ∧ s.ump.startMask = s.ump.startDone ||| setBit s.ump.startLate k.toNat true :=
  ⟨63, 9, { wT with ump := { wT.ump with startOpen := true, startId := 9, startMask := 0x8000000000000001, startDone := 1 } }, by decide⟩

theorem witness_startAndAbort_5 :
    ∃ (n : Word) (s : State), s.isT = true ∧ s.running = true ∧ s.ump.startId ≠ n :=
  ⟨9, wT, by decide⟩

theorem witness_startAndAbort_6 :
    ∃ (s : State), s.isT = true ∧ s.running = true ∧ s.ump.startOpen = true ∧ s.startTmo ≤ s.heatsSince s.ump.startHeat :=
  ⟨{ wT with ump := { wT.ump with startOpen := true } }, by decide⟩

theorem witness_startAndAbort_7 :
    ∃ (s : State), s.heatsSince s.ump.startHeat < s.startTmo :=
  ⟨{ wT with ld := { wT.ld with cur := some ⟨0x2000, [(6, 1), (64, 9), (69, 1), (280, 9)]⟩ }, heat := { wT.heat with count := 1 } }, by decide⟩

theorem witness_startAndAbort_8 :
    ∃ (d : DWord) (s : State), s.isD = true ∧ s.running = true ∧ s.tb.valid = true ∧ s.tb.stroke.toNat ≤ d.toNat ∧ s.tly.bind = [] :=
  ⟨5, { wD with tb := { wD.tb with valid := true, stroke := 5 } }, by decide⟩

theorem witness_startAndAbort_9 :
    ∃ (d : DWord) (s : State), s.isD = true ∧ s.running = true ∧ (s.tb.valid = false ∨ d.toNat < s.tb.stroke.toNat) :=
  ⟨4, { wD with tb := { wD.tb with valid := true, stroke := 5 } }, by decide⟩

theorem witness_startAndAbort_10 :
    ∃ (s : State), s.isD = true ∧ s.running = true :=
  ⟨wD, by decide⟩

theorem witness_startAndAbort_11 :
    ∃ (s : State), s.isD = true ∧ s.running = true :=
  ⟨wD, by decide⟩

theorem witness_startAndAbort_12 :
    ∃ (k c : BitVec 6) (s : State), s.isT = true ∧ s.running = true ∧ s.abtMask c.toNat = 3 ∧ s.abtNb c.toNat = false ∧ k = 0 :=
  ⟨0, 63, { wT with rw := [(0x62BF8 / 4, some 3)] }, by decide⟩

theorem witness_startAndAbort_13 :
    ∃ (c : BitVec 6) (s : State), s.isT = true ∧ s.running = true ∧ s.abtMask c.toNat = 1 :=
  ⟨63, { wT with rw := [(0x62BF8 / 4, some 1)] }, by decide⟩

theorem witness_startAndAbort_14 :
    ∃ (p : Post) (s : State), s.running = true ∧ s.isT = true ∧ 1 ≤ p.role.toNat ∧ p.a0.toNat < 64 ∧ s.abtMask p.a0.toNat = 1 ∧ s.abtNb p.a0.toNat = false :=
  ⟨⟨0, 1, 7, 63, 0, 0⟩, { wT with rw := [(0x62BF8 / 4, some 1)] }, by decide⟩

theorem witness_startAndAbort_15 :
    ∃ (p : Post) (s : State), s.running = true ∧ s.isT = true ∧ 1 ≤ p.role.toNat ∧ p.a0.toNat < 64 ∧ s.abtMask p.a0.toNat = 0 ∧ s.abtNb p.a0.toNat = false :=
  ⟨⟨0, 1, 7, 63, 0, 0⟩, wT, by decide⟩

theorem witness_comparison_1 :
    ∃ (e : List Byte) (s : State), s.isT = true ∧ s.running = true ∧ tagRpl (leAt e 8 8) = false ∧ entryComparable e = false :=
  ⟨[], wT, by decide⟩

theorem witness_comparison_2 :
    ∃ (k : BitVec 6) (e : List Byte) (s : State), s.isT = true ∧ s.running = true ∧ tagRpl (leAt e 8 8) = false ∧ entryComparable e = true ∧ s.fpc.sets = [] ∧ (s.fpMembers (s.fpGroup k.toNat)).getLsbD k.toNat = true :=
  ⟨5, ([7, 0, 0, 0, 0, 0, 0, 0, 5, 0, 0, 0, 9, 0x10, 0, 0] ++ List.replicate 20 0 ++ [8, 1, 0, 0]), { wT with ld := { wT.ld with cur := some ⟨0x2000, [(6, 1), (64, 0xD), (69, 1), (256 + 104, 1)]⟩ }, fpc := { wT.fpc with groups := [(5, 0)] } }, by decide +kernel⟩

theorem witness_comparison_3 :
    ∃ (k : BitVec 6) (e : List Byte) (x : FpSet) (s : State), s.isT = true ∧ s.running = true ∧ tagRpl (leAt e 8 8) = false ∧ entryComparable e = true ∧ s.fpc.sets = [x] ∧ x.group.toNat = s.fpGroup k.toNat ∧ x.step = BitVec.ofNat 32 (leAt e 8 8) ∧ x.obj.toNat = tagObj (leAt e 8 8) ∧ x.kind.toNat = tagKind (leAt e 8 8) ∧ x.members.getLsbD k.toNat = true :=
  ⟨5, ([7, 0, 0, 0, 0, 0, 0, 0, 5, 0, 0, 0, 9, 0x10, 0, 0] ++ List.replicate 20 0 ++ [8, 1, 0, 0]), ⟨0, 5, 9, 1, 0, 0x20, [], false⟩, { wT with ld := { wT.ld with cur := some ⟨0x2000, [(6, 1), (64, 0xD), (69, 1), (256 + 104, 1)]⟩ }, fpc := { wT.fpc with groups := [(5, 0)], sets := [⟨0, 5, 9, 1, 0, 0x20, [], false⟩] } }, by decide +kernel⟩

theorem witness_comparison_4 :
    ∃ (k : BitVec 6) (e : List Byte) (r : FpReplay) (s : State), s.isT = true ∧ s.running = true ∧ tagRpl (leAt e 8 8) = true ∧ entryComparable e = true ∧ s.fpc.replays = [r] ∧ r.closed = none ∧ r.die = k ∧ r.step = BitVec.ofNat 32 (leAt e 8 8) ∧ r.obj.toNat = tagObj (leAt e 8 8) ∧ r.kind.toNat = tagKind (leAt e 8 8) ∧ leAt e 0x20 4 = r.evd.toNat :=
  ⟨5, ([7, 0, 0, 0, 0, 0, 0, 0, 5, 0, 0, 0, 9, 0x10, 0, 0x80] ++ List.replicate 20 0 ++ [8, 1, 0, 0]), ⟨7, 0, 5, 5, 9, 1, 0, 1, some 3, 0, 3, 0, false, false, none, none⟩, { wT with fpc := { wT.fpc with replays := [⟨7, 0, 5, 5, 9, 1, 0, 1, some 3, 0, 3, 0, false, false, none, none⟩] } }, by decide +kernel⟩

theorem witness_comparison_5 :
    ∃ (x : FpSet) (s : State), s.isT = true ∧ s.running = true ∧ s.fpc.sets = [x] ∧ x.expired = false ∧ s.fpExpired x = true :=
  ⟨⟨0, 5, 9, 1, 0, 0x20, [], false⟩, { wT with fpc := { wT.fpc with sets := [⟨0, 5, 9, 1, 0, 0x20, [], false⟩] }, heat := { wT.heat with count := 64 } }, by decide +kernel⟩

theorem witness_comparison_6 :
    ∃ (s : State), s.fpc.sets = [] :=
  ⟨wT, by decide⟩

theorem witness_comparison_7 :
    ∃ (n : Byte) (r : FpReplay) (s : State), s.isT = true ∧ s.running = true ∧ s.fpc.replays = [r] ∧ r.num = n ∧ r.closed = none ∧ r.ref.isSome = true ∧ s.fpRplTmo ≤ s.heatsSince r.heat :=
  ⟨7, ⟨7, 0, 5, 5, 9, 1, 0, 1, some 3, 0, 3, 0, false, false, none, none⟩, { wT with fpc := { wT.fpc with replays := [⟨7, 0, 5, 5, 9, 1, 0, 1, some 3, 0, 3, 0, false, false, none, none⟩] }, heat := { wT.heat with count := 0x4000 } }, by decide⟩

theorem witness_comparison_8 :
    ∃ (r : FpReplay) (s : State), s.isT = true ∧ s.running = true ∧ s.fpc.replays = [r] ∧ r.closed = none ∧ s.heatsSince r.heat < s.fpRplTmo :=
  ⟨⟨7, 0, 5, 5, 9, 1, 0, 1, some 3, 0, 3, 0, false, false, none, none⟩, { wT with fpc := { wT.fpc with replays := [⟨7, 0, 5, 5, 9, 1, 0, 1, some 3, 0, 3, 0, false, false, none, none⟩] }, heat := { wT.heat with count := 9 } }, by decide⟩

theorem witness_comparison_9 :
    ∃ (k : BitVec 6) (n : Word) (l : List Byte) (r : FpReplay) (s : State), s.isT = true ∧ s.running = true ∧ s.fpc.replays = [r] ∧ r.die = k ∧ r.step = n ∧ l.contains r.num = true :=
  ⟨5, 5, [1, 7], ⟨7, 0, 5, 5, 9, 1, 0, 1, some 3, 0, 3, 0, false, false, none, none⟩, { wT with fpc := { wT.fpc with replays := [⟨7, 0, 5, 5, 9, 1, 0, 1, some 3, 0, 3, 0, false, false, none, none⟩] } }, by decide⟩

theorem witness_comparison_10 :
    ∃ (k : BitVec 6) (n : Word) (l : List Byte) (r : FpReplay) (s : State), s.isT = true ∧ s.running = true ∧ s.fpc.replays = [r] ∧ r.die = k ∧ r.step = n ∧ l.contains r.num = true ∧ r.closed = none ∧ r.ref.isSome = true :=
  ⟨5, 5, [1, 7], ⟨7, 0, 5, 5, 9, 1, 0, 1, some 3, 0, 3, 0, false, false, none, none⟩, { wT with fpc := { wT.fpc with replays := [⟨7, 0, 5, 5, 9, 1, 0, 1, some 3, 0, 3, 0, false, false, none, none⟩] } }, by decide⟩

theorem witness_comparison_11 :
    ∃ (s : State), s.isT = true ∧ s.running = true :=
  ⟨wT, by decide⟩

theorem witness_comparison_12 :
    ∃ (p : Post) (s : State), s.running = true ∧ s.isT = true ∧ 1 ≤ p.role.toNat ∧ p.a0.toNat < 64 ∧ p.a2 &&& 0xF0FFF = p.a2 ∧ 1 ≤ bits p.a2.toNat 19 16 ∧ bits p.a2.toNat 19 16 ≤ 3 ∧ s.inService p.a0.toNat = true ∧ s.mismatched p.a0.toNat = false :=
  ⟨⟨0, 1, 7, 5, 9, 0x30FFF⟩, { wT with ld := { wT.ld with cur := some ⟨0x2000, [(6, 1), (64, 0xD), (69, 1), (256 + 104, 1)]⟩ } }, by decide⟩

theorem witness_comparison_13 :
    ∃ (p : Post) (s : State), s.running = true ∧ s.isT = true ∧ 1 ≤ p.role.toNat ∧ p.a0.toNat < 64 ∧ p.a2 &&& 0xF0FFF = p.a2 ∧ (s.inService p.a0.toNat = false ∨ s.mismatched p.a0.toNat = true ∨ bits p.a2.toNat 19 16 = 0 ∨ 3 < bits p.a2.toNat 19 16) :=
  ⟨⟨0, 1, 7, 5, 9, 4095⟩, wT, by decide⟩

theorem witness_comparison_14 :
    ∃ (p : Post) (s : State), s.running = true ∧ s.isT = true ∧ 1 ≤ p.role.toNat ∧ p.a0 = 0x100 :=
  ⟨⟨0, 1, 7, 0x100, 0, 0⟩, { wT with fpc := { wT.fpc with mis := [(3, 5)] } }, by decide⟩

theorem witness_comparison_15 :
    ∃ (p : Post) (s : State), s.running = true ∧ s.isT = true ∧ 1 ≤ p.role.toNat ∧ p.a0.toNat < 64 :=
  ⟨⟨0, 1, 7, 1, 0, 0⟩, { wT with fpc := { wT.fpc with mis := [(3, 5), (256, 1)] } }, by decide⟩

theorem witness_stepReduction_1 :
    ∃ (st : Step) (s : State), s.isT = true ∧ s.running = true ∧ s.user = true ∧ s.red.opened = [st] ∧ s.stepExpired st = true ∧ s.red.queue.length < 8 :=
  ⟨⟨5, 0, 0x20, 0, [], false⟩, { wT with ld := { wT.ld with cur := some ⟨0x2000, [(6, 2), (64, 5), (69, 1), (80, 8), (85, 2), (284, 1), (322, 1), (323, 1), (324, 1)]⟩ }, red := { wT.red with opened := [⟨5, 0, 0x20, 0, [], false⟩] } }, by decide⟩

theorem witness_stepReduction_2 :
    ∃ (st : Step) (s : State), s.isT = true ∧ s.running = true ∧ s.user = true ∧ s.red.opened = [st] ∧ s.stepExpired st = true ∧ 8 ≤ s.red.queue.length :=
  ⟨⟨5, 0, 0x20, 0, [], false⟩, { wT with ld := { wT.ld with cur := some ⟨0x2000, [(6, 2), (64, 5), (69, 1), (80, 8), (85, 2), (284, 1), (322, 1), (323, 1), (324, 1)]⟩ }, red := { wT.red with opened := [⟨5, 0, 0x20, 0, [], false⟩], queue := List.replicate 8 ⟨5, 0, 0x20, 0, [], false⟩ } }, by decide⟩

theorem witness_stepReduction_3 :
    ∃ (s : State), s.red.opened = [] :=
  ⟨wT, by decide⟩

theorem witness_stepReduction_4 :
    ∃ (st : Step) (rest : List Step) (s : State), s.redRuns = true ∧ s.red.pubDue = none ∧ s.red.queue = st :: rest ∧ s.nFig = 0 ∧ s.tly.bind = [] :=
  ⟨⟨5, 0, 0x20, 0, [], false⟩, [], { wT with ld := { wT.ld with cur := some ⟨0x2000, [(6, 2), (64, 5), (69, 1), (80, 8), (85, 2), (284, 1), (322, 1), (323, 1), (324, 1)]⟩ }, red := { wT.red with queue := [⟨5, 0, 0x20, 0, [], false⟩] } }, by decide +kernel⟩

theorem witness_stepReduction_5 :
    ∃ (st : Step) (rest : List Step) (s : State), s.redRuns = true ∧ s.red.pubDue = none ∧ s.red.queue = st :: rest ∧ s.tly.bind = [] :=
  ⟨⟨5, 0, 0x20, 0, [], false⟩, [], { wT with ld := { wT.ld with cur := some ⟨0x2000, [(6, 2), (64, 5), (69, 1), (80, 8), (85, 2), (284, 1), (322, 1), (323, 1), (324, 1), (0x227, 1), (0x240, 2)]⟩ }, red := { wT.red with queue := [⟨5, 0, 0x20, 0, [], false⟩] } }, by decide +kernel⟩

theorem witness_stepReduction_6 :
    ∃ (s : State), s.red.queue = [] :=
  ⟨wT, by decide⟩

theorem witness_stepReduction_7 :
    ∃ (i : Nat) (k : Sketch) (s : State), s.isT = true ∧ s.running = true ∧ s.red.exportBuf = [(i, some k)] ∧ s.red.recQ = [] ∧ s.te.recQ = [] ∧ s.skEn = true :=
  ⟨23, Sketch.empty 1 0, { wT with red := { wT.red with exportBuf := [(23, some (Sketch.empty 1 0))] } }, by decide⟩

theorem witness_stepReduction_8 :
    ∃ (i : Nat) (k : Sketch) (s : State), s.isT = true ∧ s.running = true ∧ s.red.exportBuf = [(i, some k)] ∧ s.red.recQ = [] ∧ s.te.recQ = [] ∧ s.skEn = false :=
  ⟨23, Sketch.empty 1 0, { wT with red := { wT.red with exportBuf := [(23, some (Sketch.empty 1 0))] }, rw := [(0x20000, some 0)] }, by decide⟩

theorem witness_stepReduction_9 :
    ∃ (s : State), s.red.exportBuf = [] ∧ s.red.recQ = [] ∧ s.te.recQ = [] :=
  ⟨wT, by decide⟩

theorem witness_dieRecords_1 :
    ∃ (k : BitVec 6) (b : List Byte) (h : DWord) (s : State), s.isT = true ∧ s.running = true ∧ leAt b 0 8 = h.toNat ∧ h ≠ BitVec.allOnes 64 ∧ s.inr.next ≤ h.toNat ∧ s.inr.room k.toNat h = true :=
  ⟨63, [5, 0, 0, 0, 0, 0, 0, 0, 0, 0, 0, 0, 0, 0, 7, 1, 2], 5, wT, by decide⟩

theorem witness_dieRecords_2 :
    ∃ (b : List Byte) (s : State), s.isT = true ∧ s.running = true ∧ leAt b 0 8 = 2 ^ 64 - 1 :=
  ⟨List.replicate 8 0xFF, wT, by decide⟩

theorem witness_dieRecords_3 :
    ∃ (k : BitVec 6) (h : DWord) (s : State), s.isT = true ∧ s.running = true ∧ h ≠ BitVec.allOnes 64 ∧ s.inr.next ≤ h.toNat ∧ s.inr.room k.toNat h = true ∧ (s.inr.rec? k.toNat h).isNone = true :=
  ⟨63, 5, wT, by decide⟩

theorem witness_dieRecords_4 :
    ∃ (h : DWord) (s : State), s.isT = true ∧ s.running = true ∧ h.toNat < s.inr.next :=
  ⟨5, { wT with inr := { wT.inr with done := [(0, 6)] } }, by decide⟩

theorem witness_dieRecords_5 :
    ∃ (k : BitVec 6) (b : List Byte) (h : DWord) (s : State), s.isT = true ∧ s.running = true ∧ leAt b 0 8 = h.toNat ∧ h ≠ BitVec.allOnes 64 ∧ s.inr.next ≤ h.toNat ∧ s.inr.room k.toNat h = true :=
  ⟨63, [5, 0, 0, 0, 0, 0, 0, 0, 3], 5, wT, by decide⟩

theorem witness_dieRecords_6 :
    ∃ (k : BitVec 6) (b : List Byte) (h : DWord) (s : State), s.isT = true ∧ s.running = true ∧ leAt b 0 8 = h.toNat ∧ h ≠ BitVec.allOnes 64 ∧ s.inr.next ≤ h.toNat ∧ s.inr.room k.toNat h = false :=
  ⟨63, [9], 9, { wT with inr := { wT.inr with recs := [{ (default : DieRec) with die := 63, heat := 5, hdr := true }, { (default : DieRec) with die := 63, heat := 6, got := 1 }] } }, by decide⟩

theorem witness_alignmentSlot_1 :
    ∃ (s : State), s.isT = true ∧ s.running = true ∧ s.user = true ∧ s.heat.heat ≠ BitVec.allOnes 64 ∧ 2 ≤ s.heat.heat.toNat ∧ s.inr.next ≤ (s.heat.heat - 2).toNat :=
  ⟨{ wT with ld := { wT.ld with cur := some ⟨0x2000, [(6, 1), (64, 0xD), (69, 1), (256 + 104, 1)]⟩ }, heat := { wT.heat with heat := 9 } }, by decide⟩

theorem witness_alignmentSlot_2 :
    ∃ (s : State), s.isT = true ∧ s.running = true ∧ s.user = true ∧ s.heat.heat.toNat < 2 :=
  ⟨{ wT with ld := { wT.ld with cur := some ⟨0x2000, [(6, 1), (64, 0xD), (69, 1), (256 + 104, 1)]⟩ }, heat := { wT.heat with heat := 1 } }, by decide⟩

theorem witness_alignmentSlot_3 :
    ∃ (s : State), s.user = false :=
  ⟨wT, by decide⟩

theorem witness_treeEngine_1 :
    ∃ (r : TreeRun) (s : State), s.scoreDue = true ∧ (State.runWaves s.trees [] (s.waveCount s.trees - s.scoring.waves) s s.scoring).2 = r ∧ s.waveCount s.trees ≤ r.waves :=
  ⟨⟨[], 0, [], 0⟩, { wT with ld := { wT.ld with cur := some ⟨0x2000, [(6, 2), (64, 5), (69, 1), (80, 0xA), (85, 2), (284, 1), (322, 1), (323, 1), (324, 1)]⟩ }, te := { wT.te with began := true }, heat := { wT.heat with heat := 9 }, inr := { wT.inr with used := 0x20, done := [(0, 8)] } }, by decide +kernel⟩

theorem witness_treeEngine_2 :
    ∃ (r : TreeRun) (s : State), s.scoreDue = true ∧ (State.runWaves s.trees [] (s.waveCount s.trees - s.scoring.waves) s s.scoring).2 = r ∧ r.waves < s.waveCount s.trees :=
  ⟨⟨[], 0, [], 0⟩, { wT with ld := { wT.ld with cur := some ⟨0x2000, [(6, 2), (64, 5), (69, 1), (80, 0xA), (85, 2), (284, 1), (322, 1), (323, 1), (324, 1), (0x200 + 4, 1), (0x210, 1), (0x200 + 0x14, 1), (0x200 + 0x1084, 1)]⟩ }, te := { wT.te with began := true }, heat := { wT.heat with heat := 9 } }, by decide +kernel⟩

theorem witness_treeEngine_3 :
    ∃ (s : State), s.scoreDue = false :=
  ⟨wT, by decide⟩

theorem witness_treeEngine_4 :
    ∃ (s : State), s.scoreDue = true ∧ s.lp5Runs = true ∧ s.te.windows < s.windowCount s.trees ∧ s.windowFree s.trees s.te.windows = true :=
  ⟨{ wT with ld := { wT.ld with cur := some ⟨0x2000, [(6, 2), (64, 5), (69, 1), (80, 0xA), (85, 2), (284, 1), (322, 1), (323, 1), (324, 1), (0x200 + 4, 1), (0x210, 1), (0x200 + 0x1084, 1)]⟩ }, te := { wT.te with began := true }, heat := { wT.heat with heat := 9 } }, by decide +kernel⟩

theorem witness_treeEngine_5 :
    ∃ (s : State), (s.windowCount s.trees ≤ s.te.windows ∨ s.windowFree s.trees s.te.windows = false ∨ s.lp5Runs = false) :=
  ⟨wT, by decide⟩

theorem witness_treeEngine_6 :
    ∃ (r : Option (BitVec 32)) (s : State), s.te.st = 2 ∧ s.running = true ∧ s.blobFail (r.map BitVec.toNat) = none :=
  ⟨none, blobW, by decide +kernel⟩

theorem witness_treeEngine_7 :
    ∃ (r : Option (BitVec 32)) (x : Nat × Nat × Nat) (s : State), s.te.st = 2 ∧ s.running = true ∧ s.blobFail (r.map BitVec.toNat) = some x :=
  ⟨none, (1, 0, 0), { wT with te := { wT.te with st := 2 } }, by decide⟩

theorem witness_treeEngine_8 :
    ∃ (s : State), s.te.st ≠ 2 :=
  ⟨wT, by decide⟩

theorem witness_treeEngine_9 :
    ∃ (s : State), s.te.st = 3 ∧ s.running = true ∧ s.lp5Runs = true :=
  ⟨{ wT with te := { wT.te with st := 3 } }, by decide⟩

theorem witness_treeEngine_10 :
    ∃ (s : State), s.te.st = 3 ∧ s.te.readyDue = true :=
  ⟨{ wT with te := { wT.te with st := 3, readyDue := true } }, by decide⟩

theorem witness_treeEngine_11 :
    ∃ (s : State), s.te.readyDue = false :=
  ⟨wT, by decide⟩

theorem witness_treeEngine_12 :
    ∃ (p : Post) (s : State), s.running = true ∧ s.isT = true ∧ 2 ≤ p.role.toNat ∧ s.user = true ∧ s.pwr.pf = false ∧ s.treeDigest ≠ 0 ∧ (s.te.st.toNat = 0 ∨ 4 ≤ s.te.st.toNat) :=
  ⟨⟨0, 2, 7, 0, 0, 0⟩, { wT with ld := { wT.ld with cur := some ⟨0x2000, [(0x28, 1)]⟩ } }, by decide⟩

theorem witness_treeEngine_13 :
    ∃ (p : Post) (s : State), s.running = true ∧ s.isT = true ∧ 2 ≤ p.role.toNat ∧ s.pwr.pf = true :=
  ⟨⟨0, 2, 7, 0, 0, 0⟩, { wT with pwr := { wT.pwr with pf := true } }, by decide⟩

theorem witness_treeEngine_14 :
    ∃ (p : Post) (s : State), s.running = true ∧ s.isT = true ∧ 2 ≤ p.role.toNat ∧ s.te.st = 1 :=
  ⟨⟨0, 2, 7, 0, 0, 0⟩, { wT with te := { wT.te with st := 1 } }, by decide⟩

theorem witness_treeEngine_15 :
    ∃ (p : Post) (s : State), s.running = true ∧ s.isT = true ∧ 1 ≤ p.role.toNat ∧ 4 ≤ s.te.st.toNat :=
  ⟨⟨0, 1, 7, 0, 0, 0⟩, { wT with te := { wT.te with st := 5 } }, by decide⟩

theorem witness_treeEngine_16 :
    ∃ (p : Post) (s : State), s.running = true ∧ s.isT = true ∧ 1 ≤ p.role.toNat ∧ s.te.st.toNat ≤ 3 :=
  ⟨⟨0, 1, 7, 0, 0, 0⟩, wT, by decide⟩

theorem witness_detectorsAndUmpire_1 :
    ∃ (s : State), s.running = true ∧ s.user = true ∧ s.ump.detDone = false ∧ s.nDet = 0 :=
  ⟨{ wT with ld := { wT.ld with cur := some ⟨0x2000, [(6, 1), (64, 8), (69, 1), (256 + 0x220, 1), (256 + 0x222, 0x21), (256 + 0x228, 5)]⟩ } }, by decide⟩

theorem witness_detectorsAndUmpire_2 :
    ∃ (s : State), s.isD = true ∧ s.running = true ∧ s.user = true ∧ s.ump.detDone = false ∧ s.nDet = 1 ∧ s.detKind 0 = 1 ∧ s.detf 0 1 1 = 0 ∧ s.detf 0 2 1 = 0x21 ∧ s.cpl 2 0 = false ∧ s.ump.det = [] :=
  ⟨{ wD with ld := { wD.ld with cur := some ⟨0x2000, [(6, 1), (64, 8), (69, 1), (260, 1), (256 + 0x220, 1), (256 + 0x222, 0x21), (256 + 0x228, 5)]⟩ }, ump := { wD.ump with drops := 9 } }, by decide +kernel⟩

theorem witness_detectorsAndUmpire_3 :
    ∃ (s : State), s.ump.detDone = true :=
  ⟨{ wT with ump := { wT.ump with detDone := true } }, by decide⟩

theorem witness_detectorsAndUmpire_4 :
    ∃ (s : State), s.running = true ∧ s.user = true ∧ s.ump.detDone = true ∧ s.ump.work = none :=
  ⟨{ wT with ld := { wT.ld with cur := some ⟨0x2000, [(6, 1), (64, 9), (69, 1)]⟩ }, ump := { wT.ump with detDone := true } }, by decide⟩

theorem witness_detectorsAndUmpire_5 :
    ∃ (s : State), s.running = true ∧ s.user = true ∧ s.ump.detDone = true ∧ s.ump.work = none ∧ s.nRule = 0 :=
  ⟨{ wT with ld := { wT.ld with cur := some ⟨0x2000, [(6, 1), (64, 9), (69, 1)]⟩ }, ump := { wT.ump with detDone := true } }, by decide⟩

theorem witness_detectorsAndUmpire_6 :
    ∃ (s : State), (s.ump.work.isSome = true ∨ s.ump.detDone = false) :=
  ⟨{ wT with ump := { wT.ump with work := some ⟨0, []⟩ } }, by decide⟩

theorem witness_umpireJudgesEveryRule_1 :
    ∃ (s t : State), s.running = true ∧ s.user = true ∧ s.ump.detDone = true ∧ s.ump.work = none ∧ exec .umpireEvaluation s = .next t :=
  ⟨{ wT with ld := { wT.ld with cur := some ⟨0x2000, [(6, 1), (64, 9), (69, 1)]⟩ }, ump := { wT.ump with detDone := true } }, { { wT with ld := { wT.ld with cur := some ⟨0x2000, [(6, 1), (64, 9), (69, 1)]⟩ } } with ump := { wT.ump with detDone := true, work := some ⟨0xFFFFFFFFFFFFFFFF, []⟩ } }, by exact ⟨rfl, rfl, rfl, rfl, rfl⟩⟩

theorem witness_compressionEngine_1 :
    ∃ (k : Byte) (s : State), s.isD = true ∧ s.running = true ∧ 1 ≤ k.toNat ∧ k.toNat ≤ 3 :=
  ⟨3, wD, by decide⟩

theorem witness_compressionEngine_2 :
    ∃ (k : Byte) (s : State), s.isD = true ∧ s.running = true ∧ (k = 0 ∨ 4 ≤ k.toNat) :=
  ⟨4, wD, by decide⟩

theorem witness_compressionEngine_3 :
    ∃ (k : BitVec 6) (b : List Byte) (d : Decoded) (s : State), s.isT = true ∧ s.running = true ∧ s.nbRaw k.toNat = false ∧ decodeSample s.statics (s.pmodeOf k.toNat (readHdr b).fsid) s.decRef b = .ok d ∧ d.hdr.nitem = 0 ∧ d.hdr.kind = 1 ∧ d.hdr.tag ≠ BitVec.allOnes 64 ∧ s.inr.next ≤ d.hdr.tag.toNat ∧ s.inr.room k.toNat d.hdr.tag = true :=
  ⟨63, encodeHeld ({ (default : FrameHdr) with kind := 1, fsid := 5, tag := 7 }) false, ⟨{ (default : FrameHdr) with kind := 1, fsid := 5, tag := 7 }, false, [], []⟩, wT, by exact ⟨rfl, rfl, rfl, by decide +kernel, rfl, rfl, by decide, by decide, by decide⟩⟩

theorem witness_compressionEngine_4 :
    ∃ (k : BitVec 6) (b : List Byte) (r : Nat) (s : State), s.isT = true ∧ s.running = true ∧ decodeSample s.statics (s.pmodeOf k.toNat (readHdr b).fsid) s.decRef b = .error r :=
  ⟨63, [], 2, wT, by exact ⟨rfl, rfl, by decide +kernel⟩⟩

theorem witness_compressionEngine_5 :
    ∃ (b : List Byte) (d : Decoded) (s : State), s.isD = true ∧ s.running = true ∧ decodeSample s.statics (fun _ => 0) s.decRef b = .ok d ∧ d.hdr.kind = 3 :=
  ⟨shrW, ⟨{ kind := 3, flags := 1, table := 0, rdiv := 0, fsid := 5, span := 0, nitem := 8, tag := 7, ref := 0 }, true, [1, 2, 3, 4, 5, 6, 7, 0xFFFFFFFF], []⟩, wD, by exact ⟨rfl, rfl, by decide +kernel, rfl⟩⟩

theorem witness_compressionEngine_6 :
    ∃ (k : BitVec 3) (s : State), 1 ≤ k.toNat ∧ k.toNat ≤ 4 ∧ s.cmp.ratioDue.getLsbD (k.toNat - 1) = true ∧ 16 * (Tab.get 0 s.cmp.lastIn k.toNat).toNat < s.ratioMin * (Tab.get 0 s.cmp.lastOut k.toNat).toNat :=
  ⟨4, { wD with ld := { wD.ld with cur := some ⟨0x2000, [(6, 1), (64, 7), (69, 1), (260, 17)]⟩ }, cmp := { wD.cmp with ratioDue := 8, lastIn := [(4, 10)], lastOut := [(4, 10)] } }, by decide⟩

theorem witness_compressionEngine_7 :
    ∃ (k : BitVec 3) (s : State), 1 ≤ k.toNat ∧ k.toNat ≤ 4 ∧ s.cmp.ratioDue.getLsbD (k.toNat - 1) = true ∧ s.ratioMin * (Tab.get 0 s.cmp.lastOut k.toNat).toNat ≤ 16 * (Tab.get 0 s.cmp.lastIn k.toNat).toNat :=
  ⟨4, { wD with ld := { wD.ld with cur := some ⟨0x2000, [(6, 1), (64, 7), (69, 1), (260, 16)]⟩ }, cmp := { wD.cmp with ratioDue := 8, lastIn := [(4, 10)], lastOut := [(4, 10)] } }, by decide⟩

theorem witness_tallyLanes_1 :
    ∃ (l : BitVec 2) (n : BitVec 6) (i : BitVec 16) (s : State), s.running = true ∧ s.tly.ready l.toNat = true ∧ n.toNat < 48 ∧ i ≠ 0 ∧ s.tly.mode n.toNat = 0 :=
  ⟨3, 47, 65535, { wD with tly := { wD.tly with cnt := [(47, 0xFFFFFFFF)] } }, by decide⟩

theorem witness_tallyLanes_2 :
    ∃ (l : BitVec 2) (n : BitVec 6) (i : BitVec 16) (s : State), s.running = true ∧ s.tly.ready l.toNat = true ∧ n.toNat < 48 ∧ i ≠ 0 ∧ s.tly.mode n.toNat = 2 ∧ (Tab.get 0 s.tly.next n.toNat - s.tly.c n.toNat).toNat < i.toNat :=
  ⟨3, 47, 2, { wD with tly := { wD.tly with cfg := [(47, 2)], next := [(47, 1)] } }, by decide⟩

theorem witness_tallyLanes_3 :
    ∃ (l : BitVec 2) (n : BitVec 6) (i : BitVec 16) (s : State), s.running = true ∧ s.tly.ready l.toNat = true ∧ n.toNat < 48 ∧ i ≠ 0 ∧ s.tly.mode n.toNat = 1 ∧ (s.tly.buf n.toNat : Int) < (s.tly.c n.toNat - s.tly.c (s.tly.partner n.toNat)).toInt + i.toNat :=
  ⟨0, 47, 2, { wD with tly := { wD.tly with cfg := [(47, 0x10001)] } }, by decide⟩

theorem witness_tallyLanes_4 :
    ∃ (l : BitVec 2) (s : State), s.running = true ∧ s.tly.ready l.toNat = false :=
  ⟨0, { wD with tly := { wD.tly with halted := true } }, by decide⟩

theorem witness_tallyLanes_5 :
    ∃ (l : BitVec 2) (n : BitVec 6) (i : BitVec 16) (s : State), s.running = true ∧ s.tly.ready l.toNat = true ∧ (48 ≤ n.toNat ∨ i = 0) :=
  ⟨0, 48, 2, wD, by decide⟩

theorem witness_tallyLanes_6 :
    ∃ (l : BitVec 2) (x : SigLane) (s : State), Tab.get default s.tly.lanes l.toNat = x ∧ x.held = true ∧ s.tly.halted = false ∧ s.tly.holds x.tally.toNat x.inc = false :=
  ⟨3, ⟨true, 47, 1, 5⟩, { wD with tly := { wD.tly with lanes := [(3, ⟨true, 47, 1, 5⟩)] } }, by decide⟩

theorem witness_tallyLanes_7 :
    ∃ (s : State), s.tly.halted = true :=
  ⟨{ wD with tly := { wD.tly with halted := true, lanes := [(3, ⟨true, 47, 1, 5⟩)] } }, by decide⟩

theorem witness_tallyLanes_8 :
    ∃ (w : BitVec 4) (n : BitVec 6) (s : State), s.running = true ∧ (Tab.get default s.tly.waits w.toNat).v = false ∧ n.toNat < 48 :=
  ⟨15, 47, wD, by decide⟩

theorem witness_tallyLanes_9 :
    ∃ (w : BitVec 4) (s : State), (Tab.get default s.tly.waits w.toNat).v = true :=
  ⟨15, { wD with tly := { wD.tly with waits := [(15, ⟨true, true, false, 47, 5, 7, 7, false⟩)] } }, by decide⟩

theorem witness_tallyLanes_10 :
    ∃ (w : BitVec 4) (x : WaitLane) (s : State), Tab.get default s.tly.waits w.toNat = x ∧ x.active = true ∧ x.tally.toNat < 48 ∧ s.tly.halted = false ∧ (s.tly.c x.tally.toNat - x.target).toNat < 2 ^ 31 :=
  ⟨15, ⟨true, true, true, 47, 5, 7, 7, false⟩, { wD with tly := { wD.tly with waits := [(15, ⟨true, true, true, 47, 5, 7, 7, false⟩)], cnt := [(47, 5)] } }, by decide⟩

theorem witness_tallyLanes_11 :
    ∃ (w : BitVec 4) (x : WaitLane) (s : State), Tab.get default s.tly.waits w.toNat = x ∧ 2 ^ 31 ≤ (s.tly.c x.tally.toNat - x.target).toNat :=
  ⟨15, ⟨true, true, true, 47, 5, 7, 7, false⟩, { wD with tly := { wD.tly with waits := [(15, ⟨true, true, true, 47, 5, 7, 7, false⟩)], cnt := [(47, 4)] } }, by decide⟩

theorem witness_tallyLanes_12 :
    ∃ (w : BitVec 4) (x : WaitLane) (s : State), Tab.get default s.tly.waits w.toNat = x ∧ x.v = true :=
  ⟨15, ⟨true, true, true, 47, 5, 7, 7, false⟩, { wD with tly := { wD.tly with waits := [(15, ⟨true, true, true, 47, 5, 7, 7, false⟩)] } }, by decide⟩

theorem witness_tallyLanes_13 :
    ∃ (w : BitVec 4) (x : WaitLane) (s : State), Tab.get default s.tly.waits w.toNat = x ∧ x.active = true ∧ s.lendH ≠ 0 ∧ s.lendH ≤ x.heats.toNat :=
  ⟨15, ⟨true, true, false, 47, 5, 100, 7, false⟩, { wD with tly := { wD.tly with waits := [(15, ⟨true, true, false, 47, 5, 100, 7, false⟩)] } }, by decide⟩

theorem witness_tallyLanes_14 :
    ∃ (s : State), s.lendH = 0 :=
  ⟨{ wD with rw := [(0x50704 / 4, some 0)] }, by decide⟩

theorem witness_tallyLanes_15 :
    ∃ (s : State), s.tly.halted = false ∧ s.wdogH ≠ 0 ∧ (Tab.get default s.tly.waits 0).active = true ∧ s.wdogH ≤ (Tab.get default s.tly.waits 0).dog.toNat :=
  ⟨{ wD with tly := { wD.tly with waits := [(0, ⟨true, true, false, 47, 5, 100, 10000, false⟩)] } }, by decide +kernel⟩

theorem witness_tallyLanes_16 :
    ∃ (s : State), s.tly.halted = true :=
  ⟨{ wD with tly := { wD.tly with halted := true } }, by decide⟩

theorem witness_tallyLanes_17 :
    ∃ (n : BitVec 48) (s : State), s.tly.leftovers n = [] :=
  ⟨0xFFFFFFFFFFFF, wD, by decide +kernel⟩

theorem witness_tallyLanes_18 :
    ∃ (n : BitVec 48) (k : Nat) (r : List Nat) (s : State), s.tly.leftovers n = k :: r :=
  ⟨0x800000000000, 47, [], { wD with tly := { wD.tly with cnt := [(47, 1)] } }, by decide +kernel⟩

theorem witness_tallyLanes_19 :
    ∃ (n : Byte) (i : BitVec 16) (s : State), s.isD = true ∧ s.running = true ∧ s.tly.svc ≠ 0 ∧ n.toNat < 48 ∧ i ≠ 0 ∧ s.tly.remote.length < 8 :=
  ⟨47, 65535, wD, by decide⟩

theorem witness_tallyLanes_20 :
    ∃ (n : Byte) (i : BitVec 16) (s : State), s.isD = true ∧ s.running = true ∧ s.tly.svc ≠ 0 ∧ n.toNat < 48 ∧ i ≠ 0 ∧ 8 ≤ s.tly.remote.length :=
  ⟨47, 65535, { wD with tly := { wD.tly with remote := List.replicate 8 ⟨5, 1, 0, false⟩ } }, by decide⟩

theorem witness_tallyLanes_21 :
    ∃ (d : BitVec 7) (s : State), s.isT = true ∧ s.running = true ∧ d.toNat < 64 :=
  ⟨63, wT, by decide⟩

theorem witness_tallyLanes_22 :
    ∃ (n : BitVec 6) (i : BitVec 16) (r : List RemoteSig) (s : State), s.tly.remote = ⟨n, i, 0, false⟩ :: r ∧ s.tly.halted = false ∧ s.tly.holds n.toNat i = false :=
  ⟨47, 5, [], { wD with tly := { wD.tly with remote := [⟨47, 5, 0, false⟩] } }, by decide⟩

theorem witness_tallyLanes_23 :
    ∃ (n : BitVec 6) (i : BitVec 16) (r : List RemoteSig) (s : State), s.tly.remote = ⟨n, i, 0, false⟩ :: r ∧ s.tly.halted = false ∧ s.tly.holds n.toNat i = true :=
  ⟨47, 5, [], { wD with tly := { wD.tly with remote := [⟨47, 5, 0, false⟩], cfg := [(47, 2)] } }, by decide⟩

theorem witness_tallyLanes_24 :
    ∃ (x : RemoteSig) (r : List RemoteSig) (s : State), s.tly.remote = x :: r ∧ (x.ahead ≠ 0 ∨ x.cmd = true) :=
  ⟨⟨47, 5, 1, false⟩, [], { wD with tly := { wD.tly with remote := [⟨47, 5, 1, false⟩] } }, by decide⟩

theorem witness_tallyLanes_25 :
    ∃ (s : State), s.tly.remote = [] :=
  ⟨wD, by decide⟩

theorem witness_tallyLanes_26 :
    ∃ (s : State), s.isT = true ∧ s.running = true :=
  ⟨wT, by decide⟩

theorem witness_tallyLanes_27 :
    ∃ (p : Post) (s : State), s.running = true ∧ 1 ≤ p.role.toNat ∧ p.a0.toNat < 48 ∧ s.tly.svc ≠ 0 ∧ s.tly.waits = [] ∧ s.tly.lanes = [] ∧ s.tly.halted = false ∧ s.tly.mode p.a0.toNat = 0 :=
  ⟨⟨0, 1, 7, 47, 9, 0⟩, wD, by decide⟩

theorem witness_tallyLanes_28 :
    ∃ (p : Post) (s : State), s.running = true ∧ 1 ≤ p.role.toNat ∧ p.a0.toNat < 64 ∧ (48 ≤ p.a0.toNat ∨ s.tly.svc = 0 ∨ s.tly.halted = true) :=
  ⟨⟨0, 1, 7, 48, 9, 0⟩, wD, by decide⟩

theorem witness_tallyLanes_29 :
    ∃ (p : Post) (s : State), s.running = true ∧ 1 ≤ p.role.toNat ∧ s.tly.halted = false :=
  ⟨⟨0, 1, 7, 0, 0, 0⟩, wD, by decide⟩

theorem witness_tallyLanes_30 :
    ∃ (p : Post) (s : State), s.running = true ∧ 1 ≤ p.role.toNat ∧ s.tly.halted = true :=
  ⟨⟨0, 1, 7, 0, 0, 0⟩, { wD with tly := { wD.tly with halted := true } }, by decide⟩

theorem witness_tallyLanes_31 :
    ∃ (p : Post) (s : State), s.running = true ∧ 1 ≤ p.role.toNat ∧ s.tly.halted = false :=
  ⟨⟨0, 1, 7, 0, 0, 0⟩, wD, by decide⟩

theorem witness_uplinkTraining_1 :
    ∃ (k : BitVec 6) (s : State), s.isD = true ∧ s.running = true ∧ k = 0 ∧ (s.link 0).tr.state = 0 ∧ (s.link 0).tr.phyRst = true :=
  ⟨0, { wD with ul := { wD.ul with links := [(0, { Link.init with tr := { Link.init.tr with lock := true } })] } }, by decide⟩

theorem witness_uplinkTraining_2 :
    ∃ (s : State), s.isT = true ∧ s.running = true ∧ s.sys.phase.toNat < 5 :=
  ⟨wT3, by decide⟩

theorem witness_uplinkTraining_3 :
    ∃ (k : BitVec 6) (s : State), s.isT = true ∧ s.running = true ∧ (s.link k.toNat).tr.state = 0 ∧ (s.link k.toNat).tr.phyRst = false :=
  ⟨63, { wT with ul := { wT.ul with links := [(63, { Link.init with tr := { Link.init.tr with phyRst := false } })] } }, by decide⟩

theorem witness_uplinkTraining_4 :
    ∃ (k : BitVec 6) (s : State), s.isT = true ∧ s.running = true ∧ (s.link k.toNat).tr.state = 4 :=
  ⟨63, { wT with ul := { wT.ul with links := [(63, { Link.init with tr := { Link.init.tr with state := 4, lock := true } })] } }, by decide⟩

theorem witness_uplinkTraining_5 :
    ∃ (k : BitVec 6) (b : List Byte) (s : State), (s.link k.toNat).tr.state = 2 ∧ (s.link k.toNat).tr.sentSeen = true ∧ (leAt b 3 1).testBit 5 = true :=
  ⟨0, [1, 2, 127, 0x20], { wD with ul := { wD.ul with links := [(0, { Link.init with tr := { Link.init.tr with state := 2, sentSeen := true } })] } }, by decide⟩

theorem witness_uplinkTraining_6 :
    ∃ (k : BitVec 6) (b : List Byte) (s : State), (s.link k.toNat).tr.state = 2 ∧ (s.link k.toNat).tr.gotSeen = false ∧ (leAt b 3 1).testBit 5 = false :=
  ⟨0, [1, 2, 127, 0], { wD with ul := { wD.ul with links := [(0, { Link.init with tr := { Link.init.tr with state := 2 } })] } }, by decide⟩

theorem witness_uplinkTraining_7 :
    ∃ (k : BitVec 6) (s : State), (s.link k.toNat).tr.state = 4 :=
  ⟨0, { wD with ul := { wD.ul with links := [(0, { Link.init with tr := { Link.init.tr with state := 4 } })] } }, by decide⟩

theorem witness_uplinkTraining_8 :
    ∃ (k : BitVec 6) (f : BitVec 16) (s : State), s.isD = true ∧ k = 0 ∧ (s.link 0).tr.state = 3 ∧ s.trainFail 0 (s.link 0).tr f = 0 ∧ (s.link 0).tr.haveSession = false :=
  ⟨0, 0, { wD with ul := { wD.ul with links := [(0, { Link.init with tr := { Link.init.tr with state := 3, rate := 1, partner := ([1, 2, 127] ++ List.replicate 25 0 ++ [8, 0, 8, 0, 8, 0, 8, 0, 0, 0, 1] ++ List.replicate 9 0) } })] } }, by decide⟩

theorem witness_uplinkTraining_9 :
    ∃ (k : BitVec 6) (f : BitVec 16) (s : State), s.isD = true ∧ k = 0 ∧ (s.link 0).tr.state = 3 ∧ s.trainFail 0 (s.link 0).tr f = 0 ∧ (s.link 0).tr.haveSession = true ∧ ((s.link 0).tr.cap 3 1).testBit 3 = true ∧ (s.link 0).tr.psess.toNat = (s.link 0).tr.cap 0x28 4 :=
  ⟨0, 0, { wD with ul := { wD.ul with links := [(0, { Link.init with tr := { Link.init.tr with state := 3, rate := 1, haveSession := true, partner := ([1, 2, 127, 8] ++ List.replicate 24 0 ++ [8, 0, 8, 0, 8, 0, 8, 0, 0, 0, 1] ++ List.replicate 9 0) } })] } }, by decide⟩

theorem witness_uplinkTraining_10 :
    ∃ (k : BitVec 6) (f : BitVec 16) (s : State), (s.link k.toNat).tr.state = 3 ∧ s.trainFail k.toNat (s.link k.toNat).tr f ≠ 0 :=
  ⟨63, 2001, { wT with ul := { wT.ul with links := [(63, { Link.init with tr := { Link.init.tr with state := 3, partner := ([1, 1, 63] ++ List.replicate 25 0 ++ [8, 0, 8, 0, 0, 0, 8, 0, 0, 0, 1] ++ List.replicate 9 0) } })] } }, by decide⟩

theorem witness_uplinkTraining_11 :
    ∃ (k : BitVec 6) (s : State), 1 ≤ (s.link k.toNat).tr.state.toNat ∧ (s.link k.toNat).tr.state.toNat ≤ 3 :=
  ⟨0, { wD with ul := { wD.ul with links := [(0, { Link.init with tr := { Link.init.tr with state := 1 } })] } }, by decide⟩

theorem witness_uplinkTraining_12 :
    ∃ (k : BitVec 6) (s : State), (s.link k.toNat).tr.state = 4 :=
  ⟨0, { wD with ul := { wD.ul with links := [(0, { Link.init with tr := { Link.init.tr with state := 4 } })] } }, by decide⟩

theorem witness_uplinkTraining_13 :
    ∃ (k : BitVec 6) (s : State), (s.link k.toNat).tr.state = 5 :=
  ⟨0, { wD with ul := { wD.ul with links := [(0, { Link.init with tr := { Link.init.tr with state := 5 } })] } }, by decide⟩

theorem witness_uplinkTraining_14 :
    ∃ (k : BitVec 6) (s : State), (s.link k.toNat).tr.state ≠ 5 :=
  ⟨0, wD, by decide⟩

theorem witness_uplinkTraining_15 :
    ∃ (k : BitVec 6) (s : State), (s.link k.toNat).tr.state = 4 :=
  ⟨0, { wD with ul := { wD.ul with links := [(0, { Link.init with tr := { Link.init.tr with state := 4 } })] } }, by decide⟩

theorem witness_uplinkTraining_16 :
    ∃ (k : BitVec 6) (s : State), (s.link k.toNat).tr.state ≠ 4 :=
  ⟨0, wD, by decide⟩

theorem witness_uplinkTraining_17 :
    ∃ (p : Post) (s : State), s.running = true ∧ 1 ≤ p.role.toNat ∧ p.a0.toNat < 64 ∧ s.hasLink p.a0.toNat = true ∧ (s.link p.a0.toNat).tr.state = 4 :=
  ⟨⟨0, 1, 7, 63, 0, 0⟩, { wT with ul := { wT.ul with links := [(63, { Link.init with tr := { Link.init.tr with state := 4 } })] } }, by decide⟩

theorem witness_uplinkTraining_18 :
    ∃ (p : Post) (s : State), s.running = true ∧ 1 ≤ p.role.toNat ∧ p.a0.toNat < 64 ∧ (s.link p.a0.toNat).tr.state ≠ 4 :=
  ⟨⟨0, 1, 7, 0, 0, 0⟩, wD, by decide⟩

theorem witness_uplinkFlits_1 :
    ∃ (k : BitVec 6) (s : State), (s.link k.toNat).tr.state = 1 :=
  ⟨0, { wD with ul := { wD.ul with links := [(0, { Link.init with tr := { Link.init.tr with state := 1 } })] } }, by decide⟩

theorem witness_uplinkFlits_2 :
    ∃ (k : BitVec 6) (s : State), (s.link k.toNat).tr.state = 2 ∧ (s.link k.toNat).tr.gotCap = false ∧ ((s.link k.toNat).rx.all fun r => r.buf.isEmpty) = true ∧ (s.link k.toNat).tr.sentSeen = false :=
  ⟨0, { wD with ul := { wD.ul with links := [(0, { Link.init with tr := { Link.init.tr with state := 2 } })] } }, by decide⟩

theorem witness_uplinkFlits_3 :
    ∃ (k : BitVec 6) (s : State), (s.link k.toNat).tr.state = 4 ∧ (s.link k.toNat).nakDue = true ∧ (s.link k.toNat).tr.goodSinceUp = true :=
  ⟨0, { wD with ul := { wD.ul with links := [(0, { Link.init with tr := { Link.init.tr with state := 4, goodSinceUp := true }, nakDue := true, rxExp := 4095 })] } }, by decide⟩

theorem witness_uplinkFlits_4 :
    ∃ (k : BitVec 6) (s : State), (s.link k.toNat).tr.state = 4 ∧ ((s.link k.toNat).nakDue = false ∨ (s.link k.toNat).tr.goodSinceUp = false) ∧ (s.link k.toNat).keepDue = true :=
  ⟨0, { wD with ul := { wD.ul with links := [(0, { Link.init with tr := { Link.init.tr with state := 4 }, keepDue := true })] } }, by decide⟩

theorem witness_uplinkFlits_5 :
    ∃ (k : BitVec 6) (s : State), (s.link k.toNat).tr.state = 4 ∧ (s.link k.toNat).keepDue = false ∧ (s.link k.toNat).tr.goodSinceUp = false :=
  ⟨0, { wD with ul := { wD.ul with links := [(0, { Link.init with tr := { Link.init.tr with state := 4 }, nakDue := true })] } }, by decide⟩

theorem witness_uplinkFlits_6 :
    ∃ (k : BitVec 6) (f : TxFlit) (r : List TxFlit) (s : State), (s.link k.toNat).tr.state = 4 ∧ (s.link k.toNat).keepDue = false ∧ (s.link k.toNat).nakDue = false ∧ (s.link k.toNat).tr.goodSinceUp = true ∧ (s.link k.toNat).replay = f :: r ∧ (s.link k.toNat).replayAt = some f.seq.toNat ∧ f.sends < 16 :=
  ⟨0, ⟨4095, 0, 0x10, true, true, [], 15⟩, [], { wD with ul := { wD.ul with links := [(0, { Link.init with tr := { Link.init.tr with state := 4, goodSinceUp := true }, replay := [⟨4095, 0, 0x10, true, true, [], 15⟩], replayAt := some 4095 })] } }, by decide⟩

theorem witness_uplinkFlits_7 :
    ∃ (k : BitVec 6) (f : TxFlit) (r : List TxFlit) (b : Bool) (s : State), (s.link k.toNat).tr.state = 4 ∧ (s.link k.toNat).keepDue = false ∧ (s.link k.toNat).nakDue = false ∧ (s.link k.toNat).tr.goodSinceUp = true ∧ (s.link k.toNat).replay = f :: r ∧ (s.link k.toNat).replayAt = some f.seq.toNat ∧ 16 ≤ f.sends ∧ b = false :=
  ⟨0, ⟨4095, 0, 0x10, true, true, [], 16⟩, [], false, { wD with ul := { wD.ul with links := [(0, { Link.init with tr := { Link.init.tr with state := 4, goodSinceUp := true }, replay := [⟨4095, 0, 0x10, true, true, [], 16⟩], replayAt := some 4095 })] } }, by decide⟩

theorem witness_uplinkFlits_8 :
    ∃ (k : BitVec 6) (m : Msg) (r : List Msg) (s : State), (s.link k.toNat).tr.state = 4 ∧ (s.link k.toNat).keepDue = false ∧ (s.link k.toNat).nakDue = false ∧ (s.link k.toNat).tr.goodSinceUp = true ∧ (s.link k.toNat).replayAt = none ∧ (s.link k.toNat).insertion = m :: r ∧ 0 < ((s.link k.toNat).txv 0).avail.toNat ∧ (s.link k.toNat).replay.length < 512 :=
  ⟨0, ⟨0x30, []⟩, [], { wD with ul := { wD.ul with links := [(0, { Link.init with tr := { Link.init.tr with state := 4, goodSinceUp := true }, insertion := [⟨0x30, []⟩], tx := [{ (default : TxVc) with avail := 1 }], txNext := 4095 })] } }, by decide⟩

theorem witness_uplinkFlits_9 :
    ∃ (k : BitVec 6) (v : Nat) (m : Msg) (r : List Msg) (s : State), (s.link k.toNat).tr.state = 4 ∧ (s.link k.toNat).keepDue = false ∧ (s.link k.toNat).nakDue = false ∧ (s.link k.toNat).tr.goodSinceUp = true ∧ (s.link k.toNat).replayAt = none ∧ ((s.link k.toNat).insertion = [] ∨ ((s.link k.toNat).txv 0).avail = 0) ∧ v = bits s.vcPat (2 * (s.link k.toNat).patPos.toNat + 1) (2 * (s.link k.toNat).patPos.toNat) ∧ (s.link k.toNat).tx.length = 4 ∧ ((s.link k.toNat).txv v).begun = none ∧ ((s.link k.toNat).txv v).queue = m :: r ∧ m.body.length ≤ 52 ∧ 4 < ((s.link k.toNat).txv v).avail.toNat ∧ (s.link k.toNat).replay.length < 512 :=
  ⟨0, 0, ⟨0x17, [1]⟩, [], { wD with ul := { wD.ul with links := [(0, { Link.init with tr := { Link.init.tr with state := 4, goodSinceUp := true }, tx := [{ (default : TxVc) with avail := 5, queue := [⟨0x17, [1]⟩] }, default, default, default], txNext := 4095 })] } }, by decide +kernel⟩

theorem witness_uplinkFlits_10 :
    ∃ (k : BitVec 6) (s : State), (s.link k.toNat).tr.state = 4 ∧ (s.link k.toNat).keepDue = false ∧ (s.link k.toNat).nakDue = false ∧ (s.link k.toNat).tr.goodSinceUp = true ∧ (s.link k.toNat).replayAt = none ∧ (s.link k.toNat).insertion = [] ∧ (∀ v ∈ List.range 4, (s.link k.toNat).ready v = false) :=
  ⟨0, { wD with ul := { wD.ul with links := [(0, { Link.init with tr := { Link.init.tr with state := 4, goodSinceUp := true } })] } }, by decide⟩

theorem witness_uplinkFlits_11 :
    ∃ (k : BitVec 6) (q : Bool) (d : BitVec 256 × BitVec 256) (s : State), (s.link k.toNat).tr.state = 1 ∧ (7 ≤ (if q then (s.link k.toNat).tr.goodRunB else (s.link k.toNat).tr.goodRun)) ∧ flitGood (flitOfWords d.1 d.2) = true :=
  ⟨0, true, (0x7070707070707070707070707070707070707070707070700000000d8100000, 0x4eec36a900000000000000000000000000000000000000000000000000000000), { wD with ul := { wD.ul with links := [(0, { Link.init with tr := { Link.init.tr with state := 1, goodRunB := 7 } })] } }, by decide +kernel⟩

theorem witness_uplinkFlits_12 :
    ∃ (k : BitVec 6) (d : BitVec 256 × BitVec 256) (s : State), (s.link k.toNat).tr.state = 1 ∧ flitGood (flitOfWords d.1 d.2) = false :=
  ⟨0, (0, 5), { wD with ul := { wD.ul with links := [(0, { Link.init with tr := { Link.init.tr with state := 1, goodRun := 7, goodRunB := 3 } })] } }, by decide +kernel⟩

theorem witness_uplinkFlits_13 :
    ∃ (k : BitVec 6) (q : Bool) (d : BitVec 256 × BitVec 256) (r0 r1 r2 r3 : RxVc) (s : State), (s.link k.toNat).tr.state = 4 ∧ (s.link k.toNat).tr.pairing = q ∧ flitGood (flitOfWords d.1 d.2) = true ∧ fLcf (flitOfWords d.1 d.2) = false ∧ fRpl (flitOfWords d.1 d.2) = false ∧ leAt (flitOfWords d.1 d.2) 4 4 = 0 ∧ fSeq (flitOfWords d.1 d.2) = (s.link k.toNat).rxExp ∧ fVc (flitOfWords d.1 d.2) = 0 ∧ (s.link k.toNat).rx = [r0, r1, r2, r3] ∧ r0.buf.length < s.rxCap 0 :=
  ⟨0, true, (0x7070707070707070707070707070707070707070707070700000000d8100000, 0x4eec36a900000000000000000000000000000000000000000000000000000000), default, default, default, default, { wD with ul := { wD.ul with links := [(0, { Link.init with tr := { Link.init.tr with state := 4, pairing := true } })] } }, by decide +kernel⟩

theorem witness_uplinkFlits_14 :
    ∃ (k : BitVec 6) (q : Bool) (d : BitVec 256 × BitVec 256) (s : State), (s.link k.toNat).tr.state = 4 ∧ (s.link k.toNat).tr.pairing = q ∧ flitGood (flitOfWords d.1 d.2) = false ∧ (s.link k.toNat).tr.badRun < 15 :=
  ⟨0, true, (0, 5), { wD with ul := { wD.ul with links := [(0, { Link.init with tr := { Link.init.tr with state := 4, pairing := true } })] } }, by decide +kernel⟩

theorem witness_uplinkFlits_15 :
    ∃ (k : BitVec 6) (q : Bool) (d : BitVec 256 × BitVec 256) (s : State), (s.link k.toNat).tr.state = 4 ∧ (s.link k.toNat).tr.pairing = q ∧ flitGood (flitOfWords d.1 d.2) = false ∧ 15 ≤ (s.link k.toNat).tr.badRun :=
  ⟨0, true, (0, 5), { wD with ul := { wD.ul with links := [(0, { Link.init with tr := { Link.init.tr with state := 4, pairing := true, badRun := 15 } })] } }, by decide +kernel⟩

theorem witness_uplinkFlits_16 :
    ∃ (k : BitVec 6) (q : Bool) (s : State), (s.link k.toNat).tr.state = 4 ∧ (s.link k.toNat).tr.pairing ≠ q :=
  ⟨0, false, { wD with ul := { wD.ul with links := [(0, { Link.init with tr := { Link.init.tr with state := 4, pairing := true } })] } }, by decide⟩

theorem witness_uplinkFlits_17 :
    ∃ (k : BitVec 6) (n : BitVec 12) (s : State), (s.link k.toNat).tr.state = 4 ∧ ((s.link k.toNat).replay.any fun f => f.seq == n) = true :=
  ⟨0, 0, { wD with ul := { wD.ul with links := [(0, { Link.init with tr := { Link.init.tr with state := 4 }, replay := [⟨0, 0, 0x10, true, true, [], 1⟩] })] } }, by decide⟩

theorem witness_uplinkFlits_18 :
    ∃ (k : BitVec 6) (n : BitVec 12) (f g : TxFlit) (s : State), (s.link k.toNat).tr.state = 4 ∧ (s.link k.toNat).replay = [f, g] ∧ f.seq = n - 1 ∧ g.seq = n :=
  ⟨0, 0, ⟨4095, 0, 0x10, true, true, [], 1⟩, ⟨0, 0, 0x10, true, true, [], 1⟩, { wD with ul := { wD.ul with links := [(0, { Link.init with tr := { Link.init.tr with state := 4 }, replay := [⟨4095, 0, 0x10, true, true, [], 1⟩, ⟨0, 0, 0x10, true, true, [], 1⟩] })] } }, by decide⟩

theorem witness_uplinkFlits_19 :
    ∃ (k : BitVec 6) (n : BitVec 12) (s : State), (s.link k.toNat).tr.state = 4 ∧ ((s.link k.toNat).replay.any fun f => f.seq == n || f.seq == n - 1) = false :=
  ⟨0, 0, { wD with ul := { wD.ul with links := [(0, { Link.init with tr := { Link.init.tr with state := 4 } })] } }, by decide⟩

theorem witness_uplinkFlits_20 :
    ∃ (k : BitVec 6) (s : State), (s.link k.toNat).tr.state = 4 :=
  ⟨0, { wD with ul := { wD.ul with links := [(0, { Link.init with tr := { Link.init.tr with state := 4 } })] } }, by decide⟩

theorem witness_uplinkFlits_21 :
    ∃ (k : BitVec 6) (s : State), (s.link k.toNat).tr.state ≠ 4 :=
  ⟨0, { wD with ul := { wD.ul with links := [(0, { Link.init with tr := { Link.init.tr with state := 3 } })] } }, by decide⟩

theorem witness_uplinkFlits_22 :
    ∃ (k : BitVec 6) (f : TxFlit) (r : List TxFlit) (s : State), (s.link k.toNat).tr.state = 4 ∧ (s.link k.toNat).tr.goodSinceUp = true ∧ (s.link k.toNat).replay = f :: r :=
  ⟨0, ⟨4095, 0, 0x10, true, true, [], 1⟩, [], { wD with ul := { wD.ul with links := [(0, { Link.init with tr := { Link.init.tr with state := 4, goodSinceUp := true }, replay := [⟨4095, 0, 0x10, true, true, [], 1⟩] })] } }, by decide⟩

theorem witness_uplinkFlits_23 :
    ∃ (k : BitVec 6) (s : State), (s.link k.toNat).replay = [] :=
  ⟨0, wD, by decide⟩

theorem witness_uplinkFlits_24 :
    ∃ (k : BitVec 6) (v : BitVec 2) (q : BitVec 12) (r : List (BitVec 12)) (s : State), (s.link k.toNat).tr.state = 4 ∧ (s.link k.toNat).tr.goodSinceUp = true ∧ (s.link k.toNat).replay = [] ∧ ((s.link k.toNat).txv v.toNat).unretired = q :: r ∧ (s.link k.toNat).tx.length = 4 ∧ ((s.link k.toNat).txv v.toNat).advertised.toNat * s.crdFloor / 16 ≤ (((s.link k.toNat).txv v.toNat).window - 1).toNat :=
  ⟨0, 3, 5, [], { wD with ul := { wD.ul with links := [(0, { Link.init with tr := { Link.init.tr with state := 4, goodSinceUp := true }, tx := [default, default, default, { (default : TxVc) with unretired := [5], window := 8, advertised := 8 }] })] } }, by decide⟩

theorem witness_uplinkFlits_25 :
    ∃ (k : BitVec 6) (v : BitVec 2) (s : State), ((s.link k.toNat).txv v.toNat).unretired = [] :=
  ⟨0, 3, wD, by decide⟩

theorem witness_uplinkFlits_26 :
    ∃ (k : BitVec 6) (f : TxFlit) (r0 r1 r2 r3 : RxVc) (s : State), s.isT = true ∧ (s.link k.toNat).rx = [r0, r1, r2, r3] ∧ r0.buf = [f] ∧ r0.queue = [] ∧ r0.openFlits = 0 ∧ 0 < Config.rxDepth 0 ∧ f.vc = 0 ∧ f.first = true ∧ f.last = true ∧ f.mtype = 0x10 ∧ f.payload.length = 24 :=
  ⟨63, ⟨0, 0, 0x10, true, true, List.replicate 24 7, 0⟩, { (default : RxVc) with buf := [⟨0, 0, 0x10, true, true, List.replicate 24 7, 0⟩] }, default, default, default, { wT with ul := { wT.ul with links := [(63, { Link.init with rx := [{ (default : RxVc) with buf := [⟨0, 0, 0x10, true, true, List.replicate 24 7, 0⟩] }, default, default, default] })] } }, by exact ⟨rfl, rfl, rfl, rfl, rfl, (Config.rxRoom 0).pos, rfl, rfl, rfl, rfl, rfl⟩⟩

theorem witness_uplinkFlits_27 :
    ∃ (k : BitVec 6) (f : TxFlit) (m : Byte) (p : List Byte) (r0 r1 r2 r3 : RxVc) (s : State), s.isT = true ∧ (s.link k.toNat).rx = [r0, r1, r2, r3] ∧ r1.buf = [f] ∧ r1.queue = [] ∧ r1.openFlits < Config.rxDepth 1 ∧ f.first = false ∧ f.last = true ∧ r1.openMsg = some (m, p) ∧ m = 0x41 ∧ p.length + f.payload.length ≤ 4096 ∧ p ≠ [] :=
  ⟨63, ⟨0, 1, 0x41, false, true, [9], 0⟩, 0x41, [7], default, { (default : RxVc) with buf := [⟨0, 1, 0x41, false, true, [9], 0⟩], openMsg := some (0x41, [7]) }, default, default, { wT with ul := { wT.ul with links := [(63, { Link.init with rx := [default, { (default : RxVc) with buf := [⟨0, 1, 0x41, false, true, [9], 0⟩], openMsg := some (0x41, [7]) }, default, default] })] } }, by exact ⟨rfl, rfl, rfl, rfl, (Config.rxRoom 1).pos, rfl, rfl, rfl, rfl, by decide, by decide⟩⟩

theorem witness_uplinkFlits_28 :
    ∃ (k : BitVec 6) (v : BitVec 2) (f : TxFlit) (r : List TxFlit) (s : State), ((s.link k.toNat).rx.getD v.toNat default).buf = f :: r ∧ ((s.link k.toNat).rx.getD v.toNat default).queue = [] ∧ ((s.link k.toNat).rx.getD v.toNat default).openFlits = 0 ∧ 0 < Config.rxDepth v ∧ ((s.link k.toNat).rx.getD v.toNat default).openMsg = none ∧ f.first = true ∧ f.last = false :=
  ⟨63, 3, ⟨0, 3, 0x62, true, false, [9], 0⟩, [], { wT with ul := { wT.ul with links := [(63, { Link.init with rx := [default, default, default, { (default : RxVc) with buf := [⟨0, 3, 0x62, true, false, [9], 0⟩] }] })] } }, by exact ⟨rfl, rfl, rfl, (Config.rxRoom 3).pos, rfl, rfl, rfl⟩⟩

theorem witness_uplinkFlits_29 :
    ∃ (k : BitVec 6) (v : BitVec 2) (f : TxFlit) (r : List TxFlit) (s : State), ((s.link k.toNat).rx.getD v.toNat default).buf = f :: r ∧ ((s.link k.toNat).rx.getD v.toNat default).queue = [] ∧ ((s.link k.toNat).rx.getD v.toNat default).openFlits = 0 ∧ 0 < Config.rxDepth v ∧ ((s.link k.toNat).rx.getD v.toNat default).openMsg = none ∧ f.first = false :=
  ⟨63, 3, ⟨0, 3, 0x62, false, false, [9], 0⟩, [], { wT with ul := { wT.ul with links := [(63, { Link.init with rx := [default, default, default, { (default : RxVc) with buf := [⟨0, 3, 0x62, false, false, [9], 0⟩] }] })] } }, by exact ⟨rfl, rfl, rfl, (Config.rxRoom 3).pos, rfl, rfl⟩⟩

theorem witness_uplinkFlits_30 :
    ∃ (k : BitVec 6) (v : BitVec 2) (f : TxFlit) (r : List TxFlit) (s : State), ((s.link k.toNat).rx.getD v.toNat default).buf = f :: r ∧ Config.rxDepth v ≤ ((s.link k.toNat).rx.getD v.toNat default).held :=
  ⟨63, 0, ⟨0, 0, 0x10, true, true, [], 0⟩, [], { wT with ul := { wT.ul with links := [(63, { Link.init with rx := [{ (default : RxVc) with buf := [⟨0, 0, 0x10, true, true, [], 0⟩], openFlits := Config.rxDepth 0 }, default, default, default] })] } }, by exact ⟨rfl, Nat.le_add_left _ _⟩⟩

theorem witness_uplinkFlits_31 :
    ∃ (k : BitVec 6) (v : BitVec 2) (s : State), ((s.link k.toNat).rx.getD v.toNat default).buf = [] :=
  ⟨63, 3, wT, by decide⟩

theorem witness_northboundPorts_1 :
    ∃ (q : BitVec 1) (s : State), s.isT = true ∧ s.running = true ∧ s.portOn q.toNat = true ∧ (s.port q.toNat).up = true :=
  ⟨1, { wT with ld := { wT.ld with cur := some ⟨0x2000, [(6, 1), (64, 0xB), (69, 1), (0x230, 7)]⟩ }, nb := { wT.nb with port1 := { wT.nb.port1 with up := true } } }, by decide⟩

theorem witness_northboundPorts_2 :
    ∃ (q : BitVec 1) (s : State), (s.port q.toNat).up = false :=
  ⟨1, { wT with ld := { wT.ld with cur := some ⟨0x2000, [(6, 1), (64, 0xB), (69, 1), (0x230, 7)]⟩ }, nb := { wT.nb with port0 := { wT.nb.port0 with up := true } } }, by decide⟩

theorem witness_northboundPorts_3 :
    ∃ (q : BitVec 1) (u : Bool) (s : State), s.isT = true ∧ s.running = true ∧ s.portOn q.toNat = true ∧ (s.port q.toNat).up = u :=
  ⟨1, true, { wT with ld := { wT.ld with cur := some ⟨0x2000, [(6, 1), (64, 0xB), (69, 1), (0x230, 7)]⟩ }, nb := { wT.nb with port1 := { wT.nb.port1 with up := true } } }, by decide⟩

theorem witness_northboundPorts_4 :
    ∃ (q : BitVec 1) (u : Bool) (s : State), s.isT = true ∧ s.running = true ∧ s.portOn q.toNat = true ∧ (s.port q.toNat).up ≠ u :=
  ⟨1, true, { wT with ld := { wT.ld with cur := some ⟨0x2000, [(6, 1), (64, 0xB), (69, 1), (0x230, 7)]⟩ }, nb := { wT.nb with port0 := { wT.nb.port0 with up := true } } }, by decide⟩

theorem witness_northboundPorts_5 :
    ∃ (q : BitVec 1) (f : NbFrame) (r : List NbFrame) (s : State), s.isT = true ∧ s.running = true ∧ s.portOn q.toNat = true ∧ (s.port q.toNat).up = true ∧ (s.port q.toNat).abortQ = f :: r :=
  ⟨1, ⟨12, 5, [], 0⟩, [], { wT with ld := { wT.ld with cur := some ⟨0x2000, [(6, 1), (64, 0xB), (69, 1), (0x230, 7)]⟩ }, nb := { wT.nb with port1 := { wT.nb.port1 with up := true, abortQ := [⟨12, 5, [], 0⟩] } } }, by decide⟩

theorem witness_northboundPorts_6 :
    ∃ (q : BitVec 1) (f : NbFrame) (r : List NbFrame) (s : State), s.isT = true ∧ s.running = true ∧ s.portOn q.toNat = true ∧ (s.port q.toNat).up = true ∧ (s.port q.toNat).abortQ = [] ∧ (s.port q.toNat).cls = [[], [], [], [], [], [], [], f :: r] ∧ (s.port q.toNat).oper = none ∧ (s.port q.toNat).pendList = none :=
  ⟨1, ⟨4, 5, [], 0⟩, [], { wT with ld := { wT.ld with cur := some ⟨0x2000, [(6, 1), (64, 0xB), (69, 1), (0x230, 7)]⟩ }, nb := { wT.nb with port1 := { wT.nb.port1 with up := true, cls := [[], [], [], [], [], [], [], [⟨4, 5, [], 0⟩]] } } }, by decide⟩

theorem witness_northboundPorts_7 :
    ∃ (q : BitVec 1) (s : State), (s.port q.toNat).abortQ = [] ∧ (∀ c ∈ List.range 8, (s.port q.toNat).cls.getD c [] = []) :=
  ⟨1, { wT with ld := { wT.ld with cur := some ⟨0x2000, [(6, 1), (64, 0xB), (69, 1), (0x230, 7)]⟩ }, nb := { wT.nb with port1 := { wT.nb.port1 with up := true } } }, by decide⟩

theorem witness_northboundPorts_8 :
    ∃ (q : BitVec 1) (e : BitVec 7) (b : Option (BitVec 3)) (l : GateList) (x : Nat × Byte) (s : State), (s.port q.toNat).oper = some l ∧ (gateEdges l.cyc.toNat l.entries 0)[e.toNat]? = some x ∧ s.taiOk = true ∧ (∀ c ∈ b, (s.port q.toNat).gates.getLsbD c.toNat = true → x.2.getLsbD c.toNat = true) :=
  ⟨1, 1, some 2, ⟨[(0xF0, 5), (0x0F, 5)], 10⟩, (5, 0x0F), { wT with ld := { wT.ld with cur := some ⟨0x2000, [(6, 1), (64, 0xB), (69, 1), (0x230, 7)]⟩ }, nb := { wT.nb with port1 := { wT.nb.port1 with up := true, oper := some ⟨[(0xF0, 5), (0x0F, 5)], 10⟩ } }, tb := { wT.tb with taiValid := true } }, by decide⟩

theorem witness_northboundPorts_9 :
    ∃ (q : BitVec 1) (e : BitVec 7) (c : BitVec 3) (l : GateList) (x : Nat × Byte) (s : State), (s.port q.toNat).oper = some l ∧ (gateEdges l.cyc.toNat l.entries 0)[e.toNat]? = some x ∧ s.taiOk = true ∧ (s.port q.toNat).gates.getLsbD c.toNat = true ∧ x.2.getLsbD c.toNat = false :=
  ⟨1, 1, 7, ⟨[(0xF0, 5), (0x0F, 5)], 10⟩, (5, 0x0F), { wT with ld := { wT.ld with cur := some ⟨0x2000, [(6, 1), (64, 0xB), (69, 1), (0x230, 7)]⟩ }, nb := { wT.nb with port1 := { wT.nb.port1 with up := true, gates := 0xF0, oper := some ⟨[(0xF0, 5), (0x0F, 5)], 10⟩ } }, tb := { wT.tb with taiValid := true } }, by decide⟩

theorem witness_northboundPorts_10 :
    ∃ (q : BitVec 1) (s : State), (s.port q.toNat).oper = none :=
  ⟨1, wT, by decide⟩

theorem witness_northboundPorts_11 :
    ∃ (q : BitVec 1) (l : GateList) (s : State), (s.port q.toNat).pendList = some l :=
  ⟨1, ⟨[(0xF0, 5), (0x0F, 5)], 10⟩, { wT with ld := { wT.ld with cur := some ⟨0x2000, [(6, 1), (64, 0xB), (69, 1), (0x230, 7)]⟩ }, nb := { wT.nb with port1 := { wT.nb.port1 with up := true, pendList := some ⟨[(0xF0, 5), (0x0F, 5)], 10⟩ } } }, by decide⟩

theorem witness_northboundPorts_12 :
    ∃ (q : BitVec 1) (c : BitVec 3) (g : Byte) (d : Word) (l : GateList) (s : State), (s.port q.toNat).pendList = some l ∧ l.entries.head? = some (g, d) ∧ (s.gatesNow q.toNat).getLsbD c.toNat = true ∧ g.getLsbD c.toNat = false :=
  ⟨1, 0, 0xF0, 5, ⟨[(0xF0, 5), (0x0F, 5)], 10⟩, { wT with ld := { wT.ld with cur := some ⟨0x2000, [(6, 1), (64, 0xB), (69, 1), (0x230, 7)]⟩ }, nb := { wT.nb with port1 := { wT.nb.port1 with up := true, pendList := some ⟨[(0xF0, 5), (0x0F, 5)], 10⟩ } } }, by decide⟩

theorem witness_northboundPorts_13 :
    ∃ (q : BitVec 1) (s : State), (s.port q.toNat).pendList = none :=
  ⟨1, wT, by decide⟩

theorem witness_northboundPorts_14 :
    ∃ (a : Acc) (q : BitVec 1) (s : State), Allowed s a (0x90000 + 0x1000 * q.toNat) 2 ∧ s.isT = true ∧ a.data.getLsbD 31 = false :=
  ⟨⟨9, 2, 0xF, 0x20400000⟩, 1, { wT with ld := { wT.ld with cur := some ⟨0x2000, [(6, 1), (64, 0xB), (69, 1), (0x230, 7)]⟩ }, nb := { wT.nb with port1 := { wT.nb.port1 with up := true, chgErr := true } } }, by decide⟩

theorem witness_northboundPorts_15 :
    ∃ (a : Acc) (q : BitVec 1) (s : State), Allowed s a (0x90000 + 0x1000 * q.toNat) 2 ∧ s.isT = true ∧ a.data.getLsbD 31 = true ∧ (s.port q.toNat).pendList.isSome = true :=
  ⟨⟨9, 2, 0xF, 0x80010000⟩, 1, { wT with ld := { wT.ld with cur := some ⟨0x2000, [(6, 1), (64, 0xB), (69, 1), (0x230, 7)]⟩ }, nb := { wT.nb with port1 := { wT.nb.port1 with up := true, pendList := some ⟨[(0xF0, 5), (0x0F, 5)], 10⟩ } } }, by decide⟩

theorem witness_northboundPorts_16 :
    ∃ (a : Acc) (q : BitVec 1) (s : State), Allowed s a (0x90000 + 0x1000 * q.toNat) 2 ∧ s.isT = true ∧ a.data.getLsbD 31 = true ∧ (s.port q.toNat).pendList = none ∧ bits a.data.toNat 22 16 = 1 ∧ s.rwd (0x90404 + 0x1000 * q.toNat) 0 ≠ 0 ∧ s.admCyc q.toNat ≠ 0 ∧ s.tb.taiValid = false :=
  ⟨⟨9, 2, 0xF, 0x80010000⟩, 1, { wT with ld := { wT.ld with cur := some ⟨0x2000, [(6, 1), (64, 0xB), (69, 1), (0x230, 7)]⟩ }, nb := { wT.nb with port1 := { wT.nb.port1 with up := true } }, rw := [(0x91010 / 4, some 10), (0x91404 / 4, some 5)] }, by decide⟩

theorem witness_northboundPorts_17 :
    ∃ (a : Acc) (q : BitVec 1) (s : State), Allowed s a (0x90000 + 0x1000 * q.toNat) 2 ∧ s.isT = true ∧ a.data.getLsbD 31 = true ∧ (s.port q.toNat).pendList = none ∧ bits a.data.toNat 22 16 = 1 ∧ 0 < s.rwd (0x90404 + 0x1000 * q.toNat) 0 ∧ s.rwd (0x90404 + 0x1000 * q.toNat) 0 < 2 ^ 32 ∧ s.admCyc q.toNat ≠ 0 ∧ s.tb.taiValid = true :=
  ⟨⟨9, 2, 0xF, 0x80010000⟩, 1, { wT with ld := { wT.ld with cur := some ⟨0x2000, [(6, 1), (64, 0xB), (69, 1), (0x230, 7)]⟩ }, nb := { wT.nb with port1 := { wT.nb.port1 with up := true } }, rw := [(0x91010 / 4, some 10), (0x91404 / 4, some 5)], tb := { wT.tb with taiValid := true } }, by decide⟩

theorem witness_rackBusAndRequests_1 :
    ∃ (f : EthFrame) (s : State), s.isT = true ∧ s.running = true ∧ s.portOn 2 = true ∧ f.fcsOk = true ∧ 64 ≤ f.len.toNat ∧ f.len.toNat ≤ 1522 ∧ f.dst ≠ s.portMac 2 ∧ f.dst ≠ s.t1sGrp ∧ f.dst ≠ s.abortGrp :=
  ⟨⟨9, 0, 0, 0, true, 64, []⟩, { wT with ld := { wT.ld with cur := some ⟨0x2000, [(6, 1), (64, 0xB), (69, 1), (0x230, 7)]⟩ }, nb := { wT.nb with port0 := wT.nb.port0 } }, by decide⟩

theorem witness_rackBusAndRequests_2 :
    ∃ (f : EthFrame) (s : State), s.isT = true ∧ s.running = true ∧ s.portOn 2 = true ∧ f.fcsOk = true ∧ 64 ≤ f.len.toNat ∧ f.len.toNat ≤ 1522 ∧ f.dst = s.portMac 2 ∧ f.etype.toNat ≠ s.etype :=
  ⟨⟨0, 0, 0, 5, true, 1522, []⟩, { wT with ld := { wT.ld with cur := some ⟨0x2000, [(6, 1), (64, 0xB), (69, 1), (0x230, 7)]⟩ }, nb := { wT.nb with port0 := wT.nb.port0 } }, by decide⟩

theorem witness_rackBusAndRequests_3 :
    ∃ (f : EthFrame), (f.fcsOk = false ∨ f.len.toNat < 64 ∨ 1522 < f.len.toNat) :=
  ⟨⟨0, 0, 5, 0, true, 1523, []⟩, by decide⟩

theorem witness_rackBusAndRequests_4 :
    ∃ (b : Bool) (s : State), s.isT = true ∧ s.running = true ∧ s.portOn 2 = true ∧ s.plcaActive b = b ∧ s.nb.t1s.plca ≠ b :=
  ⟨!wT.nb.t1s.plca, { wT with ld := { wT.ld with cur := some ⟨0x2000, [(6, 1), (64, 0xB), (69, 1), (0x230, 7)]⟩ }, nb := { wT.nb with port0 := wT.nb.port0 } }, by decide⟩

theorem witness_rackBusAndRequests_5 :
    ∃ (b : Bool) (s : State), s.nb.t1s.plca = s.plcaActive b :=
  ⟨wT.nb.t1s.plca, wT, by decide⟩

theorem witness_rackBusAndRequests_6 :
    ∃ (s : State), s.t1sTalks = true :=
  ⟨{ wT with ld := { wT.ld with cur := some ⟨0x2000, [(6, 1), (64, 0xB), (69, 1), (0x230, 7)]⟩ }, nb := { wT.nb with port0 := wT.nb.port0 } }, by decide⟩

theorem witness_rackBusAndRequests_7 :
    ∃ (s : State), s.t1sTalks = false :=
  ⟨wT, by decide⟩

theorem witness_rackBusAndRequests_8 :
    ∃ (m : BitVec 48) (n : Byte) (s : State), s.isT = true ∧ s.running = true ∧ s.portOn 2 = true ∧ n.toNat ≠ s.nodeId ∧ (s.nb.t1s.peers.any fun p => p.mac == m) = false ∧ s.nb.t1s.peers.length < 16 :=
  ⟨7, 255, { wT with ld := { wT.ld with cur := some ⟨0x2000, [(6, 1), (64, 0xB), (69, 1), (0x230, 7)]⟩ }, nb := { wT.nb with port0 := wT.nb.port0 } }, by decide⟩

theorem witness_rackBusAndRequests_9 :
    ∃ (m : BitVec 48) (n : Byte) (s : State), s.isT = true ∧ s.running = true ∧ s.portOn 2 = true ∧ n.toNat = s.nodeId ∧ n ≠ 255 ∧ m ≠ s.portMac 2 ∧ s.nb.t1s.clash = false :=
  ⟨7, 0, { wT with ld := { wT.ld with cur := some ⟨0x2000, [(6, 1), (64, 0xB), (69, 1), (0x230, 7)]⟩ }, nb := { wT.nb with port0 := wT.nb.port0 } }, by decide⟩

theorem witness_rackBusAndRequests_10 :
    ∃ (i : BitVec 4) (p : Peer) (s : State), s.t1sTalks = true ∧ s.nb.t1s.peers[i.toNat]? = some p ∧ p.left ≠ 0 :=
  ⟨0, ⟨7, 0, 9, 65535, 16, 0, 0, none⟩, { wT with ld := { wT.ld with cur := some ⟨0x2000, [(6, 1), (64, 0xB), (69, 1), (0x230, 7)]⟩ }, nb := { wT.nb with t1s := { wT.nb.t1s with xn := 65535, peers := [⟨7, 0, 9, 65535, 16, 0, 0, none⟩] } } }, by decide⟩

theorem witness_rackBusAndRequests_11 :
    ∃ (i : BitVec 4) (s : State), s.nb.t1s.peers[i.toNat]? = none :=
  ⟨0, wT, by decide⟩

theorem witness_rackBusAndRequests_12 :
    ∃ (m : BitVec 48) (s : State), s.isT = true ∧ s.running = true ∧ s.portOn 2 = true ∧ (s.nb.t1s.peers.any fun p => p.mac == m) = true :=
  ⟨7, { wT with ld := { wT.ld with cur := some ⟨0x2000, [(6, 1), (64, 0xB), (69, 1), (0x230, 7)]⟩ }, nb := { wT.nb with t1s := { wT.nb.t1s with peers := [⟨7, 0, 9, 65535, 16, 0, 0, none⟩] } } }, by decide⟩

theorem witness_rackBusAndRequests_13 :
    ∃ (m : BitVec 48) (s : State), (s.nb.t1s.peers.any fun p => p.mac == m) = false :=
  ⟨7, wT, by decide⟩

theorem witness_rackBusAndRequests_14 :
    ∃ (m : BitVec 48) (x : BitVec 16) (p : Peer) (s : State), s.isT = true ∧ s.running = true ∧ s.portOn 2 = true ∧ s.nb.t1s.peers = [p] ∧ p.mac = m ∧ p.xn = some x ∧ p.left ≠ 0 :=
  ⟨7, 5, ⟨7, 0, 9, 65535, 3, 0, 0, some 5⟩, { wT with ld := { wT.ld with cur := some ⟨0x2000, [(6, 1), (64, 0xB), (69, 1), (0x230, 7)]⟩ }, nb := { wT.nb with t1s := { wT.nb.t1s with peers := [⟨7, 0, 9, 65535, 3, 0, 0, some 5⟩] } } }, by decide⟩

theorem witness_rackBusAndRequests_15 :
    ∃ (x : BitVec 16) (p : Peer) (s : State), s.isT = true ∧ s.running = true ∧ s.portOn 2 = true ∧ s.nb.t1s.peers = [p] ∧ p.xn ≠ some x :=
  ⟨6, ⟨7, 0, 9, 65535, 3, 0, 0, some 5⟩, { wT with ld := { wT.ld with cur := some ⟨0x2000, [(6, 1), (64, 0xB), (69, 1), (0x230, 7)]⟩ }, nb := { wT.nb with t1s := { wT.nb.t1s with peers := [⟨7, 0, 9, 65535, 3, 0, 0, some 5⟩] } } }, by decide⟩

theorem witness_rackBusAndRequests_16 :
    ∃ (s : State), s.t1sTalks = true ∧ s.nb.t1s.echoDue = [] ∧ s.nb.t1s.plca = false :=
  ⟨{ wT with ld := { wT.ld with cur := some ⟨0x2000, [(6, 1), (64, 0xB), (69, 1), (0x230, 7)]⟩ }, nb := { wT.nb with t1s := { wT.nb.t1s with plca := false, queue := [⟨4, 5, [], 0⟩] } } }, by decide⟩

theorem witness_rackBusAndRequests_17 :
    ∃ (s : State), s.t1sTalks = true ∧ s.nb.t1s.plca = false :=
  ⟨{ wT with ld := { wT.ld with cur := some ⟨0x2000, [(6, 1), (64, 0xB), (69, 1), (0x230, 7)]⟩ }, nb := { wT.nb with t1s := { wT.nb.t1s with plca := false, queue := [⟨4, 5, [], 0⟩] } } }, by decide⟩

theorem witness_rackBusAndRequests_18 :
    ∃ (s : State), s.t1sTalks = false :=
  ⟨wT, by decide⟩

theorem witness_rackBusAndRequests_19 :
    ∃ (q : BitVec 2) (e : List ReqEntry) (s : State), s.isT = true ∧ s.running = true ∧ q.toNat ≤ 2 ∧ e ≠ [] ∧ e.length ≤ 64 ∧ s.nb.doneReqs = [] ∧ s.nb.places = [] :=
  ⟨2, [⟨false, 0, 0⟩], wT, by decide⟩

theorem witness_rackBusAndRequests_20 :
    ∃ (q : BitVec 2) (m : BitVec 48) (n : Word) (e : List ReqEntry) (b : List Byte) (s : State), s.isT = true ∧ s.running = true ∧ q.toNat ≤ 2 ∧ e ≠ [] ∧ e.length ≤ 64 ∧ s.nb.doneReqs = [(m, n, b)] ∧ s.portEn = 0 :=
  ⟨2, 5, 9, [⟨false, 0, 0⟩], [1], { wT with ld := { wT.ld with cur := some ⟨0x2000, [(6, 1), (64, 0xB), (69, 1)]⟩ }, nb := { wT.nb with doneReqs := [(5, 9, [1])] } }, by decide⟩

theorem witness_rackBusAndRequests_21 :
    ∃ (o : BitVec 26) (s : State), s.isT = true ∧ s.running = true ∧ o.toNat % 4 = 0 ∧ s.nb.proxyOut = [] :=
  ⟨0x3FFFFFC, wT, by decide⟩

theorem witness_rackBusAndRequests_22 :
    ∃ (o : BitVec 26) (s : State), s.isT = true ∧ s.running = true ∧ o.toNat % 4 ≠ 0 :=
  ⟨1, wT, by decide⟩

theorem witness_rackBusAndRequests_23 :
    ∃ (s : State), s.isD = true ∧ s.nb.proxyIn.length < 256 :=
  ⟨wD, by decide⟩

theorem witness_rackBusAndRequests_24 :
    ∃ (s : State), s.isD = true ∧ 256 ≤ s.nb.proxyIn.length :=
  ⟨{ wD with nb := { wD.nb with proxyIn := List.replicate 256 ⟨1, 1, 0, 0⟩ } }, by decide +kernel⟩

theorem witness_rackBusAndRequests_25 :
    ∃ (k : BitVec 6) (g x : Byte) (r : BitVec 9) (s : State), s.isT = true ∧ Tab.get none s.nb.proxyOut g.toNat = some ⟨k, .port r⟩ ∧ x.toNat ≤ 3 :=
  ⟨5, 255, 3, 511, { wT with ld := { wT.ld with cur := some ⟨0x2000, [(6, 1), (64, 0xB), (69, 1), (0x230, 7)]⟩ }, nb := { wT.nb with proxyOut := [(255, some ⟨5, .port 511⟩)] } }, by decide⟩

theorem witness_rackBusAndRequests_26 :
    ∃ (g : Byte) (s : State), s.isT = true ∧ Tab.get none s.nb.proxyOut g.toNat = none :=
  ⟨255, wT, by decide⟩

theorem witness_recorderFlash_1 :
    ∃ (s : State), s.isT = true ∧ s.running = true ∧ s.evr.ready = true ∧ s.pwr.pf = false ∧ s.evr.op = none ∧ s.evr.flushLeft = 0 ∧ s.evr.buf ≠ [] ∧ s.evr.flushReq = true ∧ s.evr.headN.toNat < 16384 :=
  ⟨{ wT with evr := { wT.evr with ready := true, buf := [(List.replicate 32 (7 : Byte))], flushReq := true, headN := 16383 } }, by decide⟩

theorem witness_recorderFlash_2 :
    ∃ (s : State), s.evr.op.isSome = true :=
  ⟨{ wT with evr := { wT.evr with op := some .recErase } }, by decide⟩

theorem witness_recorderFlash_3 :
    ∃ (p : List Byte) (r : List (List Byte)) (s : State), s.evr.op = some .recProgram ∧ s.evr.opN = 1 ∧ s.evr.buf = p :: r ∧ s.evr.headN.toNat < 16384 :=
  ⟨(List.replicate 32 (7 : Byte)), [], { wT with evr := { wT.evr with op := some .recProgram, opN := 1, flushLeft := 1, buf := [(List.replicate 32 (7 : Byte))], headN := 16383 } }, by decide⟩

theorem witness_recorderFlash_4 :
    ∃ (o : FlashOp) (s : State), s.evr.op = some o :=
  ⟨.recErase, { wT with evr := { wT.evr with op := some .recErase } }, by decide⟩

theorem witness_recorderFlash_5 :
    ∃ (o : FlashOp) (s : State), s.evr.op ≠ some o :=
  ⟨.recErase, { wT with evr := { wT.evr with op := some .odoErase } }, by decide⟩

theorem witness_recorderFlash_6 :
    ∃ (s : State), s.evr.op = some .odoProgram ∧ s.evr.odoErase = false :=
  ⟨{ wT with evr := { wT.evr with op := some .odoProgram, odoPos := 255 } }, by decide⟩

theorem witness_recorderFlash_7 :
    ∃ (s : State), s.isT = true ∧ s.running = true ∧ s.evr.ready = true ∧ s.pwr.pf = false ∧ s.evr.op = none ∧ s.aonRuns = true :=
  ⟨{ wT with evr := { wT.evr with ready := true, hours := 1024 } }, by decide⟩

theorem witness_recorderFlash_8 :
    ∃ (s : State), s.pwr.pf = true :=
  ⟨{ wT with pwr := { wT.pwr with pf := true } }, by decide⟩

theorem witness_recorderFlash_9 :
    ∃ (s : State), s.isT = true ∧ s.running = true ∧ s.evr.odoErase = true ∧ s.pwr.pf = false ∧ s.evr.op = none :=
  ⟨{ wT with evr := { wT.evr with odoErase := true } }, by decide⟩

theorem witness_recorderFlash_10 :
    ∃ (s : State), s.evr.odoErase = false :=
  ⟨wT, by decide⟩

theorem witness_recorderFlash_11 :
    ∃ (p : List Byte) (s : State), s.isD = true ∧ s.running = true ∧ (s.link 0).tr.state = 4 ∧ ((s.link 0).txv 3).queue = [] ∧ s.evr.ring = [(p, false)] ∧ s.evr.flushReq = true :=
  ⟨[1], { wD with ul := { wD.ul with links := [(0, { Link.init with tr := { Link.init.tr with state := 4 } })] }, evr := { wD.evr with ring := [([1], false)], flushReq := true } }, by decide⟩

theorem witness_recorderFlash_12 :
    ∃ (s : State), (s.link 0).tr.state ≠ 4 :=
  ⟨wD, by decide⟩

theorem witness_recorderFlash_13 :
    ∃ (p : List Byte) (s : State), s.isT = true ∧ s.running = true ∧ bits (leAt p 2 1) 3 2 = 0 ∧ s.evr.buf.length < 512 ∧ s.urgent = 0 :=
  ⟨[1, 0, 0], { wT with ld := { wT.ld with cur := some ⟨0x2000, [(6, 1), (64, 0xC), (69, 1)]⟩ } }, by decide⟩

theorem witness_recorderFlash_14 :
    ∃ (p : List Byte) (s : State), s.isT = true ∧ s.running = true ∧ bits (leAt p 2 1) 3 2 = 0 ∧ 512 ≤ s.evr.buf.length ∧ s.urgent = 0 :=
  ⟨[1, 0, 0], { wT with ld := { wT.ld with cur := some ⟨0x2000, [(6, 1), (64, 0xC), (69, 1)]⟩ }, evr := { wT.evr with buf := List.replicate 512 [] } }, by decide +kernel⟩

theorem witness_recorderFlash_15 :
    ∃ (p : Post) (s : State), s.running = true ∧ 1 ≤ p.role.toNat :=
  ⟨⟨0, 1, 7, 0, 0, 0⟩, wD, by decide⟩

theorem witness_recorderFlash_16 :
    ∃ (p : List Byte) (s : State), s.evr.pfLeft = some 1 ∧ s.evr.op = none ∧ s.evr.odoErase = true ∧ s.evr.buf = [p] ∧ s.evr.headN.toNat < 16384 :=
  ⟨(List.replicate 32 (7 : Byte)), { wT with evr := { wT.evr with pfLeft := some 1, odoErase := true, buf := [(List.replicate 32 (7 : Byte))], headN := 5 } }, by decide⟩

theorem witness_recorderFlash_17 :
    ∃ (s : State), s.evr.pfLeft = none :=
  ⟨wT, by decide⟩

theorem witness_powerEvents_1 :
    ∃ (b : Bool) (s : State), s.isT = true ∧ s.running = true ∧ s.pwr.pf = false ∧ s.evr.ready = true ∧ s.pwr.huIso = false ∧ s.ld.st = 0 ∧ s.te.st ≠ 1 ∧ (b = false ∨ s.busFlags.testBit 3 = true) :=
  ⟨true, { wT with evr := { wT.evr with ready := true } }, by decide⟩

theorem witness_powerEvents_2 :
    ∃ (s : State), s.isT = true ∧ s.pwr.pf = true :=
  ⟨{ wT with pwr := { wT.pwr with pf := true } }, by decide⟩

theorem witness_powerEvents_3 :
    ∃ (s : State), s.isD = true ∧ s.running = true :=
  ⟨wD, by decide⟩

theorem witness_powerEvents_4 :
    ∃ (s : State), s.isT = true ∧ s.pwr.pf = true ∧ s.evr.pfDone = true :=
  ⟨{ wT with pwr := { wT.pwr with pf := true, pfOut := true }, evr := { wT.evr with pfDone := true } }, by decide⟩

theorem witness_powerEvents_5 :
    ∃ (s : State), s.isT = true ∧ s.evr.pfDone = false :=
  ⟨wT, by decide⟩

theorem witness_powerEvents_6 :
    ∃ (s : State), s.isD = true :=
  ⟨wD, by decide⟩

theorem witness_powerEvents_8 :
    ∃ (s : State), s.running = true ∧ s.heat.taken = true ∧ s.pwr.pdReq = true ∧ s.pwr.pdStopped = true ∧ s.pwr.pdAck = false ∧ s.scanOut = 0 ∧ s.pdFlushed = true :=
  ⟨{ wD with pwr := { wD.pwr with pdReq := true, pdStopped := true }, heat := { wD.heat with taken := true } }, by decide⟩

theorem witness_powerEvents_9 :
    ∃ (b : Bool) (s : State), (b = true ∨ 0 < s.scanOut ∨ s.pdFlushed = false) :=
  ⟨true, wD, by decide⟩

theorem witness_powerEvents_10 :
    ∃ (c : BitVec 12) (s : State), s.isT = true ∧ s.running = true ∧ s.pwr.huDue = true ∧ s.pwr.huIso = false ∧ s.pwr.pf = false ∧ s.raCode < c.toNat :=
  ⟨4095, { wT with pwr := { wT.pwr with huDue := true } }, by decide⟩

theorem witness_powerEvents_11 :
    ∃ (c : BitVec 12) (s : State), s.isT = true ∧ s.running = true ∧ s.pwr.huDue = true ∧ s.pwr.huIso = false ∧ s.pwr.pf = false ∧ c.toNat ≤ s.raCode :=
  ⟨0, { wT with pwr := { wT.pwr with huDue := true } }, by decide⟩

theorem witness_powerEvents_12 :
    ∃ (s : State), s.pwr.huDue = false :=
  ⟨wT, by decide⟩

theorem witness_powerEvents_13 :
    ∃ (s : State), s.pwr.huIso = true :=
  ⟨{ wT with pwr := { wT.pwr with huIso := true } }, by decide⟩

theorem witness_powerEvents_14 :
    ∃ (c p n : Nat) (s : State), s.pwr.huIso = true ∧ s.huLen / 2 ≤ s.pwr.huV.length ∧ s.huLen / 2 ≤ s.pwr.huI.length ∧ s.holdupSmall = false ∧ s.holdupFigures = (c, p, some n) ∧ n < 2 ^ 32 :=
  ⟨5, 6000, 666, { wT with ld := { wT.ld with cur := some ⟨0x2000, [(6, 1), (64, 3), (69, 1), (0x1B1, 0x20), (0x1B3, 1), (0x1B4, 0xA0), (0x1B5, 0x0F), (0x1BA, 16)]⟩ }, pwr := { wT.pwr with huIso := true, huV := [2000, 2000, 2000, 2000, 1000, 1000, 1000, 1000], huI := List.replicate 8 1000 } }, by decide +kernel⟩

theorem witness_powerEvents_15 :
    ∃ (s : State), s.pwr.huIso = false :=
  ⟨wT, by decide⟩

theorem witness_scanSegments_2 :
    ∃ (c : BitVec 3) (p : Running) (s : State), s.isD = true ∧ s.running = true ∧ s.workStopped = false ∧ (s.chan c.toNat).slot ((s.chan c.toNat).q.toNat % 64) = .free ∧ (s.chan c.toNat).run = [p] ∧ p.ended = none ∧ p.built < p.d.segs ∧ s.scn.issue = [] :=
  ⟨0, ⟨⟨0, 3, 0x1000, 0, 77⟩, 1, [63], none, 0xFFFFFFFF, false, 0⟩, { wD with scn := { wD.scn with chans := [(0, { (default : Channel) with q := 0, run := [⟨⟨0, 3, 0x1000, 0, 77⟩, 1, [63], none, 0xFFFFFFFF, false, 0⟩], slots := [(63, .built true)] })] } }, by decide⟩

theorem witness_sketchCountsAgree_2 :
    ∃ (k : Sketch), Tab.wf 0 k.bkt = true ∧ (k.csat = false → k.count.toNat = (k.bkt.map fun p => p.2.toNat).sum) :=
  ⟨Sketch.empty 1 0, by decide⟩

theorem witness_sketchCountsAgree_3 :
    ∃ (a b : Sketch), Tab.wf 0 a.bkt = true ∧ Tab.wf 0 b.bkt = true ∧ (a.csat = false → a.count.toNat = (a.bkt.map fun p => p.2.toNat).sum) ∧ (b.csat = false → b.count.toNat = (b.bkt.map fun p => p.2.toNat).sum) :=
  ⟨Sketch.empty 1 0, Sketch.empty 1 0, by decide⟩

theorem witness_rawFramesReadBack_1 :
    ∃ (h : FrameHdr) (v : List DWord) (st : List Byte), 1 ≤ h.kind ∧ h.kind ≤ 3 ∧ v.length = kindItems h.kind ∧ h.nitem = kindItems h.kind ∧ (st.length = if h.kind = 1 then 64 else 0) ∧ (if h.kind = 1 then h.rdiv < 8 ∧ 1 ≤ h.span ∧ h.span < 65536 else h.rdiv = 0 ∧ h.span = 0) ∧ (h.kind ≠ 1 → (v.all fun x => decide (x.toNat < 2 ^ 32)) = true) :=
  ⟨{ kind := 3, flags := 0, table := 0, rdiv := 0, fsid := 5, span := 0, nitem := 8, tag := 7, ref := 0 }, List.replicate 8 0xFFFFFFFF, [], by decide⟩

theorem witness_verdictAcknowledged_1 :
    ∃ (p : Post) (s : State), s.running = true ∧ s.isT = true ∧ 1 ≤ p.role.toNat ∧ p.a0.toNat < 64 ∧ p.a1.toNat < 65536 ∧ (s.verd p.a0.toNat).vseq.toNat = p.a1.toNat :=
  ⟨⟨0, 1, 7, 63, 0xFFFF, 0⟩, { wT with ump := { wT.ump with verd := [(63, { (default : Verd) with v := 2, vseq := 0xFFFF })] } }, by decide⟩

theorem witness_verdictAcknowledged_2 :
    ∃ (p : Post) (s : State), s.running = true ∧ s.isT = true ∧ 1 ≤ p.role.toNat ∧ p.a0.toNat < 64 ∧ p.a1.toNat < 65536 ∧ (s.verd p.a0.toNat).vseq.toNat ≠ p.a1.toNat :=
  ⟨⟨0, 1, 7, 63, 0xFFFF, 0⟩, wT, by decide⟩

theorem witness_verdictAcknowledged_3 :
    ∃ (m : BitVec 23) (u : List (BitVec 10)) (k : Nat) (s t : State), exec (.heatBoundary m u) s = .next t ∧ (t.verd k).v ≠ (s.verd k).v :=
  ⟨5, [], 5, vch, vchT, by exact ⟨rfl, by decide +kernel⟩⟩

theorem witness_verdictAcknowledged_4 :
    ∃ (u : List (BitVec 10)) (k : Nat) (s t : State), exec (.substituteHeatBoundary u) s = .next t ∧ (t.verd k).v ≠ (s.verd k).v :=
  ⟨[], 5, vcs, vcsT, by exact ⟨rfl, by decide +kernel⟩⟩

theorem witness_tallyReset_2 :
    ∃ (s t : State), exec .imageActivation s = .next t :=
  ⟨wD, wD, by exact rfl⟩


/-! Ill-formed commands, one for each check of WellFormed. -/

/-- The memories of Table 16-5 are numbered 1 to 9. -/
theorem test_wf_macros :
    Instr.wf (.memoryBistGroupDone 0 [⟨0, 0, []⟩]) = false ∧
    Instr.wf (.memoryBistGroupDone 7 [⟨1, 0, []⟩, ⟨10, 0, []⟩]) = false := by decide +kernel

/-- Register words and their pairs stand at multiples of 4 and 8. -/
theorem test_wf_offsets :
    Instr.wf (.registerWrite ⟨0, 0, 15, 0⟩ 0x1002 none) = false ∧
    Instr.wf (.wc2Stage ⟨0, 0, 15, 0⟩ 0x60004) = false := by decide +kernel

/-- Tallies are numbered 0 to 47 (R377). -/
theorem test_wf_tallies :
    Instr.wf (.tlyAddWrite ⟨0, 0, 15, 0⟩ 48) = false ∧
    Instr.wf (.tlyCfgWrite ⟨0, 0, 15, 0⟩ 63) = false := by decide +kernel

/-- Paths 9 and 15 hold no role state (Table 15-1). -/
theorem test_wf_paths :
    Instr.wf (.roleCheckDone 9) = false ∧
    Instr.wf (.roleTimeout 15) = false ∧
    Instr.wf (.nonceExpiry 9) = false ∧
    Instr.wf (.roleLockEnd false 11) = false := by decide +kernel

/-- Clock domains are numbered 0 to 39. -/
theorem test_wf_domains :
    Instr.wf (.crossingTransfer 40 true 0) = false ∧
    Instr.wf (.crossingTimeout 40) = false ∧
    Instr.wf (.crossingRearm 63) = false := by decide +kernel

/-- A half of a return is 128 bytes (R219). -/
theorem test_wf_returns :
    Instr.wf (.scanReturn 0 0 (List.replicate 129 0) 0 0) = false ∧
    Instr.wf (.scanReturn 0 0 [] 0 0) = false := by decide +kernel

/-- The bodies of FP_REPORT and SHARD_REPORT (Table 13-6). -/
theorem test_wf_reports :
    Instr.wf (.fpReport 0 (List.replicate 47 0)) = false ∧
    Instr.wf (.shardReport 0 (List.replicate 12 0)) = false ∧
    Instr.wf (.shardReport 0 (List.replicate 18 0)) = false := by decide +kernel

/-- A replay names one to eight numbers (R259). -/
theorem test_wf_replays :
    Instr.wf (.replayAccept 0 0 []) = false ∧
    Instr.wf (.replayAccept 0 0 (List.replicate 9 0)) = false ∧
    Instr.wf (.replayRefused 0 0 [] 0) = false ∧
    Instr.wf (.replayRefused 0 0 (List.replicate 9 0) 0) = false := by decide +kernel

/-- There are three ports for abort frames and register requests, and 1 to 64 entries in a request (R448). -/
theorem test_wf_ports :
    Instr.wf (.abortFrame 3 0 0 0) = false ∧
    Instr.wf (.regReq 3 0 0 [⟨false, 0, 0⟩]) = false ∧
    Instr.wf (.regReq 0 0 0 []) = false ∧
    Instr.wf (.regReq 0 0 0 (List.replicate 65 ⟨false, 0, 0⟩)) = false := by decide +kernel

/-- Image sections are delivered from multiples of 64, 4,096 bytes at most (R85). -/
theorem test_wf_sections :
    Instr.wf (.imgSect 32 []) = false := by decide +kernel

/-- The NV write has six steps (R89). -/
theorem test_wf_nv :
    Instr.wf (.nvWriteComplete 7) = false ∧
    Instr.wf (.flashOperationDone (.nvStep 0) true) = false ∧
    Instr.wf (.flashOperationDone (.nvStep 7) true) = false := by decide +kernel

/-- A gate list has 64 entries. -/
theorem test_wf_gates :
    Instr.wf (.gateEntryStart 0 65 none) = false := by decide +kernel

/-- The host sessions are numbered 1 to 8. -/
theorem test_wf_sessions :
    Instr.wf (.sessionFree 0) = false ∧
    Instr.wf (.sessionFree 9) = false := by decide +kernel

/-- A flushed place is 32 bytes (R489). -/
theorem test_wf_places :
    Instr.wf (.recFlush 0 [List.replicate 31 0]) = false ∧
    Instr.wf (.recFlush 0 (List.replicate 129 (List.replicate 32 0))) = false := by decide +kernel

/-- A message is 4,264 bytes at most (R407): the length check of each command that carries one. -/
theorem test_wf_messages :
    Instr.wf (.trcBlock 0 (List.replicate 4265 0)) = false ∧
    Instr.wf (.frame 0 (List.replicate 4265 0)) = false ∧
    Instr.wf (.heatHdr 0 (List.replicate 4265 0)) = false ∧
    Instr.wf (.detrec 0 (List.replicate 4265 0)) = false ∧
    Instr.wf (.hangDump 0 (List.replicate 4265 0)) = false ∧
    Instr.wf (.shardReport 0 (List.replicate 4268 0)) = false ∧ Instr.wf (.imgSect 64 (List.replicate 4097 0)) = false := by
  decide +kernel

/-- The limits themselves are well-formed. -/
theorem test_wf_limits :
    Instr.wf (.tlyAddWrite ⟨0, 0, 15, 0⟩ 47) = true ∧ Instr.wf (.crossingTimeout 39) = true ∧ Instr.wf (.imgSect 64 []) = true ∧
    Instr.wf (.roleTimeout 10) = true ∧ Instr.wf (.nvWriteComplete 6) = true ∧ Instr.wf (.sessionFree 8) = true := by decide +kernel

/-! Values of the spec's tables and worked examples. -/

/-- "123456789". -/
def nine : List Byte := [0x31, 0x32, 0x33, 0x34, 0x35, 0x36, 0x37, 0x38, 0x39]

/-- Table 7-1, column Check. -/
theorem test_check_values :
    checkValue 0 nine = 0xCBF43926 ∧ checkValue 1 nine = 0xE3069283 ∧ checkValue 2 nine = 0x6C40DF5F0B497347 ∧
    checkValue 3 nine = 0x995DC9BBDF1939FA := by decide +kernel

/-- R217, R229: two segments folded in order give the check values of Table 7-1. -/
theorem test_scan_fold :
    ∀ p : BitVec 2, scanFinal p (scanFold p (scanRun p (scanInit p) (nine.take 4)) 5 (scanRun p 0 (nine.drop 4))) = checkValue p nine := by
  decide +kernel

/-- The word MAC of chapter 15 rests on SHA-256; the digest of "abc" is FIPS 180-4's own example. -/
theorem test_sha256_abc :
    (sha256 [0x61, 0x62, 0x63]).take 8 = [0xBA, 0x78, 0x16, 0xBF, 0x8F, 0x01, 0xCF, 0xEA] := by decide +kernel

/-- The residues of Table 6-6, mapped by R196. -/
def exZ : List Nat := [800, 1, 4, 4] ++ List.replicate 60 0

/-- Table 6-6: z of the residues 400, −1 and 2, and the symbols of heat 701. -/
theorem test_compression_symbols :
    (zigzag 400 = 800 ∧ zigzag (-1) = 1 ∧ zigzag 2 = 4) ∧
    (sampleSyms 0 exZ).map (·.sym) = [10, 1, 3, 3, 69, 68, 67, 66] ∧ symOf 800 = ⟨10, 288, 9⟩ ∧ symOf 4 = ⟨3, 0, 2⟩ := by decide +kernel

/-- Table 6-6: the residues of units 0 to 3 with PMODE 0, 1, 1, 0. -/
theorem test_compression_residues :
    (residues 1 (fun u => if u = 1 ∨ u = 2 then 1 else 0) [10400, 10419, 10391, 57] [10000, 10020, 9990, 55]) = [400, -1, 2, 2] := by
  decide +kernel

/-- The example of chapter 6: the dynamic table, its first bytes and the bit stream. -/
theorem test_compression_dynamic :
    (tableBytes (dynTable (sampleSyms 0 exZ))).take 2 = [0x30, 0x20] ∧
    sampleStream (dynTable (sampleSyms 0 exZ)) (sampleSyms 0 exZ) = [0x06, 0x29, 0x80, 0xAF, 0x01] := by decide +kernel

/-- Table 9-4: bucket boundaries. -/
theorem test_buckets :
    ([(50, 50), (51, 51), (52, 53), (53, 55), (55, 59), (56, 61), (75, 99), (76, 101), (77, 104), (93, 152), (94, 156), (95, 160),
      (96, 164), (116, 254), (124, 302), (125, 309), (126, 316)] : List (Nat × Nat)).all (fun p =>
      bucketOf p.2 == p.1 && bucketOf (p.2 - 1) == p.1 - 1) = true := by decide +kernel

/-- A sketch of figure 2 with the values entered. -/
def sketchOf (l : List DWord) : Sketch := l.foldl Sketch.enter (Sketch.empty 2 0)

/-- Table 9-8: the merge of the two trays' sketches. -/
theorem test_sketch_merge :
    let m := (sketchOf [0, 3, 7, 12, 55, 160]).merge (sketchOf [0, 3, 12, 60, 310])
    m.count = 11 ∧ m.min = 0 ∧ m.max = 310 ∧ m.sum = 622 ∧
    m.bkt = [(0, 2), (3, 2), (7, 1), (12, 2), (53, 1), (55, 1), (95, 1), (125, 1)] := by decide +kernel

/-- The nodes of Table 10-11, tree 0 at 0, tree 1 at 5, tree 2 at 8. -/
def exNodes : List Nat :=
  [0x0000003000010000, 0x000100C800030000, 0x8000000002000000, 0x80000000FF800000, 0x8000000001400000,
   0x4004004000010000, 0x8000000000C00000, 0x8000000003000000,
   0x000100FA00010000, 0x80000000FF000000, 0x0000003C00030000, 0x8000000001800000, 0x8000000000400000]

/-- The leaf that the example's tree at `o` gives. -/
def exLeaf (o d : Nat) (codes : List (BitVec 16)) : Int :=
  (traverse (fun i => exNodes.getD (o + i) 0) (fun f => codes.getD f 0xFFFF) d 0 0 []).1

/-- Table 10-12: the codes of die 41 and die 33. -/
theorem test_feature_codes :
    Ext.code 640 4 (.fin 1396) = 48 ∧ Ext.code (-512) 2 (.fin 489) = 251 ∧ Ext.code 0 8 (Ext.ratio (.fin 0) (.fin 0)) = 0xFFFF ∧
    Ext.code 640 4 (.fin 1120) = 31 ∧ Ext.code (-512) 2 (.fin 153) = 167 ∧ Ext.code 0 8 (Ext.ratio (.fin 1) (.fin 4)) = 65 := by
  decide +kernel

/-- The traversals of the example of chapter 10. -/
theorem test_traversals :
    [exLeaf 0 3 [48, 251, 1, 1, 0xFFFF], exLeaf 5 2 [48, 251, 1, 1, 0xFFFF], exLeaf 8 3 [48, 251, 1, 1, 0xFFFF]] =
      [20971520, 12582912, 25165824] ∧
    [exLeaf 0 3 [31, 167, 2, 5, 65], exLeaf 5 2 [31, 167, 2, 5, 65], exLeaf 8 3 [31, 167, 2, 5, 65]] =
      [-8388608, 50331648, -16777216] := by decide +kernel

/-- Tree 1's entry of the example. -/
theorem test_tree_entry : treeRec 0x0004100030000005 = ⟨5, 3, 2, 0, true⟩ := by decide +kernel

/-- The two scores of the example, and the two entries of T that it names. -/
theorem test_scores :
    sigmaT 1120 = 13716624 ∧ sigmaT 992 = 6334081 ∧ linkScore 1 25165824 = 53581 ∧ linkScore 1 (-8388608) = 24743 := by decide +kernel

/-- A die whose detector 3 is the CUSUM of the example of chapter 11: MU 2, K 1, HI 6, LO 0. -/
def exDet : State :=
  { wD with ld := { wD.ld with cur := some ⟨0x4000, [(6, 1), (64, 8), (69, 1), (0x104, 4), (0x380, 3), (0x388, 6), (0x390, 2), (0x398, 1)]⟩ } }

/-- Sp and the alarm after each input in turn. -/
def exRun : Det → List Int → List (Int × Bool)
  | _, [] => []
  | d, x :: t => let e := exDet.detStep 3 d x; (e.sp, e.alarm) :: exRun e t

/-- Table 11-6, columns Sp and Alarm. -/
theorem test_cusum :
    exRun default [2, 6, 7, 5, 2, 1, 0, 0, 0, 0, 0] =
      [(0, false), (3, false), (7, true), (9, true), (8, true), (6, true), (3, true), (0, false), (0, false), (0, false), (0, false)] := by
  decide +kernel

/-- A tray with the segment of chapter 4's holdover example in force, at F_STROKE 1,000,000 kHz. -/
def exTai : State := { wT with tb := { wT.tb with segS := 5000000000, segT := 1700000000000000000 * 2 ^ 40, segAdj := 109951163 } }

/-- The holdover example: NS 1,000,100, SEC 1,700,000,000 and FRAC 0 after 1,000,000 strokes. -/
theorem test_tai : taiOf (exTai.timeAt 1000000) = BitVec.ofNat 96 (1000100 + 1700000000 * 2 ^ 32) := by decide +kernel

/-- A tray with LINK_PARAMS' F_STROKE, PROP_PS_M 4,800 and SerDes latencies of 90,000 ps, for link 12 of chapter 4's example. -/
def exLink : State :=
  { wT with ld := { wT.ld with cur := some ⟨0x4000, [(6, 1), (64, 0xB), (69, 1), (0x100, 0x40), (0x101, 0x42), (0x102, 0x0F),
      (0x158, 0xC0), (0x159, 0x12), (0x170, 0x90), (0x171, 0x5F), (0x172, 0x01)]⟩ } }

/-- Table 4-4, round 100: LEN_MM from RTT 114 strokes. -/
theorem test_link_length : exLink.linkLength 12 (114 * 16) = 2500 := by decide +kernel

/-- Table 4-4, round 110: θ −6 strokes, RTT 114 strokes, in 1/16 stroke. -/
theorem test_tt_resp :
    let s := { exLink with tt := { exLink.tt with links := [(12, { (default : TtLink) with out := [(5, false)] })] } }
    let x := Tab.get default (after (.ttResp 12 5 (16 * 1100640) (16 * 1100691) (16 * 1100991) (16 * 1101054)) s).tt.links 12
    x.theta = -96 ∧ x.rtt = 16 * 114 ∧ x.lenMm = 2500 := by decide +kernel

/-- A tray with the SENSE_PARAMS of chapter 17's example and its samples. -/
def exHoldup : State :=
  { wT with
      ld := { wT.ld with cur := some ⟨0x4000, [(6, 1), (64, 3), (69, 1), (0x1B0, 0xAB), (0x1B1, 0xA6), (0x1B3, 0x64), (0x1B4, 0xA0),
        (0x1B5, 0x0F), (0x1B8, 0xB8), (0x1B9, 0x0B), (0x1BA, 0xE8), (0x1BB, 0x03)]⟩ }
      pwr := { wT.pwr with huV := List.replicate 250 3200 ++ List.replicate 250 3152, huI := List.replicate 500 600 } }

/-- The hold-up example: c_uf, p_mw and t_us. -/
theorem test_holdup : exHoldup.holdupFigures = (80000, 3000000, some 9333) := by decide +kernel

/-- The change time in the past of chapter 14. -/
theorem test_gate_change_time :
    changeTime (1699999999 * 10 ^ 9) 100000 (1700000000 * 10 ^ 9 + 512345000) = 1700000000 * 10 ^ 9 + 512400000 := by decide +kernel

/-- The fifth nonce of a tray at power-cycle count 0x32A (chapter 15). -/
theorem test_nonce :
    let s := { wT with evr := { wT.evr with pcyc := 0x32A }, roles := { wT.roles with nonces := 4 } }
    ((after (.roleRequestHigher ⟨0, 0, 15, 0x20⟩ false) s).path 0).nonce = 0x032A000000000005 := by decide +kernel

/-- The periodic buoy of chapter 5's example, written and read back. -/
theorem test_buoy_words :
    buoyWords 1 ⟨128, 5000, 41207, true, true⟩ = [0x138000800000A0F7, 0x1388] ∧
    buoyOf 0x138000800000A0F7 0x1388 = ⟨128, 5000, 41207, true, true⟩ := by decide +kernel

/-- A die whose tap 17 is of kind LANE, capturing. -/
def exTap : State :=
  { wD with
      ld := { wD.ld with cur := some ⟨0x4000, [(6, 1), (64, 6), (69, 1), (0x185, 0xC0)]⟩ }
      trc := { wD.trc with capEn := some true, taps := [(17, ⟨0, 0, some (1000, 1)⟩)] } }

/-- The EVENT word of the same example. -/
theorem test_event_word : (after (.tapTransfer 17 1000 1 1234) exTap).trc.fifo = [[0x39A41181000003E8]] := by decide +kernel

/-- A die whose repair entries 0 to 36 are in use and whose trace-buffer macro 45 was repaired by BIST (chapter 18). -/
def exRepair : State :=
  { wD with
      fuse := { wD.fuse with map := ((List.range 27).map fun i => (40 + i, 0xFFFFFFFF)) ++ [(67, 0xFFFFFF)] }
      bist := { wD.bist with soft := [(3, 45)] } }

/-- The repair entry's value and the six map bits that a burn requests. -/
theorem test_repair_entry :
    repairValue 3 45 = 0xB43 ∧ exRepair.burnBits 1 = [2168, 2169, 2174, 2176, 2177, 2179] := by decide +kernel

end Sys2Proof.Tests
end

section
/-! PROOF. The scan engine's segments (R226, R227): how a descriptor's region is cut, and what building one read changes. -/

namespace Sys2Proof.Machine

/-- The number of segments is half of LEN, rounded up (R226). -/
theorem Desc.two_mul_segs (d : Desc) : 2 * d.segs = d.len.toNat ∨ 2 * d.segs = d.len.toNat + 1 := by
  unfold Desc.segs
  omega

/-- The segments before segment `n` hold the first 256 `n` bytes of the region, or all of it where the region is shorter. -/
theorem Desc.sum_segLen (d : Desc) {n : Nat} (h : n ≤ d.segs) :
    ((List.range n).map d.segLen).sum = min (256 * n) (128 * d.len.toNat) := by
  induction n with
  | zero => simp
  | succ n ih =>
    have hs := d.two_mul_segs
    rw [List.range_succ, List.map_append, List.sum_append, ih (by omega)]
    simp only [List.map_cons, List.map_nil, List.sum_cons, List.sum_nil, Desc.segLen]
    split <;> omega

/-- A descriptor's segments cover its region. -/
theorem Desc.sum_segLen_segs (d : Desc) : ((List.range d.segs).map d.segLen).sum = 128 * d.len.toNat := by
  have hs := d.two_mul_segs
  rw [d.sum_segLen le_rfl]
  omega

/-- Setting the scan engine leaves every other part alone. -/
theorem State.setScn_unchanged (s : State) (v : Scan) : Unchanged [.scn] s (s.setScn v) := by
  intro p hp
  cases p
  case scn => exact absurd (List.mem_singleton_self _) hp
  all_goals rfl

@[simp] theorem State.setScn_setScn (s : State) (v w : Scan) : (s.setScn v).setScn w = s.setScn w := rfl

/-- The scan engine with the read of the next segment of `p`, the only running descriptor of channel `c`, built: it takes the
entry at the channel's `q` and joins the issue FIFO (R226, R227). -/
def Scan.withRead (z : Scan) (c : BitVec 3) (p : Running) : Scan :=
  let x : Channel := Tab.get default z.chans c.toNat
  let e := x.q.toNat % 64
  let sz := p.d.segLen p.built == 256
  { z with
    chans := Tab.set default z.chans c.toNat { x.setSlot e (.built sz) with
      q := x.q + 1, run := [{ p with built := p.built + 1, slots := p.slots ++ [BitVec.ofNat 6 e] }] }
    issue := z.issue ++ [(c, BitVec.ofNat 6 e, p.d.addr + BitVec.ofNat 64 (256 * p.built), sz)] }

/-- SCAN_READ_BUILD at a free entry, with a segment of the one running descriptor still to read and room in the issue FIFO. -/
theorem execScanReadBuild_free {c : BitVec 3} {p : Running} {s : State} (hd : s.isD = true) (hr : s.running = true)
    (hw : s.workStopped = false) (hslot : (s.chan c.toNat).slot ((s.chan c.toNat).q.toNat % 64) = .free)
    (hrun : (s.chan c.toNat).run = [p]) (hend : p.ended = none) (hseg : p.built < p.d.segs)
    (hroom : s.scn.issue.length < 32) : execScanReadBuild c s = .next (s.setScn (s.scn.withRead c p)) := by
  have hgo : ¬(p.ended.isSome ∨ p.d.segs ≤ p.built ∨ 32 ≤ s.scn.issue.length) := by simp [hend]; omega
  simp only [execScanReadBuild, hd, hr, hw, hslot, hrun, List.getLast?_singleton, if_neg hgo]
  rfl

/-- Settles O55: the cut of the region by counting the bytes of the segments before the n-th, the read from
`execScanReadBuild_free`. -/
theorem scanSegments : Obligations.ScanSegments := by
  unfold Obligations.ScanSegments
  refine ⟨fun d => ⟨d.two_mul_segs, d.sum_segLen_segs, fun j _ => rfl⟩, ?_⟩
  intro c p s hd hr hw hslot hrun hend hseg hissue
  refine ⟨s.setScn (s.scn.withRead c p), ?_, ?_, ?_, ?_, s.setScn_unchanged _⟩
  · exact execScanReadBuild_free hd hr hw hslot hrun hend hseg (by simp [hissue])
  all_goals simp [Scan.withRead, State.chan, hissue]

end Sys2Proof.Machine
end

section
/-! PROOF. The verdicts and their acknowledgement (R350, R351, R370): what the boundary work of every engine leaves of the
table of verdicts, and that the umpire's part of it changes no verdict without clearing ACKED. -/

namespace Sys2Proof.Machine

/-- A fold whose step leaves the table of verdicts alone leaves it alone. -/
@[simp] theorem foldl_umpVerd {α : Type} (f : State → α → State) (l : List α) (s : State)
    (h : ∀ t x, (f t x).ump.verd = t.ump.verd) : (l.foldl f s).ump.verd = s.ump.verd := by
  induction l generalizing s with
  | nil => rfl
  | cons x l ih => rw [List.foldl_cons, ih, h]

/-! Messages, records and bindings leave the umpire alone. -/

@[simp] theorem State.setPort_ump (s : State) (p : Nat) (q : NbPort) : (s.setPort p q).ump = s.ump := by
  unfold State.setPort
  split <;> rfl

@[simp] theorem State.northOn_ump (s : State) (p mtype : Nat) (body : List Byte) (dst : Option (BitVec 48)) (rep : Bool) :
    (s.northOn p mtype body dst rep).ump = s.ump := by
  unfold State.northOn
  split
  · rfl
  · split
    · rfl
    · simp

@[simp] theorem State.northRep_ump (s : State) (mtype : Nat) (body : List Byte) (rep : Bool) :
    (s.northRep mtype body rep).ump = s.ump := by
  unfold State.northRep
  split <;> simp

@[simp] theorem State.north_ump (s : State) (mtype : Nat) (body : List Byte) : (s.north mtype body).ump = s.ump :=
  s.northRep_ump mtype body false

@[simp] theorem State.tallyRefuse_ump (s : State) (src n : Nat) (inc : BitVec 16) (reason role path : Nat) :
    (s.tallyRefuse src n inc reason role path).ump = s.ump := by
  unfold State.tallyRefuse
  dsimp only
  split <;> simp

@[simp] theorem State.bindEvent_ump (s : State) (src arg : Nat) : (s.bindEvent src arg).ump = s.ump := by
  refine foldl_ump _ _ _ fun t j => ?_
  dsimp only
  split
  · split <;> simp
  · rfl

/-! A producer's overload and a lost block note the producer with the umpire and leave the verdicts. -/

@[simp] theorem State.overload_umpVerd (s : State) (p : Nat) : (s.overload p).ump.verd = s.ump.verd := rfl

@[simp] theorem State.blockLost_umpVerd (s : State) : s.blockLost.ump.verd = s.ump.verd := by
  simp [State.blockLost]

@[simp] theorem State.emitted_ump (s : State) (kind bin bout : Nat) : (s.emitted kind bin bout).ump = s.ump := by
  simp [State.emitted]

@[simp] theorem State.sendBlock_umpVerd (s : State) (blk : Nat) : (s.sendBlock blk).1.ump.verd = s.ump.verd := by
  unfold State.sendBlock
  dsimp only
  split
  · simp
  · split
    · split
      · split <;> simp
      · split <;> simp
    · simp
    · simp

@[simp] theorem State.reduceLoss_umpVerd (s : State) (i code : Nat) (data : List Byte) :
    (s.reduceLoss i code data).ump.verd = s.ump.verd := by
  unfold State.reduceLoss
  dsimp only
  split <;> simp

@[simp] theorem State.drainOne_ump (s : State) : s.drainOne.ump = s.ump := by
  unfold State.drainOne
  extract_lets _ sketch
  have hsketch : sketch.ump = s.ump := by
    simp only [sketch]
    split
    · split <;> simp
    · rfl
  split
  · split <;> simp [hsketch]
  · exact hsketch

/-! What a new heat begins with leaves the umpire alone. -/

@[simp] theorem boundaryRecorder_ump (s : State) : (boundaryRecorder s).ump = s.ump := by
  simp [boundaryRecorder, apply_ite State.ump]

@[simp] theorem State.bistReinit_ump (s : State) : s.bistReinit.ump = s.ump := by
  unfold State.bistReinit
  split <;> simp

@[simp] theorem State.senseIsolated_ump (s : State) (on : Bool) : (s.senseIsolated on).ump = s.ump := by
  unfold State.senseIsolated
  split <;> rfl

@[simp] theorem boundaryBist_ump (s : State) : (boundaryBist s).ump = s.ump := by
  unfold boundaryBist
  dsimp only
  split
  · rfl
  · split
    · split <;> simp
    · split <;> simp

@[simp] theorem boundarySense_ump (s : State) : (boundarySense s).ump = s.ump := by
  simp [boundarySense]

@[simp] theorem boundaryPower_ump (s : State) : (boundaryPower s).ump = s.ump := by
  unfold boundaryPower
  dsimp only
  split
  · simp
  · split <;> simp

@[simp] theorem boundaryNorth_ump (s : State) : (boundaryNorth s).ump = s.ump := by
  unfold boundaryNorth
  split <;> simp

@[simp] theorem State.ttSend_ump (s : State) (k : Nat) (round : Bool) : (s.ttSend k round).ump = s.ump := by
  simp [State.ttSend]

@[simp] theorem boundaryTt_ump (s : State) : (boundaryTt s).ump = s.ump := by
  unfold boundaryTt
  dsimp only
  split <;> simp

@[simp] theorem State.stepTaken_ump (s : State) (d a0 : Int) : (s.stepTaken d a0).ump = s.ump := by
  simp [State.stepTaken]

@[simp] theorem State.takeRate_ump (s : State) (v : Int) : (s.takeRate v).ump = s.ump := by
  unfold State.takeRate
  dsimp only
  split <;> simp

@[simp] theorem State.segmentNorth_ump (s : State) : s.segmentNorth.ump = s.ump := by
  simp [State.segmentNorth]

@[simp] theorem State.holdover_ump (s : State) : s.holdover.ump = s.ump := by
  simp [State.holdover]

@[simp] theorem boundaryTime_ump (s : State) : (boundaryTime s).ump = s.ump := by
  unfold boundaryTime
  split
  · rfl
  · extract_lets t base cut stepped rated told due
    have hstepped : stepped.ump = s.ump := by simp only [stepped]; split <;> simp [cut]
    have hrated : rated.ump = s.ump := by simp only [rated]; split <;> simp [hstepped]
    have htold : told.ump = s.ump := by simp [told, hrated]
    have hdue : due.ump = s.ump := by simp [due, htold, apply_ite State.ump]
    split
    · simp [hdue]
    · exact hdue

@[simp] theorem boundaryTally_ump (s : State) : (boundaryTally s).ump = s.ump := by
  simp [boundaryTally]

@[simp] theorem boundaryEm_ump (s : State) : (boundaryEm s).ump = s.ump := by
  simp [boundaryEm]

@[simp] theorem State.heatBegins_ump (s : State) (next : DWord) : (s.heatBegins next).ump = s.ump := by
  simp [State.heatBegins]

/-! Of what ends a heat, everything but the umpire's part leaves the verdicts alone. -/

@[simp] theorem State.heatBuoy_ump (s : State) (next : DWord) : (s.heatBuoy next).ump = s.ump := by
  unfold State.heatBuoy
  split <;> simp

@[simp] theorem State.overran_ump (s : State) (lost : List (BitVec 10)) : (s.overran lost).ump = s.ump := by
  cases lost <;> simp [State.overran]

@[simp] theorem State.overMarks_ump (s : State) (u : DWord) (lost : List (BitVec 10)) : (s.overMarks u lost).ump = s.ump := by
  unfold State.overMarks
  split <;> simp

@[simp] theorem State.encodeBlocks_umpVerd (s : State) : s.encodeBlocks.ump.verd = s.ump.verd := by
  simp [State.encodeBlocks]

@[simp] theorem State.boundaryBlocks_umpVerd (s : State) (lost : List (BitVec 10)) :
    (s.boundaryBlocks lost).ump.verd = s.ump.verd := by
  unfold State.boundaryBlocks
  split <;> simp

@[simp] theorem State.freezeCluster_ump (s : State) (last : DWord) (held : Bool) (c : Nat) :
    (s.freezeCluster last held c).ump = s.ump := by
  simp [State.freezeCluster]

@[simp] theorem boundaryCounters_ump (last u : DWord) (s : State) : (boundaryCounters last u s).ump = s.ump := by
  simp [boundaryCounters, apply_ite State.ump]

@[simp] theorem boundaryTree_umpVerd (lost : List (BitVec 10)) (s : State) :
    (boundaryTree lost s).ump.verd = s.ump.verd := by
  unfold boundaryTree
  extract_lets counted lostStep scored
  have hscored : scored.ump.verd = s.ump.verd := by
    simp only [scored]
    split
    · simp [apply_ite State.ump, apply_ite Umpire.verd]
    · simp [lostStep, apply_ite State.ump]
  simp [hscored]

@[simp] theorem boundaryReduce_umpVerd (lost : List (BitVec 10)) (s : State) :
    (boundaryReduce lost s).ump.verd = s.ump.verd := by
  unfold boundaryReduce
  extract_lets _ judged fresh
  have hjudged : judged.ump.verd = s.ump.verd := by
    simp only [judged]
    split
    · split <;> simp
    · rfl
  exact hjudged

@[simp] theorem State.sendDetrec_umpVerd (s : State) (u : DWord) : (s.sendDetrec u).ump.verd = s.ump.verd := by
  simp [State.sendDetrec, apply_ite State.ump, apply_ite Umpire.verd]

@[simp] theorem State.sendHdr_ump (s : State) (u : DWord) : (s.sendHdr u).ump = s.ump := by
  simp [State.sendHdr]

@[simp] theorem State.noHeat_umpVerd (s : State) : s.noHeat.ump.verd = s.ump.verd := rfl

/-! ## Verdicts and their acknowledgement -/

theorem State.verd_setVerd (s : State) (k j : Nat) (v : Verd) : (s.setVerd k v).verd j = if j = k then v else s.verd j :=
  Tab.get_set default s.ump.verd k j v

@[simp] theorem State.verd_setVerd_self (s : State) (k : Nat) (v : Verd) : (s.setVerd k v).verd k = v :=
  Tab.get_set_self default s.ump.verd k v

theorem State.verd_congr {s t : State} (h : t.ump.verd = s.ump.verd) (k : Nat) : t.verd k = s.verd k := by
  simp [State.verd, h]

/-- A verdict that is as it was is not published. -/
theorem State.verdictChanged_same {s : State} {k old : Nat} (h : (s.verd k).v.toNat = old) (u : DWord) (role path : Nat) :
    s.verdictChanged k old u role path = s := by
  unfold State.verdictChanged
  exact if_pos h

/-- The publication of a change leaves the verdict unacknowledged, and every other verdict alone (R353, R370). -/
theorem State.verdictChanged_changed {s : State} {k old : Nat} (h : (s.verd k).v.toNat ≠ old) (u : DWord) (role path : Nat) :
    ∃ v : Verd, v.acked = false ∧ (s.verdictChanged k old u role path).ump.verd = (s.setVerd k v).ump.verd := by
  unfold State.verdictChanged
  extract_lets v new v' sent recorded
  rw [if_neg h]
  have hsent : sent.ump = new.ump := by simp [sent, apply_ite State.ump]
  have hrecorded : recorded.ump = new.ump := by simp [recorded, hsent, apply_ite State.ump]
  exact ⟨_, rfl, congrArg Umpire.verd (by simpa using hrecorded)⟩

/-- From `s` to `t` a verdict is acknowledged only where it was, and then it has not changed (R370). -/
def AckKept (s t : State) : Prop := ∀ k, (t.verd k).acked = true → (s.verd k).acked = true ∧ (t.verd k).v = (s.verd k).v

namespace AckKept

variable {r s t : State}

theorem of_umpVerd (h : t.ump.verd = s.ump.verd) : AckKept s t := by
  intro k hk
  rw [State.verd_congr h] at hk ⊢
  exact ⟨hk, rfl⟩

protected theorem refl (s : State) : AckKept s s := of_umpVerd rfl

protected theorem trans (h₁ : AckKept r s) (h₂ : AckKept s t) : AckKept r t := by
  intro k hk
  obtain ⟨hs, hv⟩ := h₂ k hk
  obtain ⟨hr, hv'⟩ := h₁ k hs
  exact ⟨hr, hv.trans hv'⟩

/-- What leaves the table of verdicts alone may follow. -/
theorem congr (h₁ : AckKept r s) (h₂ : t.ump.verd = s.ump.verd) : AckKept r t := h₁.trans (of_umpVerd h₂)

theorem foldl {α : Type} {f : State → α → State} (h : ∀ t x, AckKept t (f t x)) (l : List α) (s : State) :
    AckKept s (l.foldl f s) := by
  induction l generalizing s with
  | nil => exact AckKept.refl s
  | cons x l ih => exact (h s x).trans (ih _)

end AckKept

/-- From `s` to `t` no verdict but that of `k` differs, and its acknowledgement does not. -/
def OnlyVerdict (k : Nat) (s t : State) : Prop :=
  (t.verd k).acked = (s.verd k).acked ∧ ∀ j, j ≠ k → t.verd j = s.verd j

namespace OnlyVerdict

variable {k : Nat} {s t t' : State}

protected theorem refl (k : Nat) (s : State) : OnlyVerdict k s s := ⟨rfl, fun _ _ => rfl⟩

theorem congr (h : OnlyVerdict k s t) (hv : t'.ump.verd = t.ump.verd) : OnlyVerdict k s t' := by
  obtain ⟨hacked, hother⟩ := h
  exact ⟨by rw [State.verd_congr hv, hacked], fun j hj => by rw [State.verd_congr hv, hother j hj]⟩

theorem setVerd (h : OnlyVerdict k s t) {v : Verd} (hv : v.acked = (s.verd k).acked) : OnlyVerdict k s (t.setVerd k v) := by
  refine ⟨by simpa using hv, fun j hj => ?_⟩
  rw [State.verd_setVerd, if_neg hj, h.2 j hj]

/-- Where the verdict itself has not changed either, no change is left unpublished. -/
theorem ackKept (h : OnlyVerdict k s t) (hv : (t.verd k).v = (s.verd k).v) : AckKept s t := by
  obtain ⟨hacked, hother⟩ := h
  intro j hj
  by_cases hjk : j = k
  · subst j
    exact ⟨hacked ▸ hj, hv⟩
  · rw [hother j hjk] at hj ⊢
    exact ⟨hj, rfl⟩

/-- A verdict that has changed since `s` is not acknowledged once its change is published. -/
theorem ackKept_verdictChanged (h : OnlyVerdict k s t) (u : DWord) (role path : Nat) :
    AckKept s (t.verdictChanged k (s.verd k).v.toNat u role path) := by
  by_cases hsame : (t.verd k).v.toNat = (s.verd k).v.toNat
  · rw [State.verdictChanged_same hsame]
    exact h.ackKept (BitVec.eq_of_toNat_eq hsame)
  · obtain ⟨v, hv, hverd⟩ := State.verdictChanged_changed hsame u role path
    intro j hj
    rw [State.verd_congr hverd, State.verd_setVerd] at hj ⊢
    by_cases hjk : j = k
    · rw [if_pos hjk, hv] at hj
      cases hj
    · rw [if_neg hjk, h.2 j hjk] at hj ⊢
      exact ⟨hj, rfl⟩

end OnlyVerdict

/-! ## The umpire's part of a boundary -/

theorem State.resetVerdict_ackKept (s : State) (k : Nat) (u : DWord) : AckKept s (s.resetVerdict k u) := by
  unfold State.resetVerdict
  extract_lets v old calm counts cleared released
  split
  · exact AckKept.refl s
  · have hcalm : OnlyVerdict k s calm := (OnlyVerdict.refl k s).setVerd rfl
    have hreleased : released.ump.verd = calm.ump.verd := by simp [released, cleared, counts, apply_ite State.ump]
    exact (hcalm.congr (by simp [hreleased])).ackKept_verdictChanged u _ _

theorem State.moveVerdict_ackKept (s : State) (k : Nat) (became : List (Nat × Nat)) (u : DWord) :
    AckKept s (s.moveVerdict k became u) := by
  unfold State.moveVerdict
  have hs := OnlyVerdict.refl k s
  extract_lets v old act t top die _ hold low capped raised used counted same held
  split
  · -- a fingerprint condemns the die
    refine OnlyVerdict.ackKept_verdictChanged (s := s) ?_ u 0 0
    exact OnlyVerdict.setVerd (hs.congr rfl) rfl
  · split
    · exact AckKept.refl s
    · split
      · split
        · have hcapped : OnlyVerdict k s capped := by
            simp only [capped]
            split
            · exact hs.setVerd rfl
            · exact hs
          exact (hcapped.congr (by simp)).ackKept_verdictChanged u 0 0
        · have hraised : OnlyVerdict k s raised := hs.setVerd rfl
          have hcounted : counted.ump.verd = raised.ump.verd := by
            simp [counted, used, apply_ite State.ump, apply_ite Umpire.verd]
          exact (hraised.congr hcounted).ackKept_verdictChanged u 0 0
      · split
        · refine OnlyVerdict.ackKept_verdictChanged (s := s) ?_ u 0 0
          exact hs.setVerd rfl
        · exact OnlyVerdict.ackKept (hs.setVerd rfl) (by simp [v])

theorem State.moveVerdicts_ackKept (s : State) (became : List (Nat × Nat)) (u : DWord) :
    AckKept s (s.verdKeys.foldl (fun (s : State) k => if s.frozen k then s else s.moveVerdict k became u) s) := by
  refine AckKept.foldl (fun t k => ?_) _ _
  split
  · exact AckKept.refl t
  · exact t.moveVerdict_ackKept k became u

@[simp] theorem State.applyConds_umpVerd (s : State) (w : UmpWork) : (s.applyConds w).1.ump.verd = s.ump.verd := by
  refine List.foldlRecOn (motive := fun p : State × List (Nat × Nat) => p.1.ump.verd = s.ump.verd) _ _ rfl fun p hp m _ => ?_
  refine List.foldlRecOn (motive := fun p : State × List (Nat × Nat) => p.1.ump.verd = s.ump.verd) _ _ hp fun q hq k _ => ?_
  dsimp only
  split
  · exact hq
  · exact hq

@[simp] theorem State.umpireArm_ump (s : State) : s.umpireArm.ump = s.ump := by
  unfold State.umpireArm
  split <;> simp [State.arm]

@[simp] theorem State.fpRequest_ump (s : State) (r : FpReplay) : (s.fpRequest r).ump = s.ump := by
  simp [State.fpRequest, apply_ite State.ump]

@[simp] theorem State.ruleStarts_ump (s : State) (became : List (Nat × Nat)) : (s.ruleStarts became).ump = s.ump := by
  simp [State.ruleStarts, apply_ite State.ump]

@[simp] theorem State.govStep_umpVerd (s : State) (r : ProdRec) : (s.govStep r).ump.verd = s.ump.verd := by
  unfold State.govStep
  extract_lets
  split <;> rfl

@[simp] theorem State.regStep_umpVerd (s : State) (r : Nat) : (s.regStep r).ump.verd = s.ump.verd := by
  unfold State.regStep
  extract_lets
  split <;> rfl

@[simp] theorem State.rulesInForce_umpVerd (s : State) : s.rulesInForce.ump.verd = s.ump.verd := by
  unfold State.rulesInForce
  extract_lets
  split <;> rfl

@[simp] theorem State.heatFigures_umpVerd (s : State) : s.heatFigures.ump.verd = s.ump.verd := rfl

theorem State.lendLevels_ackKept (s : State) : AckKept s s.lendLevels := by
  unfold State.lendLevels
  refine AckKept.foldl (fun t k => ?_) _ _
  extract_lets on _ v
  split
  · exact AckKept.refl t
  · split
    · exact AckKept.refl t
    · have hlend : AckKept t (t.setVerd k { v with lend := on }) :=
        OnlyVerdict.ackKept ((OnlyVerdict.refl k t).setVerd rfl) (by simp [v])
      exact hlend.congr (by simp)

theorem State.viewTick_ackKept (s : State) : AckKept s s.viewTick := by
  unfold State.viewTick
  split
  · exact AckKept.refl s
  · refine AckKept.foldl (fun t k => ?_) _ _
    extract_lets v alive
    split
    · exact OnlyVerdict.ackKept ((OnlyVerdict.refl k t).setVerd rfl) (by simp [v])
    · exact OnlyVerdict.ackKept ((OnlyVerdict.refl k t).setVerd rfl) (by simp [v])

theorem boundaryUmpire_ackKept (u next : DWord) (lost : List (BitVec 10)) (s : State) :
    AckKept s (boundaryUmpire u next lost s) := by
  unfold boundaryUmpire
  extract_lets _ ticked reset worked published _ _ kept
  have hreset : AckKept ticked reset := by
    simp only [reset]
    split
    · exact AckKept.foldl (fun t k => t.resetVerdict_ackKept k u) _ _
    · exact AckKept.refl _
  have hworked : AckKept reset worked := by
    simp only [worked]
    split
    · exact AckKept.refl _
    · next w _ =>
      have hconds : AckKept reset (reset.applyConds w).1 := AckKept.of_umpVerd (by simp)
      refine (hconds.trans (State.moveVerdicts_ackKept _ (reset.applyConds w).2 u)).congr ?_
      simp [apply_ite State.ump, apply_ite Umpire.verd]
  have hpublished : AckKept worked published :=
    ((AckKept.of_umpVerd (t := worked.rulesInForce) (by simp)).trans
      ((State.lendLevels_ackKept _).trans (State.viewTick_ackKept _))).congr (by simp [published])
  have hticked : AckKept s ticked := AckKept.of_umpVerd rfl
  exact (((hticked.trans hreset).trans hworked).trans hpublished).congr (by simp only [kept])

/-! ## The boundary -/

theorem State.heatEnds_ackKept (s : State) (next : DWord) (unfinished : List (BitVec 10)) :
    AckKept s (s.heatEnds next unfinished) := by
  unfold State.heatEnds
  extract_lets u lost blocks counted rep judged recorded
  have hcounted : AckKept s counted := by
    refine AckKept.of_umpVerd ?_
    simp [counted, blocks, apply_ite State.ump, apply_ite Umpire.verd]
  refine (hcounted.trans (boundaryUmpire_ackKept u next lost counted)).congr ?_
  simp [recorded, judged, apply_ite State.ump, apply_ite Umpire.verd]

theorem State.heatBegins_ackKept (s : State) (next : DWord) : AckKept s (s.heatBegins next) :=
  AckKept.of_umpVerd (by simp)

theorem State.boundary_ackKept (s : State) (next : DWord) (meas : BitVec 23) (unfinished : List (BitVec 10)) :
    AckKept s (s.boundary next meas unfinished) := by
  unfold State.boundary
  extract_lets buoyed
  split
  · refine AckKept.trans ?_ (State.heatBegins_ackKept _ next)
    refine AckKept.trans ?_ (State.heatEnds_ackKept _ next unfinished)
    exact AckKept.of_umpVerd (by simp [buoyed])
  · exact AckKept.of_umpVerd (by simp [buoyed])

theorem State.boundary_substituted_ackKept (s : State) (next : DWord) (meas : BitVec 23) (unfinished : List (BitVec 10))
    (b : Bool) : AckKept s ((s.boundary next meas unfinished).substituted b) :=
  (s.boundary_ackKept next meas unfinished).congr rfl

theorem State.firstOf_ackKept (s old : State) : AckKept s (s.firstOf old) := AckKept.of_umpVerd (by simp)

theorem State.oneCycle_ackKept {f : State → State} (h : ∀ t, AckKept t (f t)) (s : State) : AckKept s (s.oneCycle f) := by
  unfold State.oneCycle
  split
  · exact h s
  · extract_lets _ t
    have ht : AckKept s t := by
      refine AckKept.trans ?_ (State.firstOf_ackKept _ s)
      refine AckKept.trans ?_ (h _)
      exact AckKept.of_umpVerd rfl
    exact ht.congr (by simp)

theorem exec_heatBoundary_ackKept {m : BitVec 23} {u : List (BitVec 10)} {s t : State}
    (h : exec (.heatBoundary m u) s = .next t) : AckKept s t := by
  change Host.Outcome.next _ = _ at h
  injection h with h
  subst h
  split
  · exact State.oneCycle_ackKept (fun r => r.boundary_substituted_ackKept _ m u false) s
  · exact AckKept.refl s

theorem exec_substituteHeatBoundary_ackKept {u : List (BitVec 10)} {s t : State}
    (h : exec (.substituteHeatBoundary u) s = .next t) : AckKept s t := by
  change Host.Outcome.next _ = _ at h
  injection h with h
  subst h
  split
  · exact State.oneCycle_ackKept (fun r => r.boundary_substituted_ackKept _ _ u true) s
  · exact AckKept.refl s

/-- A verdict that has changed is not acknowledged. -/
theorem AckKept.acked_of_changed {s t : State} (h : AckKept s t) {k : Nat} (hv : (t.verd k).v ≠ (s.verd k).v) :
    (t.verd k).acked = false := by
  by_contra hacked
  obtain ⟨_, hsame⟩ := h k (by simpa using hacked)
  exact hv hsame

/-! ## VERD_ACK -/

theorem cmdOf_verdAck : cmdOf 0x0602 = some ⟨0x0602, 2, 1, 0x3F, 0xFFFF, anyArg, cmdVerdAck⟩ := rfl

/-- No bit above the lowest `n` is set in a word below 2 ^ n. -/
theorem and_not_mask_eq_zero {a : Word} {n : Nat} (h : a.toNat < 2 ^ n) : a &&& ~~~ BitVec.ofNat 32 (2 ^ n - 1) = 0 := by
  apply BitVec.eq_of_getLsbD_eq
  intro i hi
  by_cases hin : i < n
  · have hmask : (BitVec.ofNat 32 (2 ^ n - 1)).getLsbD i = true := by
      rw [BitVec.getLsbD_ofNat, Nat.testBit_two_pow_sub_one]
      simp [hi, hin]
    rw [BitVec.getLsbD_and, BitVec.getLsbD_not, hmask]
    simp
  · have hle : 2 ^ n ≤ 2 ^ i := Nat.pow_le_pow_right (by omega) (by omega)
    simp [BitVec.getLsbD, Nat.testBit_lt_two_pow (lt_of_lt_of_le h hle)]

/-- VERD_ACK of a die and VSEQ in range, from a caller with the role, on the tray: the command's own effect decides. -/
theorem State.verdict_verdAck {p : Post} {s : State} (ht : s.isT = true) (hrole : 1 ≤ p.role.toNat)
    (hdie : p.a0.toNat < 64) (hseq : p.a1.toNat < 65536) :
    s.verdict 0x0602 p =
      if (s.verd p.a0.toNat).vseq.toNat = p.a1.toNat
      then (1, s.setVerd p.a0.toNat { s.verd p.a0.toNat with acked := true }) else (2, s) := by
  have h0 : p.a0 &&& ~~~ 0x3F = 0 := and_not_mask_eq_zero (n := 6) hdie
  have h1 : p.a1 &&& ~~~ 0xFFFF = 0 := and_not_mask_eq_zero (n := 16) hseq
  have h2 : p.a2 &&& ~~~ anyArg = 0 := by simp [anyArg]
  have hgrade : ¬ p.role.toNat < 1 := by omega
  have hk : p.a0.toNat % 64 = p.a0.toNat := Nat.mod_eq_of_lt hdie
  have hv : p.a1.toNat % 2 ^ 16 = p.a1.toNat := Nat.mod_eq_of_lt hseq
  have hbuild : Nat.testBit 2 1 = true := rfl
  simp only [State.verdict, cmdOf_verdAck, h0, h1, h2, hgrade, ht, cmdVerdAck, hk, hv]
  by_cases h : (s.verd p.a0.toNat).vseq.toNat = p.a1.toNat
  · simp [h, hbuild]
  · simp [h, hbuild]

theorem exec_verdAck {p : Post} {s : State} (hr : s.running = true) : exec (.verdAck p) s = .next (s.judge 0x0602 p) :=
  congrArg Host.Outcome.next (if_pos hr)

/-! What a refused command leaves. -/

/-- A refused command changes its mailbox and leaves its record, with the sticky bit of the refusal (R487). -/
theorem State.judge_refused {s : State} {code r : Nat} {p : Post} (h : s.verdict code p = (r, s)) (hr : r ≠ 1) :
    s.judge code p = (s.setResult code r p).cmdRefused code r p.path.toNat p.token.toNat p.role.toNat := by
  simp [State.judge, h, hr]

theorem Unchanged.trans {but : List Part} {r s t : State} (h₁ : Unchanged but r s) (h₂ : Unchanged but s t) :
    Unchanged but r t := by
  intro p hp
  have hrs := h₁ p hp
  have hst := h₂ p hp
  cases p <;> exact Eq.trans hrs hst

theorem Unchanged.mono {l l' : List Part} {s t : State} (h : Unchanged l s t) (hl : l ⊆ l') : Unchanged l' s t :=
  fun p hp => h p fun hm => hp (hl hm)

/-- On the tray, whose proxy path has no mailbox, a result changes the paths alone. -/
theorem State.setResult_unchanged {s : State} (ht : s.isT = true) (code r : Nat) (p : Post) :
    Unchanged [.roles] s (s.setResult code r p) := by
  unfold State.setResult
  split
  · next hmail =>
    have hproxy : p.path ≠ 9 := by
      intro h9
      simp [h9, State.mailPaths, ht] at hmail
    simp only [hproxy, false_and, if_false]
    intro part hp
    cases part
    case roles => exact absurd (List.mem_singleton_self _) hp
    all_goals rfl
  · intro part hp
    cases part <;> rfl

/-- The mailbox of a judged command shows its result (R485). -/
theorem State.setResult_result {s : State} {p : Post} (hmail : s.mailPaths.contains p.path.toNat = true) (code r : Nat) :
    ((s.setResult code r p).path p.path.toNat).result = BitVec.ofNat 4 r := by
  unfold State.setResult
  rw [if_pos hmail]
  extract_lets q pend t
  have ht : (t.path p.path.toNat).result = BitVec.ofNat 4 r := by
    simp [t, State.path, State.setPath]
  split
  · exact ht
  · exact ht

theorem State.stick_unchanged (s : State) (r b : Nat) : Unchanged [.integ] s (s.stick r b) := by
  intro part hp
  cases part
  case integ => exact absurd (List.mem_singleton_self _) hp
  all_goals rfl

theorem State.event_unchanged (s : State) (code : Nat) (data : List Byte) (role path : Nat) :
    Unchanged [.sys, .trc, .ttrc, .ul, .evr] s (s.event code data role path) := by
  intro part hp
  cases part
  case sys | trc | ttrc | ul | evr => simp at hp
  all_goals simp [Part.same]

theorem State.stickyWord_stick (s : State) (b : Nat) : (s.stick 2 b).stickyWord 2 = setBit (s.stickyWord 2) b true := by
  by_cases hclean : s.integ.clean = true
  · simp [State.stick, State.stickyWord, Integ.putSticky, hclean]
  · simp [State.stick, State.stickyWord, Integ.putSticky, hclean]

theorem State.stuck_stick (s : State) : (s.stick 2 6).stuck 2 6 = true := by
  rw [State.stuck, State.stickyWord_stick]
  simp [setBit]

/-- A refusal other than for the role or the absence of a path sets the sticky bit of refused commands (R506, R512). -/
theorem State.cmdRefused_of_state {s : State} {result : Nat} (h3 : result ≠ 3) (h6 : result ≠ 6) (code path token role : Nat) :
    s.cmdRefused code result path token role =
      (s.stick 2 6).event 0x1005 (le 2 code ++ le 1 result ++ le 1 path ++ le 2 token) role path := by
  simp [State.cmdRefused, h3, h6]

theorem State.stuck_event (s : State) (r b code : Nat) (data : List Byte) (role path : Nat) :
    (s.event code data role path).stuck r b = s.stuck r b := by
  simp [State.stuck, State.stickyWord]

theorem exec_verdAck_accepted {p : Post} {s : State} (hr : s.running = true) (ht : s.isT = true) (hrole : 1 ≤ p.role.toNat)
    (hdie : p.a0.toNat < 64) (hseq : p.a1.toNat < 65536) (h : (s.verd p.a0.toNat).vseq.toNat = p.a1.toNat) :
    exec (.verdAck p) s =
      .next ((s.setVerd p.a0.toNat { s.verd p.a0.toNat with acked := true }).setResult 0x0602 1 p) := by
  rw [exec_verdAck hr, State.judge, State.verdict_verdAck ht hrole hdie hseq, if_pos h]
  rfl

theorem exec_verdAck_refused {p : Post} {s : State} (hr : s.running = true) (ht : s.isT = true) (hrole : 1 ≤ p.role.toNat)
    (hdie : p.a0.toNat < 64) (hseq : p.a1.toNat < 65536) (h : (s.verd p.a0.toNat).vseq.toNat ≠ p.a1.toNat) :
    ∃ t, exec (.verdAck p) s = .next t ∧ t.ump = s.ump ∧ s.verdict 0x0602 p = (2, s) ∧ t.stuck 2 6 = true ∧
      (s.mailPaths.contains p.path.toNat = true → (t.path p.path.toNat).result = 2) ∧
      Unchanged [.sys, .integ, .trc, .ttrc, .ul, .roles, .evr] s t := by
  have hverdict : s.verdict 0x0602 p = (2, s) := by rw [State.verdict_verdAck ht hrole hdie hseq, if_neg h]
  let r := s.setResult 0x0602 2 p
  let data := le 2 0x0602 ++ le 1 2 ++ le 1 p.path.toNat ++ le 2 p.token.toNat
  have hexec : exec (.verdAck p) s = .next ((r.stick 2 6).event 0x1005 data p.role.toNat p.path.toNat) := by
    rw [exec_verdAck hr, State.judge_refused hverdict (by decide), State.cmdRefused_of_state (by decide) (by decide)]
  have hresult : Unchanged [.sys, .integ, .trc, .ttrc, .ul, .roles, .evr] s r :=
    (State.setResult_unchanged ht 0x0602 2 p).mono (by decide)
  have hstick := (r.stick_unchanged 2 6).mono (l' := [.sys, .integ, .trc, .ttrc, .ul, .roles, .evr]) (by decide)
  have hevent := ((r.stick 2 6).event_unchanged 0x1005 data p.role.toNat p.path.toNat).mono
    (l' := [.sys, .integ, .trc, .ttrc, .ul, .roles, .evr]) (by decide)
  have hun := (hresult.trans hstick).trans hevent
  refine ⟨_, hexec, (hun .ump (by decide)).symm, hverdict, ?_, fun hmail => ?_, hun⟩
  · rw [State.stuck_event, State.stuck_stick]
  · simpa [State.path] using State.setResult_result hmail 0x0602 2

/-- Settles O59: VERD_ACK by the verdict of Table 15-3 on it, and the changes by `AckKept`, which every boundary keeps. -/
theorem verdictAcknowledged : Obligations.VerdictAcknowledged := by
  unfold Obligations.VerdictAcknowledged
  refine ⟨?_, ?_, ?_, ?_⟩
  · intro p s hr ht hrole hdie hseq h
    exact exec_verdAck_accepted hr ht hrole hdie hseq h
  · intro p s hr ht hrole hdie hseq h
    exact exec_verdAck_refused hr ht hrole hdie hseq h
  · intro m u k s t h hv
    exact (exec_heatBoundary_ackKept h).acked_of_changed hv
  · intro u k s t h hv
    exact (exec_substituteHeatBoundary_ackKept h).acked_of_changed hv

end Sys2Proof.Machine
end

section
/-! PROOF. The tally unit at a block reset and at the coming into force of an image (R79, R398): what a reset puts into it,
and that no part of an activation touches it. -/

namespace Sys2Proof.Machine

/-! What the parts of an activation are made of leaves the tally unit alone. -/

@[simp] theorem State.setVerd_tly (s : State) (k : Nat) (v : Verd) : (s.setVerd k v).tly = s.tly := rfl

@[simp] theorem State.setPath_tly (s : State) (p : Nat) (q : PathState) : (s.setPath p q).tly = s.tly := rfl

@[simp] theorem State.setT1s_tly (s : State) (t : T1s) : (s.setT1s t).tly = s.tly := rfl

@[simp] theorem State.setPort_tly (s : State) (p : Nat) (q : NbPort) : (s.setPort p q).tly = s.tly := by
  unfold State.setPort
  split <;> rfl

@[simp] theorem State.cplRestore_tly (s : State) (item i : Nat) : (s.cplRestore item i).tly = s.tly := by
  unfold State.cplRestore
  split <;> simp

@[simp] theorem State.lendLevels_tly (s : State) : s.lendLevels.tly = s.tly := by
  refine foldl_tly _ _ _ fun t k => ?_
  dsimp only
  split
  · rfl
  · split
    · rfl
    · simp

@[simp] theorem State.portRestart_tly (s : State) (p : Nat) : (s.portRestart p).tly = s.tly := by
  unfold State.portRestart
  dsimp only
  split <;> simp

/-! The engines as they start anew (R79). -/

@[simp] theorem State.takeImage_tly (s : State) : s.takeImage.tly = s.tly := by
  simp [State.takeImage]

@[simp] theorem activateProbes_tly (s : State) : (activateProbes s).tly = s.tly := rfl

@[simp] theorem activateTrace_tly (wasOn : Bool) (s : State) : (activateTrace wasOn s).tly = s.tly := rfl

@[simp] theorem activateUmpire_tly (s : State) : (activateUmpire s).tly = s.tly := by
  simp [activateUmpire]

@[simp] theorem activateLedger_tly (s : State) : (activateLedger s).tly = s.tly := rfl

@[simp] theorem activateSense_tly (s : State) : (activateSense s).tly = s.tly := rfl

@[simp] theorem activateNorth_tly (old : Nat) (s : State) : (activateNorth old s).tly = s.tly := by
  unfold activateNorth
  split
  · rfl
  · simp [apply_ite State.tly]

/-! The tray's part: the dies that left, the servo, and the delivery of the new image. -/

@[simp] theorem State.noteLeft_tly (s : State) : s.noteLeft.tly = s.tly := rfl

@[simp] theorem State.holdover_tly (s : State) : s.holdover.tly = s.tly := by
  simp [State.holdover]

@[simp] theorem State.servoStart_tly (s : State) : s.servoStart.tly = s.tly := by
  unfold State.servoStart
  split
  · rfl
  · split
    · rfl
    · dsimp only
      split <;> simp

@[simp] theorem State.servoImage_tly (s : State) : s.servoImage.tly = s.tly := by
  unfold State.servoImage
  split <;> simp

@[simp] theorem State.offerEnds_tly (s : State) (k : Nat) : (s.offerEnds k).tly = s.tly := rfl

@[simp] theorem State.deliver_tly (s : State) (k : Nat) (asked : Bool) : (s.deliver k asked).tly = s.tly := by
  unfold State.deliver
  dsimp only
  split <;> simp

@[simp] theorem State.deliverIfDue_tly (s : State) (k : Nat) : (s.deliverIfDue k).tly = s.tly := by
  unfold State.deliverIfDue
  split <;> simp

@[simp] theorem State.trayActivates_tly (s : State) : s.trayActivates.tly = s.tly := by
  simp [State.trayActivates, apply_ite State.tly]

/-! What the new image brings with it: another key of the installer, other figures of the uplink, the end of start-up. -/

@[simp] theorem State.takeRole_tly (s : State) (p role : Nat) : (s.takeRole p role).tly = s.tly := by
  simp [State.takeRole]

@[simp] theorem State.roleDrop_tly (s : State) (p new cause : Nat) : (s.roleDrop p new cause).tly = s.tly := by
  simp [State.roleDrop]

@[simp] theorem State.keyChange_tly (s : State) (old : List Byte) : (s.keyChange old).tly = s.tly := by
  unfold State.keyChange
  split <;> simp

@[simp] theorem State.linkDown_tly (s : State) (k cause : Nat) : (s.linkDown k cause).tly = s.tly := by
  unfold State.linkDown State.linkDownBy
  dsimp only
  split
  · simp [State.ulStick, apply_ite State.tly]
  · rfl

@[simp] theorem State.imageEnds_tly (s : State) : s.imageEnds.tly = s.tly := by
  unfold State.imageEnds
  split <;> simp

/-- Every step of an activation leaves the tally unit alone, so the activation does. -/
@[simp] theorem State.activate_tly (s : State) : s.activate.tly = s.tly := by
  simp [State.activate, apply_ite State.tly]

theorem exec_imageActivation_tly {s t : State} (h : exec .imageActivation s = .next t) : t.tly = s.tly := by
  obtain rfl : (if s.running && s.heat.taken && !s.heat.inGap && s.actDue then s.oneCycle State.activate else s) = t :=
    Host.Outcome.next.inj h
  split
  · exact s.oneCycle_tly State.activate State.activate_tly
  · rfl

/-! ## Block reset -/

/-- The tally unit as a reset leaves it (R398): every table, the remote queue and TLY_LEFT are empty, and SVC is START_UP. -/
theorem State.resetOf_tly (g : Grade) : (State.resetOf g).tly = { (default : Tally) with svc := 1 } := rfl

theorem State.blockReset_tly (s : State) : s.blockReset.tly = { (default : Tally) with svc := 1 } := State.resetOf_tly s.sys.build

/-- Settles O60: the reset value of the tally unit for block reset, and for an activation that each of its steps leaves the
unit alone. -/
theorem tallyReset : Obligations.TallyReset := by
  unfold Obligations.TallyReset
  refine ⟨fun s => ⟨s.blockReset, rfl, ?_⟩, fun s t h => exec_imageActivation_tly h⟩
  rw [State.blockReset_tly]
  exact ⟨fun n => ⟨rfl, rfl, rfl, rfl, rfl⟩, rfl, rfl, rfl, rfl⟩

end Sys2Proof.Machine
end

section
/-! PROOF. The check values of the scan engine (R216, R217, R229): each parameter set's update is linear over exclusive or, so
a segment's value from 0 and the running value shifted past the segment add up to the running value of the whole. -/

namespace Sys2Proof.Machine

/-! The updates of Table 7-1 are linear. -/

theorem xor_xor_xor_comm {w : Nat} (a b c d : BitVec w) : (a ^^^ b) ^^^ (c ^^^ d) = (a ^^^ c) ^^^ (b ^^^ d) := by
  rw [BitVec.xor_assoc, ← BitVec.xor_assoc b, BitVec.xor_comm b, BitVec.xor_assoc, ← BitVec.xor_assoc]

/-- Adding the polynomial to a sum where one summand calls for it is adding it to that summand. -/
theorem ite_xor_xor {w : Nat} (a b : Bool) (x y p : BitVec w) :
    (if (a ^^ b) = true then (x ^^^ y) ^^^ p else x ^^^ y) = (if a = true then x ^^^ p else x) ^^^ (if b = true then y ^^^ p else y) := by
  cases a <;> cases b
  · rfl
  · exact BitVec.xor_assoc x y p
  · simpa using xor_xor_xor_comm x y p 0
  · simpa using xor_xor_xor_comm x y p p

theorem crcBitR_xor {w : Nat} (poly c d : BitVec w) : crcBitR poly (c ^^^ d) = crcBitR poly c ^^^ crcBitR poly d := by
  unfold crcBitR
  rw [BitVec.getLsbD_xor, BitVec.ushiftRight_xor_distrib, ite_xor_xor]

theorem crcBitN_xor (poly c d : DWord) : crcBitN poly (c ^^^ d) = crcBitN poly c ^^^ crcBitN poly d := by
  unfold crcBitN
  rw [BitVec.getLsbD_xor, BitVec.shiftLeft_xor_distrib, ite_xor_xor]

/-- A byte update is linear: the update of a sum by a sum is the sum of the updates. -/
def ByteLinear {w : Nat} (f : BitVec w → Byte → BitVec w) : Prop := ∀ c d x y, f (c ^^^ d) (x ^^^ y) = f c x ^^^ f d y

theorem crcByteR_linear {w : Nat} (poly : BitVec w) : ByteLinear (crcByteR poly) := by
  intro c d x y
  simp only [crcByteR, BitVec.setWidth_xor, xor_xor_xor_comm c d, crcBitR_xor]

theorem crcByteN_linear (poly : DWord) : ByteLinear (crcByteN poly) := by
  intro c d x y
  simp only [crcByteN, BitVec.setWidth_xor, BitVec.shiftLeft_xor_distrib, xor_xor_xor_comm c d, crcBitN_xor]

/-- A linear update over a message from a sum: the one summand past as many zero bytes, the other over the message. -/
theorem ByteLinear.foldl_xor {w : Nat} {f : BitVec w → Byte → BitVec w} (hf : ByteLinear f) (m : List Byte) (c d : BitVec w) :
    m.foldl f (c ^^^ d) = (List.replicate m.length 0).foldl f c ^^^ m.foldl f d := by
  induction m generalizing c d with
  | nil => rfl
  | cons b m ih =>
    have hb : f (c ^^^ d) b = f c 0 ^^^ f d b := by simpa using hf c d 0 b
    rw [List.foldl_cons, hb, ih]
    rfl

theorem ByteLinear.foldl_split {w : Nat} {f : BitVec w → Byte → BitVec w} (hf : ByteLinear f) (m : List Byte) (c : BitVec w) :
    m.foldl f c = (List.replicate m.length 0).foldl f c ^^^ m.foldl f 0 := by
  simpa using hf.foldl_xor m c 0

/-! The running value. -/

theorem reverse_xor {w : Nat} (a b : BitVec w) : (a ^^^ b).reverse = a.reverse ^^^ b.reverse := by
  apply BitVec.eq_of_getLsbD_eq
  intro i hi
  simp [BitVec.getLsbD_reverse, BitVec.getMsbD_xor]

theorem reverse_zero (w : Nat) : (0 : BitVec w).reverse = 0 := by
  apply BitVec.eq_of_getLsbD_eq
  simp [BitVec.getLsbD_reverse, BitVec.getMsbD]

theorem setWidth_reverse_zero : ((0 : DWord).setWidth 32).reverse = 0 := reverse_zero 32

theorem reverse_allOnes (w : Nat) : (BitVec.allOnes w).reverse = BitVec.allOnes w := by
  apply BitVec.eq_of_getLsbD_eq
  intro i hi
  simp [BitVec.getLsbD_reverse, BitVec.getMsbD_allOnes, BitVec.getLsbD_allOnes]

theorem scanRun_append (p : BitVec 2) (r : DWord) (a b : List Byte) : scanRun p r (a ++ b) = scanRun p (scanRun p r a) b := by
  unfold scanRun
  split
  · simp
  · split
    · simp
    · split <;> simp

/-- R216: the running value of a message is what `r` comes to past as many zero bytes, plus the message's own value. -/
theorem scanRun_eq_scanFold (p : BitVec 2) (r : DWord) (m : List Byte) :
    scanRun p r m = scanFold p r m.length (scanRun p 0 m) := by
  unfold scanFold scanRun
  split
  · rw [(crcByteR_linear _).foldl_split m, reverse_xor, BitVec.setWidth_xor, setWidth_reverse_zero]
  · split
    · rw [(crcByteR_linear _).foldl_split m, reverse_xor, BitVec.setWidth_xor, setWidth_reverse_zero]
    · split
      · exact (crcByteN_linear _).foldl_split m r
      · rw [(crcByteR_linear _).foldl_split m, reverse_xor, reverse_zero]

/-- A running value of a 32-bit parameter set has 32 bits. -/
def ScanFits (p : BitVec 2) (r : DWord) : Prop := p.toNat < 2 → r.toNat < 2 ^ 32

theorem scanFits_scanInit (p : BitVec 2) : ScanFits p (scanInit p) := by
  intro h
  rw [scanInit, if_pos h]
  decide

theorem toNat_setWidth_lt {w : Nat} (x : BitVec 32) (h : 32 ≤ w) : (x.setWidth w).toNat < 2 ^ 32 := by
  rw [BitVec.toNat_setWidth_of_le h]
  exact x.isLt

theorem scanFits_scanRun (p : BitVec 2) (r : DWord) (m : List Byte) : ScanFits p (scanRun p r m) := by
  intro h
  unfold scanRun
  split
  · exact toNat_setWidth_lt _ (by decide)
  · split
    · exact toNat_setWidth_lt _ (by decide)
    · next h0 h1 => exact absurd h (by bv_omega)

/-- The running value after no bytes at all. -/
theorem scanRun_nil {p : BitVec 2} {r : DWord} (h : ScanFits p r) : scanRun p r [] = r := by
  have hcut (hp : p.toNat < 2) : (r.setWidth 32).setWidth 64 = r := by
    apply BitVec.eq_of_toNat_eq
    rw [BitVec.toNat_setWidth, BitVec.toNat_setWidth, Nat.mod_eq_of_lt (h hp), Nat.mod_eq_of_lt r.isLt]
  unfold scanRun
  split
  · next h0 => simpa using hcut (by simp [h0])
  · split
    · next h1 => simpa using hcut (by simp [h1])
    · split <;> simp

/-- The segments folded one after another give the running value of the region. -/
theorem foldl_scanFold {p : BitVec 2} {r : DWord} (h : ScanFits p r) (bs : List (List Byte)) :
    bs.foldl (fun r b => scanFold p r b.length (scanRun p 0 b)) r = scanRun p r bs.flatten := by
  induction bs generalizing r with
  | nil => exact (scanRun_nil h).symm
  | cons b bs ih =>
    rw [List.foldl_cons, ← scanRun_eq_scanFold, ih (scanFits_scanRun p r b), List.flatten_cons, scanRun_append]

/-- The check value of Table 7-1 is the final value of the running value from Init. -/
theorem scanFinal_scanRun_scanInit (p : BitVec 2) (m : List Byte) : scanFinal p (scanRun p (scanInit p) m) = checkValue p m := by
  have hones : (4294967295#32).reverse = 4294967295#32 := reverse_allOnes 32
  have hones64 : (18446744073709551615#64).reverse = 18446744073709551615#64 := reverse_allOnes 64
  obtain rfl | rfl | rfl | rfl : p = 0 ∨ p = 1 ∨ p = 2 ∨ p = 3 := by bv_omega
  all_goals simp [scanFinal, scanRun, scanInit, checkValue, hones, hones64]

/-- Settles O54, from the linearity of each parameter set's update. -/
theorem scanFoldIdentity : Obligations.ScanFoldIdentity := by
  unfold Obligations.ScanFoldIdentity
  refine ⟨fun p r a b _ => ?_, scanFinal_scanRun_scanInit, fun p bs => ?_⟩
  · rw [scanRun_append, scanRun_eq_scanFold]
  · rw [foldl_scanFold (scanFits_scanInit p), scanFinal_scanRun_scanInit]

end Sys2Proof.Machine
end

section
/-! PROOF. Frames stored raw (R189 to R203, R209, R210): what a little-endian field reads back as, the layout of a frame, and
the decoder on a stored sample. -/

namespace Sys2Proof.Machine

/-! Little-endian fields. -/

@[simp] theorem length_le (n v : Nat) : (le n v).length = n := by simp [le]

theorem le_succ (n v : Nat) : le (n + 1) v = BitVec.ofNat 8 v :: le n (v / 256) := by
  simp only [le, List.range_succ_eq_map, List.map_cons, List.map_map]
  refine congrArg₂ _ (by simp) (List.map_congr_left fun i _ => ?_)
  have hshift : 8 * (i + 1) = 8 + 8 * i := by omega
  simp only [Function.comp_apply, Nat.succ_eq_add_one, hshift, Nat.shiftRight_add]
  rw [Nat.shiftRight_eq_div_pow v 8]

/-- The number that the bytes of a field spell is the field's value, cut to them. -/
theorem unle_le (n v : Nat) : unle (le n v) = v % 256 ^ n := by
  induction n generalizing v with
  | zero => simp [le, unle, Nat.mod_one]
  | succ n ih =>
    rw [le_succ, unle, ih, BitVec.toNat_ofNat, pow_succ' 256 n, Nat.mod_mul (a := 256)]

/-- A field that begins at `o` reads its bytes. -/
theorem leAt_append_right {l t : List Byte} {o n : Nat} (h : l.length ≤ o) : leAt (l ++ t) o n = leAt t (o - l.length) n := by
  obtain ⟨k, rfl⟩ := Nat.exists_eq_add_of_le h
  simp [leAt, List.drop_append, List.drop_eq_nil_of_le h]

theorem leAt_le_append (n v : Nat) (t : List Byte) : leAt (le n v ++ t) 0 n = v % 256 ^ n := by
  rw [leAt, List.drop_zero, List.take_left' (length_le n v), unle_le]

theorem leAt_le (n v : Nat) : leAt (le n v) 0 n = v % 256 ^ n := by
  simpa using leAt_le_append n v []

/-- The items of a stored sample, one field after another. -/
theorem leAt_flatMap_le {w : Nat} {α : Type} (f : α → Nat) (v : List α) {i : Nat} (h : i < v.length) :
    leAt (v.flatMap fun x => le w (f x)) (w * i) w = f v[i] % 256 ^ w := by
  induction v generalizing i with
  | nil => simp at h
  | cons x v ih =>
    rw [List.flatMap_cons]
    cases i with
    | zero => exact leAt_le_append w (f x) _
    | succ i =>
      rw [leAt_append_right (by simp [Nat.mul_succ]), length_le, Nat.mul_succ, Nat.add_sub_cancel]
      exact ih (by simpa using h)

theorem length_flatMap_le {w : Nat} {α : Type} (f : α → Nat) (v : List α) :
    (v.flatMap fun x => le w (f x)).length = w * v.length := by
  simp [List.length_flatMap, Nat.mul_comm]

/-! The layout of a frame. -/

/-- The header of a frame up to CRC. -/
def FrameHdr.pre (h : FrameHdr) (plen : Nat) : List Byte :=
  le 1 h.kind ++ le 1 h.flags ++ le 1 h.table ++ le 1 h.rdiv ++ le 6 h.fsid.toNat ++ le 2 h.span ++
    le 2 h.nitem ++ le 2 plen ++ le 8 h.tag.toNat ++ le 4 h.ref.toNat

theorem FrameHdr.length_pre (h : FrameHdr) (n : Nat) : (h.pre n).length = 28 := by simp [FrameHdr.pre]

/-- A frame whose payload fills whole double words has no padding. -/
theorem frameBytes_eq {h : FrameHdr} {p : List Byte} (hp : p.length % 8 = 0) :
    frameBytes h p = h.pre p.length ++ (le 4 (crc32c (h.pre p.length ++ [0, 0, 0, 0] ++ p)).toNat ++ p) := by
  simp [frameBytes, FrameHdr.pre, hp]

/-- The fields of a header keep to their widths (Table 6-2). -/
structure FrameHdr.Fits (h : FrameHdr) : Prop where
  kind : h.kind < 256
  flags : h.flags < 256
  table : h.table < 256
  rdiv : h.rdiv < 256
  span : h.span < 65536
  nitem : h.nitem < 65536

theorem readHdr_pre {h : FrameHdr} (hh : h.Fits) (n : Nat) (t : List Byte) : readHdr (h.pre n ++ t) = h := by
  obtain ⟨hkind, hflags, htable, hrdiv, hspan, hnitem⟩ := hh
  have hfsid : BitVec.ofNat 48 (h.fsid.toNat % 281474976710656) = h.fsid := by bv_omega
  have htag : BitVec.ofNat 64 (h.tag.toNat % 18446744073709551616) = h.tag := by bv_omega
  have href : BitVec.ofNat 32 (h.ref.toNat % 4294967296) = h.ref := by bv_omega
  simp [readHdr, FrameHdr.pre, leAt_append_right, leAt_le_append, List.append_assoc, Nat.mod_eq_of_lt, *]

theorem leAt_plen_pre (h : FrameHdr) {n : Nat} (hn : n < 65536) (t : List Byte) : leAt (h.pre n ++ t) 0xE 2 = n := by
  simp [FrameHdr.pre, leAt_append_right, leAt_le_append, List.append_assoc, Nat.mod_eq_of_lt hn]

/-! A stored sample. -/

/-- The items and status bytes that R209 takes from a payload stored raw. -/
theorem decodeSample_stored {statics : List (List Nat)} {pmode : Nat → Nat}
    {ref : FrameHdr → Option (List DWord × List Byte × DWord)} {h : FrameHdr} {st q : List Byte} {w : Nat}
    (hh : h.Fits) (hok : hdrOk h (st ++ q).length statics = true) (hplen : (st ++ q).length < 65536)
    (hpad : (st ++ q).length % 8 = 0) (hcoding : bits h.flags 5 4 = 0) (hkey : h.flags.testBit 0 = true)
    (hitems : h.nitem ≠ 0) (hw : w = if h.kind = 1 then 8 else 4) (hst : st.length = if h.kind = 1 then 64 else 0)
    (hq : q.length = w * h.nitem) :
    decodeSample statics pmode ref (frameBytes h (st ++ q)) =
      .ok ⟨h, true, (List.range h.nitem).map fun i => BitVec.ofNat 64 (leAt q (w * i) w), st⟩ := by
  generalize hp : st ++ q = p at *
  have hpre := h.length_pre p.length
  rw [frameBytes_eq hpad]
  generalize hc : crc32c (h.pre p.length ++ [0, 0, 0, 0] ++ p) = c
  have hlen : (h.pre p.length ++ (le 4 c.toNat ++ p)).length = 32 + p.length := by
    simp [hpre]
    omega
  have htake : (h.pre p.length ++ (le 4 c.toNat ++ p)).take 0x1C = h.pre p.length := List.take_left' hpre
  have hdrop : (h.pre p.length ++ (le 4 c.toNat ++ p)).drop 0x20 = p := by
    rw [← List.append_assoc]
    exact List.drop_left' (by simp [hpre])
  have hcrc : leAt (h.pre p.length ++ (le 4 c.toNat ++ p)) 0x1C 4 = c.toNat := by
    rw [leAt_append_right hpre.le, hpre, leAt_le_append]
    exact Nat.mod_eq_of_lt c.isLt
  have hsize : ¬(32 + p.length < 32 ∨ 32 + p.length ≠ 32 + (p.length + 7) / 8 * 8) := by omega
  have hstatus : (if h.kind = 1 then p.take 64 else []) = st := by
    split at hst
    · next h1 => rw [if_pos h1, ← hp, List.take_left' hst]
    · next h1 => rw [if_neg h1, List.eq_nil_of_length_eq_zero hst]
  have hvalues : p.drop st.length = q := by rw [← hp, List.drop_left]
  simp only [decodeSample, readHdr_pre hh, leAt_plen_pre h hplen, hlen, htake, hdrop, hcrc, hc, hok, hcoding, hkey, useRef,
    List.take_length, hstatus, hvalues, ← hw, if_neg hsize, if_neg hitems]
  have hfit : ¬(q.length ≠ w * h.nitem ∨ h.kind = 1 ∧ st.length ≠ 64) := by
    rintro (hne | ⟨h1, hne⟩)
    · exact hne hq
    · exact hne (by rw [hst, if_pos h1])
  rw [if_neg (fun hne => hne rfl), if_neg hfit]
  rfl

/-- The header that the encoder gives a sample stored raw. -/
def FrameHdr.raw (h : FrameHdr) (psn : Bool) : FrameHdr :=
  { h with flags := 1 + (if psn then 2 else 0) + (if h.kind = 1 then 4 else 0), table := 0, ref := 0 }

/-- Bytes of an item of a kind stored raw (R202). -/
def rawWidth (kind : Nat) : Nat := if kind = 1 then 8 else 4

/-- With EFFORT 0 and no static table the stored sample is the only candidate (R202). -/
theorem encodeSample_stored (h : FrameHdr) (v : List DWord) (st : List Byte) (psn key : Bool) (pm : Nat → Nat)
    (rf : List DWord × List Byte × DWord) :
    (encodeSample ⟨0, none⟩ h psn pm v st rf key).1 =
      frameBytes (h.raw psn) (st ++ v.flatMap fun x => le (rawWidth h.kind) x.toNat) := by
  have hflags : (bit true 1).toNat + 2 * (bit psn 1).toNat + 4 * (bit (h.kind == 1) 1).toNat + 16 * 0 = (h.raw psn).flags := by
    by_cases h1 : h.kind = 1
    · cases psn <;> simp [FrameHdr.raw, bit, h1]
    · cases psn <;> simp [FrameHdr.raw, bit, h1]
  change frameBytes { h with flags := _, table := 0, ref := 0 } _ = _
  exact congrArg (fun f => frameBytes { h with flags := f, table := 0, ref := 0 } _) hflags

/-- A raw frame's header keeps to Table 6-2. -/
theorem FrameHdr.raw_ok {h : FrameHdr} {psn : Bool} {n : Nat} {ts : List (List Nat)} (hlo : 1 ≤ h.kind) (hhi : h.kind ≤ 3)
    (hitems : h.nitem = kindItems h.kind)
    (hspan : if h.kind = 1 then h.rdiv < 8 ∧ 1 ≤ h.span ∧ h.span < 65536 else h.rdiv = 0 ∧ h.span = 0) :
    hdrOk (h.raw psn) n ts = true ∧ (h.raw psn).Fits := by
  obtain hk | hk | hk : h.kind = 1 ∨ h.kind = 2 ∨ h.kind = 3 := by omega
  · obtain ⟨hrdiv, hlow, hhigh⟩ : h.rdiv < 8 ∧ 1 ≤ h.span ∧ h.span < 65536 := by simpa [hk] using hspan
    have hheld : h.span ≠ 0 := by omega
    constructor
    · cases psn <;> simp [hdrOk, FrameHdr.raw, hk, hitems, kindItems, hrdiv, hheld, bits, Nat.testBit]
    · cases psn <;> constructor <;> simp [FrameHdr.raw, hk, hitems, kindItems] <;> omega
  · obtain ⟨hrdiv, hlow⟩ : h.rdiv = 0 ∧ h.span = 0 := by simpa [hk] using hspan
    constructor
    · cases psn <;> simp [hdrOk, FrameHdr.raw, hk, hitems, kindItems, hrdiv, hlow, bits, Nat.testBit]
    · cases psn <;> constructor <;> simp [FrameHdr.raw, hk, hitems, kindItems, hrdiv, hlow]
  · obtain ⟨hrdiv, hlow⟩ : h.rdiv = 0 ∧ h.span = 0 := by simpa [hk] using hspan
    constructor
    · cases psn <;> simp [hdrOk, FrameHdr.raw, hk, hitems, kindItems, hrdiv, hlow, bits, Nat.testBit]
    · cases psn <;> constructor <;> simp [FrameHdr.raw, hk, hitems, kindItems, hrdiv, hlow]

/-- The items read from the bytes of a stored sample are the sample's, where each fits its field. -/
theorem readBack_items {w : Nat} {v : List DWord} (hfit : ∀ x ∈ v, x.toNat < 256 ^ w) :
    (List.range v.length).map (fun i => BitVec.ofNat 64 (leAt (v.flatMap fun x => le w x.toNat) (w * i) w)) = v := by
  apply List.ext_getElem (by simp)
  intro i hi hi'
  rw [List.getElem_map, List.getElem_range, leAt_flatMap_le _ v hi', Nat.mod_eq_of_lt (hfit _ (List.getElem_mem hi'))]
  simp

/-- Settles O58, from the encoder's choice with EFFORT 0, the layout of a frame and the reading of its fields. -/
theorem rawFramesReadBack : Obligations.RawFramesReadBack := by
  unfold Obligations.RawFramesReadBack
  intro h v st psn key pm qm rf ts dr hlo hhi hv hnitem hst hspan hsmall
  obtain ⟨hok, hfits⟩ := FrameHdr.raw_ok (psn := psn) (ts := ts) (n := (st ++ v.flatMap fun x => le (rawWidth h.kind) x.toNat).length)
    hlo hhi hnitem hspan
  have hfit : ∀ x ∈ v, x.toNat < 256 ^ rawWidth h.kind := by
    intro x hx
    by_cases h1 : h.kind = 1
    · simpa [rawWidth, h1] using x.isLt
    · simpa [rawWidth, h1] using List.all_eq_true.mp (hsmall h1) x hx
  have hlength : (st ++ v.flatMap fun x => le (rawWidth h.kind) x.toNat).length = st.length + rawWidth h.kind * kindItems h.kind := by
    rw [List.length_append, length_flatMap_le, hv]
  have hsize : st.length + rawWidth h.kind * kindItems h.kind < 65536 ∧
      (st.length + rawWidth h.kind * kindItems h.kind) % 8 = 0 ∧ kindItems h.kind ≠ 0 := by
    obtain hk | hk | hk : h.kind = 1 ∨ h.kind = 2 ∨ h.kind = 3 := by omega
    all_goals simp [hst, hk, rawWidth, kindItems]
  obtain ⟨hshort, hpad, hitems⟩ := hsize
  have hflags : bits (h.raw psn).flags 5 4 = 0 ∧ (h.raw psn).flags.testBit 0 = true := by
    by_cases h1 : h.kind = 1
    · cases psn <;> simp [FrameHdr.raw, bits, h1]
    · cases psn <;> simp [FrameHdr.raw, bits, h1]
  rw [encodeSample_stored, decodeSample_stored (w := rawWidth h.kind) hfits hok (by rw [hlength]; exact hshort)
    (by rw [hlength]; exact hpad) hflags.1 hflags.2 (by simpa [FrameHdr.raw, hnitem] using hitems) rfl hst
    (by rw [length_flatMap_le, hv]; exact congrArg _ hnitem.symm)]
  have hitem : (h.raw psn).nitem = v.length := hnitem.trans hv.symm
  rw [hitem, readBack_items hfit]
  rfl

end Sys2Proof.Machine
end

section
/-! PROOF. What stores to no device keeps the queue, the build and both devices (`State.kept`): one lemma per operation and per
command, in the order of the model, each from the lemmas of the operations it is made of. Those that do store (flash programs
and erases, spills, NV writes, words of a blob) follow in the next section. -/

namespace Sys2Proof.Machine

/-- What only a step that stores to a memory device may change: the queue, the build, and the two devices. -/
def State.kept (s : State) : List Instr × Grade × Memory × Memory := (s.pending, s.sys.build, s.flash, s.lp5)

/-- A state is kept as its parts are. -/
@[simp] theorem State.mk_kept (s : State) : (s.pending, s.sys.build, s.flash, s.lp5) = s.kept := by
  simp only [State.kept]

/-- Of a state written out, its queue, its build and its devices count. (The proof is no `rfl`: the kernel then need not compare
the other parts of two states.) -/
@[simp] theorem State.kept_mk (sys : Sys) (pwr : Power) (fuse : Fuse) (bist : Bist) (integ : Integ) (heat : Heat) (ld : Loader)
    (tray : TrayImages) (prb : Probes) (creg : CntRegs) (sns : Sense) (tb : Timebase) (ptp : Ptp) (tt : TimeTransfer) (trc : Trace)
    (ttrc : TrayTrace) (cmp : Comp) (scn : Scan) (led : Ledger) (fpc : Compare) (red : Reduce) (inr : Intake) (te : Tree)
    (ump : Umpire) (tly : Tally) (ul : Uplink) (nb : North) (roles : Roles) (evr : Recorder) (test : TestAcc)
    (rw : Tab (Option Word)) (wc2 : Tab (Option (Word × Word))) (flash lp5 : Memory) (pending : List Instr) :
    State.kept ⟨sys, pwr, fuse, bist, integ, heat, ld, tray, prb, creg, sns, tb, ptp, tt, trc, ttrc, cmp, scn, led, fpc, red, inr,
      te, ump, tly, ul, nb, roles, evr, test, rw, wc2, flash, lp5, pending⟩ = (pending, sys.build, flash, lp5) := by
  simp only [State.kept]

@[simp] theorem State.ite_kept (c : Prop) [Decidable c] (s t : State) :
    (if c then s else t).kept = if c then s.kept else t.kept := apply_ite State.kept c s t

@[simp] theorem Sys.ite_build (c : Prop) [Decidable c] (a b : Sys) :
    (if c then a else b).build = if c then a.build else b.build := apply_ite Sys.build c a b

/-- A fold whose step keeps them keeps them. -/
@[simp] theorem foldl_kept {α : Type} (f : State → α → State) (l : List α) (s : State)
    (h : ∀ t x, (f t x).kept = t.kept) : (l.foldl f s).kept = s.kept := by
  induction l generalizing s with
  | nil => rfl
  | cons x l ih => rw [List.foldl_cons, ih, h]

@[simp] theorem after_next (s t : State) : after s (.next t) = t := rfl

@[simp] theorem State.freed_kept (s : State) :
    (s.freed).kept = s.kept := by
  simp [State.freed]

@[simp] theorem State.stick_kept (s : State) (r b : Nat) :
    (s.stick r b).kept = s.kept := by
  simp [State.stick]

@[simp] theorem State.buffer_kept (s : State) (q : RecIn) :
    (s.buffer q).kept = s.kept := by
  simp [State.buffer]

@[simp] theorem State.captureBuoy_kept (s : State) (kind : Nat) (slot : BitVec 23) (heat : DWord) :
    (s.captureBuoy kind slot heat).kept = s.kept := by
  simp [State.captureBuoy]

@[simp] theorem State.resumeBuoy_kept (s : State) (heat : DWord) :
    (s.resumeBuoy heat).kept = s.kept := by
  simp [State.resumeBuoy]

@[simp] theorem State.buoy_kept (s : State) (kind : Nat) (slot : BitVec 23) (heat : DWord) :
    (s.buoy kind slot heat).kept = s.kept := by
  simp [State.buoy]

@[simp] theorem State.later_kept (s : State) :
    (s.later).kept = s.kept := by
  simp [State.later]

@[simp] theorem State.laterTo_kept (s : State) (ofs : BitVec 11) :
    (s.laterTo ofs).kept = s.kept := by
  simp [State.laterTo]

@[simp] theorem State.capReady_kept (s : State) :
    (s.capReady).kept = s.kept := by
  simp [State.capReady]

@[simp] theorem State.capture_kept (s : State) (word : Nat) :
    (s.capture word).kept = s.kept := by
  simp [State.capture]

@[simp] theorem State.emFeed_kept (s : State) (x : EmInput) :
    (s.emFeed x).kept = s.kept := by
  simp [State.emFeed]

@[simp] theorem State.internalNow_kept (s : State) (code : Nat) (data : List Byte) :
    (s.internalNow code data).kept = s.kept := by
  simp [State.internalNow]

@[simp] theorem State.internal_kept (s : State) (code : Nat) (data : List Byte) :
    (s.internal code data).kept = s.kept := by
  simp [State.internal]

@[simp] theorem State.setLink_kept (s : State) (k : Nat) (l : Link) :
    (s.setLink k l).kept = s.kept := by
  simp [State.setLink]

@[simp] theorem State.send_kept (s : State) (k v mtype : Nat) (body : List Byte) :
    (s.send k v mtype body).kept = s.kept := by
  simp [State.send]

@[simp] theorem State.insert_kept (s : State) (k mtype : Nat) (body : List Byte) :
    (s.insert k mtype body).kept = s.kept := by
  simp [State.insert]

@[simp] theorem State.eventQuiet_kept (s : State) (q : RecIn) :
    (s.eventQuiet q).kept = s.kept := by
  simp [State.eventQuiet]

@[simp] theorem State.fireWith_kept (s : State) (src : Nat) (more : State → State) (h : ∀ t, (more t).kept = t.kept) :
    (s.fireWith src more).kept = s.kept := by
  simp [State.fireWith, h]

@[simp] theorem State.fire_kept (s : State) (src : Nat) :
    (s.fire src).kept = s.kept := by
  simp [State.fire]

@[simp] theorem State.happen_kept (s : State) (q : RecIn) :
    (s.happen q).kept = s.kept := by
  simp [State.happen]

@[simp] theorem State.event_kept (s : State) (code : Nat) (data : List Byte) (role path : Nat) :
    (s.event code data role path).kept = s.kept := by
  unfold State.event
  split <;> simp

@[simp] theorem State.firstOf_kept (s old : State) :
    (s.firstOf old).kept = s.kept := by
  unfold State.firstOf
  (repeat' split) <;> simp

/-- One cycle of what keeps them keeps them. -/
@[simp] theorem State.oneCycle_kept (s : State) (f : State → State) (h : ∀ t, (f t).kept = t.kept) :
    (s.oneCycle f).kept = s.kept := by
  unfold State.oneCycle
  split
  · exact h s
  · simp [h]

@[simp] theorem State.note_kept (s : State) (code : Nat) (data : List Byte) :
    (s.note code data).kept = s.kept := by
  simp [State.note]

@[simp] theorem State.memCes_kept (s : State) (m n : Nat) :
    (s.memCes m n).kept = s.kept := by
  simp [State.memCes]

@[simp] theorem State.memErr_kept (s : State) (m : Nat) (ue : Bool) (addr : Nat) :
    (s.memErr m ue addr).kept = s.kept := by
  simp [State.memErr]

@[simp] theorem State.noted_kept (s : State) (r b key : Nat) :
    (s.noted r b key).kept = s.kept := by
  simp [State.noted]

@[simp] theorem State.stickOnce_kept (s : State) (r b key code : Nat) (data : List Byte) :
    (s.stickOnce r b key code data).kept = s.kept := by
  simp [State.stickOnce]

@[simp] theorem State.stickNote_kept (s : State) (r b code : Nat) (data : List Byte) :
    (s.stickNote r b code data).kept = s.kept := by
  simp [State.stickNote]

@[simp] theorem State.overload_kept (s : State) (p : Nat) :
    (s.overload p).kept = s.kept := by
  simp [State.overload]

@[simp] theorem State.setPort_kept (s : State) (p : Nat) (q : NbPort) :
    (s.setPort p q).kept = s.kept := by
  simp [State.setPort]

@[simp] theorem State.northOn_kept (s : State) (p mtype : Nat) (body : List Byte) (dst : Option (BitVec 48)) (rep : Bool) :
    (s.northOn p mtype body dst rep).kept = s.kept := by
  simp [State.northOn]

@[simp] theorem State.northRep_kept (s : State) (mtype : Nat) (body : List Byte) (rep : Bool) :
    (s.northRep mtype body rep).kept = s.kept := by
  simp [State.northRep]

@[simp] theorem State.northTo_kept (s : State) (mtype : Nat) (dst : BitVec 48) (body : List Byte) :
    (s.northTo mtype dst body).kept = s.kept := by
  simp [State.northTo]

@[simp] theorem State.reqFinish_kept (s : State) (i : Nat) :
    (s.reqFinish i).kept = s.kept := by
  unfold State.reqFinish
  split <;> simp

@[simp] theorem State.reqDone_kept (s : State) (i status : Nat) (data : Word) :
    (s.reqDone i status data).kept = s.kept := by
  unfold State.reqDone
  split <;> simp

@[simp] theorem State.north_kept (s : State) (mtype : Nat) (body : List Byte) :
    (s.north mtype body).kept = s.kept := by
  simp [State.north]

@[simp] theorem State.take_kept (s : State) (k v mtype : Nat) :
    (s.take k v mtype).kept = s.kept := by
  unfold State.take
  dsimp only
  split <;> simp

@[simp] theorem State.setPath_kept (s : State) (p : Nat) (q : PathState) :
    (s.setPath p q).kept = s.kept := by
  simp [State.setPath]

@[simp] theorem State.roleRefused_kept (s : State) (a : Acc) (off need : Nat) :
    (s.roleRefused a off need).kept = s.kept := by
  simp [State.roleRefused]

@[simp] theorem State.cfgWrite_kept (s : State) (a : Acc) (off : Nat) (v : Word) :
    (s.cfgWrite a off v).kept = s.kept := by
  simp [State.cfgWrite]

@[simp] theorem State.wc2Refused_kept (s : State) (a : Acc) (off reason : Nat) :
    (s.wc2Refused a off reason).kept = s.kept := by
  simp [State.wc2Refused]

@[simp] theorem State.joinTest_kept (s : State) :
    (s.joinTest).kept = s.kept := by
  simp [State.joinTest]

@[simp] theorem State.raDone_kept (s : State) (q : RaReq) (v : Word) :
    (s.raDone q v).kept = s.kept := by
  simp [State.raDone]

@[simp] theorem State.answered_kept (s : State) (a : Acc) (wr : Bool) (off : Nat) (r : Word) :
    (s.answered a wr off r).kept = s.kept := by
  unfold State.answered
  split <;> simp

@[simp] theorem State.written_kept (s : State) (a : Acc) (off need : Nat) (f : State → State)
    (h : ∀ t, (f t).kept = t.kept) : (s.written a off need f).kept = s.kept := by
  simp [State.written, h]

@[simp] theorem State.storePair_kept (s : State) (off : Nat) (v : Word) :
    (s.storePair off v).kept = s.kept := by
  simp [State.storePair]

@[simp] theorem State.cplRestore_kept (s : State) (item i : Nat) :
    (s.cplRestore item i).kept = s.kept := by
  simp [State.cplRestore]

@[simp] theorem State.wc2Commit_kept (s : State) (a : Acc) (off : Nat) (why : State → Word → Nat) (f : State → Word → State)
    (h : ∀ t w, (f t w).kept = t.kept) : (s.wc2Commit a off why f).kept = s.kept := by
  refine State.written_kept _ _ _ _ _ fun t => ?_
  dsimp only
  split
  · simp [h]
  · simp

@[simp] theorem State.readBy_kept (s : State) (a : Acc) (off : Nat) (r : Word) (f : State → State)
    (h : ∀ t, (f t).kept = t.kept) : (s.readBy a off r f).kept = s.kept := by
  simp [State.readBy, h]

@[simp] theorem State.setVerd_kept (s : State) (k : Nat) (v : Verd) :
    (s.setVerd k v).kept = s.kept := by
  simp [State.setVerd]

@[simp] theorem State.reseed_kept (s : State) (step : Word) :
    (s.reseed step).kept = s.kept := by
  simp [State.reseed]

@[simp] theorem State.draw_kept (s : State) (stream k : Nat) :
    (s.draw stream k).2.kept = s.kept := by
  simp [State.draw]

@[simp] theorem State.noteLeft_kept (s : State) :
    (s.noteLeft).kept = s.kept := by
  simp [State.noteLeft]

@[simp] theorem State.setFpc_kept (s : State) (c : Compare) :
    (s.setFpc c).kept = s.kept := by
  simp [State.setFpc]

@[simp] theorem State.fpReplayEntry_kept (s : State) (k : Nat) (e : List Byte) :
    (s.fpReplayEntry k e).kept = s.kept := by
  unfold State.fpReplayEntry
  dsimp only
  split <;> simp

@[simp] theorem State.fpJoin_kept (s : State) (k : Nat) (e : List Byte) :
    (s.fpJoin k e).kept = s.kept := by
  unfold State.fpJoin
  dsimp only
  (repeat' split) <;> simp

@[simp] theorem execFpReport_kept (old : State) (k : BitVec 6) (entry : List Byte) (s : State) :
    (after old (execFpReport k entry s)).kept = s.kept := by
  simp [execFpReport]

@[simp] theorem State.fpExpire_kept (s : State) :
    (s.fpExpire).kept = s.kept := by
  simp [State.fpExpire]

@[simp] theorem execFpWaitExpiry_kept (old : State) (s : State) :
    (after old (execFpWaitExpiry s)).kept = s.kept := by
  simp [execFpWaitExpiry]

@[simp] theorem State.fpRequest_kept (s : State) (r : FpReplay) :
    (s.fpRequest r).kept = s.kept := by
  simp [State.fpRequest]

@[simp] theorem State.fpBins_kept (s : State) (es : List FpEntry) (dissent : FpEntry → Bool) :
    (s.fpBins es dissent).kept = s.kept := by
  simp [State.fpBins]

@[simp] theorem State.judgeClass_kept (s : State) (x : FpSet) (es : List FpEntry) :
    (s.judgeClass x es).kept = s.kept := by
  unfold State.judgeClass
  split <;> simp

@[simp] theorem State.judgeSets_kept (s : State) :
    (s.judgeSets).kept = s.kept := by
  simp [State.judgeSets]

@[simp] theorem State.outcome_kept (s : State) (r : FpReplay) (ref : Option DWord) :
    (s.outcome r ref).kept = s.kept := by
  unfold State.outcome
  (repeat' split) <;> simp

@[simp] theorem State.judgeReplays_kept (s : State) (sel : FpReplay → Bool) :
    (s.judgeReplays sel).kept = s.kept := by
  simp [State.judgeReplays]

@[simp] theorem State.closeReplay_kept (s : State) (p : FpReplay → Bool) (why : BitVec 3) :
    (s.closeReplay p why).kept = s.kept := by
  simp [State.closeReplay]

@[simp] theorem State.replayTimeouts_kept (s : State) :
    (s.replayTimeouts).kept = s.kept := by
  simp [State.replayTimeouts]

@[simp] theorem execFpRplTmoExpiry_kept (old : State) (rec : BitVec 8) (s : State) :
    (after old (execFpRplTmoExpiry rec s)).kept = s.kept := by
  simp [execFpRplTmoExpiry]

@[simp] theorem execReplayAccept_kept (old : State) (k : BitVec 6) (step : Word) (nums : List Byte) (s : State) :
    (after old (execReplayAccept k step nums s)).kept = s.kept := by
  simp [execReplayAccept]

@[simp] theorem execReplayRefused_kept (old : State) (k : BitVec 6) (step : Word) (nums : List Byte) (cause : Byte) (s : State) :
    (after old (execReplayRefused k step nums cause s)).kept = s.kept := by
  simp [execReplayRefused]

@[simp] theorem execShardReport_kept (old : State) (k : BitVec 6) (body : List Byte) (s : State) :
    (after old (execShardReport k body s)).kept = s.kept := by
  simp [execShardReport]

@[simp] theorem State.takeGroups_kept (s : State) :
    (s.takeGroups).kept = s.kept := by
  simp [State.takeGroups]

@[simp] theorem cmdFpReplay_kept (p : Post) (s : State) :
    ((cmdFpReplay p s).getD s).kept = s.kept := by
  unfold cmdFpReplay
  dsimp only
  split <;> simp

@[simp] theorem cmdFpBinClr_kept (p : Post) (s : State) :
    ((cmdFpBinClr p s).getD s).kept = s.kept := by
  simp [cmdFpBinClr]

@[simp] theorem State.setTly_kept (s : State) (t : Tally) :
    (s.setTly t).kept = s.kept := by
  simp [State.setTly]

@[simp] theorem State.tallyRefuse_kept (s : State) (src n : Nat) (inc : BitVec 16) (reason role path : Nat) :
    (s.tallyRefuse src n inc reason role path).kept = s.kept := by
  simp [State.tallyRefuse]

@[simp] theorem State.tallyDirect_kept (s : State) (src n : Nat) (inc : BitVec 16) (role path : Nat) :
    (s.tallyDirect src n inc role path).kept = s.kept := by
  simp [State.tallyDirect]

@[simp] theorem State.bindEvent_kept (s : State) (src arg : Nat) :
    (s.bindEvent src arg).kept = s.kept := by
  simp [State.bindEvent]

@[simp] theorem execTallySignal_kept (old : State) (lane : BitVec 2) (id : BitVec 6) (inc : BitVec 16) (s : State) :
    (after old (execTallySignal lane id inc s)).kept = s.kept := by
  simp [execTallySignal]

@[simp] theorem execHeldSignalApply_kept (old : State) (lane : BitVec 2) (s : State) :
    (after old (execHeldSignalApply lane s)).kept = s.kept := by
  simp [execHeldSignalApply]

@[simp] theorem State.setWait_kept (s : State) (w : Nat) (l : WaitLane) :
    (s.setWait w l).kept = s.kept := by
  simp [State.setWait]

@[simp] theorem execTallyWait_kept (old : State) (w : BitVec 4) (id : BitVec 6) (tgt : Word) (s : State) :
    (after old (execTallyWait w id tgt s)).kept = s.kept := by
  simp [execTallyWait]

@[simp] theorem execTallyRelease_kept (old : State) (w : BitVec 4) (s : State) :
    (after old (execTallyRelease w s)).kept = s.kept := by
  simp [execTallyRelease]

@[simp] theorem execTallyWaitWithdraw_kept (old : State) (w : BitVec 4) (s : State) :
    (after old (execTallyWaitWithdraw w s)).kept = s.kept := by
  simp [execTallyWaitWithdraw]

@[simp] theorem execWaitLong_kept (old : State) (w : BitVec 4) (s : State) :
    (after old (execWaitLong w s)).kept = s.kept := by
  simp [execWaitLong]

@[simp] theorem State.tallyHalt_kept (s : State) (cause lane role path : Nat) :
    (s.tallyHalt cause lane role path).kept = s.kept := by
  simp [State.tallyHalt]

@[simp] theorem execTallyWatchdog_kept (old : State) (s : State) :
    (after old (execTallyWatchdog s)).kept = s.kept := by
  unfold execTallyWatchdog
  dsimp only
  split <;> simp

@[simp] theorem execTallyTaskEnd_kept (old : State) (mask : BitVec 48) (s : State) :
    (after old (execTallyTaskEnd mask s)).kept = s.kept := by
  unfold execTallyTaskEnd
  dsimp only
  split <;> simp

@[simp] theorem State.remoteArrive_kept (s : State) (n : Nat) (inc : BitVec 16) :
    (s.remoteArrive n inc).kept = s.kept := by
  simp [State.remoteArrive]

@[simp] theorem State.proxyTookEffect_kept (s : State) :
    (s.proxyTookEffect).kept = s.kept := by
  simp [State.proxyTookEffect]

@[simp] theorem State.remoteFreed_kept (s : State) (requests : Bool) :
    (s.remoteFreed requests).kept = s.kept := by
  simp [State.remoteFreed]

@[simp] theorem execTallySig_kept (old : State) (k : BitVec 6) (dest : BitVec 7) (tally : Byte) (inc : BitVec 16) (sender : BitVec 48) (s : State) :
    (after old (execTallySig k dest tally inc sender s)).kept = s.kept := by
  simp [execTallySig]

@[simp] theorem execRemoteSignalApply_kept (old : State) (s : State) :
    (after old (execRemoteSignalApply s)).kept = s.kept := by
  unfold execRemoteSignalApply
  split <;> simp

@[simp] theorem execHangDump_kept (old : State) (k : BitVec 6) (dump : List Byte) (s : State) :
    (after old (execHangDump k dump s)).kept = s.kept := by
  simp [execHangDump]

@[simp] theorem execTlyAddWrite_kept (old : State) (a : Acc) (n : BitVec 6) (s : State) :
    (after old (execTlyAddWrite a n s)).kept = s.kept := by
  simp [execTlyAddWrite]

@[simp] theorem execTlyRemoteWrite_kept (old : State) (a : Acc) (s : State) :
    (after old (execTlyRemoteWrite a s)).kept = s.kept := by
  simp [execTlyRemoteWrite]

@[simp] theorem execTlyCfgWrite_kept (old : State) (a : Acc) (n : BitVec 6) (s : State) :
    (after old (execTlyCfgWrite a n s)).kept = s.kept := by
  simp [execTlyCfgWrite]

@[simp] theorem execTlyBindWrite_kept (old : State) (a : Acc) (j : BitVec 4) (s : State) :
    (after old (execTlyBindWrite a j s)).kept = s.kept := by
  simp [execTlyBindWrite]

@[simp] theorem execTlyCtrlWrite_kept (old : State) (a : Acc) (s : State) :
    (after old (execTlyCtrlWrite a s)).kept = s.kept := by
  simp [execTlyCtrlWrite]

@[simp] theorem State.latchDump_kept (s : State) :
    (s.latchDump).kept = s.kept := by
  simp [State.latchDump]

@[simp] theorem execTlyDumpRead_kept (old : State) (a : Acc) (s : State) :
    (after old (execTlyDumpRead a s)).kept = s.kept := by
  simp [execTlyDumpRead]

@[simp] theorem boundaryTally_kept (s : State) :
    (boundaryTally s).kept = s.kept := by
  simp [boundaryTally]

@[simp] theorem State.tallyLoad_kept (s : State) (n : Nat) (v : Word) (role path : Nat) :
    (s.tallyLoad n v role path).kept = s.kept := by
  simp [State.tallyLoad]

@[simp] theorem State.tallyResume_kept (s : State) (role path : Nat) :
    (s.tallyResume role path).kept = s.kept := by
  simp [State.tallyResume]

@[simp] theorem State.setRed_kept (s : State) (r : Reduce) :
    (s.setRed r).kept = s.kept := by
  simp [State.setRed]

@[simp] theorem State.reduceLoss_kept (s : State) (i code : Nat) (data : List Byte) :
    (s.reduceLoss i code data).kept = s.kept := by
  unfold State.reduceLoss
  split <;> simp

@[simp] theorem State.completeStep_kept (s : State) (st : Step) :
    (s.completeStep st).kept = s.kept := by
  simp [State.completeStep]

@[simp] theorem State.forceStep_kept (s : State) :
    (s.forceStep).kept = s.kept := by
  unfold State.forceStep
  split <;> simp

@[simp] theorem State.takeMark_kept (s : State) (k : Nat) (h : DWord) (step : Word) (finish : Bool) (stroke : DWord) :
    (s.takeMark k h step finish stroke).kept = s.kept := by
  unfold State.takeMark
  dsimp only
  (repeat' split) <;> simp

@[simp] theorem State.takeMarks_kept (s : State) (k : Nat) (h : DWord) (marks : List (List Byte)) :
    (s.takeMarks k h marks).kept = s.kept := by
  simp [State.takeMarks]

@[simp] theorem State.completeSteps_kept (s : State) :
    (s.completeSteps).kept = s.kept := by
  simp [State.completeSteps]

@[simp] theorem execStepWaitExpiry_kept (old : State) (s : State) :
    (after old (execStepWaitExpiry s)).kept = s.kept := by
  simp [execStepWaitExpiry]

@[simp] theorem State.reduceFig_kept (s : State) (st : Step) (present : List (Nat × DWord)) (i : Nat) :
    (s.reduceFig st present i).kept = s.kept := by
  simp [State.reduceFig]

@[simp] theorem execReductionRun_kept (old : State) (s : State) :
    (after old (execReductionRun s)).kept = s.kept := by
  unfold execReductionRun
  split <;> simp

@[simp] theorem State.drainOne_kept (s : State) :
    (s.drainOne).kept = s.kept := by
  unfold State.drainOne
  dsimp only
  (repeat' split) <;> simp

@[simp] theorem execSketchExport_kept (old : State) (s : State) :
    (after old (execSketchExport s)).kept = s.kept := by
  unfold execSketchExport
  dsimp only
  (repeat' split) <;> simp

@[simp] theorem execSkSelWrite_kept (old : State) (a : Acc) (s : State) :
    (after old (execSkSelWrite a s)).kept = s.kept := by
  simp [execSkSelWrite]

@[simp] theorem execStStepRead_kept (old : State) (a : Acc) (s : State) :
    (after old (execStStepRead a s)).kept = s.kept := by
  simp [execStStepRead]

@[simp] theorem boundaryReduce_kept (unfinished : List (BitVec 10)) (s : State) :
    (boundaryReduce unfinished s).kept = s.kept := by
  unfold boundaryReduce
  split <;> simp

@[simp] theorem State.setInr_kept (s : State) (r : Intake) :
    (s.setInr r).kept = s.kept := by
  simp [State.setInr]

@[simp] theorem State.rawNorth_kept (s : State) (k mtype : Nat) (msg : List Byte) :
    (s.rawNorth k mtype msg).kept = s.kept := by
  simp [State.rawNorth]

@[simp] theorem State.intake_kept (s : State) (k : Nat) (h : DWord) (f : DieRec → DieRec) :
    (s.intake k h f).kept = s.kept := by
  simp [State.intake]

@[simp] theorem State.cntTaken_kept (s : State) (k mtype : Nat) (msg : List Byte) (h : DWord) (f : DieRec → DieRec) :
    (s.cntTaken k mtype msg h f).kept = s.kept := by
  simp [State.cntTaken]

@[simp] theorem execHeatHdr_kept (old : State) (k : BitVec 6) (body : List Byte) (s : State) :
    (after old (execHeatHdr k body s)).kept = s.kept := by
  simp [execHeatHdr]

@[simp] theorem execOvrMark_kept (old : State) (k : BitVec 6) (heat : DWord) (producer nrepl : BitVec 16) (s : State) :
    (after old (execOvrMark k heat producer nrepl s)).kept = s.kept := by
  simp [execOvrMark]

@[simp] theorem execDetrec_kept (old : State) (k : BitVec 6) (body : List Byte) (s : State) :
    (after old (execDetrec k body s)).kept = s.kept := by
  simp [execDetrec]

@[simp] theorem State.mismatchChange_kept (s : State) (k : Nat) :
    (s.mismatchChange k).kept = s.kept := by
  simp [State.mismatchChange]

@[simp] theorem State.alignDie_kept (s : State) (h : DWord) (k : Nat) :
    (s.alignDie h k).kept = s.kept := by
  simp [State.alignDie]

@[simp] theorem State.forwardShared_kept (s : State) (h : DWord) (k : Nat) :
    (s.forwardShared h k).kept = s.kept := by
  unfold State.forwardShared
  split <;> simp

@[simp] theorem State.stepReported_kept (s : State) :
    (s.stepReported).kept = s.kept := by
  unfold State.stepReported
  dsimp only
  (repeat' split) <;> simp

@[simp] theorem State.align_kept (s : State) :
    (s.align).kept = s.kept := by
  simp [State.align]

@[simp] theorem execAlignmentSlot_kept (old : State) (s : State) :
    (after old (execAlignmentSlot s)).kept = s.kept := by
  simp [execAlignmentSlot]

@[simp] theorem State.setPrb_kept (s : State) (p : Probes) :
    (s.setPrb p).kept = s.kept := by
  simp [State.setPrb]

@[simp] theorem State.sampleUnit_kept (s : State) (p q : BitVec 512) (first : Bool) (n : Nat) :
    (s.sampleUnit p q first n).kept = s.kept := by
  simp [State.sampleUnit]

@[simp] theorem State.sampleTap_kept (s : State) (p q : BitVec 512) (t : Nat) :
    (s.sampleTap p q t).kept = s.kept := by
  simp [State.sampleTap]

@[simp] theorem execProbeSample_kept (old : State) (r : BitVec 5) (probes : BitVec 512) (s : State) :
    (after old (execProbeSample r probes s)).kept = s.kept := by
  simp [execProbeSample]

@[simp] theorem State.transferUnit_kept (s : State) (k : Nat) :
    (s.transferUnit k).kept = s.kept := by
  simp [State.transferUnit]

@[simp] theorem execCounterTransfer_kept (old : State) (n : BitVec 12) (s : State) :
    (after old (execCounterTransfer n s)).kept = s.kept := by
  simp [execCounterTransfer]

@[simp] theorem State.transferRegion_kept (s : State) (r : Nat) :
    (s.transferRegion r).kept = s.kept := by
  simp [State.transferRegion]

@[simp] theorem State.freezeCluster_kept (s : State) (last : DWord) (held : Bool) (c : Nat) :
    (s.freezeCluster last held c).kept = s.kept := by
  simp [State.freezeCluster]

@[simp] theorem boundaryCounters_kept (last u : DWord) (s : State) :
    (boundaryCounters last u s).kept = s.kept := by
  simp [boundaryCounters]

@[simp] theorem execHoldBegin_kept (old : State) (s : State) :
    (after old (execHoldBegin s)).kept = s.kept := by
  simp [execHoldBegin]

@[simp] theorem execHoldEnd_kept (old : State) (s : State) :
    (after old (execHoldEnd s)).kept = s.kept := by
  simp [execHoldEnd]

@[simp] theorem cmdSnapshot_kept (p : Post) (s : State) :
    ((cmdSnapshot p s).getD s).kept = s.kept := by
  unfold cmdSnapshot
  dsimp only
  split <;> simp

@[simp] theorem cmdSnapRelease_kept (x0 : Post) (s : State) :
    ((cmdSnapRelease x0 s).getD s).kept = s.kept := by
  unfold cmdSnapRelease
  (repeat' split) <;> simp

@[simp] theorem activateProbes_kept (s : State) :
    (activateProbes s).kept = s.kept := by
  simp [activateProbes]

@[simp] theorem execCntLiveRead_kept (old : State) (a : Acc) (s : State) :
    (after old (execCntLiveRead a s)).kept = s.kept := by
  simp [execCntLiveRead]

@[simp] theorem execSnapshotBankRead_kept (old : State) (a : Acc) (w : BitVec 13) (perr : Bool) (s : State) :
    (after old (execSnapshotBankRead a w perr s)).kept = s.kept := by
  simp [execSnapshotBankRead]

@[simp] theorem execCntSnapRead_kept (old : State) (a : Acc) (s : State) :
    (after old (execCntSnapRead a s)).kept = s.kept := by
  simp [execCntSnapRead]

@[simp] theorem State.setCmp_kept (s : State) (c : Comp) :
    (s.setCmp c).kept = s.kept := by
  simp [State.setCmp]

@[simp] theorem State.emitted_kept (s : State) (kind bin bout : Nat) :
    (s.emitted kind bin bout).kept = s.kept := by
  simp [State.emitted]

@[simp] theorem execRatioWindow_kept (old : State) (kind : BitVec 3) (s : State) :
    (after old (execRatioWindow kind s)).kept = s.kept := by
  simp [execRatioWindow]

@[simp] theorem State.accepted_kept (s : State) (h : FrameHdr) (v : List DWord) (st : List Byte) (key : Bool) :
    (s.accepted h v st key).kept = s.kept := by
  simp [State.accepted]

@[simp] theorem State.sendSample_kept (s : State) (h : FrameHdr) (v : List DWord) (st : List Byte) (prod stored : Nat) :
    (s.sendSample h v st prod stored).kept = s.kept := by
  simp [State.sendSample]

@[simp] theorem State.poisonKept_kept (s : State) (c : Nat) :
    (s.poisonKept c).kept = s.kept := by
  simp [State.poisonKept]

@[simp] theorem execClusterSampleBuild_kept (old : State) (c : BitVec 6) (perr : Bool) (s : State) :
    (after old (execClusterSampleBuild c perr s)).kept = s.kept := by
  simp [execClusterSampleBuild]

@[simp] theorem execAnalogueSampleSend_kept (old : State) (s : State) :
    (after old (execAnalogueSampleSend s)).kept = s.kept := by
  simp [execAnalogueSampleSend]

@[simp] theorem execKeyReq_kept (old : State) (kind : Byte) (fsid : BitVec 48) (s : State) :
    (after old (execKeyReq kind fsid s)).kept = s.kept := by
  simp [execKeyReq]

@[simp] theorem State.keepSample_kept (s : State) (k : Nat) (d : Decoded) :
    (s.keepSample k d).kept = s.kept := by
  simp [State.keepSample]

@[simp] theorem State.frameRefused_kept (s : State) (k reason : Nat) (b : List Byte) :
    (s.frameRefused k reason b).kept = s.kept := by
  simp [State.frameRefused]

@[simp] theorem State.newRef_kept (s : State) (d : Decoded) :
    (s.newRef d).kept = s.kept := by
  simp [State.newRef]

@[simp] theorem State.trayFrame_kept (s : State) (k : Nat) (b : List Byte) :
    (s.trayFrame k b).kept = s.kept := by
  unfold State.trayFrame
  dsimp only
  split <;> simp

@[simp] theorem execFrame_kept (old : State) (k : BitVec 6) (bytes : List Byte) (s : State) :
    (after old (execFrame k bytes s)).kept = s.kept := by
  unfold execFrame
  dsimp only
  (repeat' split) <;> simp

@[simp] theorem State.blockLost_kept (s : State) :
    (s.blockLost).kept = s.kept := by
  simp [State.blockLost]

@[simp] theorem State.sendBlock_kept (s : State) (blk : Nat) :
    (s.sendBlock blk).1.kept = s.kept := by
  unfold State.sendBlock
  dsimp only
  split
  · simp
  · split
    · split
      · split <;> simp
      · split <;> simp
    · simp
    · simp

@[simp] theorem State.encodeDue_kept (s : State) (blk : Nat) :
    (s.encodeDue blk).kept = s.kept := by
  simp [State.encodeDue]

@[simp] theorem State.encodeBlocks_kept (s : State) :
    (s.encodeBlocks).kept = s.kept := by
  simp [State.encodeBlocks]

@[simp] theorem State.ulStick_kept (s : State) :
    (s.ulStick).kept = s.kept := by
  simp [State.ulStick]

@[simp] theorem State.linkDownBy_kept (s : State) (k cause role path : Nat) :
    (s.linkDownBy k cause role path).kept = s.kept := by
  simp [State.linkDownBy]

@[simp] theorem State.linkDown_kept (s : State) (k cause : Nat) :
    (s.linkDown k cause).kept = s.kept := by
  simp [State.linkDown]

@[simp] theorem execPhyResetTimer_kept (old : State) (k : BitVec 6) (s : State) :
    (after old (execPhyResetTimer k s)).kept = s.kept := by
  simp [execPhyResetTimer]

@[simp] theorem execRxLockChange_kept (old : State) (k : BitVec 6) (lock : Bool) (s : State) :
    (after old (execRxLockChange k lock s)).kept = s.kept := by
  simp [execRxLockChange]

@[simp] theorem execCap_kept (old : State) (k : BitVec 6) (words : List Byte) (s : State) :
    (after old (execCap k words s)).kept = s.kept := by
  simp [execCap]

@[simp] theorem State.trainFailed_kept (s : State) (k fail : Nat) :
    (s.trainFailed k fail).kept = s.kept := by
  simp [State.trainFailed]

@[simp] theorem execTrainingTimeout_kept (old : State) (k : BitVec 6) (s : State) :
    (after old (execTrainingTimeout k s)).kept = s.kept := by
  simp [execTrainingTimeout]

@[simp] theorem execFailedHoldEnd_kept (old : State) (k : BitVec 6) (s : State) :
    (after old (execFailedHoldEnd k s)).kept = s.kept := by
  simp [execFailedHoldEnd]

@[simp] theorem State.proxyDone_kept (s : State) (src : ProxySrc) (status : Nat) (data : Word) :
    (s.proxyDone src status data).kept = s.kept := by
  unfold State.proxyDone
  split <;> simp

@[simp] theorem State.proxiesReset_kept (s : State) (k : Nat) :
    (s.proxiesReset k).kept = s.kept := by
  refine foldl_kept _ _ _ fun t p => ?_
  split
  · split <;> simp
  · rfl

@[simp] theorem State.imgRefuse_kept (s : State) (reason sub sec off role path : Nat) :
    (s.imgRefuse reason sub sec off role path).kept = s.kept := by
  simp [State.imgRefuse]

@[simp] theorem State.deliveryRefused_kept (s : State) :
    (s.deliveryRefused).kept = s.kept := by
  simp [State.deliveryRefused]

@[simp] theorem State.deliveryEnds_kept (s : State) :
    (s.deliveryEnds).kept = s.kept := by
  simp [State.deliveryEnds]

@[simp] theorem State.offerEnds_kept (s : State) (k : Nat) :
    (s.offerEnds k).kept = s.kept := by
  simp [State.offerEnds]

@[simp] theorem State.sessionEnds_kept (s : State) (k : Nat) :
    (s.sessionEnds k).kept = s.kept := by
  simp [State.sessionEnds]

@[simp] theorem State.deliver_kept (s : State) (k : Nat) (asked : Bool) :
    (s.deliver k asked).kept = s.kept := by
  simp [State.deliver]

@[simp] theorem State.deliverIfDue_kept (s : State) (k : Nat) :
    (s.deliverIfDue k).kept = s.kept := by
  simp [State.deliverIfDue]

@[simp] theorem State.linkUp_kept (s : State) (k : Nat) :
    (s.linkUp k).kept = s.kept := by
  simp [State.linkUp]

@[simp] theorem execTrainingCheck_kept (old : State) (k : BitVec 6) (fofsAvg : BitVec 16) (s : State) :
    (after old (execTrainingCheck k fofsAvg s)).kept = s.kept := by
  simp [execTrainingCheck]

@[simp] theorem State.sequenced_kept (s : State) (k : Nat) (f : List Byte) :
    (s.sequenced k f).kept = s.kept := by
  simp [State.sequenced]

@[simp] theorem State.flitUp_kept (s : State) (k : Nat) (flit : List Byte) :
    (s.flitUp k flit).kept = s.kept := by
  simp [State.flitUp]

@[simp] theorem execFlitReceive_kept (old : State) (k : BitVec 6) (pairing : Bool) (d : BitVec 256 × BitVec 256) (s : State) :
    (after old (execFlitReceive k pairing d s)).kept = s.kept := by
  simp [execFlitReceive]

@[simp] theorem execNak_kept (old : State) (k : BitVec 6) (nseq : BitVec 12) (s : State) :
    (after old (execNak k nseq s)).kept = s.kept := by
  simp [execNak]

@[simp] theorem execKeepaliveDue_kept (old : State) (k : BitVec 6) (s : State) :
    (after old (execKeepaliveDue k s)).kept = s.kept := by
  simp [execKeepaliveDue]

@[simp] theorem execKeepaliveLoss_kept (old : State) (k : BitVec 6) (s : State) :
    (after old (execKeepaliveLoss k s)).kept = s.kept := by
  simp [execKeepaliveLoss]

@[simp] theorem execFlitReplayTimeout_kept (old : State) (k : BitVec 6) (s : State) :
    (after old (execFlitReplayTimeout k s)).kept = s.kept := by
  unfold execFlitReplayTimeout
  dsimp only
  split <;> simp

@[simp] theorem execCreditLeak_kept (old : State) (k : BitVec 6) (vc : BitVec 2) (s : State) :
    (after old (execCreditLeak k vc s)).kept = s.kept := by
  unfold execCreditLeak
  dsimp only
  split <;> simp

@[simp] theorem State.slotUp_kept (s : State) (k : Nat) (ue : Bool) :
    (s.slotUp k ue).kept = s.kept := by
  unfold State.slotUp
  dsimp only
  (repeat' split) <;> simp

@[simp] theorem execFlitSlot_kept (old : State) (k : BitVec 6) (ue : Bool) (s : State) :
    (after old (execFlitSlot k ue s)).kept = s.kept := by
  simp [execFlitSlot]

@[simp] theorem State.badMsg_kept (s : State) (k mtype reason : Nat) :
    (s.badMsg k mtype reason).kept = s.kept := by
  simp [State.badMsg]

@[simp] theorem State.deliverMsg_kept (s : State) (k v n : Nat) (m : Msg) :
    (s.deliverMsg k v n m).kept = s.kept := by
  simp [State.deliverMsg]

@[simp] theorem State.assemble_kept (s : State) (k v : Nat) (f : TxFlit) :
    (s.assemble k v f).kept = s.kept := by
  unfold State.assemble
  dsimp only
  (repeat' split) <;> simp

@[simp] theorem execMessageDelivery_kept (old : State) (k : BitVec 6) (vc : BitVec 2) (s : State) :
    (after old (execMessageDelivery k vc s)).kept = s.kept := by
  unfold execMessageDelivery
  dsimp only
  split <;> simp

@[simp] theorem State.latchLink_kept (s : State) (k : Nat) (block : Tab Word) :
    (s.latchLink k block).kept = s.kept := by
  simp [State.latchLink]

@[simp] theorem State.setEvr_kept (s : State) (r : Recorder) :
    (s.setEvr r).kept = s.kept := by
  simp [State.setEvr]

@[simp] theorem execRecorderFlush_kept (old : State) (older60s : Bool) (s : State) :
    (after old (execRecorderFlush older60s s)).kept = s.kept := by
  unfold execRecorderFlush
  dsimp only
  (repeat' split) <;> simp

@[simp] theorem State.opFailed_kept (s : State) (op : FlashOp) :
    (s.opFailed op).kept = s.kept := by
  simp [State.opFailed]

@[simp] theorem execOdometerEntry_kept (old : State) (s : State) :
    (after old (execOdometerEntry s)).kept = s.kept := by
  simp [execOdometerEntry]

@[simp] theorem execOdometerSectorErase_kept (old : State) (s : State) :
    (after old (execOdometerSectorErase s)).kept = s.kept := by
  simp [execOdometerSectorErase]

@[simp] theorem execRecFlushSend_kept (old : State) (older1s : Bool) (s : State) :
    (after old (execRecFlushSend older1s s)).kept = s.kept := by
  simp [execRecFlushSend]

@[simp] theorem execRecFlush_kept (old : State) (k : BitVec 6) (places : List (List Byte)) (s : State) :
    (after old (execRecFlush k places s)).kept = s.kept := by
  simp [execRecFlush]

@[simp] theorem execEvrSelWrite_kept (old : State) (a : Acc) (s : State) :
    (after old (execEvrSelWrite a s)).kept = s.kept := by
  simp [execEvrSelWrite]

@[simp] theorem execEvrReadDone_kept (old : State) (s : State) :
    (after old (execEvrReadDone s)).kept = s.kept := by
  simp [execEvrReadDone]

@[simp] theorem boundaryRecorder_kept (s : State) :
    (boundaryRecorder s).kept = s.kept := by
  simp [boundaryRecorder]

@[simp] theorem State.aonReset_kept (s : State) :
    (s.aonReset).kept = s.kept := by
  simp [State.aonReset]

@[simp] theorem execAonReset_kept (old : State) (release : Bool) (s : State) :
    (after old (execAonReset release s)).kept = s.kept := by
  simp [execAonReset]

@[simp] theorem execCorePgChange_kept (old : State) (level : Bool) (s : State) :
    (after old (execCorePgChange level s)).kept = s.kept := by
  simp [execCorePgChange]

@[simp] theorem State.released_kept (s : State) (tray x2 : Bool) (pkg : BitVec 4) (die : BitVec 3) (lp5 : BitVec 2) :
    (s.released tray x2 pkg die lp5).kept = s.kept := by
  simp [State.released]

@[simp] theorem execResetRelease_kept (old : State) (gradeSel x2 : Bool) (pkg : BitVec 4) (die : BitVec 3) (lp5 : BitVec 2) (stable : Bool) (s : State) :
    (after old (execResetRelease gradeSel x2 pkg die lp5 stable s)).kept = s.kept := by
  simp [execResetRelease]

@[simp] theorem execFuseWordRead_kept (old : State) (answer : Option Word) (s : State) :
    (after old (execFuseWordRead answer s)).kept = s.kept := by
  simp [execFuseWordRead]

@[simp] theorem execFusePhaseEnd_kept (old : State) (us : Word) (s : State) :
    (after old (execFusePhaseEnd us s)).kept = s.kept := by
  simp [execFusePhaseEnd]

@[simp] theorem State.bistMacro_kept (s : State) (verify : Bool) (m : MacroResult) :
    (s.bistMacro verify m).kept = s.kept := by
  simp [State.bistMacro]

@[simp] theorem execMemoryBistGroupDone_kept (old : State) (group : BitVec 3) (failing : List MacroResult) (s : State) :
    (after old (execMemoryBistGroupDone group failing s)).kept = s.kept := by
  simp [execMemoryBistGroupDone]

@[simp] theorem State.abistRecord_kept (s : State) (failures : List AbistFail) :
    (s.abistRecord failures).kept = s.kept := by
  simp [State.abistRecord]

@[simp] theorem execAnalogueBistDone_kept (old : State) (failures : List AbistFail) (s : State) :
    (after old (execAnalogueBistDone failures s)).kept = s.kept := by
  simp [execAnalogueBistDone]

@[simp] theorem State.bistRecord_kept (s : State) :
    (s.bistRecord).kept = s.kept := by
  simp [State.bistRecord]

@[simp] theorem execBistPhaseEnd_kept (old : State) (us : Word) (s : State) :
    (after old (execBistPhaseEnd us s)).kept = s.kept := by
  simp [execBistPhaseEnd]

@[simp] theorem execSfdpDiscovery_kept (old : State) (dev : SfdpResult) (s : State) :
    (after old (execSfdpDiscovery dev s)).kept = s.kept := by
  simp [execSfdpDiscovery]

@[simp] theorem execLpddr5xInit_kept (old : State) (failStep : Byte) (s : State) :
    (after old (execLpddr5xInit failStep s)).kept = s.kept := by
  simp [execLpddr5xInit]

@[simp] theorem cmdBistRun_kept (p : Post) (s : State) :
    ((cmdBistRun p s).getD s).kept = s.kept := by
  unfold cmdBistRun
  dsimp only
  split <;> simp

@[simp] theorem cmdBistAbort_kept (x0 : Post) (s : State) :
    ((cmdBistAbort x0 s).getD s).kept = s.kept := by
  unfold cmdBistAbort
  split <;> simp

@[simp] theorem State.bistReinit_kept (s : State) :
    (s.bistReinit).kept = s.kept := by
  unfold State.bistReinit
  split <;> simp

@[simp] theorem State.senseIsolated_kept (s : State) (on : Bool) :
    (s.senseIsolated on).kept = s.kept := by
  simp [State.senseIsolated]

@[simp] theorem boundaryBist_kept (s : State) :
    (boundaryBist s).kept = s.kept := by
  simp [boundaryBist]

@[simp] theorem execInServiceBistDone_kept (old : State) (repaired unrepaired : Byte) (failures : List AbistFail) (s : State) :
    (after old (execInServiceBistDone repaired unrepaired failures s)).kept = s.kept := by
  simp [execInServiceBistDone]

@[simp] theorem cmdFuseBurn_kept (p : Post) (s : State) :
    ((cmdFuseBurn p s).getD s).kept = s.kept := by
  unfold cmdFuseBurn
  dsimp only
  (repeat' split) <;> simp

@[simp] theorem execFuseBitProgram_kept (old : State) (err : Bool) (s : State) :
    (after old (execFuseBitProgram err s)).kept = s.kept := by
  unfold execFuseBitProgram
  split <;> simp

@[simp] theorem execFuseBurnDone_kept (old : State) (readback : List Word) (s : State) :
    (after old (execFuseBurnDone readback s)).kept = s.kept := by
  simp [execFuseBurnDone]

@[simp] theorem State.setSns_kept (s : State) (x : Sense) :
    (s.setSns x).kept = s.kept := by
  simp [State.setSns]

@[simp] theorem State.holdupAbort_kept (s : State) (why code : Nat) :
    (s.holdupAbort why code).kept = s.kept := by
  simp [State.holdupAbort]

@[simp] theorem State.seqConversion_kept (s : State) (code : BitVec 12) (bad : Bool) :
    (s.seqConversion code bad).kept = s.kept := by
  unfold State.seqConversion
  dsimp only
  (repeat' split) <;> simp

@[simp] theorem State.huConversion_kept (s : State) (code : BitVec 12) :
    (s.huConversion code).kept = s.kept := by
  simp [State.huConversion]

@[simp] theorem execSenseConversion_kept (old : State) (code : BitVec 12) (openOrShort : Bool) (s : State) :
    (after old (execSenseConversion code openOrShort s)).kept = s.kept := by
  simp [execSenseConversion]

@[simp] theorem execRoscWindowOpen_kept (old : State) (r : BitVec 5) (s : State) :
    (after old (execRoscWindowOpen r s)).kept = s.kept := by
  simp [execRoscWindowOpen]

@[simp] theorem execRoscWindowClose_kept (old : State) (r : BitVec 5) (count : BitVec 16) (s : State) :
    (after old (execRoscWindowClose r count s)).kept = s.kept := by
  simp [execRoscWindowClose]

@[simp] theorem execDroopExcursion_kept (old : State) (r : BitVec 5) (depth : BitVec 3) (s : State) :
    (after old (execDroopExcursion r depth s)).kept = s.kept := by
  simp [execDroopExcursion]

@[simp] theorem boundarySense_kept (s : State) :
    (boundarySense s).kept = s.kept := by
  simp [boundarySense]

@[simp] theorem State.latchSense_kept (s : State) :
    (s.latchSense).kept = s.kept := by
  simp [State.latchSense]

@[simp] theorem activateSense_kept (s : State) :
    (activateSense s).kept = s.kept := by
  simp [activateSense]

@[simp] theorem State.setTb_kept (s : State) (t : Timebase) :
    (s.setTb t).kept = s.kept := by
  simp [State.setTb]

@[simp] theorem State.setPtp_kept (s : State) (p : Ptp) :
    (s.setPtp p).kept = s.kept := by
  simp [State.setPtp]

@[simp] theorem State.setTt_kept (s : State) (t : TimeTransfer) :
    (s.setTt t).kept = s.kept := by
  simp [State.setTt]

@[simp] theorem State.phaseFaulted_kept (s : State) :
    (s.phaseFaulted).kept = s.kept := by
  simp [State.phaseFaulted]

@[simp] theorem State.phaseCycle_kept (s : State) (phase : Bool) :
    (s.phaseCycle phase).kept = s.kept := by
  simp [State.phaseCycle]

@[simp] theorem execStrokeAdvance_kept (old : State) (phase : Bool) (s : State) :
    (after old (execStrokeAdvance phase s)).kept = s.kept := by
  simp [execStrokeAdvance]

@[simp] theorem State.renumber_kept (s : State) (v : DWord) :
    (s.renumber v).kept = s.kept := by
  simp [State.renumber]

@[simp] theorem State.jump_kept (s : State) (j : Int) (v : DWord) :
    (s.jump j v).kept = s.kept := by
  simp [State.jump]

@[simp] theorem State.load_kept (s : State) (v : DWord) :
    (s.load v).kept = s.kept := by
  simp [State.load]

@[simp] theorem execStrokeLoad_kept (old : State) (phase : Bool) (value : DWord) (s : State) :
    (after old (execStrokeLoad phase value s)).kept = s.kept := by
  simp [execStrokeLoad]

@[simp] theorem State.segmentNorth_kept (s : State) :
    (s.segmentNorth).kept = s.kept := by
  simp [State.segmentNorth]

@[simp] theorem State.takeRate_kept (s : State) (v : Int) :
    (s.takeRate v).kept = s.kept := by
  simp [State.takeRate]

@[simp] theorem State.holdover_kept (s : State) :
    (s.holdover).kept = s.kept := by
  simp [State.holdover]

@[simp] theorem State.stepTaken_kept (s : State) (d a0 : Int) :
    (s.stepTaken d a0).kept = s.kept := by
  simp [State.stepTaken]

@[simp] theorem boundaryTime_kept (s : State) :
    (boundaryTime s).kept = s.kept := by
  unfold boundaryTime
  dsimp only
  (repeat' split) <;> simp

@[simp] theorem execTbStrokeRead_kept (old : State) (a : Acc) (s : State) :
    (after old (execTbStrokeRead a s)).kept = s.kept := by
  simp [execTbStrokeRead]

@[simp] theorem State.servoStart_kept (s : State) :
    (s.servoStart).kept = s.kept := by
  simp [State.servoStart]

@[simp] theorem State.servoImage_kept (s : State) :
    (s.servoImage).kept = s.kept := by
  simp [State.servoImage]

@[simp] theorem execTbCtrlWrite_kept (old : State) (a : Acc) (s : State) :
    (after old (execTbCtrlWrite a s)).kept = s.kept := by
  simp [execTbCtrlWrite]

@[simp] theorem execTbRateCommit_kept (old : State) (a : Acc) (s : State) :
    (after old (execTbRateCommit a s)).kept = s.kept := by
  simp [execTbRateCommit]

@[simp] theorem State.ptpDiscard_kept (s : State) :
    (s.ptpDiscard).kept = s.kept := by
  simp [State.ptpDiscard]

@[simp] theorem execPtpSync_kept (old : State) (port : BitVec 1) (h : PtpHdr) (t2 originTs : BitVec 128) (s : State) :
    (after old (execPtpSync port h t2 originTs s)).kept = s.kept := by
  simp [execPtpSync]

@[simp] theorem execPtpFollowUp_kept (old : State) (h : PtpHdr) (preciseTs : BitVec 128) (s : State) :
    (after old (execPtpFollowUp h preciseTs s)).kept = s.kept := by
  simp [execPtpFollowUp]

@[simp] theorem execPtpDelayReqSend_kept (old : State) (t3 : BitVec 128) (s : State) :
    (after old (execPtpDelayReqSend t3 s)).kept = s.kept := by
  unfold execPtpDelayReqSend
  split <;> simp

@[simp] theorem State.servoStep_kept (s : State) (l : List Meas) :
    (s.servoStep l).kept = s.kept := by
  simp [State.servoStep]

/-- A step of the rate loop keeps them, said of the function itself: the kernel is then not led to compute with the bounds of
R143, 2 ^ 40 ns apart. -/
def RateKept (f : State → Int → Int → State) : Prop := ∀ s theta li, (f s theta li).kept = s.kept

theorem RateKept.intro {f : State → Int → Int → State} (h : ∀ s theta li, (f s theta li).kept = s.kept) : RateKept f := h

theorem State.rateLoop_rateKept : RateKept State.rateLoop := by
  delta State.rateLoop
  refine .intro fun s theta li => ?_
  beta_reduce
  generalize (fun ns : Nat => decide ((ns : Int) * 2 ^ 40 < theta.natAbs)) = big
  revert big
  refine id fun big => ?_
  dsimp only
  split <;> simp

@[simp] theorem State.rateLoop_kept (s : State) (theta li : Int) : (s.rateLoop theta li).kept = s.kept :=
  State.rateLoop_rateKept s theta li

@[simp] theorem State.measured_kept (s : State) (m : Meas) (mpd li : Int) :
    (s.measured m mpd li).kept = s.kept := by
  unfold State.measured
  dsimp only
  split
  · simp
  · split
    · split
      · simp
      · split <;> simp
    · simp
    · simp
    · split <;> simp
    · simp

@[simp] theorem execPtpDelayResp_kept (old : State) (h : PtpHdr) (forUs : Bool) (t4 : BitVec 128) (s : State) :
    (after old (execPtpDelayResp h forUs t4 s)).kept = s.kept := by
  unfold execPtpDelayResp
  (repeat' split) <;> simp

@[simp] theorem State.enterHoldover_kept (s : State) :
    (s.enterHoldover).kept = s.kept := by
  simp [State.enterHoldover]

@[simp] theorem State.selectMaster_kept (s : State) (foreign : List Foreign) :
    (s.selectMaster foreign).kept = s.kept := by
  simp [State.selectMaster]

@[simp] theorem execPtpAnnounce_kept (old : State) (h : PtpHdr) (ds : PtpDataset) (utcValid : Bool) (utcOfs : BitVec 16) (s : State) :
    (after old (execPtpAnnounce h ds utcValid utcOfs s)).kept = s.kept := by
  simp [execPtpAnnounce]

@[simp] theorem execHoldoverEntry_kept (old : State) (syncTmo : Bool) (s : State) :
    (after old (execHoldoverEntry syncTmo s)).kept = s.kept := by
  simp [execHoldoverEntry]

@[simp] theorem State.ttSend_kept (s : State) (k : Nat) (round : Bool) :
    (s.ttSend k round).kept = s.kept := by
  simp [State.ttSend]

@[simp] theorem boundaryTt_kept (s : State) :
    (boundaryTt s).kept = s.kept := by
  simp [boundaryTt]

@[simp] theorem State.slipSend_kept (s : State) (k : Nat) (set : Bool) (strokes : Int) :
    (s.slipSend k set strokes).kept = s.kept := by
  simp [State.slipSend]

@[simp] theorem State.judgeSlip_kept (s : State) (k : Nat) (theta : Int) :
    (s.judgeSlip k theta).kept = s.kept := by
  simp [State.judgeSlip]

@[simp] theorem State.judgeRound_kept (s : State) :
    (s.judgeRound).kept = s.kept := by
  simp [State.judgeRound]

@[simp] theorem execTtRound_kept (old : State) (s : State) :
    (after old (execTtRound s)).kept = s.kept := by
  simp [execTtRound]

@[simp] theorem execTtReq_kept (old : State) (xn : BitVec 16) (t2 t3 : DWord) (s : State) :
    (after old (execTtReq xn t2 t3 s)).kept = s.kept := by
  simp [execTtReq]

@[simp] theorem execTtResp_kept (old : State) (k : BitVec 6) (xn : BitVec 16) (t1 t2 t3 t4 : DWord) (s : State) :
    (after old (execTtResp k xn t1 t2 t3 t4 s)).kept = s.kept := by
  unfold execTtResp
  dsimp only
  (repeat' split) <;> simp

@[simp] theorem execSlipNotice_kept (old : State) (set : Bool) (_theta : Word) (s : State) :
    (after old (execSlipNotice set _theta s)).kept = s.kept := by
  simp [execSlipNotice]

@[simp] theorem execStrokeJump_kept (old : State) (k : BitVec 6) (j _loaded heat : DWord) (s : State) :
    (after old (execStrokeJump k j _loaded heat s)).kept = s.kept := by
  simp [execStrokeJump]

@[simp] theorem State.setTrc_kept (s : State) (t : Trace) :
    (s.setTrc t).kept = s.kept := by
  simp [State.setTrc]

@[simp] theorem State.setTtr_kept (s : State) (t : TrayTrace) :
    (s.setTtr t).kept = s.kept := by
  simp [State.setTtr]

@[simp] theorem State.trcStop_kept (s : State) :
    (s.trcStop).kept = s.kept := by
  simp [State.trcStop]

@[simp] theorem State.countPut_kept (s : State) :
    (s.countPut).kept = s.kept := by
  unfold State.countPut
  split <;> simp

@[simp] theorem State.ownOverwrite_kept (s : State) (b : Nat) :
    (s.ownOverwrite b).kept = s.kept := by
  simp [State.ownOverwrite]

@[simp] theorem State.beginBlock_kept (s : State) :
    (s.beginBlock).kept = s.kept := by
  simp [State.beginBlock]

@[simp] theorem State.endBlock_kept (s : State) :
    (s.endBlock).kept = s.kept := by
  simp [State.endBlock]

@[simp] theorem State.putPacket_kept (s : State) (p : List DWord) :
    (s.putPacket p).kept = s.kept := by
  simp [State.putPacket]

@[simp] theorem State.writeSlot_kept (f room : Nat) (s : State) : (State.writeSlot f room s).kept = s.kept := by
  induction f generalizing room s with
  | zero => rfl
  | succ f ih =>
    unfold State.writeSlot
    split
    · rfl
    · split
      · simp [ih]
      · rfl

@[simp] theorem execTraceWriterSlot_kept (old : State) (s : State) :
    (after old (execTraceWriterSlot s)).kept = s.kept := by
  simp [execTraceWriterSlot]

@[simp] theorem execTraceDump_kept (old : State) (s : State) :
    (after old (execTraceDump s)).kept = s.kept := by
  unfold execTraceDump
  dsimp only
  (repeat' split) <;> simp

@[simp] theorem execTrcBlock_kept (old : State) (k : BitVec 6) (frame : List Byte) (s : State) :
    (after old (execTrcBlock k frame s)).kept = s.kept := by
  simp [execTrcBlock]

@[simp] theorem State.tapTransfer_kept (s : State) (t : Nat) :
    (s.tapTransfer t).kept = s.kept := by
  unfold State.tapTransfer
  dsimp only
  split <;> simp

@[simp] theorem execTapTransfer_kept (old : State) (tap : BitVec 9) (value : BitVec 16) (edges : BitVec 6) (ofs : BitVec 11) (s : State) :
    (after old (execTapTransfer tap value edges ofs s)).kept = s.kept := by
  simp [execTapTransfer]

@[simp] theorem State.regionComplete_kept (s : State) (r : Nat) :
    (s.regionComplete r).kept = s.kept := by
  simp [State.regionComplete]

@[simp] theorem State.tapsWithdrawn_kept (s : State) (r : Nat) :
    (s.tapsWithdrawn r).kept = s.kept := by
  simp [State.tapsWithdrawn]

@[simp] theorem execTrcFireFlit_kept (old : State) (ofs : BitVec 11) (s : State) :
    (after old (execTrcFireFlit ofs s)).kept = s.kept := by
  simp [execTrcFireFlit]

@[simp] theorem State.arm_kept (s : State) :
    (s.arm).kept = s.kept := by
  simp [State.arm]

@[simp] theorem State.umpireArm_kept (s : State) :
    (s.umpireArm).kept = s.kept := by
  simp [State.umpireArm]

@[simp] theorem cmdTrcArm_kept (x0 : Post) (s : State) :
    ((cmdTrcArm x0 s).getD s).kept = s.kept := by
  unfold cmdTrcArm
  split <;> simp

@[simp] theorem cmdTrcFire_kept (x0 : Post) (s : State) :
    ((cmdTrcFire x0 s).getD s).kept = s.kept := by
  unfold cmdTrcFire
  split <;> simp

@[simp] theorem cmdTrcEmResume_kept (x0 : Post) (s : State) :
    ((cmdTrcEmResume x0 s).getD s).kept = s.kept := by
  unfold cmdTrcEmResume
  split <;> simp

@[simp] theorem State.emActions_kept (s : State) (i : Nat) (die : Option (BitVec 6)) :
    (s.emActions i die).kept = s.kept := by
  simp [State.emActions]

@[simp] theorem execEventMachineTransition_kept (old : State) (n : BitVec 5) (ofs : BitVec 11) (s : State) :
    (after old (execEventMachineTransition n ofs s)).kept = s.kept := by
  unfold execEventMachineTransition
  split <;> simp

@[simp] theorem boundaryEm_kept (s : State) :
    (boundaryEm s).kept = s.kept := by
  simp [boundaryEm]

@[simp] theorem execTraceFreeze_kept (old : State) (s : State) :
    (after old (execTraceFreeze s)).kept = s.kept := by
  simp [execTraceFreeze]

@[simp] theorem execPeriodicBuoy_kept (old : State) (slot : BitVec 23) (s : State) :
    (after old (execPeriodicBuoy slot s)).kept = s.kept := by
  simp [execPeriodicBuoy]

@[simp] theorem execActivateBuoy_kept (old : State) (s : State) :
    (after old (execActivateBuoy s)).kept = s.kept := by
  simp [execActivateBuoy]

@[simp] theorem State.gap_kept (s : State) (region kind : Nat) :
    (s.gap region kind).kept = s.kept := by
  simp [State.gap]

@[simp] theorem State.stepPacket_kept (s : State) (finish : Bool) (step : Word) :
    (s.stepPacket finish step).kept = s.kept := by
  simp [State.stepPacket]

@[simp] theorem execCapEnWrite_kept (old : State) (a : Acc) (s : State) :
    (after old (execCapEnWrite a s)).kept = s.kept := by
  simp [execCapEnWrite]

@[simp] theorem execTrcRdSelWrite_kept (old : State) (a : Acc) (s : State) :
    (after old (execTrcRdSelWrite a s)).kept = s.kept := by
  simp [execTrcRdSelWrite]

@[simp] theorem activateTrace_kept (wasOn : Bool) (s : State) :
    (activateTrace wasOn s).kept = s.kept := by
  simp [activateTrace]

@[simp] theorem State.setUmp_kept (s : State) (u : Umpire) :
    (s.setUmp u).kept = s.kept := by
  simp [State.setUmp]

@[simp] theorem State.setDet_kept (s : State) (n k : Nat) (d : Det) :
    (s.setDet n k d).kept = s.kept := by
  simp [State.setDet]

@[simp] theorem State.stragStep_kept (s : State) (n k : Nat) :
    (s.stragStep n k).kept = s.kept := by
  simp [State.stragStep]

@[simp] theorem State.driftStep_kept (s : State) (n : Nat) :
    (s.driftStep n).kept = s.kept := by
  simp [State.driftStep]

@[simp] theorem State.detRun_kept (s : State) (n : Nat) :
    (s.detRun n).kept = s.kept := by
  unfold State.detRun
  dsimp only
  split
  · rfl
  · split
    · simp
    · split
      · simp
      · refine foldl_kept _ _ _ fun t k => ?_
        split <;> simp

@[simp] theorem execDetectorUpdate_kept (old : State) (s : State) :
    (after old (execDetectorUpdate s)).kept = s.kept := by
  simp [execDetectorUpdate]

@[simp] theorem execDetThresholdCommit_kept (old : State) (a : Acc) (n : BitVec 8) (hi : Bool) (s : State) :
    (after old (execDetThresholdCommit a n hi s)).kept = s.kept := by
  simp [execDetThresholdCommit]

@[simp] theorem execDetSelWrite_kept (old : State) (a : Acc) (s : State) :
    (after old (execDetSelWrite a s)).kept = s.kept := by
  simp [execDetSelWrite]

@[simp] theorem execUmpireEvaluation_kept (old : State) (s : State) :
    (after old (execUmpireEvaluation s)).kept = s.kept := by
  simp [execUmpireEvaluation]

@[simp] theorem State.applyConds_kept (s : State) (w : UmpWork) :
    (s.applyConds w).1.kept = s.kept := by
  have hpair {α : Type} (f : State × List (Nat × Nat) → α → State × List (Nat × Nat)) (hf : ∀ p x, (f p x).1.kept = p.1.kept)
      (l : List α) (p : State × List (Nat × Nat)) : (l.foldl f p).1.kept = p.1.kept := by
    induction l generalizing p with
    | nil => rfl
    | cons x l ih => rw [List.foldl_cons, ih, hf]
  refine hpair _ (fun p m => hpair _ (fun q k => ?_) _ p) _ (s, [])
  dsimp only
  split <;> simp

@[simp] theorem State.verdictChanged_kept (s : State) (k old : Nat) (u : DWord) (role path : Nat) :
    (s.verdictChanged k old u role path).kept = s.kept := by
  simp [State.verdictChanged]

@[simp] theorem State.resetVerdict_kept (s : State) (k : Nat) (u : DWord) :
    (s.resetVerdict k u).kept = s.kept := by
  unfold State.resetVerdict
  dsimp only
  split <;> simp

@[simp] theorem State.moveVerdict_kept (s : State) (k : Nat) (became : List (Nat × Nat)) (u : DWord) :
    (s.moveVerdict k became u).kept = s.kept := by
  simp [State.moveVerdict]

@[simp] theorem State.ruleStarts_kept (s : State) (became : List (Nat × Nat)) :
    (s.ruleStarts became).kept = s.kept := by
  simp [State.ruleStarts]

@[simp] theorem State.lendLevels_kept (s : State) :
    (s.lendLevels).kept = s.kept := by
  simp [State.lendLevels]

@[simp] theorem State.setDiv_kept (s : State) (p d : Nat) :
    (s.setDiv p d).kept = s.kept := by
  simp [State.setDiv]

@[simp] theorem State.govStep_kept (s : State) (r : ProdRec) :
    (s.govStep r).kept = s.kept := by
  simp [State.govStep]

@[simp] theorem State.regStep_kept (s : State) (r : Nat) :
    (s.regStep r).kept = s.kept := by
  simp [State.regStep]

@[simp] theorem State.rulesInForce_kept (s : State) :
    (s.rulesInForce).kept = s.kept := by
  simp [State.rulesInForce]

@[simp] theorem State.heatFigures_kept (s : State) :
    (s.heatFigures).kept = s.kept := by
  simp [State.heatFigures]

@[simp] theorem State.umpireAnew_kept (s : State) :
    (s.umpireAnew).kept = s.kept := by
  simp [State.umpireAnew]

@[simp] theorem State.viewTick_kept (s : State) :
    (s.viewTick).kept = s.kept := by
  simp [State.viewTick]

@[simp] theorem boundaryUmpire_kept (u next : DWord) (unfinished : List (BitVec 10)) (s : State) :
    (boundaryUmpire u next unfinished s).kept = s.kept := by
  unfold boundaryUmpire
  dsimp only
  split <;> simp

@[simp] theorem execDivisorChange_kept (old : State) (region : Bool) (idx : BitVec 10) (s : State) :
    (after old (execDivisorChange region idx s)).kept = s.kept := by
  simp [execDivisorChange]

@[simp] theorem execPolRuleCommit_kept (old : State) (a : Acc) (i : BitVec 6) (w : BitVec 2) (s : State) :
    (after old (execPolRuleCommit a i w s)).kept = s.kept := by
  simp [execPolRuleCommit]

@[simp] theorem execDrnEnCommit_kept (old : State) (a : Acc) (hi : Bool) (s : State) :
    (after old (execDrnEnCommit a hi s)).kept = s.kept := by
  simp [execDrnEnCommit]

@[simp] theorem execDrainSend_kept (old : State) (die : BitVec 6) (s : State) :
    (after old (execDrainSend die s)).kept = s.kept := by
  simp [execDrainSend]

@[simp] theorem State.sendDrainState_kept (s : State) :
    (s.sendDrainState).kept = s.kept := by
  simp [State.sendDrainState]

@[simp] theorem execDrain_kept (old : State) (s : State) :
    (after old (execDrain s)).kept = s.kept := by
  simp [execDrain]

@[simp] theorem execDrainAckChange_kept (old : State) (level : Bool) (s : State) :
    (after old (execDrainAckChange level s)).kept = s.kept := by
  simp [execDrainAckChange]

@[simp] theorem execDrainState_kept (old : State) (k : BitVec 6) (st : Byte) (_stroke : DWord) (s : State) :
    (after old (execDrainState k st _stroke s)).kept = s.kept := by
  simp [execDrainState]

@[simp] theorem execDrainTimeout_kept (old : State) (die : BitVec 6) (s : State) :
    (after old (execDrainTimeout die s)).kept = s.kept := by
  unfold execDrainTimeout
  dsimp only
  split <;> simp

@[simp] theorem execDrainClear_kept (old : State) (s : State) :
    (after old (execDrainClear s)).kept = s.kept := by
  simp [execDrainClear]

@[simp] theorem execLendSet_kept (old : State) (s : State) :
    (after old (execLendSet s)).kept = s.kept := by
  simp [execLendSet]

@[simp] theorem execLendClr_kept (old : State) (s : State) :
    (after old (execLendClr s)).kept = s.kept := by
  simp [execLendClr]

@[simp] theorem execVerdictRepeat_kept (old : State) (die : BitVec 6) (s : State) :
    (after old (execVerdictRepeat die s)).kept = s.kept := by
  unfold execVerdictRepeat
  dsimp only
  split <;> simp

@[simp] theorem execLivenessDisagree_kept (old : State) (die : BitVec 6) (s : State) :
    (after old (execLivenessDisagree die s)).kept = s.kept := by
  simp [execLivenessDisagree]

@[simp] theorem execLivenessAgree_kept (old : State) (die : BitVec 6) (s : State) :
    (after old (execLivenessAgree die s)).kept = s.kept := by
  simp [execLivenessAgree]

@[simp] theorem execUmpJobliveWrite_kept (old : State) (a : Acc) (hi : Bool) (s : State) :
    (after old (execUmpJobliveWrite a hi s)).kept = s.kept := by
  simp [execUmpJobliveWrite]

@[simp] theorem cmdVerdReset_kept (p : Post) (s : State) :
    ((cmdVerdReset p s).getD s).kept = s.kept := by
  unfold cmdVerdReset
  dsimp only
  (repeat' split) <;> simp

@[simp] theorem cmdVerdAck_kept (p : Post) (s : State) :
    ((cmdVerdAck p s).getD s).kept = s.kept := by
  unfold cmdVerdAck
  dsimp only
  split <;> simp

@[simp] theorem State.closeStart_kept (s : State) (timeout : Bool) (role path : Nat) :
    (s.closeStart timeout role path).kept = s.kept := by
  simp [State.closeStart]

@[simp] theorem cmdStart_kept (p : Post) (s : State) :
    ((cmdStart p s).getD s).kept = s.kept := by
  unfold cmdStart
  dsimp only
  split <;> simp

@[simp] theorem execStartAck_kept (old : State) (k : BitVec 6) (id : Word) (late : Bool) (s : State) :
    (after old (execStartAck k id late s)).kept = s.kept := by
  simp [execStartAck]

@[simp] theorem execStartTimeout_kept (old : State) (s : State) :
    (after old (execStartTimeout s)).kept = s.kept := by
  simp [execStartTimeout]

@[simp] theorem execStartFlit_kept (old : State) (id : Word) (deadline : DWord) (s : State) :
    (after old (execStartFlit id deadline s)).kept = s.kept := by
  simp [execStartFlit]

@[simp] theorem execAbortReq_kept (old : State) (coll : BitVec 6) (s : State) :
    (after old (execAbortReq coll s)).kept = s.kept := by
  simp [execAbortReq]

@[simp] theorem State.fanOut_kept (s : State) (c : Nat) (origin : BitVec 48) (stroke : DWord) (but : Option Nat) (nb : Bool) (role path : Nat) :
    (s.fanOut c origin stroke but nb role path).kept = s.kept := by
  simp [State.fanOut]

@[simp] theorem execAbortFlit_kept (old : State) (k coll : BitVec 6) (origin : BitVec 48) (stroke : DWord) (s : State) :
    (after old (execAbortFlit k coll origin stroke s)).kept = s.kept := by
  simp [execAbortFlit]

@[simp] theorem execAbortFrame_kept (old : State) (_port : BitVec 2) (coll : BitVec 6) (origin : BitVec 48) (stroke : DWord) (s : State) :
    (after old (execAbortFrame _port coll origin stroke s)).kept = s.kept := by
  simp [execAbortFrame]

@[simp] theorem cmdAbortPost_kept (p : Post) (s : State) :
    ((cmdAbortPost p s).getD s).kept = s.kept := by
  unfold cmdAbortPost
  dsimp only
  split <;> simp

@[simp] theorem execFastEvt_kept (old : State) (k : BitVec 6) (_n : BitVec 16) (_stroke _heat : DWord) (s : State) :
    (after old (execFastEvt k _n _stroke _heat s)).kept = s.kept := by
  simp [execFastEvt]

@[simp] theorem activateUmpire_kept (s : State) :
    (activateUmpire s).kept = s.kept := by
  simp [activateUmpire]

@[simp] theorem State.takeRole_kept (s : State) (p role : Nat) :
    (s.takeRole p role).kept = s.kept := by
  simp [State.takeRole]

@[simp] theorem State.roleDrop_kept (s : State) (p new cause : Nat) :
    (s.roleDrop p new cause).kept = s.kept := by
  simp [State.roleDrop]

@[simp] theorem State.roleReq_kept (s : State) (a : Acc) (f : State → State) (h : ∀ t, (f t).kept = t.kept) :
    (s.roleReq a f).kept = s.kept := by
  simp [State.roleReq, h]

@[simp] theorem execRoleRequestHigher_kept (old : State) (a : Acc) (tooSoon : Bool) (s : State) :
    (after old (execRoleRequestHigher a tooSoon s)).kept = s.kept := by
  simp [execRoleRequestHigher]

@[simp] theorem execRoleRequestLower_kept (old : State) (a : Acc) (s : State) :
    (after old (execRoleRequestLower a s)).kept = s.kept := by
  simp [execRoleRequestLower]

@[simp] theorem State.respWord_kept (s : State) (p i : Nat) (v : Word) :
    (s.respWord p i v).kept = s.kept := by
  simp [State.respWord]

@[simp] theorem execRoleResponseWrite_kept (old : State) (a : Acc) (s : State) :
    (after old (execRoleResponseWrite a s)).kept = s.kept := by
  simp [execRoleResponseWrite]

@[simp] theorem execRoleCheckDone_kept (old : State) (path : BitVec 4) (s : State) :
    (after old (execRoleCheckDone path s)).kept = s.kept := by
  simp [execRoleCheckDone]

@[simp] theorem execRoleTimeout_kept (old : State) (path : BitVec 4) (s : State) :
    (after old (execRoleTimeout path s)).kept = s.kept := by
  simp [execRoleTimeout]

@[simp] theorem execNonceExpiry_kept (old : State) (path : BitVec 4) (s : State) :
    (after old (execNonceExpiry path s)).kept = s.kept := by
  simp [execNonceExpiry]

@[simp] theorem execRoleLockEnd_kept (old : State) (all : Bool) (path : BitVec 4) (s : State) :
    (after old (execRoleLockEnd all path s)).kept = s.kept := by
  simp [execRoleLockEnd]

@[simp] theorem execSessionFree_kept (old : State) (i : BitVec 4) (s : State) :
    (after old (execSessionFree i s)).kept = s.kept := by
  simp [execSessionFree]

@[simp] theorem State.bindSession_kept (s : State) (port : BitVec 2) (mac : BitVec 48) :
    (s.bindSession port mac).1.kept = s.kept := by
  unfold State.bindSession
  dsimp only
  (repeat' split) <;> simp

@[simp] theorem State.keyChange_kept (s : State) (old : List Byte) :
    (s.keyChange old).kept = s.kept := by
  simp [State.keyChange]

@[simp] theorem State.cmdRefused_kept (s : State) (code result path token role : Nat) :
    (s.cmdRefused code result path token role).kept = s.kept := by
  simp [State.cmdRefused]

@[simp] theorem execCommandPost_kept (old : State) (a : Acc) (s : State) :
    (after old (execCommandPost a s)).kept = s.kept := by
  simp [execCommandPost]

@[simp] theorem State.setLd_kept (s : State) (l : Loader) :
    (s.setLd l).kept = s.kept := by
  simp [State.setLd]

@[simp] theorem State.loadBegin_kept (s : State) (src : Nat) (nv : Bool) (act len : Nat) (stroke : DWord) (role path : Nat) :
    (s.loadBegin src nv act len stroke role path).kept = s.kept := by
  simp [State.loadBegin]

@[simp] theorem cmdImgBegin_kept (p : Post) (s : State) :
    ((cmdImgBegin p s).getD s).kept = s.kept := by
  unfold cmdImgBegin
  dsimp only
  split <;> simp

@[simp] theorem State.loadRefuse_kept (s : State) (f : Nat × Nat × Nat × Nat) :
    (s.loadRefuse f).kept = s.kept := by
  simp [State.loadRefuse]

@[simp] theorem State.imgBytes_kept (s : State) (b : List Byte) :
    (s.imgBytes b).kept = s.kept := by
  unfold State.imgBytes
  dsimp only
  split <;> simp

@[simp] theorem execImgDataWrite_kept (old : State) (a : Acc) (s : State) :
    (after old (execImgDataWrite a s)).kept = s.kept := by
  simp [execImgDataWrite]

@[simp] theorem cmdImgCommit_kept (x0 : Post) (s : State) :
    ((cmdImgCommit x0 s).getD s).kept = s.kept := by
  unfold cmdImgCommit
  split <;> simp

@[simp] theorem State.loadAbort_kept (s : State) (role path : Nat) :
    (s.loadAbort role path).kept = s.kept := by
  simp [State.loadAbort]

@[simp] theorem cmdImgAbort_kept (p : Post) (s : State) :
    ((cmdImgAbort p s).getD s).kept = s.kept := by
  unfold cmdImgAbort
  dsimp only
  split <;> simp

@[simp] theorem cmdImgActivate_kept (p : Post) (s : State) :
    ((cmdImgActivate p s).getD s).kept = s.kept := by
  unfold cmdImgActivate
  split <;> simp

@[simp] theorem cmdImgRedeliver_kept (p : Post) (s : State) :
    ((cmdImgRedeliver p s).getD s).kept = s.kept := by
  simp [cmdImgRedeliver]

@[simp] theorem State.imageReady_kept (s : State) :
    (s.imageReady).kept = s.kept := by
  simp [State.imageReady]

@[simp] theorem State.imageEnds_kept (s : State) :
    (s.imageEnds).kept = s.kept := by
  simp [State.imageEnds]

@[simp] theorem State.defaultsStay_kept (s : State) (reason : Nat) :
    (s.defaultsStay reason).kept = s.kept := by
  simp [State.defaultsStay]

@[simp] theorem execImageCheckDone_kept (old : State) (s : State) :
    (after old (execImageCheckDone s)).kept = s.kept := by
  unfold execImageCheckDone
  (repeat' split) <;> simp

@[simp] theorem State.startImage_kept (s : State) :
    (s.startImage).kept = s.kept := by
  simp [State.startImage]

@[simp] theorem execStorePhaseEnd_kept (old : State) (us : Word) (s : State) :
    (after old (execStorePhaseEnd us s)).kept = s.kept := by
  simp [execStorePhaseEnd]

@[simp] theorem execImgOffer_kept (old : State) (digest : DWord) (len : Word) (s : State) :
    (after old (execImgOffer digest len s)).kept = s.kept := by
  simp [execImgOffer]

@[simp] theorem execImgSect_kept (old : State) (off : Word) (bytes : List Byte) (s : State) :
    (after old (execImgSect off bytes s)).kept = s.kept := by
  simp [execImgSect]

@[simp] theorem execImgOfferRepeat_kept (old : State) (k : BitVec 6) (s : State) :
    (after old (execImgOfferRepeat k s)).kept = s.kept := by
  unfold execImgOfferRepeat
  (repeat' split) <;> simp

@[simp] theorem execDeliverySectionSend_kept (old : State) (s : State) :
    (after old (execDeliverySectionSend s)).kept = s.kept := by
  unfold execDeliverySectionSend
  (repeat' split) <;> simp

@[simp] theorem execImageActive_kept (old : State) (k : BitVec 6) (digest : DWord) (ver : Word) (src : BitVec 2) (_heat : DWord) (_period _phase : Word) (_stroke : DWord) (s : State) :
    (after old (execImageActive k digest ver src _heat _period _phase _stroke s)).kept = s.kept := by
  simp [execImageActive]

@[simp] theorem State.setLed_kept (s : State) (l : Ledger) :
    (s.setLed l).kept = s.kept := by
  simp [State.setLed]

@[simp] theorem State.ledgerPush_kept (s : State) (e : LedgerIn) :
    (s.ledgerPush e).kept = s.kept := by
  simp [State.ledgerPush]

@[simp] theorem State.shardEntry_kept (s : State) (e : LedgerIn) :
    (s.shardEntry e).kept = s.kept := by
  simp [State.shardEntry]

@[simp] theorem State.ledgerWrite_kept (s : State) (e : LedgerIn) :
    (s.ledgerWrite e).kept = s.kept := by
  simp [State.ledgerWrite]

@[simp] theorem execLedgerSlot_kept (old : State) (s : State) :
    (after old (execLedgerSlot s)).kept = s.kept := by
  simp [execLedgerSlot]

@[simp] theorem execLedgerRdRead_kept (old : State) (a : Acc) (s : State) :
    (after old (execLedgerRdRead a s)).kept = s.kept := by
  simp [execLedgerRdRead]

@[simp] theorem State.mark_kept (s : State) (finish : Bool) (step : Word) :
    (s.mark finish step).kept = s.kept := by
  simp [State.mark]

@[simp] theorem execCatchMark_kept (old : State) (step : Word) (s : State) :
    (after old (execCatchMark step s)).kept = s.kept := by
  simp [execCatchMark]

@[simp] theorem execFinishMark_kept (old : State) (step : Word) (s : State) :
    (after old (execFinishMark step s)).kept = s.kept := by
  simp [execFinishMark]

@[simp] theorem State.shardLow_kept (s : State) (i : Nat) (w : Word) :
    (s.shardLow i w).kept = s.kept := by
  simp [State.shardLow]

@[simp] theorem execShdArmWrite_kept (old : State) (a : Acc) (i : BitVec 10) (s : State) :
    (after old (execShdArmWrite a i s)).kept = s.kept := by
  simp [execShdArmWrite]

@[simp] theorem cmdShardClose_kept (p : Post) (s : State) :
    ((cmdShardClose p s).getD s).kept = s.kept := by
  unfold cmdShardClose
  split <;> simp

@[simp] theorem execReplayReq_kept (old : State) (step : Word) (_obj : BitVec 12) (_kind num : Byte) (s : State) :
    (after old (execReplayReq step _obj _kind num s)).kept = s.kept := by
  simp [execReplayReq]

@[simp] theorem execReplayHandshake_kept (old : State) (s : State) :
    (after old (execReplayHandshake s)).kept = s.kept := by
  unfold execReplayHandshake
  split <;> simp

@[simp] theorem State.replayAnswer_kept (s : State) (cause : Nat) :
    (s.replayAnswer cause).kept = s.kept := by
  unfold State.replayAnswer
  split <;> simp

@[simp] theorem execReplayAckRise_kept (old : State) (ok : Bool) (s : State) :
    (after old (execReplayAckRise ok s)).kept = s.kept := by
  simp [execReplayAckRise]

@[simp] theorem execReplayNoAck_kept (old : State) (s : State) :
    (after old (execReplayNoAck s)).kept = s.kept := by
  simp [execReplayNoAck]

@[simp] theorem execReplayAckFall_kept (old : State) (s : State) :
    (after old (execReplayAckFall s)).kept = s.kept := by
  simp [execReplayAckFall]

@[simp] theorem activateLedger_kept (s : State) :
    (activateLedger s).kept = s.kept := by
  simp [activateLedger]

@[simp] theorem State.setScn_kept (s : State) (x : Scan) :
    (s.setScn x).kept = s.kept := by
  simp [State.setScn]

@[simp] theorem State.setChan_kept (s : State) (c : Nat) (x : Channel) :
    (s.setChan c x).kept = s.kept := by
  simp [State.setChan]

@[simp] theorem execScnPost_kept (old : State) (a : Acc) (s : State) :
    (after old (execScnPost a s)).kept = s.kept := by
  simp [execScnPost]

@[simp] theorem State.complete_kept (s : State) (c : Nat) (x : Running) (status : BitVec 2) :
    (s.complete c x status).kept = s.kept := by
  simp [State.complete]

@[simp] theorem State.completeReady_kept (c n : Nat) (s : State) : (State.completeReady c n s).kept = s.kept := by
  induction n generalizing s with
  | zero => rfl
  | succ n ih =>
    unfold State.completeReady
    dsimp only
    split
    · rfl
    · split
      · simp [ih]
      · split
        · simp [ih]
        · rfl

@[simp] theorem State.finishRuns_kept (s : State) (c : Nat) :
    (s.finishRuns c).kept = s.kept := by
  simp [State.finishRuns]

@[simp] theorem execDescriptorStart_kept (old : State) (c : BitVec 3) (s : State) :
    (after old (execDescriptorStart c s)).kept = s.kept := by
  unfold execDescriptorStart
  dsimp only
  split <;> simp

@[simp] theorem execScanReadBuild_kept (old : State) (c : BitVec 3) (s : State) :
    (after old (execScanReadBuild c s)).kept = s.kept := by
  unfold execScanReadBuild
  dsimp only
  (repeat' split) <;> simp

@[simp] theorem execScanReadIssue_kept (old : State) (lane : BitVec 1) (s : State) :
    (after old (execScanReadIssue lane s)).kept = s.kept := by
  unfold execScanReadIssue
  (repeat' split) <;> simp

@[simp] theorem execScanReturn_kept (old : State) (lane : BitVec 1) (tag : BitVec 9) (data : List Byte) (psn perr : BitVec 2) (s : State) :
    (after old (execScanReturn lane tag data psn perr s)).kept = s.kept := by
  unfold execScanReturn
  dsimp only [after_next]
  split
  · rfl
  · split
    · split <;> simp [-List.reduceReplicate]
    · split <;> simp
    · simp

@[simp] theorem execCheckUnitDone_kept (old : State) (s : State) :
    (after old (execCheckUnitDone s)).kept = s.kept := by
  unfold execCheckUnitDone
  dsimp only
  (repeat' split) <;> simp

@[simp] theorem execSegmentFold_kept (old : State) (c : BitVec 3) (s : State) :
    (after old (execSegmentFold c s)).kept = s.kept := by
  unfold execSegmentFold
  dsimp only
  (repeat' split) <;> simp

@[simp] theorem State.endRun_kept (s : State) (c : BitVec 3) (i : Nat) (status : BitVec 2) :
    (s.endRun c i status).kept = s.kept := by
  unfold State.endRun
  dsimp only
  split <;> simp

@[simp] theorem State.timedOut_kept (s : State) (c : BitVec 3) (i : Nat) (entry : BitVec 6) :
    (s.timedOut c i entry).kept = s.kept := by
  simp [State.timedOut]

@[simp] theorem execScanTimeout_kept (old : State) (c : BitVec 3) (entry : BitVec 6) (s : State) :
    (after old (execScanTimeout c entry s)).kept = s.kept := by
  unfold execScanTimeout
  dsimp only
  split <;> simp

@[simp] theorem State.abortChan_kept (s : State) (c : BitVec 3) :
    (s.abortChan c).kept = s.kept := by
  simp [State.abortChan]

@[simp] theorem cmdScanAbort_kept (p : Post) (s : State) :
    ((cmdScanAbort p s).getD s).kept = s.kept := by
  unfold cmdScanAbort
  dsimp only
  split <;> simp

@[simp] theorem execScnChLastIdRead_kept (old : State) (a : Acc) (c : BitVec 3) (s : State) :
    (after old (execScnChLastIdRead a c s)).kept = s.kept := by
  simp [execScnChLastIdRead]

@[simp] theorem State.scanStopped_kept (s : State) :
    (s.scanStopped).kept = s.kept := by
  refine (foldl_kept _ _ _ fun t c => ?_).trans (by simp)
  refine (State.finishRuns_kept _ _).trans (foldl_kept _ _ _ fun u i => ?_)
  dsimp only
  split <;> simp

@[simp] theorem State.setTe_kept (s : State) (t : Tree) :
    (s.setTe t).kept = s.kept := by
  simp [State.setTe]

@[simp] theorem State.treeNote_kept (s : State) (code : Nat) (data : List Byte) :
    (s.treeNote code data).kept = s.kept := by
  simp [State.treeNote]

@[simp] theorem State.nodeError_kept (s : State) (ts : List TreeRec) (t i : Nat) :
    (s.nodeError ts t i).kept = s.kept := by
  simp [State.nodeError]

@[simp] theorem State.visit_kept (s : State) (ts : List TreeRec) (ues : List (Nat × Nat × Nat)) (r : TreeRun) (e : Nat × Nat) :
    (s.visit ts ues r e).1.kept = s.kept := by
  unfold State.visit
  split <;> simp

@[simp] theorem State.runWaves_kept (ts : List TreeRec) (ues : List (Nat × Nat × Nat)) (n : Nat) (s : State) (r : TreeRun) :
    (State.runWaves ts ues n s r).1.kept = s.kept := by
  have hpair (l : List (Nat × Nat)) (p : State × TreeRun) :
      (l.foldl (fun (p : State × TreeRun) e => p.1.visit ts ues p.2 e) p).1.kept = p.1.kept := by
    induction l generalizing p with
    | nil => rfl
    | cons x l ih => rw [List.foldl_cons, ih, State.visit_kept]
  induction n generalizing s r with
  | zero => rfl
  | succ n ih =>
    unfold State.runWaves
    split
    · rfl
    · rw [ih, hpair]

@[simp] theorem execTreeScoring_kept (old : State) (late : Bool) (ces : BitVec 16) (ues : List (BitVec 6 × BitVec 12 × BitVec 16)) (s : State) :
    (after old (execTreeScoring late ces ues s)).kept = s.kept := by
  simp [execTreeScoring]

@[simp] theorem execStreamWindowLoad_kept (old : State) (s : State) :
    (after old (execStreamWindowLoad s)).kept = s.kept := by
  simp [execStreamWindowLoad]

@[simp] theorem execBlobCheckDone_kept (old : State) (readErr : Option (BitVec 32)) (s : State) :
    (after old (execBlobCheckDone readErr s)).kept = s.kept := by
  unfold execBlobCheckDone
  (repeat' split) <;> simp

@[simp] theorem execBlobCopyDone_kept (old : State) (s : State) :
    (after old (execBlobCopyDone s)).kept = s.kept := by
  simp [execBlobCopyDone]

@[simp] theorem execTeModelReady_kept (old : State) (s : State) :
    (after old (execTeModelReady s)).kept = s.kept := by
  simp [execTeModelReady]

@[simp] theorem boundaryTree_kept (unfinished : List (BitVec 10)) (s : State) :
    (boundaryTree unfinished s).kept = s.kept := by
  unfold boundaryTree
  extract_lets counted lostStep scored
  have hscored : scored.kept = s.kept := by
    simp only [scored]
    split <;> simp [lostStep]
  simp [hscored]

@[simp] theorem execTeScoreHeatRead_kept (old : State) (a : Acc) (s : State) :
    (after old (execTeScoreHeatRead a s)).kept = s.kept := by
  simp [execTeScoreHeatRead]

@[simp] theorem execTeFselWrite_kept (old : State) (a : Acc) (s : State) :
    (after old (execTeFselWrite a s)).kept = s.kept := by
  simp [execTeFselWrite, -List.reduceReplicate]

@[simp] theorem cmdTeBlobBegin_kept (p : Post) (s : State) :
    ((cmdTeBlobBegin p s).getD s).kept = s.kept := by
  unfold cmdTeBlobBegin
  split <;> simp

@[simp] theorem cmdTeBlobEnd_kept (x0 : Post) (s : State) :
    ((cmdTeBlobEnd x0 s).getD s).kept = s.kept := by
  unfold cmdTeBlobEnd
  split <;> simp

@[simp] theorem cmdTeBlobCheck_kept (x0 : Post) (s : State) :
    ((cmdTeBlobCheck x0 s).getD s).kept = s.kept := by
  unfold cmdTeBlobCheck
  split <;> simp

@[simp] theorem State.setPwr_kept (s : State) (p : Power) :
    (s.setPwr p).kept = s.kept := by
  simp [State.setPwr]

@[simp] theorem execPowerFailEnd_kept (old : State) (ms : Word) (s : State) :
    (after old (execPowerFailEnd ms s)).kept = s.kept := by
  simp [execPowerFailEnd]

@[simp] theorem execBlkPdReq_kept (old : State) (level : Bool) (s : State) :
    (after old (execBlkPdReq level s)).kept = s.kept := by
  simp [execBlkPdReq]

@[simp] theorem boundaryPower_kept (s : State) :
    (boundaryPower s).kept = s.kept := by
  simp [boundaryPower]

@[simp] theorem execBlkPdAck_kept (old : State) (outstanding : Bool) (s : State) :
    (after old (execBlkPdAck outstanding s)).kept = s.kept := by
  simp [execBlkPdAck]

@[simp] theorem execHoldupMeasurement_kept (old : State) (code : BitVec 12) (s : State) :
    (after old (execHoldupMeasurement code s)).kept = s.kept := by
  simp [execHoldupMeasurement]

@[simp] theorem execHoldupMeasurementEnd_kept (old : State) (below : Bool) (s : State) :
    (after old (execHoldupMeasurementEnd below s)).kept = s.kept := by
  simp [execHoldupMeasurementEnd]

@[simp] theorem State.setNb_kept (s : State) (n : North) :
    (s.setNb n).kept = s.kept := by
  simp [State.setNb]

@[simp] theorem State.setT1s_kept (s : State) (t : T1s) :
    (s.setT1s t).kept = s.kept := by
  simp [State.setT1s]

@[simp] theorem State.portCount_kept (s : State) (p i : Nat) :
    (s.portCount p i).kept = s.kept := by
  simp [State.portCount]

@[simp] theorem execEthFrameReceive_kept (old : State) (port : BitVec 1) (f : EthFrame) (s : State) :
    (after old (execEthFrameReceive port f s)).kept = s.kept := by
  simp [execEthFrameReceive]

@[simp] theorem execNbPortState_kept (old : State) (port : BitVec 1) (up fecLock : Bool) (s : State) :
    (after old (execNbPortState port up fecLock s)).kept = s.kept := by
  simp [execNbPortState]

@[simp] theorem State.frameSent_kept (s : State) (p c : Nat) (f : NbFrame) :
    (s.frameSent p c f).kept = s.kept := by
  simp [State.frameSent]

@[simp] theorem execEgressFrameSelect_kept (old : State) (port : BitVec 1) (t : BitVec 128) (s : State) :
    (after old (execEgressFrameSelect port t s)).kept = s.kept := by
  unfold execEgressFrameSelect
  dsimp only
  (repeat' split) <;> simp

@[simp] theorem State.overrun_kept (s : State) (p : Nat) (old new : Byte) (busy : Option (BitVec 3)) :
    (s.overrun p old new busy).kept = s.kept := by
  unfold State.overrun
  split <;> simp

@[simp] theorem execGateEntryStart_kept (old : State) (port : BitVec 1) (entry : BitVec 7) (busy : Option (BitVec 3)) (s : State) :
    (after old (execGateEntryStart port entry busy s)).kept = s.kept := by
  unfold execGateEntryStart
  dsimp only
  (repeat' split) <;> simp

@[simp] theorem execGateChangeTime_kept (old : State) (port : BitVec 1) (busy : Option (BitVec 3)) (s : State) :
    (after old (execGateChangeTime port busy s)).kept = s.kept := by
  unfold execGateChangeTime
  dsimp only
  split <;> simp

@[simp] theorem State.gateChange_kept (s : State) (a : Acc) (p : Nat) :
    (s.gateChange a p).kept = s.kept := by
  simp [State.gateChange]

@[simp] theorem State.gateWrite_kept (s : State) (a : Acc) (p : Nat) :
    (s.gateWrite a p).kept = s.kept := by
  simp [State.gateWrite]

@[simp] theorem execNbGateChgWrite_kept (old : State) (a : Acc) (p : BitVec 1) (s : State) :
    (after old (execNbGateChgWrite a p s)).kept = s.kept := by
  simp [execNbGateChgWrite]

@[simp] theorem boundaryNorth_kept (s : State) :
    (boundaryNorth s).kept = s.kept := by
  simp [boundaryNorth]

@[simp] theorem State.portRestart_kept (s : State) (p : Nat) :
    (s.portRestart p).kept = s.kept := by
  simp [State.portRestart]

@[simp] theorem activateNorth_kept (old : Nat) (s : State) :
    (activateNorth old s).kept = s.kept := by
  simp [activateNorth]

@[simp] theorem State.stranger_kept (s : State) (src : BitVec 48) :
    (s.stranger src).kept = s.kept := by
  simp [State.stranger]

@[simp] theorem execT1sFrameReceive_kept (old : State) (f : EthFrame) (s : State) :
    (after old (execT1sFrameReceive f s)).kept = s.kept := by
  simp [execT1sFrameReceive]

@[simp] theorem State.t1sClash_kept (s : State) (kind : Nat) (mac : BitVec 48) :
    (s.t1sClash kind mac).kept = s.kept := by
  simp [State.t1sClash]

@[simp] theorem execNbT1sIdWrite_kept (old : State) (a : Acc) (s : State) :
    (after old (execNbT1sIdWrite a s)).kept = s.kept := by
  simp [execNbT1sIdWrite]

@[simp] theorem execPlcaModeChange_kept (old : State) (plca : Bool) (s : State) :
    (after old (execPlcaModeChange plca s)).kept = s.kept := by
  simp [execPlcaModeChange]

@[simp] theorem execDiscoverSend_kept (old : State) (s : State) :
    (after old (execDiscoverSend s)).kept = s.kept := by
  simp [execDiscoverSend]

@[simp] theorem execDiscover_kept (old : State) (src : BitVec 48) (node : Byte) (tray : BitVec 18) (s : State) :
    (after old (execDiscover src node tray s)).kept = s.kept := by
  simp [execDiscover]

@[simp] theorem execEchoExchange_kept (old : State) (peer : BitVec 4) (s : State) :
    (after old (execEchoExchange peer s)).kept = s.kept := by
  unfold execEchoExchange
  split <;> simp

@[simp] theorem execEchoReq_kept (old : State) (src : BitVec 48) (xn : BitVec 16) (s : State) :
    (after old (execEchoReq src xn s)).kept = s.kept := by
  simp [execEchoReq]

@[simp] theorem execEchoRsp_kept (old : State) (src : BitVec 48) (xn : BitVec 16) (turnNs rttCycles : Word) (s : State) :
    (after old (execEchoRsp src xn turnNs rttCycles s)).kept = s.kept := by
  simp [execEchoRsp]

@[simp] theorem State.echoAnswers_kept (s : State) :
    (s.echoAnswers).kept = s.kept := by
  simp [State.echoAnswers]

@[simp] theorem State.t1sSend_kept (s : State) (n : Nat) :
    (s.t1sSend n).kept = s.kept := by
  simp [State.t1sSend]

@[simp] theorem execTransmitOpportunity_kept (old : State) (evidence : BitVec 3) (s : State) :
    (after old (execTransmitOpportunity evidence s)).kept = s.kept := by
  simp [execTransmitOpportunity]

@[simp] theorem execRegReq_kept (old : State) (port : BitVec 2) (src : BitVec 48) (reqid : Word) (entries : List ReqEntry) (s : State) :
    (after old (execRegReq port src reqid entries s)).kept = s.kept := by
  unfold execRegReq
  dsimp only
  (repeat' split) <;> simp

@[simp] theorem State.proxyAccess_kept (s : State) (src : ProxySrc) (wr : Bool) (off : Nat) (data : Word) :
    (s.proxyAccess src wr off data).kept = s.kept := by
  unfold State.proxyAccess
  split <;> simp

@[simp] theorem execProxyAccess_kept (old : State) (src : ProxySrc) (wr : Bool) (off : BitVec 26) (data : Word) (s : State) :
    (after old (execProxyAccess src wr off data s)).kept = s.kept := by
  unfold execProxyAccess
  (repeat' split) <;> simp

@[simp] theorem execProxyReq_kept (old : State) (tag flags : Byte) (off data : Word) (s : State) :
    (after old (execProxyReq tag flags off data s)).kept = s.kept := by
  simp [execProxyReq]

@[simp] theorem execProxyRsp_kept (old : State) (k : BitVec 6) (tag status : Byte) (data : Word) (s : State) :
    (after old (execProxyRsp k tag status data s)).kept = s.kept := by
  unfold execProxyRsp
  dsimp only
  (repeat' split) <;> simp

@[simp] theorem State.overran_kept (s : State) (lost : List (BitVec 10)) :
    (s.overran lost).kept = s.kept := by
  unfold State.overran
  split <;> simp

@[simp] theorem State.overMarks_kept (s : State) (u : DWord) (lost : List (BitVec 10)) :
    (s.overMarks u lost).kept = s.kept := by
  simp [State.overMarks]

@[simp] theorem State.sendDetrec_kept (s : State) (u : DWord) :
    (s.sendDetrec u).kept = s.kept := by
  simp [State.sendDetrec]

@[simp] theorem State.sendHdr_kept (s : State) (u : DWord) :
    (s.sendHdr u).kept = s.kept := by
  simp [State.sendHdr]

@[simp] theorem State.heatBuoy_kept (s : State) (next : DWord) :
    (s.heatBuoy next).kept = s.kept := by
  simp [State.heatBuoy]

@[simp] theorem State.boundaryBlocks_kept (s : State) (lost : List (BitVec 10)) :
    (s.boundaryBlocks lost).kept = s.kept := by
  simp [State.boundaryBlocks]

@[simp] theorem State.noHeat_kept (s : State) :
    (s.noHeat).kept = s.kept := by
  simp [State.noHeat]

@[simp] theorem State.heatEnds_kept (s : State) (next : DWord) (unfinished : List (BitVec 10)) :
    (s.heatEnds next unfinished).kept = s.kept := by
  simp [State.heatEnds]

@[simp] theorem State.heatBegins_kept (s : State) (next : DWord) :
    (s.heatBegins next).kept = s.kept := by
  simp [State.heatBegins]

@[simp] theorem State.boundary_kept (s : State) (next : DWord) (meas : BitVec 23) (unfinished : List (BitVec 10)) :
    (s.boundary next meas unfinished).kept = s.kept := by
  simp [State.boundary]

@[simp] theorem State.substituted_kept (s : State) (b : Bool) :
    (s.substituted b).kept = s.kept := by
  simp [State.substituted]

@[simp] theorem execHeatBoundary_kept (old : State) (meas : BitVec 23) (unfinished : List (BitVec 10)) (s : State) :
    (after old (execHeatBoundary meas unfinished s)).kept = s.kept := by
  simp [execHeatBoundary]

@[simp] theorem execSubstituteHeatBoundary_kept (old : State) (unfinished : List (BitVec 10)) (s : State) :
    (after old (execSubstituteHeatBoundary unfinished s)).kept = s.kept := by
  simp [execSubstituteHeatBoundary]

@[simp] theorem State.takeImage_kept (s : State) :
    (s.takeImage).kept = s.kept := by
  simp [State.takeImage]

@[simp] theorem State.trayActivates_kept (s : State) :
    (s.trayActivates).kept = s.kept := by
  simp [State.trayActivates]

@[simp] theorem State.activate_kept (s : State) :
    (s.activate).kept = s.kept := by
  simp [State.activate]

@[simp] theorem execImageActivation_kept (old : State) (s : State) :
    (after old (execImageActivation s)).kept = s.kept := by
  simp [execImageActivation]

@[simp] theorem State.setInt_kept (s : State) (i : Integ) :
    (s.setInt i).kept = s.kept := by
  simp [State.setInt]

@[simp] theorem State.breakPair_kept (s : State) (off v : Nat) :
    (s.breakPair off v).kept = s.kept := by
  simp [State.breakPair]

@[simp] theorem State.cplEffect_kept (s : State) (item i : Nat) :
    (s.cplEffect item i).kept = s.kept := by
  unfold State.cplEffect
  split <;> simp

@[simp] theorem State.cplFault_kept (s : State) (item i : Nat) :
    (s.cplFault item i).kept = s.kept := by
  simp [State.cplFault]

@[simp] theorem execComplementFault_kept (old : State) (item : BitVec 4) (index : Byte) (s : State) :
    (after old (execComplementFault item index s)).kept = s.kept := by
  simp [execComplementFault]

@[simp] theorem cmdCplInject_kept (p : Post) (s : State) :
    ((cmdCplInject p s).getD s).kept = s.kept := by
  unfold cmdCplInject
  dsimp only
  split <;> simp

@[simp] theorem execErrStickyClear_kept (old : State) (a : Acc) (n : BitVec 2) (s : State) :
    (after old (execErrStickyClear a n s)).kept = s.kept := by
  simp [execErrStickyClear]

@[simp] theorem execWc2Stage_kept (old : State) (a : Acc) (off : BitVec 20) (s : State) :
    (after old (execWc2Stage a off s)).kept = s.kept := by
  simp [execWc2Stage]

@[simp] theorem execCrossingTransfer_kept (old : State) (d : BitVec 6) (toCore : Bool) (value : DWord) (s : State) :
    (after old (execCrossingTransfer d toCore value s)).kept = s.kept := by
  simp [execCrossingTransfer]

@[simp] theorem State.xingStopped_kept (s : State) (d : Nat) :
    (s.xingStopped d).kept = s.kept := by
  simp [State.xingStopped]

@[simp] theorem State.regionStopped_kept (s : State) (r : Nat) :
    (s.regionStopped r).kept = s.kept := by
  simp [State.regionStopped]

@[simp] theorem State.t1sStopped_kept (s : State) :
    (s.t1sStopped).kept = s.kept := by
  simp [State.t1sStopped]

@[simp] theorem State.strokeStopped_kept (s : State) :
    (s.strokeStopped).kept = s.kept := by
  simp [State.strokeStopped]

@[simp] theorem State.storeLoss_kept (s : State) :
    (s.storeLoss).kept = s.kept := by
  simp [State.storeLoss]

@[simp] theorem State.memFault_kept (s : State) (m : Nat) (ue : Bool) (addr : Nat) :
    (s.memFault m ue addr).kept = s.kept := by
  unfold State.memFault
  (repeat' split) <;> simp

@[simp] theorem execCrossingRearm_kept (old : State) (d : BitVec 6) (s : State) :
    (after old (execCrossingRearm d s)).kept = s.kept := by
  unfold execCrossingRearm
  dsimp only
  (repeat' split) <;> simp

@[simp] theorem State.setHeat_kept (s : State) (h : Heat) :
    (s.setHeat h).kept = s.kept := by
  simp [State.setHeat]

@[simp] theorem execLpReqRise_kept (old : State) (r : BitVec 5) (s : State) :
    (after old (execLpReqRise r s)).kept = s.kept := by
  simp [execLpReqRise]

@[simp] theorem execLpAckRise_kept (old : State) (r : BitVec 5) (s : State) :
    (after old (execLpAckRise r s)).kept = s.kept := by
  simp [execLpAckRise]

@[simp] theorem execLpReqFall_kept (old : State) (r : BitVec 5) (s : State) :
    (after old (execLpReqFall r s)).kept = s.kept := by
  simp [execLpReqFall]

@[simp] theorem execLpAckFall_kept (old : State) (r : BitVec 5) (s : State) :
    (after old (execLpAckFall r s)).kept = s.kept := by
  simp [execLpAckFall]

@[simp] theorem execDormancyExit_kept (old : State) (r : BitVec 5) (s : State) :
    (after old (execDormancyExit r s)).kept = s.kept := by
  simp [execDormancyExit]

@[simp] theorem State.storeReg_kept (s : State) (a : Acc) (off : Nat) :
    (s.storeReg a off).kept = s.kept := by
  simp [State.storeReg]

@[simp] theorem execTulStateRead_kept (old : State) (a : Acc) (k : BitVec 6) (s : State) :
    (after old (execTulStateRead a k s)).kept = s.kept := by
  simp [execTulStateRead]

@[simp] theorem State.ownRead_kept (s : State) (a : Acc) (off : Nat) :
    ((s.ownRead a off).getD s).kept = s.kept := by
  unfold State.ownRead
  (repeat' split) <;> simp

@[simp] theorem State.performRead_kept (s : State) (a : Acc) (off : Nat) :
    (s.performRead a off).1.kept = s.kept := by
  simp [State.performRead]

@[simp] theorem execRaRequest_kept (old : State) (wr : Bool) (be : BitVec 4) (ofs : BitVec 25) (wdata : Word) (tag : BitVec 9) (s : State) :
    (after old (execRaRequest wr be ofs wdata tag s)).kept = s.kept := by
  simp [execRaRequest]

@[simp] theorem execExfinRegUpdate_kept (old : State) (v : BitVec 66) (s : State) :
    (after old (execExfinRegUpdate v s)).kept = s.kept := by
  simp [execExfinRegUpdate]

@[simp] theorem execJtTrst_kept (old : State) (s : State) :
    (after old (execJtTrst s)).kept = s.kept := by
  simp [execJtTrst]

@[simp] theorem cmdTallyLoad_kept (p : Post) (s : State) :
    ((cmdTallyLoad p s).getD s).kept = s.kept := by
  unfold cmdTallyLoad
  dsimp only
  split <;> simp

@[simp] theorem cmdTallyDump_kept (p : Post) (s : State) :
    ((cmdTallyDump p s).getD s).kept = s.kept := by
  unfold cmdTallyDump
  split <;> simp

@[simp] theorem cmdTallyResume_kept (p : Post) (s : State) :
    ((cmdTallyResume p s).getD s).kept = s.kept := by
  unfold cmdTallyResume
  split <;> simp

@[simp] theorem cmdUlRetrain_kept (p : Post) (s : State) :
    ((cmdUlRetrain p s).getD s).kept = s.kept := by
  unfold cmdUlRetrain
  dsimp only
  split <;> simp

@[simp] theorem cmdEvrFlush_kept (x0 : Post) (s : State) :
    ((cmdEvrFlush x0 s).getD s).kept = s.kept := by
  simp [cmdEvrFlush]

/-- The effect of every command of the table keeps them. -/
theorem run_kept {c : CmdDef} (hc : c ∈ commandTable) (p : Post) (s : State) : ((c.run p s).getD s).kept = s.kept := by
  revert c
  simp [commandTable]

theorem cmdOf_mem {code : Nat} {c : CmdDef} (h : cmdOf code = some c) : c ∈ commandTable :=
  List.mem_of_find?_eq_some h

@[simp] theorem State.verdict_kept (s : State) (code : Nat) (p : Post) : (s.verdict code p).2.kept = s.kept := by
  unfold State.verdict
  split
  · rfl
  · next c hrow =>
    have hrun := run_kept (cmdOf_mem hrow) p s
    split
    · rfl
    · split
      · rfl
      · generalize (!c.grade.testBit (if s.isT then 1 else 0)) = wrong
        cases wrong with
        | true => rfl
        | false =>
          cases ht : c.run p s with
          | none => rfl
          | some t => simpa [ht] using hrun

@[simp] theorem State.setResult_kept (s : State) (code result : Nat) (p : Post) :
    (s.setResult code result p).kept = s.kept := by
  simp [State.setResult]

@[simp] theorem State.judge_kept (s : State) (code : Nat) (p : Post) :
    (s.judge code p).kept = s.kept := by
  simp [State.judge]

@[simp] theorem State.command_kept (old : State) (s : State) (code : Nat) (p : Post) :
    (after old (s.command code p)).kept = s.kept := by
  simp [State.command]

@[simp] theorem State.takePost_kept (s : State) (n : Nat) :
    (s.takePost n).kept = s.kept := by
  simp [State.takePost]

@[simp] theorem execCommandPoll_kept (old : State) (s : State) :
    (after old (execCommandPoll s)).kept = s.kept := by
  simp [execCommandPoll]

@[simp] theorem execImgBegin_kept (old : State) (p : Post) (s : State) :
    (after old (execImgBegin p s)).kept = s.kept := by
  simp [execImgBegin]

@[simp] theorem execImgCommit_kept (old : State) (p : Post) (s : State) :
    (after old (execImgCommit p s)).kept = s.kept := by
  simp [execImgCommit]

@[simp] theorem execImgAbort_kept (old : State) (p : Post) (s : State) :
    (after old (execImgAbort p s)).kept = s.kept := by
  simp [execImgAbort]

@[simp] theorem execImgActivate_kept (old : State) (p : Post) (s : State) :
    (after old (execImgActivate p s)).kept = s.kept := by
  simp [execImgActivate]

@[simp] theorem execImgRedeliver_kept (old : State) (p : Post) (s : State) :
    (after old (execImgRedeliver p s)).kept = s.kept := by
  simp [execImgRedeliver]

@[simp] theorem execSnapshot_kept (old : State) (p : Post) (s : State) :
    (after old (execSnapshot p s)).kept = s.kept := by
  simp [execSnapshot]

@[simp] theorem execSnapRelease_kept (old : State) (p : Post) (s : State) :
    (after old (execSnapRelease p s)).kept = s.kept := by
  simp [execSnapRelease]

@[simp] theorem execTrcArm_kept (old : State) (p : Post) (s : State) :
    (after old (execTrcArm p s)).kept = s.kept := by
  simp [execTrcArm]

@[simp] theorem execTrcFire_kept (old : State) (p : Post) (s : State) :
    (after old (execTrcFire p s)).kept = s.kept := by
  simp [execTrcFire]

@[simp] theorem execTrcEmResume_kept (old : State) (p : Post) (s : State) :
    (after old (execTrcEmResume p s)).kept = s.kept := by
  simp [execTrcEmResume]

@[simp] theorem execScanAbort_kept (old : State) (p : Post) (s : State) :
    (after old (execScanAbort p s)).kept = s.kept := by
  simp [execScanAbort]

@[simp] theorem execShardClose_kept (old : State) (p : Post) (s : State) :
    (after old (execShardClose p s)).kept = s.kept := by
  simp [execShardClose]

@[simp] theorem execFpReplay_kept (old : State) (p : Post) (s : State) :
    (after old (execFpReplay p s)).kept = s.kept := by
  simp [execFpReplay]

@[simp] theorem execFpBinClr_kept (old : State) (p : Post) (s : State) :
    (after old (execFpBinClr p s)).kept = s.kept := by
  simp [execFpBinClr]

@[simp] theorem execTeBlobBegin_kept (old : State) (p : Post) (s : State) :
    (after old (execTeBlobBegin p s)).kept = s.kept := by
  simp [execTeBlobBegin]

@[simp] theorem execTeBlobEnd_kept (old : State) (p : Post) (s : State) :
    (after old (execTeBlobEnd p s)).kept = s.kept := by
  simp [execTeBlobEnd]

@[simp] theorem execTeBlobCheck_kept (old : State) (p : Post) (s : State) :
    (after old (execTeBlobCheck p s)).kept = s.kept := by
  simp [execTeBlobCheck]

@[simp] theorem execVerdReset_kept (old : State) (p : Post) (s : State) :
    (after old (execVerdReset p s)).kept = s.kept := by
  simp [execVerdReset]

@[simp] theorem execVerdAck_kept (old : State) (p : Post) (s : State) :
    (after old (execVerdAck p s)).kept = s.kept := by
  simp [execVerdAck]

@[simp] theorem execStart_kept (old : State) (p : Post) (s : State) :
    (after old (execStart p s)).kept = s.kept := by
  simp [execStart]

@[simp] theorem execAbortPost_kept (old : State) (p : Post) (s : State) :
    (after old (execAbortPost p s)).kept = s.kept := by
  simp [execAbortPost]

@[simp] theorem execTallyLoad_kept (old : State) (p : Post) (s : State) :
    (after old (execTallyLoad p s)).kept = s.kept := by
  simp [execTallyLoad]

@[simp] theorem execTallyDump_kept (old : State) (p : Post) (s : State) :
    (after old (execTallyDump p s)).kept = s.kept := by
  simp [execTallyDump]

@[simp] theorem execTallyResume_kept (old : State) (p : Post) (s : State) :
    (after old (execTallyResume p s)).kept = s.kept := by
  simp [execTallyResume]

@[simp] theorem execUlRetrain_kept (old : State) (p : Post) (s : State) :
    (after old (execUlRetrain p s)).kept = s.kept := by
  simp [execUlRetrain]

@[simp] theorem execEvrFlush_kept (old : State) (p : Post) (s : State) :
    (after old (execEvrFlush p s)).kept = s.kept := by
  simp [execEvrFlush]

@[simp] theorem execBistRun_kept (old : State) (p : Post) (s : State) :
    (after old (execBistRun p s)).kept = s.kept := by
  simp [execBistRun]

@[simp] theorem execBistAbort_kept (old : State) (p : Post) (s : State) :
    (after old (execBistAbort p s)).kept = s.kept := by
  simp [execBistAbort]

@[simp] theorem execFuseBurn_kept (old : State) (p : Post) (s : State) :
    (after old (execFuseBurn p s)).kept = s.kept := by
  simp [execFuseBurn]

@[simp] theorem execCplInject_kept (old : State) (p : Post) (s : State) :
    (after old (execCplInject p s)).kept = s.kept := by
  simp [execCplInject]

end Sys2Proof.Machine
end

section
/-! PROOF. The steps that store to a memory device (R87 to R89, R170 to R174, R324, R497 to R502): each leaves the queue and
the build alone and keeps the canonical form of both devices; with the steps that store nothing, so does every command. -/

namespace Sys2Proof.Machine

/-- From `s` to `t` the queue and the build are as they were, and the devices keep their canonical form. -/
structure StoreKept (s t : State) : Prop where
  pending : t.pending = s.pending
  build : t.sys.build = s.sys.build
  memWf : s.memWf = true → t.memWf = true

namespace StoreKept

variable {r s t : State}

theorem of_kept (h : t.kept = s.kept) : StoreKept s t := by
  simp only [State.kept, Prod.mk.injEq] at h
  obtain ⟨hpending, hbuild, hflash, hlp5⟩ := h
  exact ⟨hpending, hbuild, fun hw => by rwa [State.memWf, hflash, hlp5]⟩

protected theorem refl (s : State) : StoreKept s s := of_kept rfl

protected theorem trans (h₁ : StoreKept r s) (h₂ : StoreKept s t) : StoreKept r t :=
  ⟨h₂.pending.trans h₁.pending, h₂.build.trans h₁.build, fun hw => h₂.memWf (h₁.memWf hw)⟩

/-- What stores nothing may follow. -/
theorem congr (h₁ : StoreKept r s) (h₂ : t.kept = s.kept) : StoreKept r t := h₁.trans (of_kept h₂)

/-- What stores nothing may come before. -/
theorem after (h₁ : s.kept = r.kept) (h₂ : StoreKept s t) : StoreKept r t := (of_kept h₁).trans h₂

theorem ite {c : Prop} [Decidable c] (h₁ : StoreKept r s) (h₂ : StoreKept r t) : StoreKept r (if c then s else t) := by
  split
  · exact h₁
  · exact h₂

theorem oneCycle {f : State → State} (h : ∀ t, StoreKept t (f t)) (s : State) : StoreKept s (s.oneCycle f) := by
  unfold State.oneCycle
  split
  · exact h s
  · have hbegun : StoreKept s (f { s with evr := { s.evr with cycle := some [] } }) := (h _).after (by simp)
    exact hbegun.congr (by simp)

end StoreKept

/-! The stores themselves. -/

theorem State.flashPut_storeKept (s : State) (a : Nat) (l : List Byte) : StoreKept s (s.flashPut a l) := by
  refine ⟨rfl, rfl, fun h => ?_⟩
  simp only [State.memWf, State.flashPut, Bool.and_eq_true] at h ⊢
  exact ⟨Tab.wf_setAll _ _ a l h.1, h.2⟩

theorem wfFrom_filter {α : Type} [DecidableEq α] (d : α) (p : Nat × α → Bool) {b : Nat} {t : Tab α} (h : Tab.wfFrom d b t = true) :
    Tab.wfFrom d b (t.filter p) = true := by
  induction t generalizing b with
  | nil => rfl
  | cons x t ih =>
    obtain ⟨j, v⟩ := x
    simp only [Tab.wfFrom, Bool.and_eq_true, decide_eq_true_eq] at h
    obtain ⟨⟨hb, hv⟩, ht⟩ := h
    rw [List.filter_cons]
    split
    · simp [Tab.wfFrom, hb, hv, ih ht]
    · exact Tab.wfFrom_mono d (by omega) _ (ih ht)

theorem State.flashErase_storeKept (s : State) (a b : Nat) : StoreKept s (s.flashErase a b) := by
  refine ⟨rfl, rfl, fun h => ?_⟩
  simp only [State.memWf, State.flashErase, Bool.and_eq_true] at h ⊢
  exact ⟨wfFrom_filter _ _ h.1, h.2⟩

theorem State.lp5Put_storeKept (s : State) (a : Nat) (l : List Byte) : StoreKept s (s.lp5Put a l) := by
  refine ⟨rfl, rfl, fun h => ?_⟩
  simp only [State.memWf, State.lp5Put, Bool.and_eq_true] at h ⊢
  exact ⟨h.1, Tab.wf_setAll _ _ a l h.2⟩

/-- A spilled block is stored like any other bytes of LPDDR5X. -/
theorem State.spill_storeKept (s : State) (die : Bool) (b : Nat) (x : TrcBlock) : StoreKept s (s.spill die b x) :=
  (s.lp5Put_storeKept _ _).congr (State.setTtr_kept _ _)

/-! The NV slot (R87 to R89). -/

theorem State.nvSteps_storeKept (s : State) (n : Nat) : StoreKept s (s.nvSteps n) := by
  have hput (r : State) (c : Prop) [Decidable c] (a : Nat) (l : List Byte) : StoreKept r (if c then r.flashPut a l else r) :=
    .ite (r.flashPut_storeKept a l) (.refl r)
  have herase (r : State) (c : Prop) [Decidable c] (a b : Nat) : StoreKept r (if c then r.flashErase a b else r) :=
    .ite (r.flashErase_storeKept a b) (.refl r)
  exact ((((herase s _ _ _).trans (hput _ _ _ _)).trans (herase _ _ _ _)).trans (hput _ _ _ _)).trans (hput _ _ _ _)

theorem State.nvCut_storeKept (s : State) : StoreKept s s.nvCut := by
  unfold State.nvCut
  extract_lets n cut
  exact .ite (.refl s) ((s.nvSteps_storeKept n).congr (by simp [cut]))

theorem State.nvEnds_storeKept (s : State) (f : Nat) : StoreKept s (s.nvEnds f) := by
  unfold State.nvEnds
  extract_lets role path stored _ t
  have hstored : StoreKept s stored := s.nvSteps_storeKept _
  exact .ite (hstored.congr (by simp [t])) (hstored.congr (by simp [t]))

/-! The event recorder (R497 to R502). -/

theorem State.odoWrite_storeKept (s : State) : StoreKept s s.odoWrite := by
  unfold State.odoWrite
  extract_lets _ p t
  have hput : StoreKept s t := s.flashPut_storeKept _ _
  exact .ite (.of_kept (by simp)) (hput.congr (by simp))

theorem State.storePlaces_storeKept (s : State) (l : List (List Byte)) : StoreKept s (s.storePlaces l) := by
  induction l generalizing s with
  | nil => exact .refl s
  | cons p l ih =>
    unfold State.storePlaces
    extract_lets head _ ring
    have hhead : StoreKept s head := s.flashPut_storeKept _ _
    have hring : StoreKept s ring := s.flashPut_storeKept _ _
    exact .ite ((hhead.congr (State.setEvr_kept _ _)).trans (ih _)) ((hring.congr (State.setEvr_kept _ _)).trans (ih _))

theorem State.opDone_storeKept (s : State) (op : FlashOp) : StoreKept s (s.opDone op) := by
  unfold State.opDone
  extract_lets n _ ended stored _ held erased _ other gone _ marked
  have hended : ended.kept = s.kept := State.setEvr_kept _ _
  have hstored : StoreKept s stored := .after hended (ended.storePlaces_storeKept _)
  have herased : StoreKept s erased := .after hended (ended.flashErase_storeKept _ _)
  have hgone : StoreKept s gone := .after hended (ended.flashErase_storeKept _ _)
  have hmarked : StoreKept s marked := hgone.congr (State.setEvr_kept _ _)
  split
  · exact hstored.congr (State.setEvr_kept _ _)
  · exact (herased.congr (State.setEvr_kept _ _)).trans (State.odoWrite_storeKept _)
  · exact .after hended ended.odoWrite_storeKept
  · exact .ite ((hmarked.congr (State.setEvr_kept _ _)).trans (State.odoWrite_storeKept _)) hmarked
  · exact .of_kept hended

theorem State.pfFlush_storeKept (s : State) : StoreKept s s.pfFlush := by
  unfold State.pfFlush
  split
  · exact .refl s
  · extract_lets m ended _ started stored
    have hended : StoreKept s ended := .ite (s.opDone_storeKept _) (.ite (s.opDone_storeKept _) (.refl s))
    have hstarted : StoreKept ended started := .ite (.of_kept (by simp)) ended.odoWrite_storeKept
    have hstored : StoreKept started stored := started.storePlaces_storeKept _
    exact ((hended.trans hstarted).trans hstored).congr (State.setEvr_kept _ _)

/-! Power failures, resets and stopped clocks, which cut an NV write short. -/

theorem State.pfEndsLoads_storeKept (s : State) : StoreKept s s.pfEndsLoads := by
  unfold State.pfEndsLoads
  extract_lets st up aborted cut _ ended
  have hended : StoreKept s ended :=
    .ite (.of_kept (by simp [aborted])) (.ite (s.nvCut_storeKept.congr (by simp [cut])) (.refl s))
  exact hended.congr (by simp)

theorem State.powerFails_storeKept (s : State) (pfIn : Bool) : StoreKept s (s.powerFails pfIn) := by
  unfold State.powerFails
  extract_lets noted e armed _ out failed
  exact ((State.pfEndsLoads_storeKept out).after (by simp [out, armed, noted])).congr (by simp [failed])

theorem State.blockReset_storeKept (s : State) : StoreKept s s.blockReset := s.nvCut_storeKept.congr rfl

theorem State.flashFailed_storeKept (s : State) : StoreKept s s.flashFailed := by
  unfold State.flashFailed
  extract_lets failed
  have hfailed : failed.kept = s.kept := by
    simp only [failed]
    split <;> simp
  exact .ite ((State.nvEnds_storeKept _ _).after (by simp [hfailed])) (.of_kept hfailed)

theorem State.domEffect_storeKept (s : State) (d : Nat) : StoreKept s (s.domEffect d) := by
  unfold State.domEffect
  dsimp only
  split
  · exact .of_kept (by simp)
  · split
    case h_7 | h_8 => exact s.flashFailed_storeKept
    all_goals exact .of_kept (by simp)

/-! The commands that store. -/

theorem execRecorderStartupScan_storeKept (old s : State) : StoreKept s (after old (execRecorderStartupScan s)) := by
  unfold execRecorderStartupScan
  rw [after_next]
  split
  · extract_lets _ r written head ringPlace _ found _ scanned
    have hwritten : StoreKept s written := .after (State.setEvr_kept s r) (State.odoWrite_storeKept _)
    have hscanned : scanned.kept = written.kept := rfl
    exact hwritten.congr (by simp [hscanned])
  · exact .refl s

theorem execFlashOperationDone_storeKept (old : State) (op : FlashOp) (ok : Bool) (s : State) :
    StoreKept s (after old (execFlashOperationDone op ok s)) :=
  .ite (.refl s) (.ite (s.opDone_storeKept op) (.of_kept (s.opFailed_kept op)))

theorem execTraceSpill_storeKept (old : State) (die : Bool) (s : State) : StoreKept s (after old (execTraceSpill die s)) :=
  .ite (.refl s) (.ite (.refl s) (s.spill_storeKept die _ _))

theorem execNvWriteComplete_storeKept (old : State) (failStep : Byte) (s : State) :
    StoreKept s (after old (execNvWriteComplete failStep s)) := .ite (s.nvEnds_storeKept _) (.refl s)

theorem State.written_storeKept (s : State) (a : Acc) (off need : Nat) {f : State → State} (h : ∀ t, StoreKept t (f t)) :
    StoreKept s (s.written a off need f) := by
  have hanswered : (s.answered a true off 0).kept = s.kept := State.answered_kept _ _ _ _ _
  exact .ite (.refl s) (.ite (.of_kept hanswered) (.ite (.of_kept hanswered)
    (.ite ((StoreKept.of_kept hanswered).congr (State.roleRefused_kept _ _ _ _)) (.after hanswered (h _)))))

theorem execTeBlobDataWrite_storeKept (old : State) (a : Acc) (s : State) : StoreKept s (after old (execTeBlobDataWrite a s)) :=
  s.written_storeKept a 0x70018 1 fun t =>
    .ite (.refl t) (.ite (.of_kept (t.setTe_kept _)) ((t.lp5Put_storeKept _ _).congr (State.setTe_kept _ _)))

theorem execPowerFailSignal_storeKept (old : State) (pfIn : Bool) (s : State) :
    StoreKept s (after old (execPowerFailSignal pfIn s)) :=
  .ite (.refl s) (.ite (.ite (.of_kept (by simp)) (.refl s)) (.ite (.refl s) (.ite (.of_kept (by simp)) (s.powerFails_storeKept pfIn))))

theorem execCrossingTimeout_storeKept (old : State) (d : BitVec 6) (s : State) :
    StoreKept s (after old (execCrossingTimeout d s)) := by
  unfold execCrossingTimeout
  dsimp only [after_next]
  split
  · exact .refl s
  · split
    · exact .ite (.refl s) (.of_kept (by simp))
    · refine .ite (.of_kept (by simp)) (.ite (.of_kept (by simp)) (.ite (.refl s) (.oneCycle (fun t => ?_) s)))
      exact .after (by simp) (State.domEffect_storeKept _ _)

/-! Accesses, one of which may store a word of a blob. -/

/-- A write with a command of its own stores nothing, but for TE_BLOB_DATA. -/
theorem State.ownWrite_kept {s : State} {a : Acc} {off : Nat} (h : off ≠ 0x70018) : ((s.ownWrite a off).getD s).kept = s.kept := by
  simp [State.ownWrite, h, apply_ite (Option.getD · s)]

theorem State.ownWrite_blobData (s : State) (a : Acc) :
    s.ownWrite a 0x70018 = if s.isT then some (after s (execTeBlobDataWrite a s)) else none := by
  simp [State.ownWrite, State.wc2Low]

theorem State.ownWrite_storeKept (s : State) (a : Acc) (off : Nat) : StoreKept s ((s.ownWrite a off).getD s) := by
  by_cases h : off = 0x70018
  · rw [h, State.ownWrite_blobData]
    split
    · exact execTeBlobDataWrite_storeKept s a s
    · exact .refl s
  · exact .of_kept (State.ownWrite_kept h)

theorem State.performWrite_storeKept (s : State) (a : Acc) (off : Nat) : StoreKept s (s.performWrite a off) := by
  have hown := s.ownWrite_storeKept a off
  unfold State.performWrite
  cases h : s.ownWrite a off with
  | none => exact .of_kept (by simp)
  | some t => simpa [h] using hown

theorem execRegisterWrite_storeKept (old : State) (a : Acc) (off : BitVec 20) (mem : Option (BitVec 4 × Bool × Word)) (s : State) :
    StoreKept s (after old (execRegisterWrite a off mem s)) := by
  unfold execRegisterWrite
  dsimp only [after_next]
  split
  · refine .ite (.oneCycle (fun t => ?_) s) (s.performWrite_storeKept a _)
    exact (t.performWrite_storeKept a _).congr (State.memFault_kept _ _ _ _)
  · exact s.performWrite_storeKept a _

theorem State.portAccess_storeKept (s : State) : StoreKept s s.portAccess := by
  unfold State.portAccess
  split
  · next q _ _ =>
    extract_lets o
    have hperformed : StoreKept s (if q.wr then (s.performWrite (portAcc q) o, 0) else s.performRead (portAcc q) o).1 := by
      split
      · exact s.performWrite_storeKept _ _
      · exact .of_kept (s.performRead_kept _ _)
    exact .ite (.of_kept (s.raDone_kept _ _)) (.ite (hperformed.congr (State.raDone_kept _ _ _)) hperformed)
  · exact .refl s

theorem State.portAccesses_storeKept (n : Nat) (s : State) : StoreKept s (State.portAccesses n s) := by
  induction n generalizing s with
  | zero => exact .refl s
  | succ n ih => exact .ite (.refl s) (s.portAccess_storeKept.trans (ih _))

theorem State.idle_storeKept (s : State) : StoreKept s s.idle := .ite (State.portAccesses_storeKept 8 s) (.refl s)

theorem State.proxyRun_storeKept (s : State) (p : ProxyIn) : StoreKept s (s.proxyRun p).1 := by
  unfold State.proxyRun
  dsimp only
  split
  · exact .refl s
  · split
    · exact .refl s
    · split
      · split
        · exact .refl s
        · exact s.performWrite_storeKept _ _
      · exact .of_kept (s.performRead_kept _ _)

theorem execProxyExecute_storeKept (old s : State) : StoreKept s (after old (execProxyExecute s)) := by
  unfold execProxyExecute
  rw [after_next]
  split
  · split
    · next p rest _ =>
      have hrun := ((s.setNb { s.nb with proxyIn := rest }).proxyRun_storeKept p).after (State.setNb_kept s _)
      exact hrun.congr (by simp)
    · exact .refl s
  · exact .refl s

theorem execRegReqEntry_storeKept (old : State) (place : BitVec 4) (s : State) :
    StoreKept s (after old (execRegReqEntry place s)) := by
  unfold execRegReqEntry
  dsimp only [after_next]
  split
  · exact .refl s
  · split
    · split
      · refine .ite (.refl s) (.ite (.ite ?_ ?_) (.ite (.of_kept (by simp)) (.of_kept (by simp))))
        · exact (s.performWrite_storeKept _ _).congr (State.reqDone_kept _ _ _ _)
        · exact .of_kept (by simp)
      · exact .refl s
    · exact .refl s

/-! Every command: those that store have their lemma above, all others leave queue, build and devices as they were. -/

theorem exec_storeKept (i : Instr) (s : State) : StoreKept s (after s (exec i s)) := by
  cases i
  case registerWrite a off mem => exact execRegisterWrite_storeKept s a off mem s
  case recorderStartupScan => exact execRecorderStartupScan_storeKept s s
  case flashOperationDone op ok => exact execFlashOperationDone_storeKept s op ok s
  case powerFailFlushDone => exact s.pfFlush_storeKept
  case traceSpill die => exact execTraceSpill_storeKept s die s
  case nvWriteComplete n => exact execNvWriteComplete_storeKept s n s
  case teBlobDataWrite a => exact execTeBlobDataWrite_storeKept s a s
  case powerFailSignal pfIn => exact execPowerFailSignal_storeKept s pfIn s
  case crossingTimeout d => exact execCrossingTimeout_storeKept s d s
  case blockResetAssert => exact s.blockReset_storeKept
  case proxyExecute => exact execProxyExecute_storeKept s s
  case regReqEntry place => exact execRegReqEntry_storeKept s place s
  all_goals exact .of_kept (by simp [exec])

theorem State.idle_step {s : State} (h : s.pending = []) : step s = .next s.idle := by simp [step, h]

/-- Settles O1: the equation of a step with a command in the queue. -/
theorem stepRunsFront : Obligations.StepRunsFront := by
  intro c rest s h
  simp [step, h]

/-- Settles O3: each arm of the dispatch answers with the next state. -/
theorem everyCommandCompletes : Obligations.EveryCommandCompletes := by
  intro i s
  cases i <;> exact ⟨_, rfl⟩

/-- Settles O4, by `exec_storeKept`. -/
theorem execKeepsQueueAndBuild : Obligations.ExecKeepsQueueAndBuild := by
  intro i s t h
  have hkept := exec_storeKept i s
  rw [h, after_next] at hkept
  exact ⟨hkept.pending, hkept.build⟩

/-- Settles O5: an idle step by `State.idle_storeKept`, every other by `exec_storeKept`. -/
theorem stepKeepsMemoryForm : Obligations.StepKeepsMemoryForm := by
  intro s t hwf h
  cases hp : s.pending with
  | nil =>
    rw [State.idle_step hp] at h
    cases h
    exact s.idle_storeKept.memWf hwf
  | cons c rest =>
    rw [stepRunsFront c rest s hp] at h
    have hkept := exec_storeKept c { s with pending := rest }
    rw [h, after_next] at hkept
    exact hkept.memWf hwf

/-! What an idle block does (R38, R528). -/

theorem State.idle_of_not_running {s : State} (h : s.running = false) : s.idle = s := by
  simp [State.idle, h]

/-- A register of grade 3 is present on either build. -/
theorem Reg.present_of_both {r : Reg} (s : State) (h : r.grade = 3) : r.present s = true := by
  rw [Reg.present, h]
  cases s.isT <;> decide

theorem State.readReg_blkId (s : State) (a : Acc) : s.readReg a 0 = 0x4E465845 := by
  have hplace : s.regAt 0 = some (ro 0x00000 4 3 fun _ => 0x4E465845, 0, 0) := by
    simp [State.regAt, registers, regsIdentity, Reg.present_of_both, Reg.place, ro]
  simp [State.readReg, hplace, ro]

/-- A read of BLK_ID has no effect of its own. -/
theorem State.performRead_blkId (s : State) (a : Acc) : s.performRead a 0 = (s, 0x4E465845) := by
  simp [State.performRead, State.ownRead, State.readReg_blkId]

theorem State.portAccess_blkId {s : State} {q : RaReq} {rest : List RaReq} (hraq : s.heat.raq = q :: rest) (hwr : q.wr = false)
    (hoff : q.off.toNat = 0) : s.portAccess = s.raDone q 0x4E465845 := by
  simp [State.portAccess, hraq, hwr, hoff, State.performRead_blkId]

theorem State.portAccesses_succ {s : State} (n : Nat) (h : s.heat.raq ≠ []) :
    State.portAccesses (n + 1) s = State.portAccesses n s.portAccess := by
  simp [State.portAccesses, h]

theorem State.portAccesses_nil {s : State} (n : Nat) (h : s.heat.raq = []) : State.portAccesses n s = s := by
  cases n <;> simp [State.portAccesses, h]

theorem State.idle_of_raq_nil {s : State} (h : s.heat.raq = []) : s.idle = s := by
  simp [State.idle, State.portAccesses_nil 8 h]

/-- Settles O2: the plain access at the head of the queue is the read of BLK_ID. -/
theorem emptyQueueIdles : Obligations.EmptyQueueIdles := by
  refine ⟨fun s hp hraq => ?_, fun s hp hrun => ?_, fun s q rest hp hrun hbusy hraq hrest htest hwr hoff => ?_⟩
  · rw [State.idle_step hp, State.idle_of_raq_nil hraq]
  · rw [State.idle_step hp, State.idle_of_not_running hrun]
  · subst hrest
    have hdone : s.raDone q 0x4E465845 = { s with heat := { s.heat with raq := [], rsp := s.heat.rsp ++ [⟨q.tag, 0x4E465845, 0⟩] } } := by
      simp [State.raDone, State.joinTest, hraq, htest, hwr, hbusy]
    rw [State.idle_step hp, State.idle, if_pos hrun, State.portAccesses_succ 7 (by simp [hraq]),
      State.portAccess_blkId hraq hwr hoff, hdone, State.portAccesses_nil 7 rfl]

/-- Settles O6: each value stands in `State.resetOf`. -/
theorem resetLeaves : Obligations.ResetLeaves := by
  refine ⟨?_, ?_, ?_, ?_, ?_, ?_, ?_, ?_, ?_, ?_, ?_, ?_, ?_, ?_, ?_, ?_⟩ <;> rfl

end Sys2Proof.Machine
end

section
/-! PROOF. Frames: what an operation changes, part by part (`Unchanged`), and how the frames of several operations go together. -/

namespace Sys2Proof.Machine

namespace Unchanged

variable {but l : List Part} {r s t : State}

protected theorem refl (but : List Part) (s : State) : Unchanged but s s := by
  intro p _
  cases p <;> rfl

/-- A further operation, whose own changes lie among those allowed. -/
theorem step (h₁ : Unchanged but r s) (h₂ : Unchanged l s t) (hl : l ⊆ but := by decide) : Unchanged but r t :=
  h₁.trans (h₂.mono hl)

theorem ite {c : Prop} [Decidable c] (h₁ : Unchanged but r s) (h₂ : Unchanged but r t) :
    Unchanged but r (if c then s else t) := by
  split
  · exact h₁
  · exact h₂

theorem foldl {α : Type} {f : State → α → State} (h : ∀ t x, Unchanged but t (f t x)) (l : List α) (s : State) :
    Unchanged but s (l.foldl f s) := by
  induction l generalizing s with
  | nil => exact .refl but s
  | cons x l ih => exact (h s x).trans (ih _)

end Unchanged

theorem State.sys_unchanged (s : State) (v : Sys) : Unchanged [.sys] s { s with sys := v } := by
  intro part hp
  cases part
  case sys => simp at hp
  all_goals rfl

theorem State.fuse_unchanged (s : State) (v : Fuse) : Unchanged [.fuse] s { s with fuse := v } := by
  intro part hp
  cases part
  case fuse => simp at hp
  all_goals rfl

theorem State.bist_unchanged (s : State) (v : Bist) : Unchanged [.bist] s { s with bist := v } := by
  intro part hp
  cases part
  case bist => simp at hp
  all_goals rfl

theorem State.tray_unchanged (s : State) (v : TrayImages) : Unchanged [.tray] s { s with tray := v } := by
  intro part hp
  cases part
  case tray => simp at hp
  all_goals rfl

theorem State.creg_unchanged (s : State) (v : CntRegs) : Unchanged [.creg] s { s with creg := v } := by
  intro part hp
  cases part
  case creg => simp at hp
  all_goals rfl

theorem State.ul_unchanged (s : State) (v : Uplink) : Unchanged [.ul] s { s with ul := v } := by
  intro part hp
  cases part
  case ul => simp at hp
  all_goals rfl

theorem State.roles_unchanged (s : State) (v : Roles) : Unchanged [.roles] s { s with roles := v } := by
  intro part hp
  cases part
  case roles => simp at hp
  all_goals rfl

theorem State.test_unchanged (s : State) (v : TestAcc) : Unchanged [.test] s { s with test := v } := by
  intro part hp
  cases part
  case test => simp at hp
  all_goals rfl

theorem State.rw_unchanged (s : State) (v : Tab (Option Word)) : Unchanged [.rw] s { s with rw := v } := by
  intro part hp
  cases part
  case rw => simp at hp
  all_goals rfl

theorem State.wc2_unchanged (s : State) (v : Tab (Option (Word × Word))) : Unchanged [.wc2] s { s with wc2 := v } := by
  intro part hp
  cases part
  case wc2 => simp at hp
  all_goals rfl

theorem State.flash_unchanged (s : State) (v : Memory) : Unchanged [.flash] s { s with flash := v } := by
  intro part hp
  cases part
  case flash => simp at hp
  all_goals rfl

theorem State.lp5_unchanged (s : State) (v : Memory) : Unchanged [.lp5] s { s with lp5 := v } := by
  intro part hp
  cases part
  case lp5 => simp at hp
  all_goals rfl

theorem State.setInr_unchanged (s : State) (v : Intake) : Unchanged [.inr] s (s.setInr v) := by
  intro part hp
  cases part
  case inr => simp at hp
  all_goals simp [Part.same]

theorem State.setFpc_unchanged (s : State) (v : Compare) : Unchanged [.fpc] s (s.setFpc v) := by
  intro part hp
  cases part
  case fpc => simp at hp
  all_goals simp [Part.same]

theorem State.setCmp_unchanged (s : State) (v : Comp) : Unchanged [.cmp] s (s.setCmp v) := by
  intro part hp
  cases part
  case cmp => simp at hp
  all_goals simp [Part.same]

theorem State.setUmp_unchanged (s : State) (v : Umpire) : Unchanged [.ump] s (s.setUmp v) := by
  intro part hp
  cases part
  case ump => simp at hp
  all_goals simp [Part.same]

theorem State.setInt_unchanged (s : State) (v : Integ) : Unchanged [.integ] s (s.setInt v) := by
  intro part hp
  cases part
  case integ => simp at hp
  all_goals simp [Part.same]

theorem State.setHeat_unchanged (s : State) (v : Heat) : Unchanged [.heat] s (s.setHeat v) := by
  intro part hp
  cases part
  case heat => simp at hp
  all_goals simp [Part.same]

theorem State.setLed_unchanged (s : State) (v : Ledger) : Unchanged [.led] s (s.setLed v) := by
  intro part hp
  cases part
  case led => simp at hp
  all_goals simp [Part.same]

theorem State.setLd_unchanged (s : State) (v : Loader) : Unchanged [.ld] s (s.setLd v) := by
  intro part hp
  cases part
  case ld => simp at hp
  all_goals simp [Part.same]

theorem State.setNb_unchanged (s : State) (v : North) : Unchanged [.nb] s (s.setNb v) := by
  intro part hp
  cases part
  case nb => simp at hp
  all_goals simp [Part.same]

theorem State.setPwr_unchanged (s : State) (v : Power) : Unchanged [.pwr] s (s.setPwr v) := by
  intro part hp
  cases part
  case pwr => simp at hp
  all_goals simp [Part.same]

theorem State.setPrb_unchanged (s : State) (v : Probes) : Unchanged [.prb] s (s.setPrb v) := by
  intro part hp
  cases part
  case prb => simp at hp
  all_goals simp [Part.same]

theorem State.setEvr_unchanged (s : State) (v : Recorder) : Unchanged [.evr] s (s.setEvr v) := by
  intro part hp
  cases part
  case evr => simp at hp
  all_goals simp [Part.same]

theorem State.setRed_unchanged (s : State) (v : Reduce) : Unchanged [.red] s (s.setRed v) := by
  intro part hp
  cases part
  case red => simp at hp
  all_goals simp [Part.same]

theorem State.setSns_unchanged (s : State) (v : Sense) : Unchanged [.sns] s (s.setSns v) := by
  intro part hp
  cases part
  case sns => simp at hp
  all_goals simp [Part.same]

theorem State.setTly_unchanged (s : State) (v : Tally) : Unchanged [.tly] s (s.setTly v) := by
  intro part hp
  cases part
  case tly => simp at hp
  all_goals simp [Part.same]

theorem State.setTb_unchanged (s : State) (v : Timebase) : Unchanged [.tb] s (s.setTb v) := by
  intro part hp
  cases part
  case tb => simp at hp
  all_goals simp [Part.same]

theorem State.setPtp_unchanged (s : State) (v : Ptp) : Unchanged [.ptp] s (s.setPtp v) := by
  intro part hp
  cases part
  case ptp => simp at hp
  all_goals simp [Part.same]

theorem State.setTt_unchanged (s : State) (v : TimeTransfer) : Unchanged [.tt] s (s.setTt v) := by
  intro part hp
  cases part
  case tt => simp at hp
  all_goals simp [Part.same]

theorem State.setTrc_unchanged (s : State) (v : Trace) : Unchanged [.trc] s (s.setTrc v) := by
  intro part hp
  cases part
  case trc => simp at hp
  all_goals simp [Part.same]

theorem State.setTtr_unchanged (s : State) (v : TrayTrace) : Unchanged [.ttrc] s (s.setTtr v) := by
  intro part hp
  cases part
  case ttrc => simp at hp
  all_goals simp [Part.same]

theorem State.setTe_unchanged (s : State) (v : Tree) : Unchanged [.te] s (s.setTe v) := by
  intro part hp
  cases part
  case te => simp at hp
  all_goals simp [Part.same]

theorem State.buoy_unchanged (s : State) (kind : Nat) (slot : BitVec 23) (heat : DWord) :
    Unchanged [.trc] s (s.buoy kind slot heat) := by
  intro part hp
  cases part
  case trc => simp at hp
  all_goals simp [Part.same]

theorem State.capture_unchanged (s : State) (word : Nat) : Unchanged [.trc] s (s.capture word) := by
  intro part hp
  cases part
  case trc => simp at hp
  all_goals simp [Part.same]

theorem State.emFeed_unchanged (s : State) (x : EmInput) : Unchanged [.ttrc] s (s.emFeed x) := by
  intro part hp
  cases part
  case ttrc => simp at hp
  all_goals simp [Part.same]

theorem State.internal_unchanged (s : State) (code : Nat) (data : List Byte) :
    Unchanged [.sys, .trc, .ttrc] s (s.internal code data) := by
  intro part hp
  cases part
  case sys | trc | ttrc => simp at hp
  all_goals simp [Part.same]

theorem State.setLink_unchanged (s : State) (k : Nat) (l : Link) : Unchanged [.ul] s (s.setLink k l) := by
  intro part hp
  cases part
  case ul => simp at hp
  all_goals simp [Part.same]

theorem State.send_unchanged (s : State) (k v mtype : Nat) (body : List Byte) : Unchanged [.ul] s (s.send k v mtype body) := by
  intro part hp
  cases part
  case ul => simp at hp
  all_goals simp [Part.same]

theorem State.insert_unchanged (s : State) (k mtype : Nat) (body : List Byte) : Unchanged [.ul] s (s.insert k mtype body) := by
  intro part hp
  cases part
  case ul => simp at hp
  all_goals simp [Part.same]

theorem State.fire_unchanged (s : State) (src : Nat) : Unchanged [.trc, .ttrc, .ul, .evr] s (s.fire src) := by
  intro part hp
  cases part
  case trc | ttrc | ul | evr => simp at hp
  all_goals simp [Part.same]

theorem State.happen_unchanged (s : State) (q : RecIn) : Unchanged [.sys, .trc, .ttrc, .ul, .evr] s (s.happen q) := by
  intro part hp
  cases part
  case sys | trc | ttrc | ul | evr => simp at hp
  all_goals simp [Part.same]

theorem State.note_unchanged (s : State) (code : Nat) (data : List Byte) :
    Unchanged [.sys, .trc, .ttrc, .ul, .evr] s (s.note code data) := by
  intro part hp
  cases part
  case sys | trc | ttrc | ul | evr => simp at hp
  all_goals simp [Part.same]

theorem State.memCes_unchanged (s : State) (m n : Nat) : Unchanged [.integ] s (s.memCes m n) := by
  intro part hp
  cases part
  case integ => simp at hp
  all_goals simp [Part.same]

theorem State.memErr_unchanged (s : State) (m : Nat) (ue : Bool) (addr : Nat) :
    Unchanged [.sys, .integ, .trc, .ttrc, .ul, .evr] s (s.memErr m ue addr) := by
  intro part hp
  cases part
  case sys | integ | trc | ttrc | ul | evr => simp at hp
  all_goals simp [Part.same]

theorem State.noted_unchanged (s : State) (r b key : Nat) : Unchanged [.integ] s (s.noted r b key) := by
  intro part hp
  cases part
  case integ => simp at hp
  all_goals simp [Part.same]

theorem State.stickOnce_unchanged (s : State) (r b key code : Nat) (data : List Byte) :
    Unchanged [.sys, .integ, .trc, .ttrc, .ul, .evr] s (s.stickOnce r b key code data) := by
  intro part hp
  cases part
  case sys | integ | trc | ttrc | ul | evr => simp at hp
  all_goals simp [Part.same]

theorem State.stickNote_unchanged (s : State) (r b code : Nat) (data : List Byte) :
    Unchanged [.sys, .integ, .trc, .ttrc, .ul, .evr] s (s.stickNote r b code data) := by
  intro part hp
  cases part
  case sys | integ | trc | ttrc | ul | evr => simp at hp
  all_goals simp [Part.same]

theorem State.overload_unchanged (s : State) (p : Nat) : Unchanged [.ump] s (s.overload p) := by
  intro part hp
  cases part
  case ump => simp at hp
  all_goals simp [Part.same]

/-- What happens in one cycle changes what each of its operations may, and what its events and its first error touch. -/
theorem Unchanged.oneCycle {but : List Part} {f : State → State} (h : ∀ t, Unchanged but t (f t)) (s : State)
    (hl : [.sys, .integ, .trc, .ttrc, .ul, .evr] ⊆ but := by decide) : Unchanged but s (s.oneCycle f) := by
  have hevr : [Part.evr] ⊆ but := fun p hp => hl (by simp_all)
  have hinteg : [Part.integ] ⊆ but := fun p hp => hl (by simp_all)
  have hhappen : [Part.sys, .trc, .ttrc, .ul, .evr] ⊆ but := fun p hp => hl (by simp at hp ⊢; tauto)
  unfold State.oneCycle
  split
  · exact h s
  · have hbegun := (s.setEvr_unchanged { s.evr with cycle := some [] }).mono hevr
    have hfirst (r : State) : Unchanged [.integ] r (r.firstOf s) := by
      intro part hp
      cases part
      case integ => simp at hp
      all_goals simp [Part.same]
    refine Unchanged.trans ?_ (.foldl (fun t q => (t.happen_unchanged q).mono hhappen) _ _)
    exact ((hbegun.trans (h _)).step (hfirst _) hinteg).step (State.setEvr_unchanged _ _) hevr

/-! The same as rules for `simp`: the last operation of a state is taken off where its changes are allowed. -/

namespace Unchanged

variable {but l : List Part} {r s t : State}

theorem frame (h : Unchanged l s t) (hl : l ⊆ but) : Unchanged but r t ↔ Unchanged but r s :=
  ⟨fun hr => hr.trans fun p hp => by have hst := h.mono hl p hp; cases p <;> exact hst.symm, fun hr => hr.trans (h.mono hl)⟩

@[simp] theorem self : Unchanged but s s := .refl but s

@[simp] theorem frame_ite {c : Prop} [Decidable c] :
    Unchanged but r (if c then s else t) ↔ if c then Unchanged but r s else Unchanged but r t := by
  split <;> rfl

@[simp] theorem frame_foldl {α : Type} {f : State → α → State} (h : ∀ t x, Unchanged but t (f t x)) (l : List α) :
    Unchanged but r (l.foldl f s) ↔ Unchanged but r s := (foldl h l s).frame (List.Subset.refl _)

/-- A state written out has the parts of `s` but for those listed; no command writes the queue. -/
@[simp] theorem frame_mk (s : State) (sys' : Sys) (pwr' : Power) (fuse' : Fuse) (bist' : Bist) (integ' : Integ) (heat' : Heat) (ld' : Loader) (tray' : TrayImages)
    (prb' : Probes) (creg' : CntRegs) (sns' : Sense) (tb' : Timebase) (ptp' : Ptp) (tt' : TimeTransfer) (trc' : Trace)
    (ttrc' : TrayTrace) (cmp' : Comp) (scn' : Scan) (led' : Ledger) (fpc' : Compare) (red' : Reduce) (inr' : Intake) (te' : Tree)
    (ump' : Umpire) (tly' : Tally) (ul' : Uplink) (nb' : North) (roles' : Roles) (evr' : Recorder) (test' : TestAcc) (rw' : Tab
    (Option Word)) (wc2' : Tab (Option (Word × Word))) (flash' : Memory) (lp5' : Memory)
    (h : (.sys ∈ but ∨ sys' = s.sys) ∧ (.pwr ∈ but ∨ pwr' = s.pwr) ∧ (.fuse ∈ but ∨ fuse' = s.fuse) ∧ (.bist ∈ but ∨ bist' =
      s.bist) ∧ (.integ ∈ but ∨ integ' = s.integ) ∧ (.heat ∈ but ∨ heat' = s.heat) ∧ (.ld ∈ but ∨ ld' = s.ld) ∧ (.tray ∈ but ∨
      tray' = s.tray) ∧ (.prb ∈ but ∨ prb' = s.prb) ∧ (.creg ∈ but ∨ creg' = s.creg) ∧ (.sns ∈ but ∨ sns' = s.sns) ∧ (.tb ∈ but
      ∨ tb' = s.tb) ∧ (.ptp ∈ but ∨ ptp' = s.ptp) ∧ (.tt ∈ but ∨ tt' = s.tt) ∧ (.trc ∈ but ∨ trc' = s.trc) ∧ (.ttrc ∈ but ∨
      ttrc' = s.ttrc) ∧ (.cmp ∈ but ∨ cmp' = s.cmp) ∧ (.scn ∈ but ∨ scn' = s.scn) ∧ (.led ∈ but ∨ led' = s.led) ∧ (.fpc ∈ but ∨
      fpc' = s.fpc) ∧ (.red ∈ but ∨ red' = s.red) ∧ (.inr ∈ but ∨ inr' = s.inr) ∧ (.te ∈ but ∨ te' = s.te) ∧ (.ump ∈ but ∨ ump'
      = s.ump) ∧ (.tly ∈ but ∨ tly' = s.tly) ∧ (.ul ∈ but ∨ ul' = s.ul) ∧ (.nb ∈ but ∨ nb' = s.nb) ∧ (.roles ∈ but ∨ roles' =
      s.roles) ∧ (.evr ∈ but ∨ evr' = s.evr) ∧ (.test ∈ but ∨ test' = s.test) ∧ (.rw ∈ but ∨ rw' = s.rw) ∧ (.wc2 ∈ but ∨ wc2' =
      s.wc2) ∧ (.flash ∈ but ∨ flash' = s.flash) ∧ (.lp5 ∈ but ∨ lp5' = s.lp5)) :
    Unchanged but r ⟨sys', pwr', fuse', bist', integ', heat', ld', tray', prb', creg', sns', tb', ptp', tt', trc', ttrc', cmp', scn', led',
      fpc', red', inr', te', ump', tly', ul', nb', roles', evr', test', rw', wc2', flash', lp5', s.pending⟩ ↔ Unchanged but r s := by
  refine frame (fun p hp => ?_) (List.Subset.refl but)
  cases p <;> simp_all [Part.same]

end Unchanged

@[simp] theorem State.setInr_frame {but : List Part} {r : State} (s : State) (v : Intake) (h : [.inr] ⊆ but) :
    Unchanged but r (s.setInr v) ↔ Unchanged but r s := (State.setInr_unchanged s _).frame h

@[simp] theorem State.setFpc_frame {but : List Part} {r : State} (s : State) (v : Compare) (h : [.fpc] ⊆ but) :
    Unchanged but r (s.setFpc v) ↔ Unchanged but r s := (State.setFpc_unchanged s _).frame h

@[simp] theorem State.setCmp_frame {but : List Part} {r : State} (s : State) (v : Comp) (h : [.cmp] ⊆ but) :
    Unchanged but r (s.setCmp v) ↔ Unchanged but r s := (State.setCmp_unchanged s _).frame h

@[simp] theorem State.setUmp_frame {but : List Part} {r : State} (s : State) (v : Umpire) (h : [.ump] ⊆ but) :
    Unchanged but r (s.setUmp v) ↔ Unchanged but r s := (State.setUmp_unchanged s _).frame h

@[simp] theorem State.setInt_frame {but : List Part} {r : State} (s : State) (v : Integ) (h : [.integ] ⊆ but) :
    Unchanged but r (s.setInt v) ↔ Unchanged but r s := (State.setInt_unchanged s _).frame h

@[simp] theorem State.setHeat_frame {but : List Part} {r : State} (s : State) (v : Heat) (h : [.heat] ⊆ but) :
    Unchanged but r (s.setHeat v) ↔ Unchanged but r s := (State.setHeat_unchanged s _).frame h

@[simp] theorem State.setLed_frame {but : List Part} {r : State} (s : State) (v : Ledger) (h : [.led] ⊆ but) :
    Unchanged but r (s.setLed v) ↔ Unchanged but r s := (State.setLed_unchanged s _).frame h

@[simp] theorem State.setLd_frame {but : List Part} {r : State} (s : State) (v : Loader) (h : [.ld] ⊆ but) :
    Unchanged but r (s.setLd v) ↔ Unchanged but r s := (State.setLd_unchanged s _).frame h

@[simp] theorem State.setNb_frame {but : List Part} {r : State} (s : State) (v : North) (h : [.nb] ⊆ but) :
    Unchanged but r (s.setNb v) ↔ Unchanged but r s := (State.setNb_unchanged s _).frame h

@[simp] theorem State.setPwr_frame {but : List Part} {r : State} (s : State) (v : Power) (h : [.pwr] ⊆ but) :
    Unchanged but r (s.setPwr v) ↔ Unchanged but r s := (State.setPwr_unchanged s _).frame h

@[simp] theorem State.setPrb_frame {but : List Part} {r : State} (s : State) (v : Probes) (h : [.prb] ⊆ but) :
    Unchanged but r (s.setPrb v) ↔ Unchanged but r s := (State.setPrb_unchanged s _).frame h

@[simp] theorem State.setEvr_frame {but : List Part} {r : State} (s : State) (v : Recorder) (h : [.evr] ⊆ but) :
    Unchanged but r (s.setEvr v) ↔ Unchanged but r s := (State.setEvr_unchanged s _).frame h

@[simp] theorem State.setRed_frame {but : List Part} {r : State} (s : State) (v : Reduce) (h : [.red] ⊆ but) :
    Unchanged but r (s.setRed v) ↔ Unchanged but r s := (State.setRed_unchanged s _).frame h

@[simp] theorem State.setSns_frame {but : List Part} {r : State} (s : State) (v : Sense) (h : [.sns] ⊆ but) :
    Unchanged but r (s.setSns v) ↔ Unchanged but r s := (State.setSns_unchanged s _).frame h

@[simp] theorem State.setTly_frame {but : List Part} {r : State} (s : State) (v : Tally) (h : [.tly] ⊆ but) :
    Unchanged but r (s.setTly v) ↔ Unchanged but r s := (State.setTly_unchanged s _).frame h

@[simp] theorem State.setTb_frame {but : List Part} {r : State} (s : State) (v : Timebase) (h : [.tb] ⊆ but) :
    Unchanged but r (s.setTb v) ↔ Unchanged but r s := (State.setTb_unchanged s _).frame h

@[simp] theorem State.setPtp_frame {but : List Part} {r : State} (s : State) (v : Ptp) (h : [.ptp] ⊆ but) :
    Unchanged but r (s.setPtp v) ↔ Unchanged but r s := (State.setPtp_unchanged s _).frame h

@[simp] theorem State.setTt_frame {but : List Part} {r : State} (s : State) (v : TimeTransfer) (h : [.tt] ⊆ but) :
    Unchanged but r (s.setTt v) ↔ Unchanged but r s := (State.setTt_unchanged s _).frame h

@[simp] theorem State.setTrc_frame {but : List Part} {r : State} (s : State) (v : Trace) (h : [.trc] ⊆ but) :
    Unchanged but r (s.setTrc v) ↔ Unchanged but r s := (State.setTrc_unchanged s _).frame h

@[simp] theorem State.setTtr_frame {but : List Part} {r : State} (s : State) (v : TrayTrace) (h : [.ttrc] ⊆ but) :
    Unchanged but r (s.setTtr v) ↔ Unchanged but r s := (State.setTtr_unchanged s _).frame h

@[simp] theorem State.setTe_frame {but : List Part} {r : State} (s : State) (v : Tree) (h : [.te] ⊆ but) :
    Unchanged but r (s.setTe v) ↔ Unchanged but r s := (State.setTe_unchanged s _).frame h

@[simp] theorem State.buoy_frame {but : List Part} {r : State} (s : State) (kind : Nat) (slot : BitVec 23) (heat : DWord) (h : [.trc] ⊆ but) :
    Unchanged but r (s.buoy kind slot heat) ↔ Unchanged but r s := (State.buoy_unchanged s _ _ _).frame h

@[simp] theorem State.capture_frame {but : List Part} {r : State} (s : State) (word : Nat) (h : [.trc] ⊆ but) :
    Unchanged but r (s.capture word) ↔ Unchanged but r s := (State.capture_unchanged s _).frame h

@[simp] theorem State.emFeed_frame {but : List Part} {r : State} (s : State) (x : EmInput) (h : [.ttrc] ⊆ but) :
    Unchanged but r (s.emFeed x) ↔ Unchanged but r s := (State.emFeed_unchanged s _).frame h

@[simp] theorem State.internal_frame {but : List Part} {r : State} (s : State) (code : Nat) (data : List Byte) (h : [.sys, .trc, .ttrc] ⊆ but) :
    Unchanged but r (s.internal code data) ↔ Unchanged but r s := (State.internal_unchanged s _ _).frame h

@[simp] theorem State.setLink_frame {but : List Part} {r : State} (s : State) (k : Nat) (l : Link) (h : [.ul] ⊆ but) :
    Unchanged but r (s.setLink k l) ↔ Unchanged but r s := (State.setLink_unchanged s _ _).frame h

@[simp] theorem State.send_frame {but : List Part} {r : State} (s : State) (k v mtype : Nat) (body : List Byte) (h : [.ul] ⊆ but) :
    Unchanged but r (s.send k v mtype body) ↔ Unchanged but r s := (State.send_unchanged s _ _ _ _).frame h

@[simp] theorem State.insert_frame {but : List Part} {r : State} (s : State) (k mtype : Nat) (body : List Byte) (h : [.ul] ⊆ but) :
    Unchanged but r (s.insert k mtype body) ↔ Unchanged but r s := (State.insert_unchanged s _ _ _).frame h

@[simp] theorem State.fire_frame {but : List Part} {r : State} (s : State) (src : Nat) (h : [.trc, .ttrc, .ul, .evr] ⊆ but) :
    Unchanged but r (s.fire src) ↔ Unchanged but r s := (State.fire_unchanged s _).frame h

@[simp] theorem State.happen_frame {but : List Part} {r : State} (s : State) (q : RecIn) (h : [.sys, .trc, .ttrc, .ul, .evr] ⊆ but) :
    Unchanged but r (s.happen q) ↔ Unchanged but r s := (State.happen_unchanged s _).frame h

@[simp] theorem State.note_frame {but : List Part} {r : State} (s : State) (code : Nat) (data : List Byte) (h : [.sys, .trc, .ttrc, .ul, .evr] ⊆ but) :
    Unchanged but r (s.note code data) ↔ Unchanged but r s := (State.note_unchanged s _ _).frame h

@[simp] theorem State.memCes_frame {but : List Part} {r : State} (s : State) (m n : Nat) (h : [.integ] ⊆ but) :
    Unchanged but r (s.memCes m n) ↔ Unchanged but r s := (State.memCes_unchanged s _ _).frame h

@[simp] theorem State.memErr_frame {but : List Part} {r : State} (s : State) (m : Nat) (ue : Bool) (addr : Nat) (h : [.sys, .integ, .trc, .ttrc, .ul, .evr] ⊆ but) :
    Unchanged but r (s.memErr m ue addr) ↔ Unchanged but r s := (State.memErr_unchanged s _ _ _).frame h

@[simp] theorem State.noted_frame {but : List Part} {q : State} (s : State) (r b key : Nat) (h : [.integ] ⊆ but) :
    Unchanged but q (s.noted r b key) ↔ Unchanged but q s := (State.noted_unchanged s _ _ _).frame h

@[simp] theorem State.stickOnce_frame {but : List Part} {q : State} (s : State) (r b key code : Nat) (data : List Byte) (h : [.sys, .integ, .trc, .ttrc, .ul, .evr] ⊆ but) :
    Unchanged but q (s.stickOnce r b key code data) ↔ Unchanged but q s := (State.stickOnce_unchanged s _ _ _ _ _).frame h

@[simp] theorem State.stickNote_frame {but : List Part} {q : State} (s : State) (r b code : Nat) (data : List Byte) (h : [.sys, .integ, .trc, .ttrc, .ul, .evr] ⊆ but) :
    Unchanged but q (s.stickNote r b code data) ↔ Unchanged but q s := (State.stickNote_unchanged s _ _ _ _).frame h

@[simp] theorem State.overload_frame {but : List Part} {r : State} (s : State) (p : Nat) (h : [.ump] ⊆ but) :
    Unchanged but r (s.overload p) ↔ Unchanged but r s := (State.overload_unchanged s _).frame h

@[simp] theorem State.setScn_frame {but : List Part} {r : State} (s : State) (v : Scan) (h : [.scn] ⊆ but) :
    Unchanged but r (s.setScn v) ↔ Unchanged but r s := (State.setScn_unchanged s _).frame h

@[simp] theorem State.stick_frame {but : List Part} {r : State} (s : State) (i b : Nat) (h : [.integ] ⊆ but) :
    Unchanged but r (s.stick i b) ↔ Unchanged but r s := (State.stick_unchanged s _ _).frame h

@[simp] theorem State.event_frame {but : List Part} {r : State} (s : State) (code : Nat) (data : List Byte) (role path : Nat) (h : [.sys, .trc, .ttrc, .ul, .evr] ⊆ but) :
    Unchanged but r (s.event code data role path) ↔ Unchanged but r s := (State.event_unchanged s _ _ _ _).frame h

@[simp] theorem State.oneCycle_frame {but : List Part} {r : State} (s : State) {f : State → State}
    (h : ∀ t, Unchanged but t (f t)) (hl : [.sys, .integ, .trc, .ttrc, .ul, .evr] ⊆ but) :
    Unchanged but r (s.oneCycle f) ↔ Unchanged but r s := (Unchanged.oneCycle h s hl).frame (List.Subset.refl but)

end Sys2Proof.Machine
end

section
/-! PROOF. Sketches (R286, R288 to R290): COUNT against the buckets, and SUM. -/

namespace Sys2Proof.Machine

/-- The sum of a sketch's buckets. -/
def bucketSum (t : Tab Word) : Nat := (t.map fun p => p.2.toNat).sum

theorem bucketSum_cons (p : Nat × Word) (t : Tab Word) : bucketSum (p :: t) = p.2.toNat + bucketSum t := by
  simp [bucketSum]

/-- Below its first index a canonical store reads as the default. -/
theorem get_below {α : Type} [DecidableEq α] (d : α) (t : Tab α) {b i : Nat} (h : i < b) (hw : Tab.wfFrom d b t = true) :
    Tab.get d t i = d := by
  induction t generalizing b with
  | nil => rfl
  | cons p t ih =>
    obtain ⟨j, v⟩ := p
    simp only [Tab.wfFrom, Bool.and_eq_true, decide_eq_true_eq] at hw
    obtain ⟨⟨hb, -⟩, ht⟩ := hw
    rw [Tab.get, if_neg (by omega), ih (by omega) ht]

/-- No index of a canonical store lies below its bound. -/
theorem le_of_mem_wfFrom {α : Type} [DecidableEq α] {d : α} {t : Tab α} {b : Nat} (hw : Tab.wfFrom d b t = true) {p : Nat × α}
    (hp : p ∈ t) : b ≤ p.1 := by
  induction t generalizing b with
  | nil => cases hp
  | cons q t ih =>
    simp only [Tab.wfFrom, Bool.and_eq_true, decide_eq_true_eq] at hw
    obtain ⟨⟨hb, -⟩, ht⟩ := hw
    cases hp with
    | head => exact hb
    | tail _ hp => exact (Nat.le_succ_of_le hb).trans (ih ht hp)

/-- A bucket that is set counts in place of what it held. -/
theorem bucketSum_set (t : Tab Word) (i : Nat) (v : Word) {b : Nat} (hw : Tab.wfFrom 0 b t = true) :
    bucketSum (Tab.set 0 t i v) + (Tab.get 0 t i).toNat = bucketSum t + v.toNat := by
  induction t generalizing b with
  | nil =>
    rw [Tab.set]
    split
    · next hv => simp [hv, bucketSum]
    · simp [bucketSum]
  | cons p t ih =>
    obtain ⟨j, w⟩ := p
    simp only [Tab.wfFrom, Bool.and_eq_true, decide_eq_true_eq] at hw
    obtain ⟨-, ht⟩ := hw
    have hi := ih ht
    have hbelow (h : i < j + 1) : (Tab.get 0 t i).toNat = 0 := by rw [get_below 0 t h ht]; rfl
    simp only [Tab.set, Tab.get]
    split_ifs with hv hij hlt hij hij
    · have := hbelow (by omega)
      simp only [bucketSum_cons]
      omega
    all_goals simp only [bucketSum_cons]
    all_goals omega

theorem satInc_toNat {w : Nat} (x : BitVec w) (h : x ≠ BitVec.allOnes w) : (satInc x).toNat = x.toNat + 1 := by
  have hlt : x.toNat + 1 < 2 ^ w := by
    have hne : x.toNat ≠ (BitVec.allOnes w).toNat := fun he => h (BitVec.eq_of_toNat_eq he)
    rw [BitVec.toNat_allOnes] at hne
    have := x.isLt
    omega
  rw [satInc, if_neg h, BitVec.toNat_add]
  cases w with
  | zero => exact absurd (Subsingleton.elim x _) h
  | succ w =>
    rw [show (1 : BitVec (w + 1)).toNat = 1 by simp, Nat.mod_eq_of_lt hlt]

theorem satAdd_toNat {w : Nat} (x : BitVec w) {n : Nat} (h : x.toNat + n < 2 ^ w) : (satAdd x n).toNat = x.toNat + n := by
  rw [satAdd, BitVec.toNat_ofNat, min_eq_right (by omega), Nat.mod_eq_of_lt h]

/-- The buckets of a merge. -/
def mergeBuckets (t u : Tab Word) : Tab Word := u.foldl (fun t p => Tab.upd 0 t p.1 fun c => satAdd c p.2.toNat) t

theorem mergeBuckets_cons (t : Tab Word) (p : Nat × Word) (u : Tab Word) :
    mergeBuckets t (p :: u) = mergeBuckets (Tab.set 0 t p.1 (satAdd (Tab.get 0 t p.1) p.2.toNat)) u := rfl

theorem wf_mergeBuckets (t u : Tab Word) (hw : Tab.wf 0 t = true) : Tab.wf 0 (mergeBuckets t u) = true := by
  induction u generalizing t with
  | nil => exact hw
  | cons p u ih => exact ih _ (Tab.wf_set 0 t p.1 _ hw)

/-- Each index of `u` comes once, so no bucket of `t` is added to twice. -/
theorem bucketSum_mergeBuckets (t u : Tab Word) {b : Nat} (ht : Tab.wf 0 t = true) (hu : Tab.wfFrom 0 b u = true)
    (h : ∀ p ∈ u, (Tab.get 0 t p.1).toNat + p.2.toNat < 2 ^ 32) :
    bucketSum (mergeBuckets t u) = bucketSum t + bucketSum u := by
  induction u generalizing t b with
  | nil => simp [mergeBuckets, bucketSum]
  | cons p u ih =>
    obtain ⟨j, v⟩ := p
    simp only [Tab.wfFrom, Bool.and_eq_true, decide_eq_true_eq] at hu
    obtain ⟨-, hu⟩ := hu
    have hrest (q : Nat × Word) (hq : q ∈ u) : (Tab.get 0 (Tab.set 0 t j (satAdd (Tab.get 0 t j) v.toNat)) q.1).toNat + q.2.toNat < 2 ^ 32 := by
      have hne : q.1 ≠ j := by
        have := le_of_mem_wfFrom hu hq
        omega
      rw [Tab.get_set_other 0 t _ hne]
      exact h q (by simp [hq])
    have hset := bucketSum_set t j (satAdd (Tab.get 0 t j) v.toNat) ht
    have hsum := satAdd_toNat (Tab.get 0 t j) (h (j, v) (by simp))
    rw [mergeBuckets_cons, ih _ (Tab.wf_set 0 t j _ ht) hu hrest, bucketSum_cons]
    dsimp only at hsum ⊢
    omega

/-- Settles O56: a bucket, COUNT and SUM grow by the same amounts until one of them is full, which its flag says. -/
theorem sketchCountsAgree : Obligations.SketchCountsAgree := by
  refine ⟨fun f n => ⟨rfl, rfl, rfl⟩, fun k x hw hcount => ⟨?_, fun hc => ?_, fun hs => ?_⟩,
    fun a b hwa hwb hca hcb => ⟨?_, fun hc => ?_, fun hs => ?_⟩⟩
  · exact Tab.wf_set 0 _ _ _ hw
  · simp only [Sketch.enter, Bool.or_eq_false_iff, beq_eq_false_iff_ne] at hc
    obtain ⟨⟨hk, hfull⟩, hold⟩ := hc
    have hset := bucketSum_set k.bkt (bucketOf x.toNat) (satInc (Tab.get 0 k.bkt (bucketOf x.toNat))) hw
    rw [satInc_toNat _ hold] at hset
    have hk := hcount hk
    change (satInc k.count).toNat = bucketSum (Tab.set 0 k.bkt _ (satInc _))
    change k.count.toNat = bucketSum k.bkt at hk
    rw [satInc_toNat _ hfull]
    omega
  · simp only [Sketch.enter, Bool.or_eq_false_iff, decide_eq_false_iff_not, not_le] at hs
    exact satAdd_toNat _ hs.2
  · exact wf_mergeBuckets _ _ hwa
  · simp only [Sketch.merge, Bool.or_eq_false_iff, decide_eq_false_iff_not, not_le, List.any_eq_false, decide_eq_true_eq] at hc
    obtain ⟨⟨⟨⟨ha, hb⟩, hfull⟩, -⟩, hbkt⟩ := hc
    change (satAdd a.count b.count.toNat).toNat = bucketSum (mergeBuckets a.bkt b.bkt)
    rw [satAdd_toNat _ hfull, bucketSum_mergeBuckets _ _ hwa hwb hbkt, hca ha, hcb hb]
    rfl
  · simp only [Sketch.merge, Bool.or_eq_false_iff, decide_eq_false_iff_not, not_le] at hs
    exact satAdd_toNat _ hs.2

end Sys2Proof.Machine
end

section
/-! PROOF. The arithmetic of the front stage (R305). -/

namespace Sys2Proof.Machine

/-- A result outside the signed 64-bit range, tested from below or from above. -/
theorem Ext.norm_eq (r : Int) : Ext.norm r = if r < -(2 ^ 63) then .ninf else if r < 2 ^ 63 then .fin r else .pinf := by
  unfold Ext.norm
  split_ifs <;> first | rfl | omega

/-- Settles O57: shift and division are Mathlib's floors, and `Ext.norm_eq` cuts each result. -/
theorem frontStageExact : Obligations.FrontStageExact := by
  intro x y sh
  refine ⟨Ext.norm_eq _, ⟨x * y / 2 ^ sh, ?_, ?_, Ext.norm_eq _⟩, fun hy => ⟨(x * 2 ^ 16).fdiv y, ?_, fun hpos => ?_, fun hneg => ?_⟩⟩
  · exact Int.ediv_mul_le _ (by positivity)
  · exact Int.lt_ediv_add_one_mul_self _ (by positivity)
  · simp only [Ext.ratio, hy, if_false]
    exact Ext.norm_eq _
  · rw [Int.fdiv_eq_ediv_of_nonneg _ hpos.le]
    exact ⟨Int.ediv_mul_le _ hy, Int.lt_ediv_add_one_mul_self _ hpos⟩
  · have hfloor : (x * 2 ^ 16).fdiv y = -(x * 2 ^ 16) / -y := by
      rw [← Int.neg_fdiv_neg, Int.fdiv_eq_ediv_of_nonneg _ (by omega)]
    have hle := Int.ediv_mul_le (-(x * 2 ^ 16)) (show -y ≠ 0 by omega)
    have hlt := Int.lt_ediv_add_one_mul_self (-(x * 2 ^ 16)) (show 0 < -y by omega)
    rw [hfloor]
    constructor <;> linarith

end Sys2Proof.Machine
end

section
/-! PROOF. Sticky bits (R511, R512), and the fall of a path's role (R482, R508). -/

namespace Sys2Proof.Machine

theorem State.stickyWord_stick_eq (s : State) {r r2 : Nat} (b : Nat) (hr : r < 4) (hr2 : r2 < 4) :
    (s.stick r b).stickyWord r2 = if r2 = r then setBit (s.stickyWord r) b true else s.stickyWord r2 := by
  have hput (w : Word) : ({ s with integ := s.integ.putSticky r w } : State).stickyWord r2 = if r2 = r then w else s.stickyWord r2 := by
    interval_cases r <;> interval_cases r2 <;> rfl
  rw [← hput]
  unfold State.stick
  split <;> interval_cases r2 <;> rfl

theorem getLsbD_setBit {w : Nat} (x : BitVec w) {i : Nat} (j : Nat) (hi : i < w) :
    (setBit x i true).getLsbD j = (x.getLsbD j || decide (j = i)) := by
  rw [setBit, if_pos rfl, BitVec.getLsbD_or, BitVec.getLsbD_ofNat, Nat.testBit_two_pow]
  by_cases hj : j < w
  · simp [hj, eq_comm]
  · have hne : j ≠ i := by omega
    simp [hj, hne]

/-- Settles O15, through the four words and their bits. -/
theorem stickyFirst : Obligations.StickyFirst := by
  intro r b s r2 b2 hr hb hr2 hb2
  refine ⟨?_, fun hne => ?_, ?_, ?_, s.stick_unchanged r b⟩
  · simp [State.stuck, State.stickyWord_stick_eq s b hr hr, getLsbD_setBit _ b hb]
  · rw [State.stuck, State.stickyWord_stick_eq s b hr hr2, State.stuck]
    split
    · next h =>
      subst h
      have hbit : b2 ≠ b := by simpa using hne
      simp [getLsbD_setBit _ b2 hb, hbit]
    · rfl
  · have hfirst : firstWord r b = BitVec.ofNat 32 (2 ^ 31 + 256 * r + b) := by
      simp [firstWord, fieldAt, Nat.mod_eq_of_lt hr, Nat.shiftLeft_eq, Nat.mul_comm]
    rw [← hfirst]
    unfold State.stick
    split
    · rfl
    · interval_cases r <;> rfl
  · unfold State.stick
    split
    · rfl
    · interval_cases r <;> rfl

theorem State.cplRestore_unchanged (s : State) (item i : Nat) :
    Unchanged [.integ, .sys, .trc, .ttrc, .ul, .evr] s (s.cplRestore item i) :=
  .ite (((Unchanged.refl _ s).step (s.setInt_unchanged _)).step (State.note_unchanged _ _ _)) (.refl _ s)

theorem State.cplRestore_roles (s : State) (item i : Nat) : (s.cplRestore item i).roles = s.roles :=
  (s.cplRestore_unchanged item i .roles (by decide)).symm

/-- A change of roles alone is one of the cycle it happens in. -/
theorem State.oneCycle_roles_eq {f : State → State} {v : Roles} {s : State} (h : ∀ t, t.roles = s.roles → (f t).roles = v) :
    (s.oneCycle f).roles = v := by
  unfold State.oneCycle
  split <;> simp [h]

theorem State.takeRole_unchanged (s : State) (p role : Nat) :
    Unchanged [.roles, .integ, .sys, .evr, .trc, .ul, .ttrc] s (s.takeRole p role) :=
  ((Unchanged.refl _ s).step (s.roles_unchanged _)).step (State.cplRestore_unchanged _ _ _)

/-- Settles O10: the pair of the path is written, and its record and its item of Table 16-1 follow. -/
theorem roleFall : Obligations.RoleFall := by
  intro p new cause s hnew
  refine ⟨State.oneCycle_roles_eq fun t ht => ?_, ?_, ?_⟩
  · have hpath : t.path p = s.path p := by simp [State.path, ht]
    simp [State.takeRole, State.cplRestore_roles, State.setPath, ht, hpath]
  · obtain rfl | rfl := hnew <;> simp [PathState.held]
  · exact .oneCycle (fun t => (t.takeRole_unchanged p new).step (State.event_unchanged _ _ _ _ _)) s

end Sys2Proof.Machine
end

section
/-! PROOF. The umpire's evaluation (R334, R348, R349): no two compounds share their last rule, so each condition has an entry of
its own. -/

namespace Sys2Proof.Machine

/-- The compounds gathered from rule `i` on end at `i` or later, but for a run that no further rule joins. -/
theorem State.le_lastOf_of_mem_compoundsFrom {s : State} {m : List Nat} (f i : Nat) (run : List Nat)
    (h : m ∈ s.compoundsFrom f i run) : i ≤ lastOf m ∨ m = run ∧ run ≠ [] := by
  induction f generalizing i run with
  | zero =>
    rw [State.compoundsFrom] at h
    split at h
    · simp at h
    · next hrun => exact .inr ⟨by simpa using h, by simpa using hrun⟩
  | succ f ih =>
    have hlast : lastOf (run ++ [i]) = i := by simp [lastOf]
    rw [State.compoundsFrom] at h
    split at h
    · obtain hle | ⟨rfl, -⟩ := ih _ _ h
      · exact .inl (by omega)
      · exact .inl hlast.ge
    · cases h with
      | head => exact .inl hlast.ge
      | tail _ h =>
        obtain hle | ⟨-, hne⟩ := ih _ _ h
        · exact .inl (by omega)
        · exact absurd rfl hne

theorem State.compoundsFrom_pairwise (s : State) (f i : Nat) (run : List Nat) :
    (s.compoundsFrom f i run).Pairwise fun a b => lastOf a < lastOf b := by
  induction f generalizing i run with
  | zero =>
    rw [State.compoundsFrom]
    split <;> simp
  | succ f ih =>
    rw [State.compoundsFrom]
    split
    · exact ih _ _
    · refine List.pairwise_cons.2 ⟨fun m hm => ?_, ih _ _⟩
      obtain hle | ⟨-, hne⟩ := State.le_lastOf_of_mem_compoundsFrom _ _ _ hm
      · simpa [lastOf] using hle
      · exact absurd rfl hne

theorem State.lastOf_injOn_compounds {s : State} {m n : List Nat} (hm : m ∈ s.compounds) (hn : n ∈ s.compounds)
    (h : lastOf m = lastOf n) : m = n := by
  have hnodup : (s.compounds.map lastOf).Nodup :=
    List.pairwise_map.2 ((s.compoundsFrom_pairwise s.nRule 0 []).imp fun h => h.ne)
  exact List.inj_on_of_nodup_map hnodup hm hn h

theorem State.le_of_mem_ruleDies {s : State} {m : List Nat} {k : Nat} (h : k ∈ s.ruleDies m) : k ≤ 64 := by
  unfold State.ruleDies at h
  split at h
  · simp only [own, List.mem_singleton] at h
    omega
  · have := List.mem_range.1 h
    omega

/-- What a fold of writes leaves at a key, where all writes to one key are of one value. -/
theorem get_foldl_set {α β : Type} [DecidableEq α] (d : α) (key : β → Nat) (val : β → α) (l : List β) (t : Tab α) {x : β}
    (hx : x ∈ l) (h : ∀ y ∈ l, key y = key x → val y = val x) :
    Tab.get d (l.foldl (fun t y => Tab.set d t (key y) (val y)) t) (key x) = val x := by
  induction l using List.reverseRecOn with
  | nil => cases hx
  | append_singleton l y ih =>
    rw [List.foldl_append, List.foldl_cons, List.foldl_nil, Tab.get_set]
    split
    · next hk => exact h y (by simp) hk.symm
    · next hk =>
      have hmem : x ∈ l := by
        obtain hl | rfl : x ∈ l ∨ x = y := by simpa using hx
        · exact hl
        · exact absurd rfl hk
      exact ih hmem fun z hz => h z (by simp [hz])

/-- The rules and dies of one evaluation. -/
def State.judged (s : State) : List (List Nat × Nat) := s.compounds.flatMap fun m => (s.ruleDies m).map fun k => (m, k)

theorem State.mem_judged {s : State} {m : List Nat} {k : Nat} : (m, k) ∈ s.judged ↔ m ∈ s.compounds ∧ k ∈ s.ruleDies m := by
  simp only [State.judged, List.mem_flatMap, List.mem_map, Prod.mk.injEq]
  constructor
  · rintro ⟨n, hn, j, hj, rfl, rfl⟩
    exact ⟨hn, hj⟩
  · rintro ⟨hm, hk⟩
    exact ⟨m, hm, k, hk, rfl, rfl⟩

/-- Settles O45: the evaluation writes one entry for each compound and die, by `State.lastOf_injOn_compounds`. -/
theorem umpireJudgesEveryRule : Obligations.UmpireJudgesEveryRule := by
  intro s t hr hu hd hw h
  let key (x : List Nat × Nat) : Nat := 65 * lastOf x.1 + x.2
  let cond (x : List Nat × Nat) : BitVec 2 := s.compoundCond x.1 x.2
  let conds : Tab (BitVec 2) := s.judged.foldl (fun t x => Tab.set 0 t (key x) (cond x)) []
  have hexec : exec .umpireEvaluation s = .next (s.setUmp { s.ump with work := some { heat := s.heat.heat, conds := conds } }) := by
    simp [exec, execUmpireEvaluation, hr, hu, hd, hw, conds, State.judged, List.foldl_flatMap, List.foldl_map, key, cond]
  obtain rfl : _ = t := Host.Outcome.next.inj (hexec.symm.trans h)
  refine ⟨_, rfl, fun m hm k hk => ?_⟩
  refine get_foldl_set 0 key cond s.judged [] (x := (m, k)) (State.mem_judged.2 ⟨hm, hk⟩) ?_
  rintro ⟨n, j⟩ hy hkey
  obtain ⟨hn, hj⟩ := State.mem_judged.1 hy
  have hk' := State.le_of_mem_ruleDies hk
  have hj' := State.le_of_mem_ruleDies hj
  dsimp only [key] at hkey
  have hlast : lastOf n = lastOf m := by omega
  obtain rfl := State.lastOf_injOn_compounds hn hm hlast
  obtain rfl : j = k := by omega
  rfl

end Sys2Proof.Machine
end

section
/-! PROOF. The frame of each operation that the statements below use, in the order of the model: the parts that it changes at most,
as a rule for `simp` (an operation) or by name (a command). -/

namespace Sys2Proof.Machine

@[simp] theorem State.freed_frame {fr : List Part} {r₀ : State} (s : State)
    (hfr : [.sys] ⊆ fr) : Unchanged fr r₀ (s.freed) ↔ Unchanged fr r₀ s := by
  refine Unchanged.frame ?_ hfr
  simp [State.freed]

@[simp] theorem State.buffer_frame {fr : List Part} {r₀ : State} (s : State) (q : RecIn)
    (hfr : [.evr] ⊆ fr) : Unchanged fr r₀ (s.buffer q) ↔ Unchanged fr r₀ s := by
  refine Unchanged.frame ?_ hfr
  simp [State.buffer]

@[simp] theorem State.captureBuoy_frame {fr : List Part} {r₀ : State} (s : State) (kind : Nat) (slot : BitVec 23) (heat : DWord)
    (hfr : [.trc] ⊆ fr) : Unchanged fr r₀ (s.captureBuoy kind slot heat) ↔ Unchanged fr r₀ s := by
  refine Unchanged.frame ?_ hfr
  simp [State.captureBuoy]

@[simp] theorem State.resumeBuoy_frame {fr : List Part} {r₀ : State} (s : State) (heat : DWord)
    (hfr : [.trc] ⊆ fr) : Unchanged fr r₀ (s.resumeBuoy heat) ↔ Unchanged fr r₀ s := by
  refine Unchanged.frame ?_ hfr
  simp [State.resumeBuoy]

@[simp] theorem State.later_frame {fr : List Part} {r₀ : State} (s : State)
    (hfr : [.sys, .trc] ⊆ fr) : Unchanged fr r₀ (s.later) ↔ Unchanged fr r₀ s := by
  refine Unchanged.frame ?_ hfr
  simp [State.later]

@[simp] theorem State.laterTo_frame {fr : List Part} {r₀ : State} (s : State) (ofs : BitVec 11)
    (hfr : [.trc] ⊆ fr) : Unchanged fr r₀ (s.laterTo ofs) ↔ Unchanged fr r₀ s := by
  refine Unchanged.frame ?_ hfr
  simp [State.laterTo]

@[simp] theorem State.capReady_frame {fr : List Part} {r₀ : State} (s : State)
    (hfr : [.trc] ⊆ fr) : Unchanged fr r₀ (s.capReady) ↔ Unchanged fr r₀ s := by
  refine Unchanged.frame ?_ hfr
  simp [State.capReady]

@[simp] theorem State.internalNow_frame {fr : List Part} {r₀ : State} (s : State) (code : Nat) (data : List Byte)
    (hfr : [.trc, .ttrc] ⊆ fr) : Unchanged fr r₀ (s.internalNow code data) ↔ Unchanged fr r₀ s := by
  refine Unchanged.frame ?_ hfr
  simp [State.internalNow]

@[simp] theorem State.eventQuiet_frame {fr : List Part} {r₀ : State} (s : State) (q : RecIn)
    (hfr : [.sys, .trc, .ttrc, .evr] ⊆ fr) : Unchanged fr r₀ (s.eventQuiet q) ↔ Unchanged fr r₀ s := by
  refine Unchanged.frame ?_ hfr
  simp [State.eventQuiet]

@[simp] theorem State.firstOf_frame {fr : List Part} {r₀ : State} (s old : State)
    (hfr : [.integ] ⊆ fr) : Unchanged fr r₀ (s.firstOf old) ↔ Unchanged fr r₀ s := by
  refine Unchanged.frame ?_ hfr
  unfold State.firstOf
  (repeat' split) <;> simp

@[simp] theorem State.setPort_frame {fr : List Part} {r₀ : State} (s : State) (p : Nat) (q : NbPort)
    (hfr : [.nb] ⊆ fr) : Unchanged fr r₀ (s.setPort p q) ↔ Unchanged fr r₀ s := by
  refine Unchanged.frame ?_ hfr
  simp [State.setPort]

@[simp] theorem State.northOn_frame {fr : List Part} {r₀ : State} (s : State) (p mtype : Nat) (body : List Byte) (dst : Option
    (BitVec 48)) (rep : Bool)
    (hfr : [.nb] ⊆ fr) : Unchanged fr r₀ (s.northOn p mtype body dst rep) ↔ Unchanged fr r₀ s := by
  refine Unchanged.frame ?_ hfr
  simp [State.northOn]

@[simp] theorem State.northRep_frame {fr : List Part} {r₀ : State} (s : State) (mtype : Nat) (body : List Byte) (rep : Bool)
    (hfr : [.nb] ⊆ fr) : Unchanged fr r₀ (s.northRep mtype body rep) ↔ Unchanged fr r₀ s := by
  refine Unchanged.frame ?_ hfr
  simp [State.northRep]

@[simp] theorem State.northTo_frame {fr : List Part} {r₀ : State} (s : State) (mtype : Nat) (dst : BitVec 48) (body : List Byte)
    (hfr : [.nb] ⊆ fr) : Unchanged fr r₀ (s.northTo mtype dst body) ↔ Unchanged fr r₀ s := by
  refine Unchanged.frame ?_ hfr
  simp [State.northTo]

@[simp] theorem State.reqFinish_frame {fr : List Part} {r₀ : State} (s : State) (i : Nat)
    (hfr : [.nb] ⊆ fr) : Unchanged fr r₀ (s.reqFinish i) ↔ Unchanged fr r₀ s := by
  refine Unchanged.frame ?_ hfr
  unfold State.reqFinish
  split <;> simp

@[simp] theorem State.reqDone_frame {fr : List Part} {r₀ : State} (s : State) (i status : Nat) (data : Word)
    (hfr : [.nb] ⊆ fr) : Unchanged fr r₀ (s.reqDone i status data) ↔ Unchanged fr r₀ s := by
  refine Unchanged.frame ?_ hfr
  unfold State.reqDone
  split <;> simp

@[simp] theorem State.north_frame {fr : List Part} {r₀ : State} (s : State) (mtype : Nat) (body : List Byte)
    (hfr : [.nb] ⊆ fr) : Unchanged fr r₀ (s.north mtype body) ↔ Unchanged fr r₀ s := by
  refine Unchanged.frame ?_ hfr
  simp [State.north]

@[simp] theorem State.take_frame {fr : List Part} {r₀ : State} (s : State) (k v mtype : Nat)
    (hfr : [.ul] ⊆ fr) : Unchanged fr r₀ (s.take k v mtype) ↔ Unchanged fr r₀ s := by
  refine Unchanged.frame ?_ hfr
  unfold State.take
  dsimp only
  split <;> simp

@[simp] theorem State.setPath_frame {fr : List Part} {r₀ : State} (s : State) (p : Nat) (q : PathState)
    (hfr : [.roles] ⊆ fr) : Unchanged fr r₀ (s.setPath p q) ↔ Unchanged fr r₀ s := by
  refine Unchanged.frame ?_ hfr
  simp [State.setPath]

@[simp] theorem State.roleRefused_frame {fr : List Part} {r₀ : State} (s : State) (a : Acc) (off need : Nat)
    (hfr : [.sys, .integ, .trc, .ttrc, .ul, .evr] ⊆ fr) : Unchanged fr r₀ (s.roleRefused a off need) ↔ Unchanged fr r₀ s := by
  refine Unchanged.frame ?_ hfr
  simp [State.roleRefused]

@[simp] theorem State.cfgWrite_frame {fr : List Part} {r₀ : State} (s : State) (a : Acc) (off : Nat) (v : Word)
    (hfr : [.sys, .trc, .ttrc, .ul, .evr] ⊆ fr) : Unchanged fr r₀ (s.cfgWrite a off v) ↔ Unchanged fr r₀ s := by
  refine Unchanged.frame ?_ hfr
  simp [State.cfgWrite]

@[simp] theorem State.wc2Refused_frame {fr : List Part} {r₀ : State} (s : State) (a : Acc) (off reason : Nat)
    (hfr : [.sys, .integ, .trc, .ttrc, .ul, .evr] ⊆ fr) : Unchanged fr r₀ (s.wc2Refused a off reason) ↔ Unchanged fr r₀ s := by
  refine Unchanged.frame ?_ hfr
  simp [State.wc2Refused]

@[simp] theorem State.joinTest_frame {fr : List Part} {r₀ : State} (s : State)
    (hfr : [.heat, .test] ⊆ fr) : Unchanged fr r₀ (s.joinTest) ↔ Unchanged fr r₀ s := by
  refine Unchanged.frame ?_ hfr
  simp [State.joinTest]

@[simp] theorem State.raDone_frame {fr : List Part} {r₀ : State} (s : State) (q : RaReq) (v : Word)
    (hfr : [.heat, .test] ⊆ fr) : Unchanged fr r₀ (s.raDone q v) ↔ Unchanged fr r₀ s := by
  refine Unchanged.frame ?_ hfr
  simp [State.raDone]

@[simp] theorem State.answered_frame {fr : List Part} {r₀ : State} (s : State) (a : Acc) (wr : Bool) (off : Nat) (r : Word)
    (hfr : [.heat, .test] ⊆ fr) : Unchanged fr r₀ (s.answered a wr off r) ↔ Unchanged fr r₀ s := by
  refine Unchanged.frame ?_ hfr
  unfold State.answered
  split <;> simp

/-- A write that answers, refuses, or does `f`. -/
@[simp] theorem State.written_frame {fr : List Part} {r₀ : State} (s : State) (a : Acc) (off need : Nat) (f : State → State)
    (hf : ∀ t, Unchanged fr t (f t)) (hfr : [.sys, .integ, .heat, .trc, .ttrc, .ul, .evr, .test] ⊆ fr) :
    Unchanged fr r₀ (s.written a off need f) ↔ Unchanged fr r₀ s := by
  have hanswer : [Part.heat, .test] ⊆ fr := List.Subset.trans (by decide) hfr
  have hrefuse : [Part.sys, .integ, .trc, .ttrc, .ul, .evr] ⊆ fr := List.Subset.trans (by decide) hfr
  have hanswered : Unchanged fr s (s.answered a true off 0) := (State.answered_frame s a true off 0 hanswer).2 .self
  have hrefused := (State.roleRefused_frame (s.answered a true off 0) a off need hrefuse).2 hanswered
  refine Unchanged.frame ?_ (List.Subset.refl fr)
  exact .ite .self (.ite hanswered (.ite hanswered (.ite hrefused (hanswered.trans (hf _)))))

@[simp] theorem State.storePair_frame {fr : List Part} {r₀ : State} (s : State) (off : Nat) (v : Word)
    (hfr : [.wc2] ⊆ fr) : Unchanged fr r₀ (s.storePair off v) ↔ Unchanged fr r₀ s := by
  refine Unchanged.frame ?_ hfr
  simp [State.storePair]

@[simp] theorem State.cplRestore_frame {fr : List Part} {r₀ : State} (s : State) (item i : Nat)
    (hfr : [.sys, .integ, .trc, .ttrc, .ul, .evr] ⊆ fr) : Unchanged fr r₀ (s.cplRestore item i) ↔ Unchanged fr r₀ s := by
  refine Unchanged.frame ?_ hfr
  simp [State.cplRestore]

@[simp] theorem State.wc2Commit_frame {fr : List Part} {r₀ : State} (s : State) (a : Acc) (off : Nat) (why : State → Word → Nat)
    (f : State → Word → State) (hf : ∀ t w, Unchanged fr t (f t w))
    (hfr : [.sys, .integ, .heat, .trc, .ttrc, .ul, .evr, .test] ⊆ fr) :
    Unchanged fr r₀ (s.wc2Commit a off why f) ↔ Unchanged fr r₀ s := by
  have hinteg : [Part.integ] ⊆ fr := List.Subset.trans (by decide) hfr
  have hrefuse : [Part.sys, .integ, .trc, .ttrc, .ul, .evr] ⊆ fr := List.Subset.trans (by decide) hfr
  have hset (t : State) (v : Integ) : Unchanged fr t (t.setInt v) := (t.setInt_unchanged v).mono hinteg
  have hrefused (t : State) (n m : Nat) : Unchanged fr t (t.wc2Refused a n m) := (State.wc2Refused_frame t a n m hrefuse).2 .self
  refine State.written_frame s a (off + 4) 2 _ (fun t => ?_) hfr
  extract_lets _ u
  have hu : Unchanged fr t u := hset t _
  split
  · next o w _ =>
    have hcommit (t : State) : Unchanged fr t ((f t w).cfgWrite a off w) :=
      (State.cfgWrite_frame (f t w) a off w (List.Subset.trans (by decide) hfr)).2 (hf t w)
    have hcycle := (State.oneCycle_frame u hcommit (List.Subset.trans (by decide) hfr)).2 hu
    exact .ite (hu.trans (hrefused _ _ _)) (.ite (hu.trans (hrefused _ _ _)) (.ite (hu.trans (hrefused _ _ _)) hcycle))
  · exact hu.trans (hrefused _ _ _)

@[simp] theorem State.readBy_frame {fr : List Part} {r₀ : State} (s : State) (a : Acc) (off : Nat) (r : Word) (f : State → State)
    (hf : ∀ t, Unchanged fr t (f t)) (hfr : [.heat, .test] ⊆ fr) :
    Unchanged fr r₀ (s.readBy a off r f) ↔ Unchanged fr r₀ s := by
  have hanswered : Unchanged fr s (s.answered a false off r) := (State.answered_frame s a false off r hfr).2 .self
  exact Unchanged.frame (.ite .self (hanswered.trans (hf _))) (List.Subset.refl fr)

@[simp] theorem State.setVerd_frame {fr : List Part} {r₀ : State} (s : State) (k : Nat) (v : Verd)
    (hfr : [.ump] ⊆ fr) : Unchanged fr r₀ (s.setVerd k v) ↔ Unchanged fr r₀ s := by
  refine Unchanged.frame ?_ hfr
  simp [State.setVerd]

@[simp] theorem State.reseed_frame {fr : List Part} {r₀ : State} (s : State) (step : Word)
    (hfr : [.led] ⊆ fr) : Unchanged fr r₀ (s.reseed step) ↔ Unchanged fr r₀ s := by
  refine Unchanged.frame ?_ hfr
  simp [State.reseed]

@[simp] theorem State.noteLeft_frame {fr : List Part} {r₀ : State} (s : State)
    (hfr : [.fpc, .red] ⊆ fr) : Unchanged fr r₀ (s.noteLeft) ↔ Unchanged fr r₀ s := by
  refine Unchanged.frame ?_ hfr
  simp [State.noteLeft]

@[simp] theorem State.fpReplayEntry_frame {fr : List Part} {r₀ : State} (s : State) (k : Nat) (e : List Byte)
    (hfr : [.fpc] ⊆ fr) : Unchanged fr r₀ (s.fpReplayEntry k e) ↔ Unchanged fr r₀ s := by
  refine Unchanged.frame ?_ hfr
  unfold State.fpReplayEntry
  dsimp only
  split <;> simp

@[simp] theorem State.fpJoin_frame {fr : List Part} {r₀ : State} (s : State) (k : Nat) (e : List Byte)
    (hfr : [.fpc] ⊆ fr) : Unchanged fr r₀ (s.fpJoin k e) ↔ Unchanged fr r₀ s := by
  refine Unchanged.frame ?_ hfr
  unfold State.fpJoin
  dsimp only
  (repeat' split) <;> simp

theorem execFpReport_unchanged (old : State) (k : BitVec 6) (entry : List Byte) (s : State) :
    Unchanged [.fpc, .ul, .nb] s (after old (execFpReport k entry s)) := by
  simp [execFpReport]

@[simp] theorem State.fpExpire_frame {fr : List Part} {r₀ : State} (s : State)
    (hfr : [.fpc] ⊆ fr) : Unchanged fr r₀ (s.fpExpire) ↔ Unchanged fr r₀ s := by
  refine Unchanged.frame ?_ hfr
  simp [State.fpExpire]

@[simp] theorem State.fpRequest_frame {fr : List Part} {r₀ : State} (s : State) (r : FpReplay)
    (hfr : [.fpc, .ul] ⊆ fr) : Unchanged fr r₀ (s.fpRequest r) ↔ Unchanged fr r₀ s := by
  refine Unchanged.frame ?_ hfr
  simp [State.fpRequest]

@[simp] theorem State.fpBins_frame {fr : List Part} {r₀ : State} (s : State) (es : List FpEntry) (dissent : FpEntry → Bool)
    (hfr : [.fpc] ⊆ fr) : Unchanged fr r₀ (s.fpBins es dissent) ↔ Unchanged fr r₀ s := by
  refine Unchanged.frame ?_ hfr
  simp [State.fpBins]

@[simp] theorem State.judgeClass_frame {fr : List Part} {r₀ : State} (s : State) (x : FpSet) (es : List FpEntry)
    (hfr : [.sys, .trc, .ttrc, .fpc, .ul, .evr] ⊆ fr) : Unchanged fr r₀ (s.judgeClass x es) ↔ Unchanged fr r₀ s := by
  refine Unchanged.frame ?_ hfr
  unfold State.judgeClass
  split <;> simp

@[simp] theorem State.judgeSets_frame {fr : List Part} {r₀ : State} (s : State)
    (hfr : [.sys, .trc, .ttrc, .fpc, .ul, .evr] ⊆ fr) : Unchanged fr r₀ (s.judgeSets) ↔ Unchanged fr r₀ s := by
  refine Unchanged.frame ?_ hfr
  unfold State.judgeSets
  dsimp only
  refine (Unchanged.frame_foldl (fun t x => ?_) _).2 (by simp)
  exact (Unchanged.frame_foldl (fun u c => by simp) _).2 .self

@[simp] theorem State.outcome_frame {fr : List Part} {r₀ : State} (s : State) (r : FpReplay) (ref : Option DWord)
    (hfr : [.sys, .trc, .ttrc, .fpc, .ump, .ul, .evr] ⊆ fr) : Unchanged fr r₀ (s.outcome r ref) ↔ Unchanged fr r₀ s := by
  refine Unchanged.frame ?_ hfr
  unfold State.outcome
  (repeat' split) <;> simp

@[simp] theorem State.judgeReplays_frame {fr : List Part} {r₀ : State} (s : State) (sel : FpReplay → Bool)
    (hfr : [.sys, .trc, .ttrc, .fpc, .ump, .ul, .evr] ⊆ fr) : Unchanged fr r₀ (s.judgeReplays sel) ↔ Unchanged fr r₀ s := by
  refine Unchanged.frame ?_ hfr
  simp [State.judgeReplays]

@[simp] theorem State.closeReplay_frame {fr : List Part} {r₀ : State} (s : State) (p : FpReplay → Bool) (why : BitVec 3)
    (hfr : [.fpc] ⊆ fr) : Unchanged fr r₀ (s.closeReplay p why) ↔ Unchanged fr r₀ s := by
  refine Unchanged.frame ?_ hfr
  simp [State.closeReplay]

@[simp] theorem State.replayTimeouts_frame {fr : List Part} {r₀ : State} (s : State)
    (hfr : [.fpc] ⊆ fr) : Unchanged fr r₀ (s.replayTimeouts) ↔ Unchanged fr r₀ s := by
  refine Unchanged.frame ?_ hfr
  simp [State.replayTimeouts]

theorem execFpRplTmoExpiry_unchanged (old : State) (rec : BitVec 8) (s : State) :
    Unchanged [.sys, .integ, .trc, .ttrc, .fpc, .ump, .ul, .evr] s (after old (execFpRplTmoExpiry rec s)) := by
  simp [execFpRplTmoExpiry]

theorem execReplayRefused_unchanged (old : State) (k : BitVec 6) (step : Word) (nums : List Byte) (cause : Byte) (s : State) :
    Unchanged [.sys, .integ, .trc, .ttrc, .fpc, .ump, .ul, .evr] s (after old (execReplayRefused k step nums cause s)) := by
  simp [execReplayRefused]

theorem execShardReport_unchanged (old : State) (k : BitVec 6) (body : List Byte) (s : State) :
    Unchanged [.fpc, .ul, .nb] s (after old (execShardReport k body s)) := by
  simp [execShardReport]

@[simp] theorem State.takeGroups_frame {fr : List Part} {r₀ : State} (s : State)
    (hfr : [.fpc] ⊆ fr) : Unchanged fr r₀ (s.takeGroups) ↔ Unchanged fr r₀ s := by
  refine Unchanged.frame ?_ hfr
  simp [State.takeGroups]

@[simp] theorem cmdFpReplay_frame {fr : List Part} {r₀ : State} (p : Post) (s : State)
    (hfr : [.ul] ⊆ fr) : Unchanged fr r₀ ((cmdFpReplay p s).getD s) ↔ Unchanged fr r₀ s := by
  refine Unchanged.frame ?_ hfr
  unfold cmdFpReplay
  dsimp only
  split <;> simp

@[simp] theorem cmdFpBinClr_frame {fr : List Part} {r₀ : State} (p : Post) (s : State)
    (hfr : [.fpc] ⊆ fr) : Unchanged fr r₀ ((cmdFpBinClr p s).getD s) ↔ Unchanged fr r₀ s := by
  refine Unchanged.frame ?_ hfr
  simp [cmdFpBinClr]

@[simp] theorem State.tallyRefuse_frame {fr : List Part} {r₀ : State} (s : State) (src n : Nat) (inc : BitVec 16)
    (reason role path : Nat)
    (hfr : [.sys, .integ, .trc, .ttrc, .tly, .ul, .evr] ⊆ fr) :
    Unchanged fr r₀ (s.tallyRefuse src n inc reason role path) ↔ Unchanged fr r₀ s := by
  refine Unchanged.frame ?_ hfr
  simp [State.tallyRefuse]

@[simp] theorem State.tallyDirect_frame {fr : List Part} {r₀ : State} (s : State) (src n : Nat) (inc : BitVec 16)
    (role path : Nat)
    (hfr : [.sys, .integ, .trc, .ttrc, .tly, .ul, .evr] ⊆ fr) :
    Unchanged fr r₀ (s.tallyDirect src n inc role path) ↔ Unchanged fr r₀ s := by
  refine Unchanged.frame ?_ hfr
  simp [State.tallyDirect]

@[simp] theorem State.bindEvent_frame {fr : List Part} {r₀ : State} (s : State) (src arg : Nat)
    (hfr : [.sys, .integ, .trc, .ttrc, .tly, .ul, .evr] ⊆ fr) : Unchanged fr r₀ (s.bindEvent src arg) ↔ Unchanged fr r₀ s := by
  refine Unchanged.frame ?_ hfr
  simp [State.bindEvent]

theorem execTallySignal_unchanged (old : State) (lane : BitVec 2) (id : BitVec 6) (inc : BitVec 16) (s : State) :
    Unchanged [.sys, .integ, .trc, .ttrc, .tly, .ul, .evr] s (after old (execTallySignal lane id inc s)) := by
  simp [execTallySignal]

@[simp] theorem State.setWait_frame {fr : List Part} {r₀ : State} (s : State) (w : Nat) (l : WaitLane)
    (hfr : [.pwr, .tly] ⊆ fr) : Unchanged fr r₀ (s.setWait w l) ↔ Unchanged fr r₀ s := by
  refine Unchanged.frame ?_ hfr
  simp [State.setWait]

theorem execTallyWait_unchanged (old : State) (w : BitVec 4) (id : BitVec 6) (tgt : Word) (s : State) :
    Unchanged [.pwr, .tly] s (after old (execTallyWait w id tgt s)) := by
  simp [execTallyWait]

theorem execTallyRelease_unchanged (old : State) (w : BitVec 4) (s : State) :
    Unchanged [.pwr, .tly] s (after old (execTallyRelease w s)) := by
  simp [execTallyRelease]

theorem execTallyWaitWithdraw_unchanged (old : State) (w : BitVec 4) (s : State) :
    Unchanged [.pwr, .tly] s (after old (execTallyWaitWithdraw w s)) := by
  simp [execTallyWaitWithdraw]

theorem execWaitLong_unchanged (old : State) (w : BitVec 4) (s : State) :
    Unchanged [.pwr, .tly] s (after old (execWaitLong w s)) := by
  simp [execWaitLong]

@[simp] theorem State.tallyHalt_frame {fr : List Part} {r₀ : State} (s : State) (cause lane role path : Nat)
    (hfr : [.sys, .integ, .trc, .ttrc, .tly, .ul, .nb, .evr] ⊆ fr) :
    Unchanged fr r₀ (s.tallyHalt cause lane role path) ↔ Unchanged fr r₀ s := by
  refine Unchanged.frame ?_ hfr
  simp [State.tallyHalt]

theorem execTallyWatchdog_unchanged (old : State) (s : State) :
    Unchanged [.sys, .integ, .trc, .ttrc, .tly, .ul, .nb, .evr] s (after old (execTallyWatchdog s)) := by
  unfold execTallyWatchdog
  dsimp only
  split <;> simp

theorem execTallyTaskEnd_unchanged (old : State) (mask : BitVec 48) (s : State) :
    Unchanged [.sys, .integ, .trc, .ttrc, .tly, .ul, .evr] s (after old (execTallyTaskEnd mask s)) := by
  unfold execTallyTaskEnd
  dsimp only
  split <;> simp

@[simp] theorem State.remoteArrive_frame {fr : List Part} {r₀ : State} (s : State) (n : Nat) (inc : BitVec 16)
    (hfr : [.sys, .integ, .trc, .ttrc, .tly, .ul, .evr] ⊆ fr) : Unchanged fr r₀ (s.remoteArrive n inc) ↔ Unchanged fr r₀ s := by
  refine Unchanged.frame ?_ hfr
  simp [State.remoteArrive]

@[simp] theorem State.remoteFreed_frame {fr : List Part} {r₀ : State} (s : State) (requests : Bool)
    (hfr : [.tly] ⊆ fr) : Unchanged fr r₀ (s.remoteFreed requests) ↔ Unchanged fr r₀ s := by
  refine Unchanged.frame ?_ hfr
  simp [State.remoteFreed]

theorem execTallySig_unchanged (old : State) (k : BitVec 6) (dest : BitVec 7) (tally : Byte) (inc : BitVec 16)
    (sender : BitVec 48) (s : State) :
    Unchanged [.sys, .integ, .trc, .ttrc, .tly, .ul, .evr] s (after old (execTallySig k dest tally inc sender s)) := by
  simp [execTallySig]

theorem execRemoteSignalApply_unchanged (old : State) (s : State) :
    Unchanged [.sys, .integ, .trc, .ttrc, .tly, .ul, .evr] s (after old (execRemoteSignalApply s)) := by
  unfold execRemoteSignalApply
  split <;> simp

theorem execTlyAddWrite_unchanged (old : State) (a : Acc) (n : BitVec 6) (s : State) :
    Unchanged [.sys, .integ, .heat, .trc, .ttrc, .tly, .ul, .evr, .test] s (after old (execTlyAddWrite a n s)) := by
  simp [execTlyAddWrite]

theorem execTlyRemoteWrite_unchanged (old : State) (a : Acc) (s : State) :
    Unchanged [.sys, .integ, .heat, .trc, .ttrc, .tly, .ul, .evr, .test] s (after old (execTlyRemoteWrite a s)) := by
  simp [execTlyRemoteWrite]

theorem execTlyCfgWrite_unchanged (old : State) (a : Acc) (n : BitVec 6) (s : State) :
    Unchanged [.sys, .integ, .heat, .trc, .ttrc, .tly, .ul, .evr, .test] s (after old (execTlyCfgWrite a n s)) := by
  simp [execTlyCfgWrite]

theorem execTlyBindWrite_unchanged (old : State) (a : Acc) (j : BitVec 4) (s : State) :
    Unchanged [.sys, .integ, .heat, .trc, .ttrc, .tly, .ul, .evr, .test] s (after old (execTlyBindWrite a j s)) := by
  simp [execTlyBindWrite]

theorem execTlyCtrlWrite_unchanged (old : State) (a : Acc) (s : State) :
    Unchanged [.sys, .integ, .heat, .trc, .ttrc, .tly, .ul, .evr, .test] s (after old (execTlyCtrlWrite a s)) := by
  simp [execTlyCtrlWrite]

@[simp] theorem boundaryTally_frame {fr : List Part} {r₀ : State} (s : State)
    (hfr : [.sys, .integ, .trc, .ttrc, .tly, .ul, .evr] ⊆ fr) : Unchanged fr r₀ (boundaryTally s) ↔ Unchanged fr r₀ s := by
  refine Unchanged.frame ?_ hfr
  simp [boundaryTally]

@[simp] theorem State.tallyLoad_frame {fr : List Part} {r₀ : State} (s : State) (n : Nat) (v : Word) (role path : Nat)
    (hfr : [.sys, .trc, .ttrc, .tly, .ul, .evr] ⊆ fr) : Unchanged fr r₀ (s.tallyLoad n v role path) ↔ Unchanged fr r₀ s := by
  refine Unchanged.frame ?_ hfr
  simp [State.tallyLoad]

@[simp] theorem State.tallyResume_frame {fr : List Part} {r₀ : State} (s : State) (role path : Nat)
    (hfr : [.sys, .trc, .ttrc, .tly, .ul, .evr] ⊆ fr) : Unchanged fr r₀ (s.tallyResume role path) ↔ Unchanged fr r₀ s := by
  refine Unchanged.frame ?_ hfr
  simp [State.tallyResume]

@[simp] theorem State.reduceLoss_frame {fr : List Part} {r₀ : State} (s : State) (i code : Nat) (data : List Byte)
    (hfr : [.sys, .integ, .trc, .ttrc, .red, .ump, .ul, .evr] ⊆ fr) :
    Unchanged fr r₀ (s.reduceLoss i code data) ↔ Unchanged fr r₀ s := by
  refine Unchanged.frame ?_ hfr
  unfold State.reduceLoss
  split <;> simp

@[simp] theorem State.completeStep_frame {fr : List Part} {r₀ : State} (s : State) (st : Step)
    (hfr : [.sys, .integ, .trc, .ttrc, .red, .ump, .ul, .evr] ⊆ fr) :
    Unchanged fr r₀ (s.completeStep st) ↔ Unchanged fr r₀ s := by
  refine Unchanged.frame ?_ hfr
  simp [State.completeStep]

@[simp] theorem State.forceStep_frame {fr : List Part} {r₀ : State} (s : State)
    (hfr : [.sys, .integ, .trc, .ttrc, .red, .ump, .ul, .evr] ⊆ fr) : Unchanged fr r₀ (s.forceStep) ↔ Unchanged fr r₀ s := by
  refine Unchanged.frame ?_ hfr
  unfold State.forceStep
  split <;> simp

@[simp] theorem State.takeMark_frame {fr : List Part} {r₀ : State} (s : State) (k : Nat) (h : DWord) (step : Word)
    (finish : Bool) (stroke : DWord)
    (hfr : [.sys, .integ, .trc, .ttrc, .red, .ump, .ul, .evr] ⊆ fr) :
    Unchanged fr r₀ (s.takeMark k h step finish stroke) ↔ Unchanged fr r₀ s := by
  refine Unchanged.frame ?_ hfr
  unfold State.takeMark
  dsimp only
  (repeat' split) <;> simp

@[simp] theorem State.takeMarks_frame {fr : List Part} {r₀ : State} (s : State) (k : Nat) (h : DWord) (marks : List (List Byte))
    (hfr : [.sys, .integ, .trc, .ttrc, .red, .ump, .ul, .evr] ⊆ fr) :
    Unchanged fr r₀ (s.takeMarks k h marks) ↔ Unchanged fr r₀ s := by
  refine Unchanged.frame ?_ hfr
  simp [State.takeMarks]

@[simp] theorem State.completeSteps_frame {fr : List Part} {r₀ : State} (s : State)
    (hfr : [.sys, .integ, .trc, .ttrc, .red, .ump, .ul, .evr] ⊆ fr) : Unchanged fr r₀ (s.completeSteps) ↔ Unchanged fr r₀ s := by
  refine Unchanged.frame ?_ hfr
  simp [State.completeSteps]

theorem execStepWaitExpiry_unchanged (old : State) (s : State) :
    Unchanged [.sys, .integ, .trc, .ttrc, .red, .ump, .ul, .evr] s (after old (execStepWaitExpiry s)) := by
  simp [execStepWaitExpiry]

@[simp] theorem State.reduceFig_frame {fr : List Part} {r₀ : State} (s : State) (st : Step) (present : List (Nat × DWord))
    (i : Nat)
    (hfr : [.sys, .integ, .trc, .ttrc, .red, .ump, .ul, .evr] ⊆ fr) :
    Unchanged fr r₀ (s.reduceFig st present i) ↔ Unchanged fr r₀ s := by
  refine Unchanged.frame ?_ hfr
  simp [State.reduceFig]

theorem execReductionRun_unchanged (old : State) (s : State) :
    Unchanged [.sys, .integ, .trc, .ttrc, .red, .ump, .tly, .ul, .evr] s (after old (execReductionRun s)) := by
  unfold execReductionRun
  split <;> simp

@[simp] theorem State.drainOne_frame {fr : List Part} {r₀ : State} (s : State)
    (hfr : [.red, .te, .nb] ⊆ fr) : Unchanged fr r₀ (s.drainOne) ↔ Unchanged fr r₀ s := by
  refine Unchanged.frame ?_ hfr
  unfold State.drainOne
  dsimp only
  (repeat' split) <;> simp

theorem execSketchExport_unchanged (old : State) (s : State) :
    Unchanged [.sys, .integ, .trc, .ttrc, .red, .te, .ump, .ul, .nb, .evr] s (after old (execSketchExport s)) := by
  unfold execSketchExport
  dsimp only
  (repeat' split) <;> simp

@[simp] theorem boundaryReduce_frame {fr : List Part} {r₀ : State} (unfinished : List (BitVec 10)) (s : State)
    (hfr : [.sys, .integ, .trc, .ttrc, .red, .ump, .ul, .evr] ⊆ fr) :
    Unchanged fr r₀ (boundaryReduce unfinished s) ↔ Unchanged fr r₀ s := by
  refine Unchanged.frame ?_ hfr
  unfold boundaryReduce
  split <;> simp

@[simp] theorem State.rawNorth_frame {fr : List Part} {r₀ : State} (s : State) (k mtype : Nat) (msg : List Byte)
    (hfr : [.nb] ⊆ fr) : Unchanged fr r₀ (s.rawNorth k mtype msg) ↔ Unchanged fr r₀ s := by
  refine Unchanged.frame ?_ hfr
  simp [State.rawNorth]

@[simp] theorem State.intake_frame {fr : List Part} {r₀ : State} (s : State) (k : Nat) (h : DWord) (f : DieRec → DieRec)
    (hfr : [.inr, .ul] ⊆ fr) : Unchanged fr r₀ (s.intake k h f) ↔ Unchanged fr r₀ s := by
  refine Unchanged.frame ?_ hfr
  simp [State.intake]

@[simp] theorem State.cntTaken_frame {fr : List Part} {r₀ : State} (s : State) (k mtype : Nat) (msg : List Byte) (h : DWord)
    (f : DieRec → DieRec)
    (hfr : [.inr, .ul, .nb] ⊆ fr) : Unchanged fr r₀ (s.cntTaken k mtype msg h f) ↔ Unchanged fr r₀ s := by
  refine Unchanged.frame ?_ hfr
  simp [State.cntTaken]

theorem execHeatHdr_unchanged (old : State) (k : BitVec 6) (body : List Byte) (s : State) :
    Unchanged [.red, .inr, .ul, .nb] s (after old (execHeatHdr k body s)) := by
  simp [execHeatHdr]

theorem execOvrMark_unchanged (old : State) (k : BitVec 6) (heat : DWord) (producer nrepl : BitVec 16) (s : State) :
    Unchanged [.red, .inr, .ul, .nb] s (after old (execOvrMark k heat producer nrepl s)) := by
  simp [execOvrMark]

theorem execDetrec_unchanged (old : State) (k : BitVec 6) (body : List Byte) (s : State) :
    Unchanged [.inr, .ul, .nb] s (after old (execDetrec k body s)) := by
  simp [execDetrec]

@[simp] theorem State.mismatchChange_frame {fr : List Part} {r₀ : State} (s : State) (k : Nat)
    (hfr : [.sys, .integ, .tray, .trc, .ttrc, .ul, .evr] ⊆ fr) : Unchanged fr r₀ (s.mismatchChange k) ↔ Unchanged fr r₀ s := by
  refine Unchanged.frame ?_ hfr
  simp [State.mismatchChange]

@[simp] theorem State.alignDie_frame {fr : List Part} {r₀ : State} (s : State) (h : DWord) (k : Nat)
    (hfr : [.sys, .integ, .trc, .ttrc, .red, .inr, .ump, .ul, .evr] ⊆ fr) :
    Unchanged fr r₀ (s.alignDie h k) ↔ Unchanged fr r₀ s := by
  refine Unchanged.frame ?_ hfr
  simp [State.alignDie]

@[simp] theorem State.forwardShared_frame {fr : List Part} {r₀ : State} (s : State) (h : DWord) (k : Nat)
    (hfr : [.ul] ⊆ fr) : Unchanged fr r₀ (s.forwardShared h k) ↔ Unchanged fr r₀ s := by
  refine Unchanged.frame ?_ hfr
  unfold State.forwardShared
  split <;> simp

@[simp] theorem State.stepReported_frame {fr : List Part} {r₀ : State} (s : State)
    (hfr : [.sys, .integ, .trc, .ttrc, .led, .red, .tly, .ul, .evr] ⊆ fr) :
    Unchanged fr r₀ (s.stepReported) ↔ Unchanged fr r₀ s := by
  refine Unchanged.frame ?_ hfr
  unfold State.stepReported
  dsimp only
  (repeat' split) <;> simp

@[simp] theorem State.align_frame {fr : List Part} {r₀ : State} (s : State)
    (hfr : [.sys, .integ, .tray, .trc, .ttrc, .led, .fpc, .red, .inr, .ump, .tly, .ul, .evr] ⊆ fr) :
    Unchanged fr r₀ (s.align) ↔ Unchanged fr r₀ s := by
  refine Unchanged.frame ?_ hfr
  simp [State.align]

theorem execAlignmentSlot_unchanged (old : State) (s : State) :
    Unchanged [.sys, .integ, .tray, .trc, .ttrc, .led, .fpc, .red, .inr, .ump, .tly, .ul, .evr] s (after old
    (execAlignmentSlot s)) := by
  simp [execAlignmentSlot]

@[simp] theorem State.freezeCluster_frame {fr : List Part} {r₀ : State} (s : State) (last : DWord) (held : Bool) (c : Nat)
    (hfr : [.prb, .red] ⊆ fr) : Unchanged fr r₀ (s.freezeCluster last held c) ↔ Unchanged fr r₀ s := by
  refine Unchanged.frame ?_ hfr
  simp [State.freezeCluster]

@[simp] theorem boundaryCounters_frame {fr : List Part} {r₀ : State} (last u : DWord) (s : State)
    (hfr : [.prb, .red] ⊆ fr) : Unchanged fr r₀ (boundaryCounters last u s) ↔ Unchanged fr r₀ s := by
  refine Unchanged.frame ?_ hfr
  simp [boundaryCounters]

theorem execSnapshotBankRead_unchanged (old : State) (a : Acc) (w : BitVec 13) (perr : Bool) (s : State) :
    Unchanged [.sys, .integ, .heat, .prb, .creg, .trc, .ttrc, .ul, .evr, .test] s (after old
    (execSnapshotBankRead a w perr s)) := by
  simp [execSnapshotBankRead]

@[simp] theorem State.emitted_frame {fr : List Part} {r₀ : State} (s : State) (kind bin bout : Nat)
    (hfr : [.cmp] ⊆ fr) : Unchanged fr r₀ (s.emitted kind bin bout) ↔ Unchanged fr r₀ s := by
  refine Unchanged.frame ?_ hfr
  simp [State.emitted]

theorem execRatioWindow_unchanged (old : State) (kind : BitVec 3) (s : State) :
    Unchanged [.sys, .trc, .ttrc, .cmp, .ul, .evr] s (after old (execRatioWindow kind s)) := by
  simp [execRatioWindow]

@[simp] theorem State.keepSample_frame {fr : List Part} {r₀ : State} (s : State) (k : Nat) (d : Decoded)
    (hfr : [.red] ⊆ fr) : Unchanged fr r₀ (s.keepSample k d) ↔ Unchanged fr r₀ s := by
  refine Unchanged.frame ?_ hfr
  simp [State.keepSample]

@[simp] theorem State.frameRefused_frame {fr : List Part} {r₀ : State} (s : State) (k reason : Nat) (b : List Byte)
    (hfr : [.sys, .trc, .ttrc, .cmp, .red, .inr, .ul, .evr] ⊆ fr) :
    Unchanged fr r₀ (s.frameRefused k reason b) ↔ Unchanged fr r₀ s := by
  refine Unchanged.frame ?_ hfr
  simp [State.frameRefused]

@[simp] theorem State.newRef_frame {fr : List Part} {r₀ : State} (s : State) (d : Decoded)
    (hfr : [.cmp] ⊆ fr) : Unchanged fr r₀ (s.newRef d) ↔ Unchanged fr r₀ s := by
  refine Unchanged.frame ?_ hfr
  simp [State.newRef]

@[simp] theorem State.trayFrame_frame {fr : List Part} {r₀ : State} (s : State) (k : Nat) (b : List Byte)
    (hfr : [.sys, .trc, .ttrc, .cmp, .red, .inr, .ul, .nb, .evr] ⊆ fr) :
    Unchanged fr r₀ (s.trayFrame k b) ↔ Unchanged fr r₀ s := by
  refine Unchanged.frame ?_ hfr
  unfold State.trayFrame
  dsimp only
  split <;> simp

theorem execFrame_unchanged (old : State) (k : BitVec 6) (bytes : List Byte) (s : State) :
    Unchanged [.sys, .sns, .trc, .ttrc, .cmp, .red, .inr, .ul, .nb, .evr] s (after old (execFrame k bytes s)) := by
  unfold execFrame
  dsimp only
  (repeat' split) <;> simp

@[simp] theorem State.blockLost_frame {fr : List Part} {r₀ : State} (s : State)
    (hfr : [.trc, .ump, .ul] ⊆ fr) : Unchanged fr r₀ (s.blockLost) ↔ Unchanged fr r₀ s := by
  refine Unchanged.frame ?_ hfr
  simp [State.blockLost]

@[simp] theorem State.sendBlock_frame {fr : List Part} {r₀ : State} (s : State) (blk : Nat)
    (hfr : [.sys, .trc, .ttrc, .cmp, .ump, .ul, .nb, .evr] ⊆ fr) : Unchanged fr r₀ (s.sendBlock blk).1 ↔ Unchanged fr r₀ s := by
  refine Unchanged.frame ?_ hfr
  unfold State.sendBlock
  dsimp only
  split
  · simp
  · split
    · split
      · split <;> simp
      · split <;> simp
    · simp
    · simp

@[simp] theorem State.encodeBlocks_frame {fr : List Part} {r₀ : State} (s : State)
    (hfr : [.sys, .trc, .ttrc, .cmp, .ump, .ul, .nb, .evr] ⊆ fr) : Unchanged fr r₀ (s.encodeBlocks) ↔ Unchanged fr r₀ s := by
  refine Unchanged.frame ?_ hfr
  simp [State.encodeBlocks]

@[simp] theorem State.ulStick_frame {fr : List Part} {r₀ : State} (s : State)
    (hfr : [.integ] ⊆ fr) : Unchanged fr r₀ (s.ulStick) ↔ Unchanged fr r₀ s := by
  refine Unchanged.frame ?_ hfr
  simp [State.ulStick]

@[simp] theorem State.linkDownBy_frame {fr : List Part} {r₀ : State} (s : State) (k cause role path : Nat)
    (hfr : [.sys, .integ, .trc, .ttrc, .ul, .evr] ⊆ fr) :
    Unchanged fr r₀ (s.linkDownBy k cause role path) ↔ Unchanged fr r₀ s := by
  refine Unchanged.frame ?_ hfr
  simp [State.linkDownBy]

@[simp] theorem State.linkDown_frame {fr : List Part} {r₀ : State} (s : State) (k cause : Nat)
    (hfr : [.sys, .integ, .trc, .ttrc, .ul, .evr] ⊆ fr) : Unchanged fr r₀ (s.linkDown k cause) ↔ Unchanged fr r₀ s := by
  refine Unchanged.frame ?_ hfr
  simp [State.linkDown]

theorem execRxLockChange_unchanged (old : State) (k : BitVec 6) (lock : Bool) (s : State) :
    Unchanged [.sys, .integ, .trc, .ttrc, .ul, .evr] s (after old (execRxLockChange k lock s)) := by
  simp [execRxLockChange]

@[simp] theorem State.trainFailed_frame {fr : List Part} {r₀ : State} (s : State) (k fail : Nat)
    (hfr : [.sys, .integ, .trc, .ttrc, .ul, .evr] ⊆ fr) : Unchanged fr r₀ (s.trainFailed k fail) ↔ Unchanged fr r₀ s := by
  refine Unchanged.frame ?_ hfr
  simp [State.trainFailed]

theorem execTrainingTimeout_unchanged (old : State) (k : BitVec 6) (s : State) :
    Unchanged [.sys, .integ, .trc, .ttrc, .ul, .evr] s (after old (execTrainingTimeout k s)) := by
  simp [execTrainingTimeout]

@[simp] theorem State.proxyDone_frame {fr : List Part} {r₀ : State} (s : State) (src : ProxySrc) (status : Nat) (data : Word)
    (hfr : [.heat, .nb] ⊆ fr) : Unchanged fr r₀ (s.proxyDone src status data) ↔ Unchanged fr r₀ s := by
  refine Unchanged.frame ?_ hfr
  unfold State.proxyDone
  split <;> simp

@[simp] theorem State.proxiesReset_frame {fr : List Part} {r₀ : State} (s : State) (k : Nat)
    (hfr : [.heat, .nb] ⊆ fr) : Unchanged fr r₀ (s.proxiesReset k) ↔ Unchanged fr r₀ s := by
  refine Unchanged.frame ?_ hfr
  refine (Unchanged.frame_foldl (fun t p => ?_) _).2 .self
  split
  · split <;> simp
  · exact .self

@[simp] theorem State.imgRefuse_frame {fr : List Part} {r₀ : State} (s : State) (reason sub sec off role path : Nat)
    (hfr : [.sys, .integ, .ld, .trc, .ttrc, .ul, .evr] ⊆ fr) :
    Unchanged fr r₀ (s.imgRefuse reason sub sec off role path) ↔ Unchanged fr r₀ s := by
  refine Unchanged.frame ?_ hfr
  simp [State.imgRefuse]

@[simp] theorem State.deliveryRefused_frame {fr : List Part} {r₀ : State} (s : State)
    (hfr : [.sys, .integ, .ld, .trc, .ttrc, .ul, .evr] ⊆ fr) : Unchanged fr r₀ (s.deliveryRefused) ↔ Unchanged fr r₀ s := by
  refine Unchanged.frame ?_ hfr
  simp [State.deliveryRefused]

@[simp] theorem State.deliveryEnds_frame {fr : List Part} {r₀ : State} (s : State)
    (hfr : [.sys, .integ, .ld, .trc, .ttrc, .ul, .evr] ⊆ fr) : Unchanged fr r₀ (s.deliveryEnds) ↔ Unchanged fr r₀ s := by
  refine Unchanged.frame ?_ hfr
  simp [State.deliveryEnds]

@[simp] theorem State.offerEnds_frame {fr : List Part} {r₀ : State} (s : State) (k : Nat)
    (hfr : [.tray] ⊆ fr) : Unchanged fr r₀ (s.offerEnds k) ↔ Unchanged fr r₀ s := by
  refine Unchanged.frame ?_ hfr
  simp [State.offerEnds]

@[simp] theorem State.sessionEnds_frame {fr : List Part} {r₀ : State} (s : State) (k : Nat)
    (hfr : [.sys, .integ, .heat, .ld, .tray, .trc, .ttrc, .tly, .ul, .nb, .evr] ⊆ fr) :
    Unchanged fr r₀ (s.sessionEnds k) ↔ Unchanged fr r₀ s := by
  refine Unchanged.frame ?_ hfr
  simp [State.sessionEnds]

@[simp] theorem State.deliver_frame {fr : List Part} {r₀ : State} (s : State) (k : Nat) (asked : Bool)
    (hfr : [.tray, .ul] ⊆ fr) : Unchanged fr r₀ (s.deliver k asked) ↔ Unchanged fr r₀ s := by
  refine Unchanged.frame ?_ hfr
  simp [State.deliver]

@[simp] theorem State.deliverIfDue_frame {fr : List Part} {r₀ : State} (s : State) (k : Nat)
    (hfr : [.tray, .ul] ⊆ fr) : Unchanged fr r₀ (s.deliverIfDue k) ↔ Unchanged fr r₀ s := by
  refine Unchanged.frame ?_ hfr
  simp [State.deliverIfDue]

@[simp] theorem State.linkUp_frame {fr : List Part} {r₀ : State} (s : State) (k : Nat)
    (hfr : [.sys, .integ, .heat, .ld, .tray, .tt, .trc, .ttrc, .cmp, .ump, .tly, .ul, .nb, .evr] ⊆ fr) :
    Unchanged fr r₀ (s.linkUp k) ↔ Unchanged fr r₀ s := by
  refine Unchanged.frame ?_ hfr
  simp [State.linkUp]

theorem execTrainingCheck_unchanged (old : State) (k : BitVec 6) (fofsAvg : BitVec 16) (s : State) :
    Unchanged [.sys, .integ, .heat, .ld, .tray, .tt, .trc, .ttrc, .cmp, .ump, .tly, .ul, .nb, .evr] s (after old
    (execTrainingCheck k fofsAvg s)) := by
  simp [execTrainingCheck]

@[simp] theorem State.sequenced_frame {fr : List Part} {r₀ : State} (s : State) (k : Nat) (f : List Byte)
    (hfr : [.integ, .ul] ⊆ fr) : Unchanged fr r₀ (s.sequenced k f) ↔ Unchanged fr r₀ s := by
  refine Unchanged.frame ?_ hfr
  simp [State.sequenced]

@[simp] theorem State.flitUp_frame {fr : List Part} {r₀ : State} (s : State) (k : Nat) (flit : List Byte)
    (hfr : [.sys, .integ, .trc, .ttrc, .ul, .evr] ⊆ fr) : Unchanged fr r₀ (s.flitUp k flit) ↔ Unchanged fr r₀ s := by
  refine Unchanged.frame ?_ hfr
  simp [State.flitUp]

theorem execFlitReceive_unchanged (old : State) (k : BitVec 6) (pairing : Bool) (d : BitVec 256 × BitVec 256) (s : State) :
    Unchanged [.sys, .integ, .trc, .ttrc, .ul, .evr] s (after old (execFlitReceive k pairing d s)) := by
  simp [execFlitReceive]

theorem execNak_unchanged (old : State) (k : BitVec 6) (nseq : BitVec 12) (s : State) :
    Unchanged [.ul] s (after old (execNak k nseq s)) := by
  simp [execNak]

theorem execKeepaliveLoss_unchanged (old : State) (k : BitVec 6) (s : State) :
    Unchanged [.sys, .integ, .trc, .ttrc, .ul, .evr] s (after old (execKeepaliveLoss k s)) := by
  simp [execKeepaliveLoss]

theorem execCreditLeak_unchanged (old : State) (k : BitVec 6) (vc : BitVec 2) (s : State) :
    Unchanged [.sys, .integ, .trc, .ttrc, .ul, .evr] s (after old (execCreditLeak k vc s)) := by
  unfold execCreditLeak
  dsimp only
  split <;> simp

@[simp] theorem State.slotUp_frame {fr : List Part} {r₀ : State} (s : State) (k : Nat) (ue : Bool)
    (hfr : [.sys, .integ, .trc, .ttrc, .ul, .evr] ⊆ fr) : Unchanged fr r₀ (s.slotUp k ue) ↔ Unchanged fr r₀ s := by
  refine Unchanged.frame ?_ hfr
  unfold State.slotUp
  dsimp only
  (repeat' split) <;> simp

theorem execFlitSlot_unchanged (old : State) (k : BitVec 6) (ue : Bool) (s : State) :
    Unchanged [.sys, .integ, .trc, .ttrc, .ul, .evr] s (after old (execFlitSlot k ue s)) := by
  simp [execFlitSlot]

@[simp] theorem State.badMsg_frame {fr : List Part} {r₀ : State} (s : State) (k mtype reason : Nat)
    (hfr : [.sys, .integ, .trc, .ttrc, .ul, .evr] ⊆ fr) : Unchanged fr r₀ (s.badMsg k mtype reason) ↔ Unchanged fr r₀ s := by
  refine Unchanged.frame ?_ hfr
  simp [State.badMsg]

@[simp] theorem State.deliverMsg_frame {fr : List Part} {r₀ : State} (s : State) (k v n : Nat) (m : Msg)
    (hfr : [.sys, .integ, .trc, .ttrc, .ul, .evr] ⊆ fr) : Unchanged fr r₀ (s.deliverMsg k v n m) ↔ Unchanged fr r₀ s := by
  refine Unchanged.frame ?_ hfr
  simp [State.deliverMsg]

@[simp] theorem State.assemble_frame {fr : List Part} {r₀ : State} (s : State) (k v : Nat) (f : TxFlit)
    (hfr : [.sys, .integ, .trc, .ttrc, .ul, .evr] ⊆ fr) : Unchanged fr r₀ (s.assemble k v f) ↔ Unchanged fr r₀ s := by
  refine Unchanged.frame ?_ hfr
  unfold State.assemble
  dsimp only
  (repeat' split) <;> simp

theorem execMessageDelivery_unchanged (old : State) (k : BitVec 6) (vc : BitVec 2) (s : State) :
    Unchanged [.sys, .integ, .trc, .ttrc, .ul, .evr] s (after old (execMessageDelivery k vc s)) := by
  unfold execMessageDelivery
  dsimp only
  split <;> simp

@[simp] theorem State.flashPut_frame {fr : List Part} {r₀ : State} (s : State) (a : Nat) (l : List Byte)
    (hfr : [.flash] ⊆ fr) : Unchanged fr r₀ (s.flashPut a l) ↔ Unchanged fr r₀ s := by
  refine Unchanged.frame ?_ hfr
  simp [State.flashPut]

@[simp] theorem State.flashErase_frame {fr : List Part} {r₀ : State} (s : State) (a b : Nat)
    (hfr : [.flash] ⊆ fr) : Unchanged fr r₀ (s.flashErase a b) ↔ Unchanged fr r₀ s := by
  refine Unchanged.frame ?_ hfr
  simp [State.flashErase]

@[simp] theorem State.nvSteps_frame {fr : List Part} {r₀ : State} (s : State) (n : Nat)
    (hfr : [.flash] ⊆ fr) : Unchanged fr r₀ (s.nvSteps n) ↔ Unchanged fr r₀ s := by
  refine Unchanged.frame ?_ hfr
  simp [State.nvSteps]

@[simp] theorem State.nvCut_frame {fr : List Part} {r₀ : State} (s : State)
    (hfr : [.sys, .tray, .flash] ⊆ fr) : Unchanged fr r₀ (s.nvCut) ↔ Unchanged fr r₀ s := by
  refine Unchanged.frame ?_ hfr
  simp [State.nvCut]

@[simp] theorem State.opFailed_frame {fr : List Part} {r₀ : State} (s : State) (op : FlashOp)
    (hfr : [.sys, .integ, .trc, .ttrc, .ul, .evr] ⊆ fr) : Unchanged fr r₀ (s.opFailed op) ↔ Unchanged fr r₀ s := by
  refine Unchanged.frame ?_ hfr
  simp [State.opFailed]

@[simp] theorem boundaryRecorder_frame {fr : List Part} {r₀ : State} (s : State)
    (hfr : [.sys, .trc, .ttrc, .ul, .evr] ⊆ fr) : Unchanged fr r₀ (boundaryRecorder s) ↔ Unchanged fr r₀ s := by
  refine Unchanged.frame ?_ hfr
  simp [boundaryRecorder]

@[simp] theorem State.released_frame {fr : List Part} {r₀ : State} (s : State) (tray x2 : Bool) (pkg : BitVec 4)
    (die : BitVec 3) (lp5 : BitVec 2)
    (hfr : [.sys, .trc, .ttrc, .led, .ul, .evr] ⊆ fr) : Unchanged fr r₀ (s.released tray x2 pkg die lp5) ↔ Unchanged fr r₀ s := by
  refine Unchanged.frame ?_ hfr
  simp [State.released]

theorem execResetRelease_unchanged (old : State) (gradeSel x2 : Bool) (pkg : BitVec 4) (die : BitVec 3) (lp5 : BitVec 2)
    (stable : Bool) (s : State) :
    Unchanged [.sys, .trc, .ttrc, .led, .ul, .evr] s (after old (execResetRelease gradeSel x2 pkg die lp5 stable s)) := by
  simp [execResetRelease]

theorem execFusePhaseEnd_unchanged (old : State) (us : Word) (s : State) :
    Unchanged [.sys, .bist, .ld, .roles] s (after old (execFusePhaseEnd us s)) := by
  simp [execFusePhaseEnd]

@[simp] theorem State.abistRecord_frame {fr : List Part} {r₀ : State} (s : State) (failures : List AbistFail)
    (hfr : [.sys, .bist, .integ, .trc, .ttrc, .ul, .evr] ⊆ fr) :
    Unchanged fr r₀ (s.abistRecord failures) ↔ Unchanged fr r₀ s := by
  refine Unchanged.frame ?_ hfr
  simp [State.abistRecord]

@[simp] theorem State.bistRecord_frame {fr : List Part} {r₀ : State} (s : State)
    (hfr : [.sys, .trc, .ttrc, .ul, .evr] ⊆ fr) : Unchanged fr r₀ (s.bistRecord) ↔ Unchanged fr r₀ s := by
  refine Unchanged.frame ?_ hfr
  simp [State.bistRecord]

theorem execBistPhaseEnd_unchanged (old : State) (us : Word) (s : State) :
    Unchanged [.sys, .bist, .integ, .heat, .ld, .trc, .ttrc, .ul, .evr] s (after old (execBistPhaseEnd us s)) := by
  simp [execBistPhaseEnd]

theorem execSfdpDiscovery_unchanged (old : State) (dev : SfdpResult) (s : State) :
    Unchanged [.sys, .nb] s (after old (execSfdpDiscovery dev s)) := by
  simp [execSfdpDiscovery]

@[simp] theorem cmdBistRun_frame {fr : List Part} {r₀ : State} (p : Post) (s : State)
    (hfr : [.bist] ⊆ fr) : Unchanged fr r₀ ((cmdBistRun p s).getD s) ↔ Unchanged fr r₀ s := by
  refine Unchanged.frame ?_ hfr
  unfold cmdBistRun
  dsimp only
  split <;> simp

@[simp] theorem State.bistReinit_frame {fr : List Part} {r₀ : State} (s : State)
    (hfr : [.sns, .trc, .te, .ul] ⊆ fr) : Unchanged fr r₀ (s.bistReinit) ↔ Unchanged fr r₀ s := by
  refine Unchanged.frame ?_ hfr
  unfold State.bistReinit
  split <;> simp

@[simp] theorem State.senseIsolated_frame {fr : List Part} {r₀ : State} (s : State) (on : Bool)
    (hfr : [.integ, .sns] ⊆ fr) : Unchanged fr r₀ (s.senseIsolated on) ↔ Unchanged fr r₀ s := by
  refine Unchanged.frame ?_ hfr
  simp [State.senseIsolated]

@[simp] theorem boundaryBist_frame {fr : List Part} {r₀ : State} (s : State)
    (hfr : [.bist, .integ, .sns, .trc, .te, .ul] ⊆ fr) : Unchanged fr r₀ (boundaryBist s) ↔ Unchanged fr r₀ s := by
  refine Unchanged.frame ?_ hfr
  simp [boundaryBist]

theorem execInServiceBistDone_unchanged (old : State) (repaired unrepaired : Byte) (failures : List AbistFail) (s : State) :
    Unchanged [.sys, .bist, .integ, .sns, .trc, .ttrc, .te, .ul, .evr] s (after old
    (execInServiceBistDone repaired unrepaired failures s)) := by
  simp [execInServiceBistDone]

@[simp] theorem cmdFuseBurn_frame {fr : List Part} {r₀ : State} (p : Post) (s : State)
    (hfr : [.sys, .fuse, .trc, .ttrc, .ul, .evr] ⊆ fr) : Unchanged fr r₀ ((cmdFuseBurn p s).getD s) ↔ Unchanged fr r₀ s := by
  refine Unchanged.frame ?_ hfr
  unfold cmdFuseBurn
  dsimp only
  (repeat' split) <;> simp

@[simp] theorem State.holdupAbort_frame {fr : List Part} {r₀ : State} (s : State) (why code : Nat)
    (hfr : [.sys, .pwr, .trc, .ttrc, .ul, .evr] ⊆ fr) : Unchanged fr r₀ (s.holdupAbort why code) ↔ Unchanged fr r₀ s := by
  refine Unchanged.frame ?_ hfr
  simp [State.holdupAbort]

@[simp] theorem boundarySense_frame {fr : List Part} {r₀ : State} (s : State)
    (hfr : [.sns] ⊆ fr) : Unchanged fr r₀ (boundarySense s) ↔ Unchanged fr r₀ s := by
  refine Unchanged.frame ?_ hfr
  simp [boundarySense]

@[simp] theorem State.segmentNorth_frame {fr : List Part} {r₀ : State} (s : State)
    (hfr : [.nb] ⊆ fr) : Unchanged fr r₀ (s.segmentNorth) ↔ Unchanged fr r₀ s := by
  refine Unchanged.frame ?_ hfr
  simp [State.segmentNorth]

@[simp] theorem State.takeRate_frame {fr : List Part} {r₀ : State} (s : State) (v : Int)
    (hfr : [.tb] ⊆ fr) : Unchanged fr r₀ (s.takeRate v) ↔ Unchanged fr r₀ s := by
  refine Unchanged.frame ?_ hfr
  simp [State.takeRate]

@[simp] theorem State.holdover_frame {fr : List Part} {r₀ : State} (s : State)
    (hfr : [.sys, .tb, .ptp, .trc, .ttrc, .ul, .evr] ⊆ fr) : Unchanged fr r₀ (s.holdover) ↔ Unchanged fr r₀ s := by
  refine Unchanged.frame ?_ hfr
  simp [State.holdover]

@[simp] theorem State.stepTaken_frame {fr : List Part} {r₀ : State} (s : State) (d a0 : Int)
    (hfr : [.sys, .tb, .trc, .ttrc, .ul, .evr] ⊆ fr) : Unchanged fr r₀ (s.stepTaken d a0) ↔ Unchanged fr r₀ s := by
  refine Unchanged.frame ?_ hfr
  simp [State.stepTaken]

@[simp] theorem boundaryTime_frame {fr : List Part} {r₀ : State} (s : State)
    (hfr : [.sys, .tb, .ptp, .trc, .ttrc, .ul, .nb, .evr] ⊆ fr) : Unchanged fr r₀ (boundaryTime s) ↔ Unchanged fr r₀ s := by
  refine Unchanged.frame ?_ hfr
  unfold boundaryTime
  dsimp only
  (repeat' split) <;> simp

@[simp] theorem State.servoStart_frame {fr : List Part} {r₀ : State} (s : State)
    (hfr : [.sys, .tb, .ptp, .trc, .ttrc, .ul, .evr] ⊆ fr) : Unchanged fr r₀ (s.servoStart) ↔ Unchanged fr r₀ s := by
  refine Unchanged.frame ?_ hfr
  simp [State.servoStart]

theorem execTbCtrlWrite_unchanged (old : State) (a : Acc) (s : State) :
    Unchanged [.sys, .integ, .heat, .tb, .ptp, .trc, .ttrc, .ul, .evr, .test] s (after old (execTbCtrlWrite a s)) := by
  simp [execTbCtrlWrite]

theorem execTbRateCommit_unchanged (old : State) (a : Acc) (s : State) :
    Unchanged [.sys, .integ, .heat, .tb, .trc, .ttrc, .ul, .evr, .test] s (after old (execTbRateCommit a s)) := by
  simp [execTbRateCommit]

@[simp] theorem State.ttSend_frame {fr : List Part} {r₀ : State} (s : State) (k : Nat) (round : Bool)
    (hfr : [.tt, .ul] ⊆ fr) : Unchanged fr r₀ (s.ttSend k round) ↔ Unchanged fr r₀ s := by
  refine Unchanged.frame ?_ hfr
  simp [State.ttSend]

@[simp] theorem boundaryTt_frame {fr : List Part} {r₀ : State} (s : State)
    (hfr : [.tt, .ul] ⊆ fr) : Unchanged fr r₀ (boundaryTt s) ↔ Unchanged fr r₀ s := by
  refine Unchanged.frame ?_ hfr
  simp [boundaryTt]

@[simp] theorem State.slipSend_frame {fr : List Part} {r₀ : State} (s : State) (k : Nat) (set : Bool) (strokes : Int)
    (hfr : [.ul] ⊆ fr) : Unchanged fr r₀ (s.slipSend k set strokes) ↔ Unchanged fr r₀ s := by
  refine Unchanged.frame ?_ hfr
  simp [State.slipSend]

@[simp] theorem State.judgeSlip_frame {fr : List Part} {r₀ : State} (s : State) (k : Nat) (theta : Int)
    (hfr : [.sys, .tt, .trc, .ttrc, .fpc, .red, .ul, .evr] ⊆ fr) : Unchanged fr r₀ (s.judgeSlip k theta) ↔ Unchanged fr r₀ s := by
  refine Unchanged.frame ?_ hfr
  simp [State.judgeSlip]

@[simp] theorem State.judgeRound_frame {fr : List Part} {r₀ : State} (s : State)
    (hfr : [.sys, .tb, .tt, .trc, .ttrc, .fpc, .red, .ul, .evr] ⊆ fr) : Unchanged fr r₀ (s.judgeRound) ↔ Unchanged fr r₀ s := by
  refine Unchanged.frame ?_ hfr
  simp [State.judgeRound]

theorem execTtResp_unchanged (old : State) (k : BitVec 6) (xn : BitVec 16) (t1 t2 t3 t4 : DWord) (s : State) :
    Unchanged [.sys, .integ, .tb, .tt, .trc, .ttrc, .fpc, .red, .ul, .evr] s (after old (execTtResp k xn t1 t2 t3 t4 s)) := by
  unfold execTtResp
  dsimp only
  (repeat' split) <;> simp

theorem execTraceDump_unchanged (old : State) (s : State) :
    Unchanged [.sys, .trc, .ttrc, .cmp, .ump, .ul, .nb, .evr] s (after old (execTraceDump s)) := by
  unfold execTraceDump
  dsimp only
  (repeat' split) <;> simp

@[simp] theorem State.tapsWithdrawn_frame {fr : List Part} {r₀ : State} (s : State) (r : Nat)
    (hfr : [.trc] ⊆ fr) : Unchanged fr r₀ (s.tapsWithdrawn r) ↔ Unchanged fr r₀ s := by
  refine Unchanged.frame ?_ hfr
  simp [State.tapsWithdrawn]

@[simp] theorem State.arm_frame {fr : List Part} {r₀ : State} (s : State)
    (hfr : [.trc] ⊆ fr) : Unchanged fr r₀ (s.arm) ↔ Unchanged fr r₀ s := by
  refine Unchanged.frame ?_ hfr
  simp [State.arm]

@[simp] theorem State.umpireArm_frame {fr : List Part} {r₀ : State} (s : State)
    (hfr : [.trc] ⊆ fr) : Unchanged fr r₀ (s.umpireArm) ↔ Unchanged fr r₀ s := by
  refine Unchanged.frame ?_ hfr
  simp [State.umpireArm]

@[simp] theorem cmdTrcFire_frame {fr : List Part} {r₀ : State} (x0 : Post) (s : State)
    (hfr : [.sys, .trc, .ttrc, .ul, .evr] ⊆ fr) : Unchanged fr r₀ ((cmdTrcFire x0 s).getD s) ↔ Unchanged fr r₀ s := by
  refine Unchanged.frame ?_ hfr
  unfold cmdTrcFire
  split <;> simp

@[simp] theorem cmdTrcEmResume_frame {fr : List Part} {r₀ : State} (x0 : Post) (s : State)
    (hfr : [.trc, .ttrc] ⊆ fr) : Unchanged fr r₀ ((cmdTrcEmResume x0 s).getD s) ↔ Unchanged fr r₀ s := by
  refine Unchanged.frame ?_ hfr
  unfold cmdTrcEmResume
  split <;> simp

@[simp] theorem State.emActions_frame {fr : List Part} {r₀ : State} (s : State) (i : Nat) (die : Option (BitVec 6))
    (hfr : [.sys, .trc, .ttrc, .ul, .evr] ⊆ fr) : Unchanged fr r₀ (s.emActions i die) ↔ Unchanged fr r₀ s := by
  refine Unchanged.frame ?_ hfr
  simp [State.emActions]

theorem execEventMachineTransition_unchanged (old : State) (n : BitVec 5) (ofs : BitVec 11) (s : State) :
    Unchanged [.sys, .trc, .ttrc, .ul, .evr] s (after old (execEventMachineTransition n ofs s)) := by
  unfold execEventMachineTransition
  split <;> simp

@[simp] theorem boundaryEm_frame {fr : List Part} {r₀ : State} (s : State)
    (hfr : [.ttrc] ⊆ fr) : Unchanged fr r₀ (boundaryEm s) ↔ Unchanged fr r₀ s := by
  refine Unchanged.frame ?_ hfr
  simp [boundaryEm]

theorem execTraceFreeze_unchanged (old : State) (s : State) :
    Unchanged [.sys, .trc, .ttrc, .ul, .evr] s (after old (execTraceFreeze s)) := by
  simp [execTraceFreeze]

@[simp] theorem State.gap_frame {fr : List Part} {r₀ : State} (s : State) (region kind : Nat)
    (hfr : [.sys, .trc] ⊆ fr) : Unchanged fr r₀ (s.gap region kind) ↔ Unchanged fr r₀ s := by
  refine Unchanged.frame ?_ hfr
  simp [State.gap]

@[simp] theorem State.stepPacket_frame {fr : List Part} {r₀ : State} (s : State) (finish : Bool) (step : Word)
    (hfr : [.sys, .trc] ⊆ fr) : Unchanged fr r₀ (s.stepPacket finish step) ↔ Unchanged fr r₀ s := by
  refine Unchanged.frame ?_ hfr
  simp [State.stepPacket]

@[simp] theorem State.setDet_frame {fr : List Part} {r₀ : State} (s : State) (n k : Nat) (d : Det)
    (hfr : [.ump] ⊆ fr) : Unchanged fr r₀ (s.setDet n k d) ↔ Unchanged fr r₀ s := by
  refine Unchanged.frame ?_ hfr
  simp [State.setDet]

@[simp] theorem State.stragStep_frame {fr : List Part} {r₀ : State} (s : State) (n k : Nat)
    (hfr : [.ump] ⊆ fr) : Unchanged fr r₀ (s.stragStep n k) ↔ Unchanged fr r₀ s := by
  refine Unchanged.frame ?_ hfr
  simp [State.stragStep]

@[simp] theorem State.driftStep_frame {fr : List Part} {r₀ : State} (s : State) (n : Nat)
    (hfr : [.ump] ⊆ fr) : Unchanged fr r₀ (s.driftStep n) ↔ Unchanged fr r₀ s := by
  refine Unchanged.frame ?_ hfr
  simp [State.driftStep]

@[simp] theorem State.detRun_frame {fr : List Part} {r₀ : State} (s : State) (n : Nat)
    (hfr : [.ump] ⊆ fr) : Unchanged fr r₀ (s.detRun n) ↔ Unchanged fr r₀ s := by
  refine Unchanged.frame ?_ hfr
  unfold State.detRun
  dsimp only
  split
  · exact .self
  · split
    · simp
    · split
      · simp
      · refine (Unchanged.frame_foldl (fun t k => ?_) _).2 .self
        split <;> simp

theorem execDetectorUpdate_unchanged (old : State) (s : State) :
    Unchanged [.ump] s (after old (execDetectorUpdate s)) := by
  simp [execDetectorUpdate]

theorem execDetThresholdCommit_unchanged (old : State) (a : Acc) (n : BitVec 8) (hi : Bool) (s : State) :
    Unchanged [.sys, .integ, .heat, .trc, .ttrc, .ul, .evr, .test, .wc2] s (after old (execDetThresholdCommit a n hi s)) := by
  simp [execDetThresholdCommit]

theorem execUmpireEvaluation_unchanged (old : State) (s : State) :
    Unchanged [.ump] s (after old (execUmpireEvaluation s)) := by
  simp [execUmpireEvaluation]

@[simp] theorem State.applyConds_frame {fr : List Part} {r₀ : State} (s : State) (w : UmpWork)
    (hfr : [.ump] ⊆ fr) : Unchanged fr r₀ (s.applyConds w).1 ↔ Unchanged fr r₀ s := by
  refine Unchanged.frame ?_ hfr
  have hpair {α : Type} (f : State × List (Nat × Nat) → α → State × List (Nat × Nat)) (hf : ∀ p x, Unchanged [.ump] p.1 (f p x).1)
      (l : List α) (p : State × List (Nat × Nat)) : Unchanged [.ump] p.1 (l.foldl f p).1 := by
    induction l generalizing p with
    | nil => exact .self
    | cons x l ih => exact (hf p x).trans (ih _)
  refine hpair _ (fun p m => hpair _ (fun q k => ?_) _ p) _ (s, [])
  dsimp only
  split <;> simp

@[simp] theorem State.verdictChanged_frame {fr : List Part} {r₀ : State} (s : State) (k old : Nat) (u : DWord) (role path : Nat)
    (hfr : [.sys, .trc, .ttrc, .ump, .ul, .nb, .evr] ⊆ fr) :
    Unchanged fr r₀ (s.verdictChanged k old u role path) ↔ Unchanged fr r₀ s := by
  refine Unchanged.frame ?_ hfr
  simp [State.verdictChanged]

@[simp] theorem State.resetVerdict_frame {fr : List Part} {r₀ : State} (s : State) (k : Nat) (u : DWord)
    (hfr : [.sys, .trc, .ttrc, .ump, .ul, .nb, .evr] ⊆ fr) : Unchanged fr r₀ (s.resetVerdict k u) ↔ Unchanged fr r₀ s := by
  refine Unchanged.frame ?_ hfr
  unfold State.resetVerdict
  dsimp only
  split <;> simp

@[simp] theorem State.moveVerdict_frame {fr : List Part} {r₀ : State} (s : State) (k : Nat) (became : List (Nat × Nat))
    (u : DWord)
    (hfr : [.sys, .trc, .ttrc, .ump, .ul, .nb, .evr] ⊆ fr) : Unchanged fr r₀ (s.moveVerdict k became u) ↔ Unchanged fr r₀ s := by
  refine Unchanged.frame ?_ hfr
  simp [State.moveVerdict]

@[simp] theorem State.ruleStarts_frame {fr : List Part} {r₀ : State} (s : State) (became : List (Nat × Nat))
    (hfr : [.sys, .trc, .ttrc, .fpc, .ul, .evr] ⊆ fr) : Unchanged fr r₀ (s.ruleStarts became) ↔ Unchanged fr r₀ s := by
  refine Unchanged.frame ?_ hfr
  simp [State.ruleStarts]

@[simp] theorem State.lendLevels_frame {fr : List Part} {r₀ : State} (s : State)
    (hfr : [.pwr, .ump, .ul] ⊆ fr) : Unchanged fr r₀ (s.lendLevels) ↔ Unchanged fr r₀ s := by
  refine Unchanged.frame ?_ hfr
  simp [State.lendLevels]

@[simp] theorem State.setDiv_frame {fr : List Part} {r₀ : State} (s : State) (p d : Nat)
    (hfr : [.heat] ⊆ fr) : Unchanged fr r₀ (s.setDiv p d) ↔ Unchanged fr r₀ s := by
  refine Unchanged.frame ?_ hfr
  simp [State.setDiv]

@[simp] theorem State.govStep_frame {fr : List Part} {r₀ : State} (s : State) (r : ProdRec)
    (hfr : [.heat, .ump] ⊆ fr) : Unchanged fr r₀ (s.govStep r) ↔ Unchanged fr r₀ s := by
  refine Unchanged.frame ?_ hfr
  simp [State.govStep]

@[simp] theorem State.regStep_frame {fr : List Part} {r₀ : State} (s : State) (r : Nat)
    (hfr : [.heat, .ump] ⊆ fr) : Unchanged fr r₀ (s.regStep r) ↔ Unchanged fr r₀ s := by
  refine Unchanged.frame ?_ hfr
  simp [State.regStep]

@[simp] theorem State.rulesInForce_frame {fr : List Part} {r₀ : State} (s : State)
    (hfr : [.ump] ⊆ fr) : Unchanged fr r₀ (s.rulesInForce) ↔ Unchanged fr r₀ s := by
  refine Unchanged.frame ?_ hfr
  simp [State.rulesInForce]

@[simp] theorem State.heatFigures_frame {fr : List Part} {r₀ : State} (s : State)
    (hfr : [.ump] ⊆ fr) : Unchanged fr r₀ (s.heatFigures) ↔ Unchanged fr r₀ s := by
  refine Unchanged.frame ?_ hfr
  simp [State.heatFigures]

@[simp] theorem State.umpireAnew_frame {fr : List Part} {r₀ : State} (s : State)
    (hfr : [.ump] ⊆ fr) : Unchanged fr r₀ (s.umpireAnew) ↔ Unchanged fr r₀ s := by
  refine Unchanged.frame ?_ hfr
  simp [State.umpireAnew]

@[simp] theorem State.viewTick_frame {fr : List Part} {r₀ : State} (s : State)
    (hfr : [.ump] ⊆ fr) : Unchanged fr r₀ (s.viewTick) ↔ Unchanged fr r₀ s := by
  refine Unchanged.frame ?_ hfr
  simp [State.viewTick]

@[simp] theorem boundaryUmpire_frame {fr : List Part} {r₀ : State} (u next : DWord) (unfinished : List (BitVec 10)) (s : State)
    (hfr : [.sys, .pwr, .heat, .trc, .ttrc, .fpc, .ump, .ul, .nb, .evr] ⊆ fr) :
    Unchanged fr r₀ (boundaryUmpire u next unfinished s) ↔ Unchanged fr r₀ s := by
  refine Unchanged.frame ?_ hfr
  unfold boundaryUmpire
  dsimp only
  split <;> simp

theorem execPolRuleCommit_unchanged (old : State) (a : Acc) (i : BitVec 6) (w : BitVec 2) (s : State) :
    Unchanged [.sys, .integ, .heat, .trc, .ttrc, .ump, .ul, .evr, .test, .wc2] s (after old (execPolRuleCommit a i w s)) := by
  simp [execPolRuleCommit]

theorem execDrnEnCommit_unchanged (old : State) (a : Acc) (hi : Bool) (s : State) :
    Unchanged [.sys, .integ, .heat, .trc, .ttrc, .ul, .evr, .test, .wc2] s (after old (execDrnEnCommit a hi s)) := by
  simp [execDrnEnCommit]

theorem execDrainSend_unchanged (old : State) (die : BitVec 6) (s : State) :
    Unchanged [.sys, .trc, .ttrc, .ump, .ul, .evr] s (after old (execDrainSend die s)) := by
  simp [execDrainSend]

@[simp] theorem State.sendDrainState_frame {fr : List Part} {r₀ : State} (s : State)
    (hfr : [.ul] ⊆ fr) : Unchanged fr r₀ (s.sendDrainState) ↔ Unchanged fr r₀ s := by
  refine Unchanged.frame ?_ hfr
  simp [State.sendDrainState]

theorem execDrain_unchanged (old : State) (s : State) :
    Unchanged [.sys, .trc, .ttrc, .ump, .ul, .evr] s (after old (execDrain s)) := by
  simp [execDrain]

theorem execDrainTimeout_unchanged (old : State) (die : BitVec 6) (s : State) :
    Unchanged [.sys, .trc, .ttrc, .ump, .ul, .evr] s (after old (execDrainTimeout die s)) := by
  unfold execDrainTimeout
  dsimp only
  split <;> simp

theorem execLivenessDisagree_unchanged (old : State) (die : BitVec 6) (s : State) :
    Unchanged [.sys, .trc, .ttrc, .ump, .ul, .nb, .evr] s (after old (execLivenessDisagree die s)) := by
  simp [execLivenessDisagree]

theorem execLivenessAgree_unchanged (old : State) (die : BitVec 6) (s : State) :
    Unchanged [.sys, .trc, .ttrc, .ump, .ul, .nb, .evr] s (after old (execLivenessAgree die s)) := by
  simp [execLivenessAgree]

@[simp] theorem cmdVerdReset_frame {fr : List Part} {r₀ : State} (p : Post) (s : State)
    (hfr : [.ump] ⊆ fr) : Unchanged fr r₀ ((cmdVerdReset p s).getD s) ↔ Unchanged fr r₀ s := by
  refine Unchanged.frame ?_ hfr
  unfold cmdVerdReset
  dsimp only
  (repeat' split) <;> simp

@[simp] theorem State.closeStart_frame {fr : List Part} {r₀ : State} (s : State) (timeout : Bool) (role path : Nat)
    (hfr : [.sys, .trc, .ttrc, .ump, .ul, .nb, .evr] ⊆ fr) :
    Unchanged fr r₀ (s.closeStart timeout role path) ↔ Unchanged fr r₀ s := by
  refine Unchanged.frame ?_ hfr
  simp [State.closeStart]

@[simp] theorem cmdStart_frame {fr : List Part} {r₀ : State} (p : Post) (s : State)
    (hfr : [.sys, .trc, .ttrc, .ump, .ul, .nb, .evr] ⊆ fr) : Unchanged fr r₀ ((cmdStart p s).getD s) ↔ Unchanged fr r₀ s := by
  refine Unchanged.frame ?_ hfr
  unfold cmdStart
  dsimp only
  split <;> simp

theorem execStartAck_unchanged (old : State) (k : BitVec 6) (id : Word) (late : Bool) (s : State) :
    Unchanged [.sys, .trc, .ttrc, .ump, .ul, .nb, .evr] s (after old (execStartAck k id late s)) := by
  simp [execStartAck]

theorem execStartTimeout_unchanged (old : State) (s : State) :
    Unchanged [.sys, .trc, .ttrc, .ump, .ul, .nb, .evr] s (after old (execStartTimeout s)) := by
  simp [execStartTimeout]

@[simp] theorem State.fanOut_frame {fr : List Part} {r₀ : State} (s : State) (c : Nat) (origin : BitVec 48) (stroke : DWord)
    (but : Option Nat) (nb : Bool) (role path : Nat)
    (hfr : [.sys, .trc, .ttrc, .ump, .ul, .nb, .evr] ⊆ fr) :
    Unchanged fr r₀ (s.fanOut c origin stroke but nb role path) ↔ Unchanged fr r₀ s := by
  refine Unchanged.frame ?_ hfr
  simp [State.fanOut]

theorem execAbortFlit_unchanged (old : State) (k coll : BitVec 6) (origin : BitVec 48) (stroke : DWord) (s : State) :
    Unchanged [.sys, .trc, .ttrc, .ump, .ul, .nb, .evr] s (after old (execAbortFlit k coll origin stroke s)) := by
  simp [execAbortFlit]

theorem execAbortFrame_unchanged (old : State) (_port : BitVec 2) (coll : BitVec 6) (origin : BitVec 48) (stroke : DWord)
    (s : State) :
    Unchanged [.sys, .trc, .ttrc, .ump, .ul, .nb, .evr] s (after old (execAbortFrame _port coll origin stroke s)) := by
  simp [execAbortFrame]

@[simp] theorem cmdAbortPost_frame {fr : List Part} {r₀ : State} (p : Post) (s : State)
    (hfr : [.sys, .trc, .ttrc, .ump, .ul, .nb, .evr] ⊆ fr) : Unchanged fr r₀ ((cmdAbortPost p s).getD s) ↔ Unchanged fr r₀ s := by
  refine Unchanged.frame ?_ hfr
  unfold cmdAbortPost
  dsimp only
  split <;> simp

@[simp] theorem State.takeRole_frame {fr : List Part} {r₀ : State} (s : State) (p role : Nat)
    (hfr : [.sys, .integ, .trc, .ttrc, .ul, .roles, .evr] ⊆ fr) : Unchanged fr r₀ (s.takeRole p role) ↔ Unchanged fr r₀ s := by
  refine Unchanged.frame ?_ hfr
  simp [State.takeRole]

@[simp] theorem State.roleReq_frame {fr : List Part} {r₀ : State} (s : State) (a : Acc) (f : State → State)
    (hf : ∀ t, Unchanged fr t (f t)) (hfr : [.sys, .integ, .heat, .trc, .ttrc, .ul, .evr, .test] ⊆ fr) (hroles : [.roles] ⊆ fr) :
    Unchanged fr r₀ (s.roleReq a f) ↔ Unchanged fr r₀ s :=
  State.written_frame s a 0x10 1 _ (fun t => .ite .self (((t.roles_unchanged _).mono hroles).trans (hf _))) hfr

theorem execRoleRequestHigher_unchanged (old : State) (a : Acc) (tooSoon : Bool) (s : State) :
    Unchanged [.sys, .integ, .heat, .trc, .ttrc, .ul, .roles, .evr, .test] s (after old (execRoleRequestHigher a tooSoon s)) := by
  simp [execRoleRequestHigher]

@[simp] theorem State.respWord_frame {fr : List Part} {r₀ : State} (s : State) (p i : Nat) (v : Word)
    (hfr : [.roles] ⊆ fr) : Unchanged fr r₀ (s.respWord p i v) ↔ Unchanged fr r₀ s := by
  refine Unchanged.frame ?_ hfr
  simp [State.respWord]

theorem execRoleResponseWrite_unchanged (old : State) (a : Acc) (s : State) :
    Unchanged [.sys, .integ, .heat, .trc, .ttrc, .ul, .roles, .evr, .test] s (after old (execRoleResponseWrite a s)) := by
  simp [execRoleResponseWrite]

theorem execRoleCheckDone_unchanged (old : State) (path : BitVec 4) (s : State) :
    Unchanged [.sys, .integ, .trc, .ttrc, .ul, .roles, .evr] s (after old (execRoleCheckDone path s)) := by
  simp [execRoleCheckDone]

theorem execSessionFree_unchanged (old : State) (i : BitVec 4) (s : State) :
    Unchanged [.sys, .integ, .trc, .ttrc, .ul, .roles, .evr] s (after old (execSessionFree i s)) := by
  simp [execSessionFree]

@[simp] theorem State.bindSession_frame {fr : List Part} {r₀ : State} (s : State) (port : BitVec 2) (mac : BitVec 48)
    (hfr : [.sys, .trc, .ttrc, .ul, .roles, .evr] ⊆ fr) : Unchanged fr r₀ (s.bindSession port mac).1 ↔ Unchanged fr r₀ s := by
  refine Unchanged.frame ?_ hfr
  unfold State.bindSession
  dsimp only
  (repeat' split) <;> simp

@[simp] theorem State.cmdRefused_frame {fr : List Part} {r₀ : State} (s : State) (code result path token role : Nat)
    (hfr : [.sys, .integ, .trc, .ttrc, .ul, .evr] ⊆ fr) :
    Unchanged fr r₀ (s.cmdRefused code result path token role) ↔ Unchanged fr r₀ s := by
  refine Unchanged.frame ?_ hfr
  simp [State.cmdRefused]

@[simp] theorem State.loadBegin_frame {fr : List Part} {r₀ : State} (s : State) (src : Nat) (nv : Bool) (act len : Nat)
    (stroke : DWord) (role path : Nat)
    (hfr : [.ld] ⊆ fr) : Unchanged fr r₀ (s.loadBegin src nv act len stroke role path) ↔ Unchanged fr r₀ s := by
  refine Unchanged.frame ?_ hfr
  simp [State.loadBegin]

@[simp] theorem cmdImgBegin_frame {fr : List Part} {r₀ : State} (p : Post) (s : State)
    (hfr : [.ld] ⊆ fr) : Unchanged fr r₀ ((cmdImgBegin p s).getD s) ↔ Unchanged fr r₀ s := by
  refine Unchanged.frame ?_ hfr
  unfold cmdImgBegin
  dsimp only
  split <;> simp

@[simp] theorem State.loadRefuse_frame {fr : List Part} {r₀ : State} (s : State) (f : Nat × Nat × Nat × Nat)
    (hfr : [.sys, .integ, .ld, .trc, .ttrc, .ul, .evr] ⊆ fr) : Unchanged fr r₀ (s.loadRefuse f) ↔ Unchanged fr r₀ s := by
  refine Unchanged.frame ?_ hfr
  simp [State.loadRefuse]

@[simp] theorem State.imgBytes_frame {fr : List Part} {r₀ : State} (s : State) (b : List Byte)
    (hfr : [.sys, .integ, .ld, .trc, .ttrc, .ul, .evr] ⊆ fr) : Unchanged fr r₀ (s.imgBytes b) ↔ Unchanged fr r₀ s := by
  refine Unchanged.frame ?_ hfr
  unfold State.imgBytes
  dsimp only
  split <;> simp

theorem execImgDataWrite_unchanged (old : State) (a : Acc) (s : State) :
    Unchanged [.sys, .integ, .heat, .ld, .trc, .ttrc, .ul, .evr, .test] s (after old (execImgDataWrite a s)) := by
  simp [execImgDataWrite]

@[simp] theorem State.loadAbort_frame {fr : List Part} {r₀ : State} (s : State) (role path : Nat)
    (hfr : [.sys, .integ, .ld, .trc, .ttrc, .ul, .evr] ⊆ fr) : Unchanged fr r₀ (s.loadAbort role path) ↔ Unchanged fr r₀ s := by
  refine Unchanged.frame ?_ hfr
  simp [State.loadAbort]

@[simp] theorem State.imageReady_frame {fr : List Part} {r₀ : State} (s : State)
    (hfr : [.integ, .ld] ⊆ fr) : Unchanged fr r₀ (s.imageReady) ↔ Unchanged fr r₀ s := by
  refine Unchanged.frame ?_ hfr
  simp [State.imageReady]

@[simp] theorem State.imageEnds_frame {fr : List Part} {r₀ : State} (s : State)
    (hfr : [.sys] ⊆ fr) : Unchanged fr r₀ (s.imageEnds) ↔ Unchanged fr r₀ s := by
  refine Unchanged.frame ?_ hfr
  simp [State.imageEnds]

@[simp] theorem State.defaultsStay_frame {fr : List Part} {r₀ : State} (s : State) (reason : Nat)
    (hfr : [.sys, .integ, .ld, .trc, .ttrc, .ul, .evr] ⊆ fr) : Unchanged fr r₀ (s.defaultsStay reason) ↔ Unchanged fr r₀ s := by
  refine Unchanged.frame ?_ hfr
  simp [State.defaultsStay]

@[simp] theorem State.nvEnds_frame {fr : List Part} {r₀ : State} (s : State) (f : Nat)
    (hfr : [.sys, .integ, .ld, .tray, .trc, .ttrc, .ul, .evr, .flash] ⊆ fr) :
    Unchanged fr r₀ (s.nvEnds f) ↔ Unchanged fr r₀ s := by
  refine Unchanged.frame ?_ hfr
  simp [State.nvEnds]

theorem execImgSect_unchanged (old : State) (off : Word) (bytes : List Byte) (s : State) :
    Unchanged [.sys, .integ, .ld, .trc, .ttrc, .ul, .evr] s (after old (execImgSect off bytes s)) := by
  simp [execImgSect]

theorem execImageActive_unchanged (old : State) (k : BitVec 6) (digest : DWord) (ver : Word) (src : BitVec 2) (_heat : DWord)
    (_period _phase : Word) (_stroke : DWord) (s : State) :
    Unchanged [.tray, .ul] s (after old (execImageActive k digest ver src _heat _period _phase _stroke s)) := by
  simp [execImageActive]

@[simp] theorem State.ledgerPush_frame {fr : List Part} {r₀ : State} (s : State) (e : LedgerIn)
    (hfr : [.sys, .integ, .trc, .ttrc, .led, .ul, .evr] ⊆ fr) : Unchanged fr r₀ (s.ledgerPush e) ↔ Unchanged fr r₀ s := by
  refine Unchanged.frame ?_ hfr
  simp [State.ledgerPush]

@[simp] theorem State.shardEntry_frame {fr : List Part} {r₀ : State} (s : State) (e : LedgerIn)
    (hfr : [.led] ⊆ fr) : Unchanged fr r₀ (s.shardEntry e) ↔ Unchanged fr r₀ s := by
  refine Unchanged.frame ?_ hfr
  simp [State.shardEntry]

@[simp] theorem State.ledgerWrite_frame {fr : List Part} {r₀ : State} (s : State) (e : LedgerIn)
    (hfr : [.sys, .integ, .trc, .ttrc, .led, .tly, .ul, .evr] ⊆ fr) : Unchanged fr r₀ (s.ledgerWrite e) ↔ Unchanged fr r₀ s := by
  refine Unchanged.frame ?_ hfr
  simp [State.ledgerWrite]

theorem execLedgerSlot_unchanged (old : State) (s : State) :
    Unchanged [.sys, .integ, .trc, .ttrc, .led, .tly, .ul, .evr] s (after old (execLedgerSlot s)) := by
  simp [execLedgerSlot]

@[simp] theorem State.mark_frame {fr : List Part} {r₀ : State} (s : State) (finish : Bool) (step : Word)
    (hfr : [.sys, .trc, .led] ⊆ fr) : Unchanged fr r₀ (s.mark finish step) ↔ Unchanged fr r₀ s := by
  refine Unchanged.frame ?_ hfr
  simp [State.mark]

theorem execCatchMark_unchanged (old : State) (step : Word) (s : State) :
    Unchanged [.sys, .integ, .trc, .ttrc, .led, .tly, .ul, .evr] s (after old (execCatchMark step s)) := by
  simp [execCatchMark]

theorem execFinishMark_unchanged (old : State) (step : Word) (s : State) :
    Unchanged [.sys, .integ, .trc, .ttrc, .led, .tly, .ul, .evr] s (after old (execFinishMark step s)) := by
  simp [execFinishMark]

@[simp] theorem cmdShardClose_frame {fr : List Part} {r₀ : State} (p : Post) (s : State)
    (hfr : [.sys, .trc, .ttrc, .led, .ul, .evr] ⊆ fr) : Unchanged fr r₀ ((cmdShardClose p s).getD s) ↔ Unchanged fr r₀ s := by
  refine Unchanged.frame ?_ hfr
  unfold cmdShardClose
  split <;> simp

@[simp] theorem State.replayAnswer_frame {fr : List Part} {r₀ : State} (s : State) (cause : Nat)
    (hfr : [.sys, .trc, .ttrc, .led, .ul, .evr] ⊆ fr) : Unchanged fr r₀ (s.replayAnswer cause) ↔ Unchanged fr r₀ s := by
  refine Unchanged.frame ?_ hfr
  unfold State.replayAnswer
  split <;> simp

theorem execReplayNoAck_unchanged (old : State) (s : State) :
    Unchanged [.sys, .trc, .ttrc, .led, .ul, .evr] s (after old (execReplayNoAck s)) := by
  simp [execReplayNoAck]

@[simp] theorem State.setChan_frame {fr : List Part} {r₀ : State} (s : State) (c : Nat) (x : Channel)
    (hfr : [.scn] ⊆ fr) : Unchanged fr r₀ (s.setChan c x) ↔ Unchanged fr r₀ s := by
  refine Unchanged.frame ?_ hfr
  simp [State.setChan]

theorem execScnPost_unchanged (old : State) (a : Acc) (s : State) :
    Unchanged [.sys, .integ, .heat, .trc, .ttrc, .scn, .ul, .evr, .test] s (after old (execScnPost a s)) := by
  simp [execScnPost]

@[simp] theorem State.complete_frame {fr : List Part} {r₀ : State} (s : State) (c : Nat) (x : Running) (status : BitVec 2)
    (hfr : [.sys, .integ, .trc, .ttrc, .scn, .led, .tly, .ul, .evr] ⊆ fr) :
    Unchanged fr r₀ (s.complete c x status) ↔ Unchanged fr r₀ s := by
  refine Unchanged.frame ?_ hfr
  simp [State.complete]

@[simp] theorem State.completeReady_frame {fr : List Part} {r₀ : State} (c n : Nat) (s : State)
    (hfr : [.sys, .integ, .trc, .ttrc, .scn, .led, .tly, .ul, .evr] ⊆ fr) :
    Unchanged fr r₀ (State.completeReady c n s) ↔ Unchanged fr r₀ s := by
  refine Unchanged.frame ?_ hfr
  induction n generalizing s with
  | zero => exact .self
  | succ n ih =>
    unfold State.completeReady
    dsimp only
    split
    · exact .self
    · split
      · refine Unchanged.trans ?_ (ih _)
        simp
      · split
        · refine Unchanged.trans ?_ (ih _)
          simp
        · exact .self

@[simp] theorem State.finishRuns_frame {fr : List Part} {r₀ : State} (s : State) (c : Nat)
    (hfr : [.sys, .integ, .trc, .ttrc, .scn, .led, .tly, .ul, .evr] ⊆ fr) :
    Unchanged fr r₀ (s.finishRuns c) ↔ Unchanged fr r₀ s := by
  refine Unchanged.frame ?_ hfr
  simp [State.finishRuns]

theorem execDescriptorStart_unchanged (old : State) (c : BitVec 3) (s : State) :
    Unchanged [.sys, .integ, .trc, .ttrc, .scn, .led, .tly, .ul, .evr] s (after old (execDescriptorStart c s)) := by
  unfold execDescriptorStart
  dsimp only
  split <;> simp

theorem execScanReturn_unchanged (old : State) (lane : BitVec 1) (tag : BitVec 9) (data : List Byte) (psn perr : BitVec 2)
    (s : State) :
    Unchanged [.sys, .integ, .trc, .ttrc, .scn, .ul, .evr] s (after old (execScanReturn lane tag data psn perr s)) := by
  unfold execScanReturn
  dsimp only [after_next]
  split
  · exact .self
  · split
    · split <;> simp [-List.reduceReplicate]
    · split <;> simp
    · simp

theorem execSegmentFold_unchanged (old : State) (c : BitVec 3) (s : State) :
    Unchanged [.sys, .integ, .trc, .ttrc, .scn, .led, .tly, .ul, .evr] s (after old (execSegmentFold c s)) := by
  unfold execSegmentFold
  dsimp only
  (repeat' split) <;> simp

@[simp] theorem State.endRun_frame {fr : List Part} {r₀ : State} (s : State) (c : BitVec 3) (i : Nat) (status : BitVec 2)
    (hfr : [.scn] ⊆ fr) : Unchanged fr r₀ (s.endRun c i status) ↔ Unchanged fr r₀ s := by
  refine Unchanged.frame ?_ hfr
  unfold State.endRun
  dsimp only
  split <;> simp

@[simp] theorem State.timedOut_frame {fr : List Part} {r₀ : State} (s : State) (c : BitVec 3) (i : Nat) (entry : BitVec 6)
    (hfr : [.sys, .integ, .trc, .ttrc, .scn, .ul, .evr] ⊆ fr) : Unchanged fr r₀ (s.timedOut c i entry) ↔ Unchanged fr r₀ s := by
  refine Unchanged.frame ?_ hfr
  simp [State.timedOut]

theorem execScanTimeout_unchanged (old : State) (c : BitVec 3) (entry : BitVec 6) (s : State) :
    Unchanged [.sys, .integ, .trc, .ttrc, .scn, .led, .tly, .ul, .evr] s (after old (execScanTimeout c entry s)) := by
  unfold execScanTimeout
  dsimp only
  split <;> simp

@[simp] theorem State.abortChan_frame {fr : List Part} {r₀ : State} (s : State) (c : BitVec 3)
    (hfr : [.sys, .integ, .trc, .ttrc, .scn, .led, .tly, .ul, .evr] ⊆ fr) :
    Unchanged fr r₀ (s.abortChan c) ↔ Unchanged fr r₀ s := by
  refine Unchanged.frame ?_ hfr
  simp [State.abortChan]

@[simp] theorem cmdScanAbort_frame {fr : List Part} {r₀ : State} (p : Post) (s : State)
    (hfr : [.sys, .integ, .trc, .ttrc, .scn, .led, .tly, .ul, .evr] ⊆ fr) :
    Unchanged fr r₀ ((cmdScanAbort p s).getD s) ↔ Unchanged fr r₀ s := by
  refine Unchanged.frame ?_ hfr
  unfold cmdScanAbort
  dsimp only
  split <;> simp

@[simp] theorem State.scanStopped_frame {fr : List Part} {r₀ : State} (s : State)
    (hfr : [.sys, .integ, .trc, .ttrc, .scn, .led, .tly, .ul, .evr] ⊆ fr) :
    Unchanged fr r₀ (s.scanStopped) ↔ Unchanged fr r₀ s := by
  refine Unchanged.frame ?_ hfr
  refine (Unchanged.frame_foldl (fun t c => ?_) _).2 (by simp)
  refine (State.finishRuns_frame _ _ (by simp)).2 ((Unchanged.frame_foldl (fun u i => ?_) _).2 .self)
  dsimp only
  split <;> simp

@[simp] theorem State.treeNote_frame {fr : List Part} {r₀ : State} (s : State) (code : Nat) (data : List Byte)
    (hfr : [.sys, .integ, .trc, .ttrc, .ul, .evr] ⊆ fr) : Unchanged fr r₀ (s.treeNote code data) ↔ Unchanged fr r₀ s := by
  refine Unchanged.frame ?_ hfr
  simp [State.treeNote]

@[simp] theorem State.nodeError_frame {fr : List Part} {r₀ : State} (s : State) (ts : List TreeRec) (t i : Nat)
    (hfr : [.sys, .integ, .trc, .ttrc, .te, .ul, .evr] ⊆ fr) : Unchanged fr r₀ (s.nodeError ts t i) ↔ Unchanged fr r₀ s := by
  refine Unchanged.frame ?_ hfr
  simp [State.nodeError]

@[simp] theorem State.visit_frame {fr : List Part} {r₀ : State} (s : State) (ts : List TreeRec) (ues : List (Nat × Nat × Nat))
    (r : TreeRun) (e : Nat × Nat)
    (hfr : [.sys, .integ, .trc, .ttrc, .te, .ul, .evr] ⊆ fr) : Unchanged fr r₀ (s.visit ts ues r e).1 ↔ Unchanged fr r₀ s := by
  refine Unchanged.frame ?_ hfr
  unfold State.visit
  split <;> simp

@[simp] theorem State.runWaves_frame {fr : List Part} {r₀ : State} (ts : List TreeRec) (ues : List (Nat × Nat × Nat)) (n : Nat)
    (s : State) (r : TreeRun) (hfr : [.sys, .integ, .trc, .ttrc, .te, .ul, .evr] ⊆ fr) :
    Unchanged fr r₀ (State.runWaves ts ues n s r).1 ↔ Unchanged fr r₀ s := by
  have hpair (l : List (Nat × Nat)) (p : State × TreeRun) : Unchanged [.sys, .integ, .trc, .ttrc, .te, .ul, .evr] p.1
      (l.foldl (fun (p : State × TreeRun) e => p.1.visit ts ues p.2 e) p).1 := by
    induction l generalizing p with
    | nil => exact .self
    | cons x l ih => exact Unchanged.trans (by simp) (ih _)
  refine Unchanged.frame ?_ hfr
  induction n generalizing s r with
  | zero => exact .self
  | succ n ih =>
    unfold State.runWaves
    split
    · exact .self
    · exact (hpair _ (s, r)).trans (ih _ _)

theorem execTreeScoring_unchanged (old : State) (late : Bool) (ces : BitVec 16) (ues : List (BitVec 6 × BitVec 12 × BitVec 16))
    (s : State) :
    Unchanged [.sys, .integ, .trc, .ttrc, .te, .ul, .evr] s (after old (execTreeScoring late ces ues s)) := by
  simp [execTreeScoring]

theorem execBlobCheckDone_unchanged (old : State) (readErr : Option (BitVec 32)) (s : State) :
    Unchanged [.sys, .integ, .trc, .ttrc, .te, .ul, .evr] s (after old (execBlobCheckDone readErr s)) := by
  unfold execBlobCheckDone
  (repeat' split) <;> simp

theorem execTeModelReady_unchanged (old : State) (s : State) :
    Unchanged [.sys, .trc, .ttrc, .te, .ul, .evr] s (after old (execTeModelReady s)) := by
  simp [execTeModelReady]

@[simp] theorem boundaryTree_frame {fr : List Part} {r₀ : State} (unfinished : List (BitVec 10)) (s : State)
    (hfr : [.sys, .integ, .trc, .ttrc, .red, .te, .ump, .tly, .ul, .nb, .evr] ⊆ fr) :
    Unchanged fr r₀ (boundaryTree unfinished s) ↔ Unchanged fr r₀ s := by
  refine Unchanged.frame ?_ hfr
  unfold boundaryTree
  extract_lets counted lostStep scored
  have hscored : Unchanged [.sys, .integ, .trc, .ttrc, .red, .te, .ump, .tly, .ul, .nb, .evr] s scored := by
    simp only [scored]
    split <;> simp [lostStep]
  simp [hscored]

@[simp] theorem cmdTeBlobBegin_frame {fr : List Part} {r₀ : State} (p : Post) (s : State)
    (hfr : [.sys, .trc, .ttrc, .te, .ul, .evr] ⊆ fr) : Unchanged fr r₀ ((cmdTeBlobBegin p s).getD s) ↔ Unchanged fr r₀ s := by
  refine Unchanged.frame ?_ hfr
  unfold cmdTeBlobBegin
  split <;> simp

@[simp] theorem cmdTeBlobCheck_frame {fr : List Part} {r₀ : State} (x0 : Post) (s : State)
    (hfr : [.te] ⊆ fr) : Unchanged fr r₀ ((cmdTeBlobCheck x0 s).getD s) ↔ Unchanged fr r₀ s := by
  refine Unchanged.frame ?_ hfr
  unfold cmdTeBlobCheck
  split <;> simp

@[simp] theorem State.pfEndsLoads_frame {fr : List Part} {r₀ : State} (s : State)
    (hfr : [.sys, .integ, .ld, .tray, .trc, .ttrc, .te, .ul, .evr, .flash] ⊆ fr) :
    Unchanged fr r₀ (s.pfEndsLoads) ↔ Unchanged fr r₀ s := by
  refine Unchanged.frame ?_ hfr
  simp [State.pfEndsLoads]

@[simp] theorem State.powerFails_frame {fr : List Part} {r₀ : State} (s : State) (pfIn : Bool)
    (hfr : [.sys, .pwr, .integ, .ld, .tray, .trc, .ttrc, .te, .ul, .evr, .flash] ⊆ fr) :
    Unchanged fr r₀ (s.powerFails pfIn) ↔ Unchanged fr r₀ s := by
  refine Unchanged.frame ?_ hfr
  simp [State.powerFails]

theorem execPowerFailSignal_unchanged (old : State) (pfIn : Bool) (s : State) :
    Unchanged [.sys, .pwr, .integ, .ld, .tray, .trc, .ttrc, .te, .ul, .evr, .flash] s (after old
    (execPowerFailSignal pfIn s)) := by
  simp [execPowerFailSignal]

theorem execPowerFailEnd_unchanged (old : State) (ms : Word) (s : State) :
    Unchanged [.sys, .pwr, .trc, .ttrc, .ul, .evr] s (after old (execPowerFailEnd ms s)) := by
  simp [execPowerFailEnd]

@[simp] theorem boundaryPower_frame {fr : List Part} {r₀ : State} (s : State)
    (hfr : [.sys, .pwr, .trc, .ttrc, .ul, .evr] ⊆ fr) : Unchanged fr r₀ (boundaryPower s) ↔ Unchanged fr r₀ s := by
  refine Unchanged.frame ?_ hfr
  simp [boundaryPower]

theorem execHoldupMeasurement_unchanged (old : State) (code : BitVec 12) (s : State) :
    Unchanged [.sys, .pwr, .trc, .ttrc, .ul, .evr] s (after old (execHoldupMeasurement code s)) := by
  simp [execHoldupMeasurement]

theorem execHoldupMeasurementEnd_unchanged (old : State) (below : Bool) (s : State) :
    Unchanged [.sys, .pwr, .trc, .ttrc, .ul, .evr] s (after old (execHoldupMeasurementEnd below s)) := by
  simp [execHoldupMeasurementEnd]

@[simp] theorem State.setT1s_frame {fr : List Part} {r₀ : State} (s : State) (t : T1s)
    (hfr : [.nb] ⊆ fr) : Unchanged fr r₀ (s.setT1s t) ↔ Unchanged fr r₀ s := by
  refine Unchanged.frame ?_ hfr
  simp [State.setT1s]

@[simp] theorem State.portCount_frame {fr : List Part} {r₀ : State} (s : State) (p i : Nat)
    (hfr : [.nb] ⊆ fr) : Unchanged fr r₀ (s.portCount p i) ↔ Unchanged fr r₀ s := by
  refine Unchanged.frame ?_ hfr
  simp [State.portCount]

theorem execNbPortState_unchanged (old : State) (port : BitVec 1) (up fecLock : Bool) (s : State) :
    Unchanged [.sys, .trc, .ttrc, .ul, .nb, .evr] s (after old (execNbPortState port up fecLock s)) := by
  simp [execNbPortState]

@[simp] theorem State.frameSent_frame {fr : List Part} {r₀ : State} (s : State) (p c : Nat) (f : NbFrame)
    (hfr : [.nb] ⊆ fr) : Unchanged fr r₀ (s.frameSent p c f) ↔ Unchanged fr r₀ s := by
  refine Unchanged.frame ?_ hfr
  simp [State.frameSent]

theorem execEgressFrameSelect_unchanged (old : State) (port : BitVec 1) (t : BitVec 128) (s : State) :
    Unchanged [.nb] s (after old (execEgressFrameSelect port t s)) := by
  unfold execEgressFrameSelect
  dsimp only
  (repeat' split) <;> simp

@[simp] theorem State.overrun_frame {fr : List Part} {r₀ : State} (s : State) (p : Nat) (old new : Byte) (busy : Option
    (BitVec 3))
    (hfr : [.nb] ⊆ fr) : Unchanged fr r₀ (s.overrun p old new busy) ↔ Unchanged fr r₀ s := by
  refine Unchanged.frame ?_ hfr
  unfold State.overrun
  split <;> simp

theorem execGateChangeTime_unchanged (old : State) (port : BitVec 1) (busy : Option (BitVec 3)) (s : State) :
    Unchanged [.sys, .trc, .ttrc, .ul, .nb, .evr] s (after old (execGateChangeTime port busy s)) := by
  unfold execGateChangeTime
  dsimp only
  split <;> simp

@[simp] theorem State.gateChange_frame {fr : List Part} {r₀ : State} (s : State) (a : Acc) (p : Nat)
    (hfr : [.sys, .integ, .trc, .ttrc, .ul, .nb, .evr] ⊆ fr) : Unchanged fr r₀ (s.gateChange a p) ↔ Unchanged fr r₀ s := by
  refine Unchanged.frame ?_ hfr
  simp [State.gateChange]

@[simp] theorem State.gateWrite_frame {fr : List Part} {r₀ : State} (s : State) (a : Acc) (p : Nat)
    (hfr : [.sys, .integ, .heat, .trc, .ttrc, .ul, .nb, .evr, .test] ⊆ fr) :
    Unchanged fr r₀ (s.gateWrite a p) ↔ Unchanged fr r₀ s := by
  refine Unchanged.frame ?_ hfr
  simp [State.gateWrite]

theorem execNbGateChgWrite_unchanged (old : State) (a : Acc) (p : BitVec 1) (s : State) :
    Unchanged [.sys, .integ, .heat, .trc, .ttrc, .ul, .nb, .evr, .test] s (after old (execNbGateChgWrite a p s)) := by
  simp [execNbGateChgWrite]

@[simp] theorem boundaryNorth_frame {fr : List Part} {r₀ : State} (s : State)
    (hfr : [.nb] ⊆ fr) : Unchanged fr r₀ (boundaryNorth s) ↔ Unchanged fr r₀ s := by
  refine Unchanged.frame ?_ hfr
  simp [boundaryNorth]

@[simp] theorem State.stranger_frame {fr : List Part} {r₀ : State} (s : State) (src : BitVec 48)
    (hfr : [.sys, .integ, .trc, .ttrc, .ul, .nb, .evr] ⊆ fr) : Unchanged fr r₀ (s.stranger src) ↔ Unchanged fr r₀ s := by
  refine Unchanged.frame ?_ hfr
  simp [State.stranger]

theorem execT1sFrameReceive_unchanged (old : State) (f : EthFrame) (s : State) :
    Unchanged [.sys, .integ, .trc, .ttrc, .ul, .nb, .evr] s (after old (execT1sFrameReceive f s)) := by
  simp [execT1sFrameReceive]

@[simp] theorem State.t1sClash_frame {fr : List Part} {r₀ : State} (s : State) (kind : Nat) (mac : BitVec 48)
    (hfr : [.sys, .integ, .trc, .ttrc, .ul, .nb, .evr] ⊆ fr) : Unchanged fr r₀ (s.t1sClash kind mac) ↔ Unchanged fr r₀ s := by
  refine Unchanged.frame ?_ hfr
  simp [State.t1sClash]

theorem execPlcaModeChange_unchanged (old : State) (plca : Bool) (s : State) :
    Unchanged [.sys, .trc, .ttrc, .ul, .nb, .evr] s (after old (execPlcaModeChange plca s)) := by
  simp [execPlcaModeChange]

theorem execDiscover_unchanged (old : State) (src : BitVec 48) (node : Byte) (tray : BitVec 18) (s : State) :
    Unchanged [.sys, .integ, .trc, .ttrc, .ul, .nb, .evr] s (after old (execDiscover src node tray s)) := by
  simp [execDiscover]

@[simp] theorem State.echoAnswers_frame {fr : List Part} {r₀ : State} (s : State)
    (hfr : [.sys, .nb] ⊆ fr) : Unchanged fr r₀ (s.echoAnswers) ↔ Unchanged fr r₀ s := by
  refine Unchanged.frame ?_ hfr
  simp [State.echoAnswers]

@[simp] theorem State.t1sSend_frame {fr : List Part} {r₀ : State} (s : State) (n : Nat)
    (hfr : [.nb] ⊆ fr) : Unchanged fr r₀ (s.t1sSend n) ↔ Unchanged fr r₀ s := by
  refine Unchanged.frame ?_ hfr
  simp [State.t1sSend]

theorem execTransmitOpportunity_unchanged (old : State) (evidence : BitVec 3) (s : State) :
    Unchanged [.sys, .integ, .trc, .ttrc, .ul, .nb, .evr] s (after old (execTransmitOpportunity evidence s)) := by
  simp [execTransmitOpportunity]

theorem execRegReq_unchanged (old : State) (port : BitVec 2) (src : BitVec 48) (reqid : Word) (entries : List ReqEntry)
    (s : State) :
    Unchanged [.sys, .trc, .ttrc, .ul, .nb, .roles, .evr] s (after old (execRegReq port src reqid entries s)) := by
  unfold execRegReq
  dsimp only
  (repeat' split) <;> simp

@[simp] theorem State.overran_frame {fr : List Part} {r₀ : State} (s : State) (lost : List (BitVec 10))
    (hfr : [.sys, .integ, .heat, .trc, .ttrc, .ul, .evr] ⊆ fr) : Unchanged fr r₀ (s.overran lost) ↔ Unchanged fr r₀ s := by
  refine Unchanged.frame ?_ hfr
  unfold State.overran
  split <;> simp

@[simp] theorem State.overMarks_frame {fr : List Part} {r₀ : State} (s : State) (u : DWord) (lost : List (BitVec 10))
    (hfr : [.ul] ⊆ fr) : Unchanged fr r₀ (s.overMarks u lost) ↔ Unchanged fr r₀ s := by
  refine Unchanged.frame ?_ hfr
  simp [State.overMarks]

@[simp] theorem State.sendDetrec_frame {fr : List Part} {r₀ : State} (s : State) (u : DWord)
    (hfr : [.ump, .ul] ⊆ fr) : Unchanged fr r₀ (s.sendDetrec u) ↔ Unchanged fr r₀ s := by
  refine Unchanged.frame ?_ hfr
  simp [State.sendDetrec]

@[simp] theorem State.sendHdr_frame {fr : List Part} {r₀ : State} (s : State) (u : DWord)
    (hfr : [.led, .ul] ⊆ fr) : Unchanged fr r₀ (s.sendHdr u) ↔ Unchanged fr r₀ s := by
  refine Unchanged.frame ?_ hfr
  simp [State.sendHdr]

@[simp] theorem State.heatBuoy_frame {fr : List Part} {r₀ : State} (s : State) (next : DWord)
    (hfr : [.trc] ⊆ fr) : Unchanged fr r₀ (s.heatBuoy next) ↔ Unchanged fr r₀ s := by
  refine Unchanged.frame ?_ hfr
  simp [State.heatBuoy]

@[simp] theorem State.boundaryBlocks_frame {fr : List Part} {r₀ : State} (s : State) (lost : List (BitVec 10))
    (hfr : [.sys, .trc, .ttrc, .cmp, .ump, .ul, .nb, .evr] ⊆ fr) :
    Unchanged fr r₀ (s.boundaryBlocks lost) ↔ Unchanged fr r₀ s := by
  refine Unchanged.frame ?_ hfr
  simp [State.boundaryBlocks]

@[simp] theorem State.noHeat_frame {fr : List Part} {r₀ : State} (s : State)
    (hfr : [.prb, .sns, .led, .ump] ⊆ fr) : Unchanged fr r₀ (s.noHeat) ↔ Unchanged fr r₀ s := by
  refine Unchanged.frame ?_ hfr
  simp [State.noHeat]

@[simp] theorem State.heatEnds_frame {fr : List Part} {r₀ : State} (s : State) (next : DWord) (unfinished : List (BitVec 10))
    (hfr : [.sys, .pwr, .integ, .heat, .prb, .trc, .ttrc, .cmp, .led, .fpc, .red, .te, .ump, .tly, .ul, .nb, .evr] ⊆ fr) :
    Unchanged fr r₀ (s.heatEnds next unfinished) ↔ Unchanged fr r₀ s := by
  refine Unchanged.frame ?_ hfr
  simp [State.heatEnds]

@[simp] theorem State.heatBegins_frame {fr : List Part} {r₀ : State} (s : State) (next : DWord)
    (hfr : [.sys, .pwr, .bist, .integ, .heat, .sns, .tb, .ptp, .tt, .trc, .ttrc, .te, .tly, .ul, .nb, .evr] ⊆ fr) :
    Unchanged fr r₀ (s.heatBegins next) ↔ Unchanged fr r₀ s := by
  refine Unchanged.frame ?_ hfr
  simp [State.heatBegins]

@[simp] theorem State.boundary_frame {fr : List Part} {r₀ : State} (s : State) (next : DWord) (meas : BitVec 23)
    (unfinished : List (BitVec 10))
    (hfr : [.sys, .pwr, .bist, .integ, .heat, .prb, .sns, .tb, .ptp, .tt, .trc, .ttrc, .cmp, .led, .fpc, .red, .te, .ump, .tly,
      .ul, .nb, .evr] ⊆ fr) :
    Unchanged fr r₀ (s.boundary next meas unfinished) ↔ Unchanged fr r₀ s := by
  refine Unchanged.frame ?_ hfr
  simp [State.boundary]

@[simp] theorem State.substituted_frame {fr : List Part} {r₀ : State} (s : State) (b : Bool)
    (hfr : [.tb] ⊆ fr) : Unchanged fr r₀ (s.substituted b) ↔ Unchanged fr r₀ s := by
  refine Unchanged.frame ?_ hfr
  simp [State.substituted]

theorem execHeatBoundary_unchanged (old : State) (meas : BitVec 23) (unfinished : List (BitVec 10)) (s : State) :
    Unchanged [.sys, .pwr, .bist, .integ, .heat, .prb, .sns, .tb, .ptp, .tt, .trc, .ttrc, .cmp, .led, .fpc, .red, .te, .ump,
      .tly, .ul, .nb, .evr] s (after old (execHeatBoundary meas unfinished s)) := by
  simp [execHeatBoundary]

theorem execSubstituteHeatBoundary_unchanged (old : State) (unfinished : List (BitVec 10)) (s : State) :
    Unchanged [.sys, .pwr, .bist, .integ, .heat, .prb, .sns, .tb, .ptp, .tt, .trc, .ttrc, .cmp, .led, .fpc, .red, .te, .ump,
      .tly, .ul, .nb, .evr] s (after old (execSubstituteHeatBoundary unfinished s)) := by
  simp [execSubstituteHeatBoundary]

@[simp] theorem State.breakPair_frame {fr : List Part} {r₀ : State} (s : State) (off v : Nat)
    (hfr : [.wc2] ⊆ fr) : Unchanged fr r₀ (s.breakPair off v) ↔ Unchanged fr r₀ s := by
  refine Unchanged.frame ?_ hfr
  simp [State.breakPair]

@[simp] theorem State.cplEffect_frame {fr : List Part} {r₀ : State} (s : State) (item i : Nat)
    (hfr : [.sys, .integ, .ld, .tb, .trc, .ttrc, .ump, .ul, .roles, .evr, .wc2] ⊆ fr) :
    Unchanged fr r₀ (s.cplEffect item i) ↔ Unchanged fr r₀ s := by
  refine Unchanged.frame ?_ hfr
  unfold State.cplEffect
  split <;> simp

@[simp] theorem State.cplFault_frame {fr : List Part} {r₀ : State} (s : State) (item i : Nat)
    (hfr : [.sys, .integ, .ld, .tb, .trc, .ttrc, .ump, .ul, .roles, .evr, .wc2] ⊆ fr) :
    Unchanged fr r₀ (s.cplFault item i) ↔ Unchanged fr r₀ s := by
  refine Unchanged.frame ?_ hfr
  simp [State.cplFault]

theorem execComplementFault_unchanged (old : State) (item : BitVec 4) (index : Byte) (s : State) :
    Unchanged [.sys, .integ, .ld, .tb, .trc, .ttrc, .ump, .ul, .roles, .evr, .wc2] s (after old
    (execComplementFault item index s)) := by
  simp [execComplementFault]

theorem execErrStickyClear_unchanged (old : State) (a : Acc) (n : BitVec 2) (s : State) :
    Unchanged [.sys, .integ, .heat, .trc, .ttrc, .ul, .evr, .test] s (after old (execErrStickyClear a n s)) := by
  simp [execErrStickyClear]

@[simp] theorem State.xingStopped_frame {fr : List Part} {r₀ : State} (s : State) (d : Nat)
    (hfr : [.sys, .integ, .trc, .ttrc, .ul, .evr] ⊆ fr) : Unchanged fr r₀ (s.xingStopped d) ↔ Unchanged fr r₀ s := by
  refine Unchanged.frame ?_ hfr
  simp [State.xingStopped]

@[simp] theorem State.regionStopped_frame {fr : List Part} {r₀ : State} (s : State) (r : Nat)
    (hfr : [.sys, .prb, .trc] ⊆ fr) : Unchanged fr r₀ (s.regionStopped r) ↔ Unchanged fr r₀ s := by
  refine Unchanged.frame ?_ hfr
  simp [State.regionStopped]

@[simp] theorem State.flashFailed_frame {fr : List Part} {r₀ : State} (s : State)
    (hfr : [.sys, .integ, .ld, .tray, .trc, .ttrc, .ul, .evr, .flash] ⊆ fr) :
    Unchanged fr r₀ (s.flashFailed) ↔ Unchanged fr r₀ s := by
  refine Unchanged.frame ?_ hfr
  unfold State.flashFailed
  split <;> simp

@[simp] theorem State.t1sStopped_frame {fr : List Part} {r₀ : State} (s : State)
    (hfr : [.nb] ⊆ fr) : Unchanged fr r₀ (s.t1sStopped) ↔ Unchanged fr r₀ s := by
  refine Unchanged.frame ?_ hfr
  simp [State.t1sStopped]

@[simp] theorem State.domEffect_frame {fr : List Part} {r₀ : State} (s : State) (d : Nat)
    (hfr : [.sys, .integ, .ld, .tray, .trc, .ttrc, .scn, .led, .tly, .ul, .nb, .evr, .test, .flash] ⊆ fr) :
    Unchanged fr r₀ (s.domEffect d) ↔ Unchanged fr r₀ s := by
  refine Unchanged.frame ?_ hfr
  unfold State.domEffect
  (repeat' split) <;> simp

@[simp] theorem State.strokeStopped_frame {fr : List Part} {r₀ : State} (s : State)
    (hfr : [.sys, .integ, .tb, .trc, .ttrc, .ul, .evr] ⊆ fr) : Unchanged fr r₀ (s.strokeStopped) ↔ Unchanged fr r₀ s := by
  refine Unchanged.frame ?_ hfr
  simp [State.strokeStopped]

theorem execCrossingTimeout_unchanged (old : State) (d : BitVec 6) (s : State) :
    Unchanged [.sys, .integ, .ld, .tray, .prb, .tb, .trc, .ttrc, .scn, .led, .tly, .ul, .nb, .evr, .test, .flash] s (after old
    (execCrossingTimeout d s)) := by
  unfold execCrossingTimeout
  dsimp only
  (repeat' split) <;> simp

theorem execCrossingRearm_unchanged (old : State) (d : BitVec 6) (s : State) :
    Unchanged [.sys, .integ, .prb, .tb, .trc, .ttrc, .ul, .evr] s (after old (execCrossingRearm d s)) := by
  unfold execCrossingRearm
  dsimp only
  (repeat' split) <;> simp

theorem execLpReqRise_unchanged (old : State) (r : BitVec 5) (s : State) :
    Unchanged [.sys, .integ, .heat, .prb, .trc] s (after old (execLpReqRise r s)) := by
  simp [execLpReqRise]

theorem execDormancyExit_unchanged (old : State) (r : BitVec 5) (s : State) :
    Unchanged [.sys, .integ, .heat, .prb, .trc] s (after old (execDormancyExit r s)) := by
  simp [execDormancyExit]

@[simp] theorem cmdTallyLoad_frame {fr : List Part} {r₀ : State} (p : Post) (s : State)
    (hfr : [.sys, .trc, .ttrc, .tly, .ul, .evr] ⊆ fr) : Unchanged fr r₀ ((cmdTallyLoad p s).getD s) ↔ Unchanged fr r₀ s := by
  refine Unchanged.frame ?_ hfr
  unfold cmdTallyLoad
  dsimp only
  split <;> simp

@[simp] theorem cmdTallyDump_frame {fr : List Part} {r₀ : State} (p : Post) (s : State)
    (hfr : [.sys, .integ, .trc, .ttrc, .tly, .ul, .nb, .evr] ⊆ fr) :
    Unchanged fr r₀ ((cmdTallyDump p s).getD s) ↔ Unchanged fr r₀ s := by
  refine Unchanged.frame ?_ hfr
  unfold cmdTallyDump
  split <;> simp

@[simp] theorem cmdTallyResume_frame {fr : List Part} {r₀ : State} (p : Post) (s : State)
    (hfr : [.sys, .trc, .ttrc, .tly, .ul, .evr] ⊆ fr) : Unchanged fr r₀ ((cmdTallyResume p s).getD s) ↔ Unchanged fr r₀ s := by
  refine Unchanged.frame ?_ hfr
  unfold cmdTallyResume
  split <;> simp

@[simp] theorem cmdUlRetrain_frame {fr : List Part} {r₀ : State} (p : Post) (s : State)
    (hfr : [.sys, .integ, .trc, .ttrc, .ul, .evr] ⊆ fr) : Unchanged fr r₀ ((cmdUlRetrain p s).getD s) ↔ Unchanged fr r₀ s := by
  refine Unchanged.frame ?_ hfr
  unfold cmdUlRetrain
  dsimp only
  split <;> simp

@[simp] theorem State.setResult_frame {fr : List Part} {r₀ : State} (s : State) (code result : Nat) (p : Post)
    (hfr : [.tly, .roles] ⊆ fr) : Unchanged fr r₀ (s.setResult code result p) ↔ Unchanged fr r₀ s := by
  refine Unchanged.frame ?_ hfr
  simp [State.setResult]

end Sys2Proof.Machine
end

section
/-! PROOF. The work of one cycle, and events on the tray, where none sends a message (R177 gives TRIGGER to a die alone). -/

namespace Sys2Proof.Machine

/-- The state in which the work of one cycle begins: `s`, where its events wait if `s` began no cycle. -/
def State.cycleBegun (s : State) : State :=
  match s.evr.cycle with
  | some _ => s
  | none => s.setEvr { s.evr with cycle := some [] }

theorem State.cycleBegun_unchanged (s : State) : Unchanged [.evr] s s.cycleBegun := by
  unfold State.cycleBegun
  split
  · exact .refl _ s
  · exact s.setEvr_unchanged _

/-- What one cycle leaves is what its work leaves, but for its events and the first error. -/
theorem State.oneCycle_work (f : State → State) (s : State) :
    Unchanged [.sys, .integ, .trc, .ttrc, .ul, .evr] (f s.cycleBegun) (s.oneCycle f) := by
  have hfirst (r : State) : Unchanged [.integ] r (r.firstOf s) := by
    intro part hp
    cases part
    case integ => simp at hp
    all_goals simp [Part.same]
  have hhappen (t : State) (q : RecIn) : Unchanged [.sys, .integ, .trc, .ttrc, .ul, .evr] t (t.happen q) :=
    (t.happen_unchanged q).mono (by decide)
  unfold State.oneCycle State.cycleBegun
  cases s.evr.cycle with
  | some _ => exact .refl _ _
  | none =>
    refine Unchanged.trans ?_ (.foldl hhappen _ _)
    exact ((Unchanged.refl _ _).step (hfirst _)).step (State.setEvr_unchanged _ _)

theorem State.isT_of_kept {s t : State} (h : t.kept = s.kept) : t.isT = s.isT := by
  simp only [State.kept, Prod.mk.injEq] at h
  simp [State.isT, h]

theorem State.isD_of_isT {s : State} (h : s.isT = true) : s.isD = false := by
  simp only [State.isT, beq_iff_eq] at h
  simp [State.isD, h]

/-- A fold on the tray whose every step leaves the links alone. -/
theorem foldl_ul_tray {α : Type} {f : State → α → State} (hk : ∀ t x, (f t x).kept = t.kept)
    (h : ∀ t x, t.isT = true → (f t x).ul = t.ul) (l : List α) {s : State} (hs : s.isT = true) : (l.foldl f s).ul = s.ul := by
  induction l generalizing s with
  | nil => rfl
  | cons x l ih => rw [List.foldl_cons, ih ((State.isT_of_kept (hk s x)).trans hs), h s x hs]

section

variable {s : State} (hs : s.isT = true)
include hs

theorem State.event_ul_tray (code : Nat) (data : List Byte) (role path : Nat) : (s.event code data role path).ul = s.ul := by
  unfold State.event
  dsimp only
  split
  · rfl
  · simp [State.happen, State.isD_of_isT hs, State.eventQuiet]

theorem State.note_ul_tray (code : Nat) (data : List Byte) : (s.note code data).ul = s.ul := State.event_ul_tray hs _ _ _ _

theorem State.stickOnce_ul_tray (r b key code : Nat) (data : List Byte) : (s.stickOnce r b key code data).ul = s.ul := by
  unfold State.stickOnce
  dsimp only
  split
  · rw [State.note_ul_tray ((State.isT_of_kept (by simp)).trans hs)]
    simp
  · simp

/-! The marks of a processed heat (R275 to R279). -/

theorem State.reduceLoss_ul_tray (i code : Nat) (data : List Byte) : (s.reduceLoss i code data).ul = s.ul := by
  have hloss := State.stickOnce_ul_tray (s := s.setRed (s.red.count i 1)) hs 1 4 0 code data
  unfold State.reduceLoss
  dsimp only
  split <;> simpa using hloss

theorem State.completeStep_ul_tray (st : Step) : (s.completeStep st).ul = s.ul := by
  unfold State.completeStep
  dsimp only
  split
  · rfl
  · rw [State.reduceLoss_ul_tray ((State.isT_of_kept (by simp)).trans hs)]
    simp

theorem State.forceStep_ul_tray : s.forceStep.ul = s.ul := by
  unfold State.forceStep
  split
  · split
    · rfl
    · rw [State.completeStep_ul_tray ((State.isT_of_kept (by simp)).trans hs),
        State.note_ul_tray ((State.isT_of_kept (by simp)).trans hs)]
      simp
  · rfl

theorem State.takeMark_ul_tray (k : Nat) (h : DWord) (step : Word) (finish : Bool) (stroke : DWord) :
    (s.takeMark k h step finish stroke).ul = s.ul := by
  have hforced := State.forceStep_ul_tray hs
  unfold State.takeMark
  dsimp only
  split
  · simp
  · split
    · split <;> simp [apply_ite State.ul, hforced]
    · split
      · split <;> simp [apply_ite State.ul, hforced]
      · simp [apply_ite State.ul, hforced]

theorem State.takeMarks_ul_tray (k : Nat) (h : DWord) (marks : List (List Byte)) : (s.takeMarks k h marks).ul = s.ul :=
  foldl_ul_tray (fun _ _ => State.takeMark_kept _ _ _ _ _ _) (fun _ _ ht => State.takeMark_ul_tray ht _ _ _ _ _) marks hs

theorem State.mismatchChange_ul_tray (k : Nat) : (s.mismatchChange k).ul = s.ul := by
  unfold State.mismatchChange
  dsimp only
  split
  · rfl
  · split <;> rw [State.note_ul_tray ((State.isT_of_kept (by simp)).trans hs)]
    all_goals simp

end

/-! What leaves the verdicts alone. -/

@[simp] theorem State.completeStep_umpVerd (s : State) (st : Step) : (s.completeStep st).ump.verd = s.ump.verd := by
  simp [State.completeStep, apply_ite State.ump, apply_ite Umpire.verd]

@[simp] theorem State.forceStep_umpVerd (s : State) : s.forceStep.ump.verd = s.ump.verd := by
  unfold State.forceStep
  split
  · simp [apply_ite State.ump, apply_ite Umpire.verd]
  · rfl

@[simp] theorem State.takeMark_umpVerd (s : State) (k : Nat) (h : DWord) (step : Word) (finish : Bool) (stroke : DWord) :
    (s.takeMark k h step finish stroke).ump.verd = s.ump.verd := by
  unfold State.takeMark
  dsimp only
  split
  · simp
  · split
    · split <;> simp [apply_ite State.ump, apply_ite Umpire.verd]
    · split
      · split <;> simp [apply_ite State.ump]
      · simp [apply_ite State.ump, apply_ite Umpire.verd]

@[simp] theorem State.takeMarks_umpVerd (s : State) (k : Nat) (h : DWord) (marks : List (List Byte)) :
    (s.takeMarks k h marks).ump.verd = s.ump.verd := foldl_umpVerd _ _ _ fun _ _ => State.takeMark_umpVerd _ _ _ _ _ _

@[simp] theorem State.completeSteps_umpVerd (s : State) : s.completeSteps.ump.verd = s.ump.verd :=
  foldl_umpVerd _ _ _ fun _ _ => State.completeStep_umpVerd _ _

@[simp] theorem State.outcome_umpVerd (s : State) (r : FpReplay) (ref : Option DWord) : (s.outcome r ref).ump.verd = s.ump.verd := by
  unfold State.outcome
  dsimp only
  (repeat' split) <;> simp

@[simp] theorem State.judgeReplays_umpVerd (s : State) (sel : FpReplay → Bool) : (s.judgeReplays sel).ump.verd = s.ump.verd := by
  refine (foldl_umpVerd _ _ _ fun t r => ?_).trans (by simp)
  simp

end Sys2Proof.Machine
end

section
/-! PROOF. The alignment slot (R21, R134, R361). -/

namespace Sys2Proof.Machine

/-- The records of die `k` for heat `h` came complete. -/
def State.alignOk (s : State) (h : DWord) (k : Nat) : Bool :=
  decide ((Tab.get 0 s.inr.done (1 + k)).toNat ≤ h.toNat) && ((s.inr.rec? k h).map DieRec.complete).getD false

/-- The liveness that the slot for heat `h` gives die `k`. -/
def State.liveFrom (s : State) (h : DWord) (k : Nat) : BitVec 3 :=
  if !s.inService k then 0 else if (s.link k).tr.state ≠ 4 then 4 else if s.alignOk h k then 1
  else if Tab.get 0 s.inr.lateRun k + 1 < s.silentH then 2 else 3

/-- What liveness is judged from, but for the late heats, is as it was. -/
structure RecordsKept (s t : State) : Prop where
  build : t.isT = s.isT
  image : t.ld = s.ld
  links : t.ul = s.ul
  recs : t.inr.recs = s.inr.recs
  done : t.inr.done = s.inr.done

namespace RecordsKept

variable {r s t : State}

protected theorem trans (h₁ : RecordsKept r s) (h₂ : RecordsKept s t) : RecordsKept r t :=
  ⟨h₂.build.trans h₁.build, h₂.image.trans h₁.image, h₂.links.trans h₁.links, h₂.recs.trans h₁.recs, h₂.done.trans h₁.done⟩

theorem of_unchanged {l : List Part} (hk : t.kept = s.kept) (hul : t.ul = s.ul) (h : Unchanged l s t)
    (hl : Part.ld ∉ l ∧ Part.inr ∉ l := by decide) : RecordsKept s t := by
  have hinr : s.inr = t.inr := h .inr hl.2
  exact ⟨State.isT_of_kept hk, (h .ld hl.1).symm, hul, by rw [hinr], by rw [hinr]⟩

theorem liveFrom (h : RecordsKept s t) (hd : DWord) (k : Nat) (hl : Tab.get 0 t.inr.lateRun k = Tab.get 0 s.inr.lateRun k) :
    t.liveFrom hd k = s.liveFrom hd k := by
  have hservice : t.inService k = s.inService k := by simp [State.inService, State.expFlags, State.img, h.image]
  have hlink : t.link k = s.link k := by simp [State.link, h.links]
  have hok : t.alignOk hd k = s.alignOk hd k := by simp [State.alignOk, Intake.rec?, h.recs, h.done]
  have hsilent : t.silentH = s.silentH := by simp [State.silentH, State.pol, State.img, h.image]
  simp only [State.liveFrom, hservice, hlink, hok, hsilent, hl]

end RecordsKept


theorem State.takeMarks_frameOf (s : State) (k : Nat) (h : DWord) (marks : List (List Byte)) :
    Unchanged [.sys, .integ, .trc, .ttrc, .red, .ump, .ul, .evr] s (s.takeMarks k h marks) := by simp

@[simp] theorem State.takeMarks_inr (s : State) (k : Nat) (h : DWord) (marks : List (List Byte)) :
    (s.takeMarks k h marks).inr = s.inr := (s.takeMarks_frameOf k h marks .inr (by decide)).symm

@[simp] theorem State.takeMarks_ld (s : State) (k : Nat) (h : DWord) (marks : List (List Byte)) :
    (s.takeMarks k h marks).ld = s.ld := (s.takeMarks_frameOf k h marks .ld (by decide)).symm

/-! One die in the slot. -/

theorem State.alignDie_ul {s : State} (hs : s.isT = true) (h : DWord) (k : Nat) : (s.alignDie h k).ul = s.ul := by
  unfold State.alignDie
  dsimp only
  split
  · rw [State.takeMarks_ul_tray ((State.isT_of_kept (by simp)).trans hs)]
    simp [State.setVerd]
  · simp [State.setVerd]

theorem State.alignDie_recordsKept {s : State} (hs : s.isT = true) (h : DWord) (k : Nat) : RecordsKept s (s.alignDie h k) := by
  refine ⟨State.isT_of_kept (by simp), ?_, State.alignDie_ul hs h k, ?_, ?_⟩ <;>
  · unfold State.alignDie
    dsimp only
    split <;> simp [apply_ite State.ld, apply_ite State.inr, State.setVerd]

theorem State.alignDie_lateRun (s : State) (h : DWord) {k j : Nat} (hne : j ≠ k) :
    Tab.get 0 (s.alignDie h k).inr.lateRun j = Tab.get 0 s.inr.lateRun j := by
  unfold State.alignDie
  dsimp only
  split <;> simp [State.setVerd, Tab.get_set_other _ _ _ hne]

theorem State.alignDie_verd (s : State) (h : DWord) (k : Nat) :
    (s.alignDie h k).ump.verd = (s.setVerd k { s.verd k with live := s.liveFrom h k }).ump.verd := by
  have hlive : (if !s.inService k then 0 else if !(s.link k).tr.state == 4 then 4 else if s.alignOk h k then 1
      else if (if s.alignOk h k then 0 else Tab.get 0 s.inr.lateRun k + 1) < s.silentH then 2 else 3 : BitVec 3) = s.liveFrom h k := by
    unfold State.liveFrom
    cases s.inService k <;> cases s.alignOk h k <;> simp
  rw [← hlive]
  unfold State.alignDie State.alignOk
  dsimp only
  split <;> simp [State.setVerd, State.verd]

theorem State.alignDie_live (s : State) (h : DWord) (k : Nat) : ((s.alignDie h k).verd k).live = s.liveFrom h k := by
  rw [State.verd_congr (s.alignDie_verd h k), State.verd_setVerd_self]

theorem State.alignDie_verd_other (s : State) (h : DWord) {k j : Nat} (hne : j ≠ k) : (s.alignDie h k).verd j = s.verd j := by
  rw [State.verd_congr (s.alignDie_verd h k), State.verd_setVerd, if_neg hne]

/-- Every die up to `n` in the slot. -/
theorem State.alignDies {s : State} (hs : s.isT = true) (h : DWord) (n : Nat) :
    RecordsKept s ((List.range n).foldl (fun s k => s.alignDie h k) s) ∧
    (∀ k, n ≤ k → Tab.get 0 ((List.range n).foldl (fun s k => s.alignDie h k) s).inr.lateRun k = Tab.get 0 s.inr.lateRun k) ∧
    ∀ k, k < n → (((List.range n).foldl (fun s k => s.alignDie h k) s).verd k).live = s.liveFrom h k := by
  induction n with
  | zero => exact ⟨⟨rfl, rfl, rfl, rfl, rfl⟩, fun _ _ => rfl, fun _ hk => absurd hk (by omega)⟩
  | succ n ih =>
    obtain ⟨hrecords, hlate, hlive⟩ := ih
    rw [List.range_succ, List.foldl_append, List.foldl_cons, List.foldl_nil]
    generalize (List.range n).foldl (fun s k => s.alignDie h k) s = t at hrecords hlate hlive
    refine ⟨hrecords.trans (State.alignDie_recordsKept (hrecords.build.trans hs) h n), fun k hk => ?_, fun k hk => ?_⟩
    · rw [State.alignDie_lateRun t h (by omega), hlate k (by omega)]
    · by_cases hkn : k = n
      · subst hkn
        rw [State.alignDie_live, hrecords.liveFrom h k (hlate k le_rfl)]
      · rw [State.alignDie_verd_other t h hkn, hlive k (by omega)]

/-! The slot before and after the dies. -/

/-- What the slot does before it takes the records. -/
def State.alignBefore (s : State) : State := ((List.range 64).foldl State.mismatchChange s).takeGroups.noteLeft

/-- What it does once they are taken. -/
def State.alignAfter (s : State) : State := (s.stepReported.judgeSets.replayTimeouts.judgeReplays fun _ => true).completeSteps

/-- The records of heat `h`, taken from every die and forwarded. -/
def State.alignHeat (s : State) (h : DWord) : State :=
  let t := (List.range 64).foldl (fun s k => s.forwardShared h k) ((List.range 64).foldl (fun s k => s.alignDie h k) s)
  t.setInr { t.inr with
    done := Tab.set 0 t.inr.done 0 (h + 1), recs := t.inr.recs.filter fun x => decide (h.toNat < x.heat.toNat) }

/-- The slot has no heat to take: none has begun, its number is below 2, or the heat was taken before. -/
def State.alignIdle (s : State) : Prop :=
  s.heat.heat = BitVec.allOnes 64 ∨ s.heat.heat.toNat < 2 ∨ (s.heat.heat - 2).toNat < s.alignBefore.inr.next

theorem State.align_idle {s : State} (h : s.alignIdle) : s.align = s.alignBefore.alignAfter := by
  unfold State.alignIdle State.alignBefore at h
  simp only [State.align, State.alignBefore, State.alignAfter, if_pos h]

theorem State.align_heat {s : State} (h : ¬s.alignIdle) :
    s.align = (s.alignBefore.alignHeat (s.heat.heat - 2)).alignAfter := by
  unfold State.alignIdle State.alignBefore at h
  simp only [State.align, State.alignBefore, State.alignHeat, State.alignAfter, if_neg h]

theorem State.alignBefore_frameOf (s : State) : Unchanged [.sys, .integ, .tray, .trc, .ttrc, .fpc, .red, .ul, .evr] s s.alignBefore := by
  simp [State.alignBefore]

theorem State.alignBefore_recordsKept {s : State} (hs : s.isT = true) : RecordsKept s s.alignBefore := by
  have hfold := foldl_ul_tray (fun t k => t.mismatchChange_kept k) (fun _ k ht => State.mismatchChange_ul_tray ht k) (List.range 64) hs
  have hgroups (t : State) : Unchanged [.fpc, .red] t t.takeGroups.noteLeft := by simp
  refine .of_unchanged (by simp [State.alignBefore]) ?_ s.alignBefore_frameOf
  exact ((hgroups _ .ul (by decide)).symm.trans hfold)

theorem State.alignAfter_inr (s : State) : s.alignAfter.inr = s.inr := by
  have hframe : Unchanged [.sys, .integ, .trc, .ttrc, .led, .fpc, .red, .ump, .tly, .ul, .evr] s s.alignAfter := by
    simp [State.alignAfter]
  exact (hframe .inr (by decide)).symm

theorem State.alignAfter_umpVerd (s : State) : s.alignAfter.ump.verd = s.ump.verd := by
  have hframe : Unchanged [.sys, .integ, .trc, .ttrc, .led, .fpc, .red, .tly, .ul, .evr] s s.stepReported.judgeSets.replayTimeouts := by
    simp
  have hump := hframe .ump (by decide)
  rw [State.alignAfter, State.completeSteps_umpVerd, State.judgeReplays_umpVerd, ← hump]

theorem State.alignHeat_facts {s : State} (hs : s.isT = true) (h : DWord) :
    (s.alignHeat h).inr.next = (h + 1).toNat ∧
    (s.alignHeat h).inr.recs = s.inr.recs.filter (fun x => decide (h.toNat < x.heat.toNat)) ∧
    ∀ k, k < 64 → ((s.alignHeat h).verd k).live = s.liveFrom h k := by
  obtain ⟨hrecords, -, hlive⟩ := State.alignDies hs h 64
  unfold State.alignHeat
  generalize (List.range 64).foldl (fun s k => s.alignDie h k) s = t at hrecords hlive ⊢
  have hforward : Unchanged [.ul] t ((List.range 64).foldl (fun s k => s.forwardShared h k) t) := by simp
  generalize (List.range 64).foldl (fun s k => s.forwardShared h k) t = u at hforward ⊢
  have hinr : t.inr = u.inr := hforward .inr (by decide)
  have hump : t.ump = u.ump := hforward .ump (by decide)
  refine ⟨by simp [Intake.next], by simp [← hinr, hrecords.recs], fun k hk => ?_⟩
  rw [State.verd_congr (s := t) (by simp [hump])]
  exact hlive k hk

theorem execAlignmentSlot_eq {s : State} (ht : s.isT = true) (hr : s.running = true) (hu : s.user = true) :
    exec .alignmentSlot s = .next (s.oneCycle State.align) := by
  simp [exec, execAlignmentSlot, ht, hr, hu]

theorem State.alignmentSlot_unchanged {s : State} (ht : s.isT = true) (hr : s.running = true) (hu : s.user = true) :
    Unchanged [.sys, .integ, .tray, .trc, .ttrc, .led, .fpc, .red, .inr, .ump, .tly, .ul, .evr] s (s.oneCycle State.align) := by
  have h := execAlignmentSlot_unchanged s s
  rwa [show execAlignmentSlot s = .next (s.oneCycle State.align) from execAlignmentSlot_eq ht hr hu] at h

/-- The work of the slot, seen from the state in which its cycle begins. -/
theorem State.alignmentSlot_work (s : State) :
    (s.oneCycle State.align).inr = s.cycleBegun.align.inr ∧ ∀ k, (s.oneCycle State.align).verd k = s.cycleBegun.align.verd k := by
  have hwork := s.oneCycle_work State.align
  have hump := hwork .ump (by decide)
  exact ⟨(hwork .inr (by decide)).symm, fun k => State.verd_congr (by rw [← hump]) k⟩

theorem State.cycleBegun_recordsKept (s : State) : RecordsKept s s.cycleBegun := by
  have hsys : s.sys = s.cycleBegun.sys := s.cycleBegun_unchanged .sys (by decide)
  have hul : s.ul = s.cycleBegun.ul := s.cycleBegun_unchanged .ul (by decide)
  have hinr : s.inr = s.cycleBegun.inr := s.cycleBegun_unchanged .inr (by decide)
  exact ⟨by simp [State.isT, ← hsys], (s.cycleBegun_unchanged .ld (by decide)).symm, hul.symm, by rw [← hinr], by rw [← hinr]⟩

/-- Settles O42: the dies are judged one after the other, each by what the records said when the slot began. -/
theorem alignmentSlot : Obligations.AlignmentSlot := by
  have hgone (s : State) : Unchanged [.evr] s s.cycleBegun := s.cycleBegun_unchanged
  refine ⟨fun s ht hr hu hne hge hnext => ?_, fun s ht hr hu hlt => ?_, fun s hu => ?_⟩
  · have hbegun := s.cycleBegun_recordsKept
    have hbefore := hbegun.trans (State.alignBefore_recordsKept (hbegun.build.trans ht))
    have hheat : s.heat = s.cycleBegun.heat := hgone s .heat (by decide)
    have hinr : s.inr = s.cycleBegun.inr := hgone s .inr (by decide)
    have hinr' : s.inr = s.cycleBegun.alignBefore.inr := hinr.trans (s.cycleBegun.alignBefore_frameOf .inr (by decide))
    have hidle : ¬s.cycleBegun.alignIdle := by
      rw [State.alignIdle, ← hheat, ← hinr', not_or, not_or]
      exact ⟨hne, by omega, by omega⟩
    have halign : s.cycleBegun.align = (s.cycleBegun.alignBefore.alignHeat (s.heat.heat - 2)).alignAfter := by
      rw [State.align_heat hidle, ← hheat]
    obtain ⟨hwork, hverd⟩ := s.alignmentSlot_work
    obtain ⟨hdone, hrecs, hlive⟩ := State.alignHeat_facts (hbefore.build.trans ht) (s.heat.heat - 2)
    have hsub : (s.heat.heat - 2 + 1).toNat = (s.heat.heat - 2).toNat + 1 := by
      have : s.heat.heat.toNat ≠ 2 ^ 64 - 1 := fun h => hne (BitVec.eq_of_toNat_eq (by simpa using h))
      bv_omega
    refine ⟨_, execAlignmentSlot_eq ht hr hu, ?_, ?_, fun k => ?_, State.alignmentSlot_unchanged ht hr hu⟩
    · rw [hwork, halign, State.alignAfter_inr, hdone, hsub]
    · rw [hwork, halign, State.alignAfter_inr, hrecs, hbefore.recs]
    · rw [hverd, halign, State.verd_congr (State.alignAfter_umpVerd _), hlive k.val k.isLt,
        hbefore.liveFrom _ k.val (by rw [← hinr'])]
      rfl
  · have hheat : s.heat = s.cycleBegun.heat := hgone s .heat (by decide)
    have hinr : s.inr = s.cycleBegun.inr := hgone s .inr (by decide)
    refine ⟨_, execAlignmentSlot_eq ht hr hu, ?_, State.alignmentSlot_unchanged ht hr hu⟩
    rw [s.alignmentSlot_work.1, State.align_idle (.inr (.inl (by rwa [← hheat]))), State.alignAfter_inr, hinr]
    exact (s.cycleBegun.alignBefore_frameOf .inr (by decide)).symm
  · simp [exec, execAlignmentSlot, hu]

end Sys2Proof.Machine
end

section
/-! PROOF. What an event leaves of the parts it touches: of `sys` only the next free value is another, of the recorder the power
cycles and the hours stay. -/

namespace Sys2Proof.Machine

theorem State.isT_of_isD {s : State} (h : s.isD = true) : s.isT = false := by
  simp only [State.isD, beq_iff_eq] at h
  simp [State.isT, h]

theorem State.isD_of_kept {s t : State} (h : t.kept = s.kept) : t.isD = s.isD := by
  simp only [State.kept, Prod.mk.injEq] at h
  simp [State.isD, h]

theorem State.isD_of_not_isT {s : State} (h : s.isT = false) : s.isD = true := by
  unfold State.isT at h
  unfold State.isD
  cases hb : s.sys.build <;> simp_all

@[simp] theorem State.buffer_sys (s : State) (q : RecIn) : (s.buffer q).sys = s.sys := rfl

@[simp] theorem State.internalNow_sys (s : State) (code : Nat) (data : List Byte) : (s.internalNow code data).sys = s.sys := by
  simp [State.internalNow, apply_ite State.sys]

theorem State.internal_sys (s : State) (code : Nat) (data : List Byte) : (s.internal code data).sys = s.freed.sys := by
  simp [State.internal, State.later, State.freed]

theorem State.happen_sys (s : State) (q : RecIn) : (s.happen q).sys = s.sys ∨ (s.happen q).sys = s.freed.sys := by
  have hquiet : (s.eventQuiet q).sys = s.freed.sys := by simp [State.eventQuiet, State.internal_sys, State.freed]
  unfold State.happen
  dsimp only
  split
  · exact .inr hquiet
  · split
    · exact .inr (by simp [hquiet])
    · exact .inl (by simp [State.fireWith, apply_ite State.sys])

theorem State.event_sys (s : State) (code : Nat) (data : List Byte) (role path : Nat) :
    (s.event code data role path).sys = s.sys ∨ (s.event code data role path).sys = s.freed.sys := by
  unfold State.event
  dsimp only
  split
  · exact .inl rfl
  · exact s.happen_sys _

theorem State.note_sys (s : State) (code : Nat) (data : List Byte) :
    (s.note code data).sys = s.sys ∨ (s.note code data).sys = s.freed.sys := s.event_sys code data 0 0

/-- The hours and power cycles that the recorder keeps. -/
def Recorder.clock (r : Recorder) : Word × Word := (r.hours, r.pcyc)

@[simp] theorem State.buffer_clock (s : State) (q : RecIn) : (s.buffer q).evr.clock = s.evr.clock := by
  have hpush (t : Bool) (l : List (List Byte)) : (s.evr.push t l).clock = s.evr.clock := by
    unfold Recorder.push
    (repeat' split) <;> simp [Recorder.clock]
  simp only [Recorder.clock, Prod.mk.injEq] at hpush ⊢
  simp [State.buffer, hpush]

@[simp] theorem State.eventQuiet_clock (s : State) (q : RecIn) : (s.eventQuiet q).evr.clock = s.evr.clock := by
  simp [State.eventQuiet]

@[simp] theorem State.happen_clock (s : State) (q : RecIn) : (s.happen q).evr.clock = s.evr.clock := by
  unfold State.happen
  dsimp only
  split
  · simp
  · split <;> simp [State.fire, State.fireWith, apply_ite State.evr]

@[simp] theorem State.event_clock (s : State) (code : Nat) (data : List Byte) (role path : Nat) :
    (s.event code data role path).evr.clock = s.evr.clock := by
  unfold State.event
  dsimp only
  split
  · rfl
  · simp

@[simp] theorem State.note_clock (s : State) (code : Nat) (data : List Byte) : (s.note code data).evr.clock = s.evr.clock :=
  s.event_clock code data 0 0

end Sys2Proof.Machine
end

section
/-! PROOF. Resets, the core supply and the straps (R416, R491, R526, R548). -/

namespace Sys2Proof.Machine

/-- What a release of RST_N samples, before its record. -/
def State.sampled (s : State) (tray x2 : Bool) (pkg : BitVec 4) (die : BitVec 3) (lp5 : BitVec 2) : State :=
  let up := s.sys.pgRose || s.sys.firstRelease
  let bad := tray != s.isT
  ({ s with
    sys := { s.sys with
      rstHeld := false, pgRose := false, firstRelease := false, powerup := up, strapErr := bad, x2 := x2, pkg := pkg
      die := die, lp5Grade := lp5, resetCount := (if up then 0 else s.sys.resetCount) + 1
      phase := if bad then 0 else 1 }
    evr := if up && s.isD then { s.evr with pcyc := s.evr.pcyc + 1 } else s.evr } : State).reseed 0

theorem State.released_eq (s : State) (tray x2 : Bool) (pkg : BitVec 4) (die : BitVec 3) (lp5 : BitVec 2) :
    s.released tray x2 pkg die lp5 = if (tray != s.isT) || s.isT then s.sampled tray x2 pkg die lp5
      else (s.sampled tray x2 pkg die lp5).note 0x1007
        (le 2 (s.sampled tray x2 pkg die lp5).sys.resetCount.toNat ++ le 4 (s.sampled tray x2 pkg die lp5).evr.pcyc.toNat) := rfl

theorem State.sampled_unchanged (s : State) (tray x2 : Bool) (pkg : BitVec 4) (die : BitVec 3) (lp5 : BitVec 2) :
    Unchanged [.sys, .led, .evr] s (s.sampled tray x2 pkg die lp5) := by
  simp [State.sampled, State.reseed]

/-- A release keeps what it sampled but for the next free value. -/
theorem State.released_sys (s : State) (tray x2 : Bool) (pkg : BitVec 4) (die : BitVec 3) (lp5 : BitVec 2) :
    (s.released tray x2 pkg die lp5).sys = (s.sampled tray x2 pkg die lp5).sys ∨
      (s.released tray x2 pkg die lp5).sys = (s.sampled tray x2 pkg die lp5).freed.sys := by
  rw [State.released_eq]
  split
  · exact .inl rfl
  · exact State.note_sys _ _ _

theorem State.released_clock (s : State) (tray x2 : Bool) (pkg : BitVec 4) (die : BitVec 3) (lp5 : BitVec 2) :
    (s.released tray x2 pkg die lp5).evr.clock = (s.sampled tray x2 pkg die lp5).evr.clock := by
  rw [State.released_eq]
  split
  · rfl
  · exact State.note_clock _ _ _

theorem execResetRelease_stable {s : State} (g x2 : Bool) (pkg : BitVec 4) (die : BitVec 3) (lp5 : BitVec 2)
    (hrst : s.sys.rstHeld = true) (haon : s.sys.aonHeld = false) :
    exec (.resetRelease g x2 pkg die lp5 true) s = .next (s.released g x2 pkg die lp5) := by
  simp [exec, execResetRelease, hrst, haon]

theorem State.nvCut_sys (s : State) : s.nvCut.sys = s.sys ∨ s.nvCut.sys = s.freed.sys := by
  have hsteps (n : Nat) : Unchanged [.flash] s (s.nvSteps n) := by simp
  unfold State.nvCut
  split
  · exact .inl rfl
  · have hsys : s.sys = (s.nvSteps (2 + (s.free 8).toNat % 5)).sys := hsteps _ .sys (by decide)
    exact .inr (by simp [State.freed, ← hsys])

theorem State.nvCut_of_idle {s : State} (h : s.ld.st ≠ 4) : s.nvCut = s := if_pos h

/-- What RST_N leaves of what lay in the always-on domain, in the devices and on the pins. -/
theorem State.blockReset_facts (s : State) :
    s.blockReset.sys.resetCount = s.sys.resetCount ∧ s.blockReset.lp5 = s.lp5 ∧
    s.blockReset.ld = (State.resetOf s.sys.build).ld ∧ s.blockReset.tly = (State.resetOf s.sys.build).tly ∧
    s.blockReset.ul = (State.resetOf s.sys.build).ul ∧ s.blockReset.evr.hours = s.evr.hours ∧
    s.blockReset.evr.pcyc = s.evr.pcyc ∧
    (s.isD = true → s.blockReset.evr.ring = s.evr.ring ∧ s.blockReset.evr.sq = s.evr.sq) := by
  have hframe : Unchanged [.sys, .tray, .flash] s s.nvCut := by simp
  have hevr : s.evr = s.nvCut.evr := hframe .evr (by decide)
  have hlp5 : s.lp5 = s.nvCut.lp5 := hframe .lp5 (by decide)
  have hsys : s.nvCut.sys.build = s.sys.build ∧ s.nvCut.sys.resetCount = s.sys.resetCount := by
    obtain h | h := s.nvCut_sys <;> simp [h, State.freed]
  have hisT : s.nvCut.isT = s.isT := by simp [State.isT, hsys.1]
  refine ⟨hsys.2, hlp5.symm, ?_, ?_, ?_, ?_, ?_, fun hd => ?_⟩
  · simp [State.blockReset, State.resetOf]
  · simp [State.blockReset, State.resetOf]
  · simp [State.blockReset, State.resetOf]
  · simp [State.blockReset, apply_ite Recorder.hours, hevr]
  · simp [State.blockReset, apply_ite Recorder.pcyc, hevr]
  · simp [State.blockReset, hisT, State.isT_of_isD hd, hevr]

/-- Settles O7: a reset by what it leaves, a release by what it samples. -/
theorem resetsAndStraps : Obligations.ResetsAndStraps := by
  refine ⟨?_, ?_, ?_, ?_, ?_, ?_, ?_, ?_, ?_⟩
  · intro s
    rfl
  · intro s hd
    simp [exec, execAonReset, State.aonReset, State.isT_of_isD hd]
  · intro s ht
    simp [exec, execAonReset, State.aonReset, ht]
  · intro s
    obtain ⟨hcount, hlp5, hld, htly, hul, hhours, hpcyc, hring⟩ := s.blockReset_facts
    exact ⟨_, rfl, rfl, rfl, hcount, hld, htly, hul, rfl, rfl, fun h => by rw [State.blockReset, State.nvCut_of_idle h],
      hlp5, hhours, hpcyc, hring⟩
  · intro v s
    rfl
  · intro x2 pkg die lp5 s ht hrst haon
    have hd := State.isD_of_isT ht
    rw [execResetRelease_stable true x2 pkg die lp5 hrst haon, State.released_eq]
    simp [State.sampled, ht, hd]
  · intro x2 pkg die lp5 s hd hrst haon
    have ht := State.isT_of_isD hd
    have hclock := s.released_clock false x2 pkg die lp5
    simp only [Recorder.clock, Prod.mk.injEq] at hclock
    have hframe : Unchanged [.sys, .trc, .ttrc, .led, .ul, .evr] s (s.released false x2 pkg die lp5) := by simp
    have hclock' : (s.sampled false x2 pkg die lp5).evr.clock =
        ((s.evr.hours, if s.sys.pgRose || s.sys.firstRelease then s.evr.pcyc + 1 else s.evr.pcyc) : Word × Word) := by
      simp only [State.sampled, State.reseed, hd, Bool.and_true, Recorder.clock]
      split <;> rfl
    simp only [Recorder.clock, Prod.mk.injEq] at hclock'
    refine ⟨_, execResetRelease_stable false x2 pkg die lp5 hrst haon, ?_⟩
    rw [hclock.1, hclock.2, hclock'.1, hclock'.2]
    obtain h | h := s.released_sys false x2 pkg die lp5 <;> rw [h] <;>
      simp [State.sampled, State.reseed, State.freed, ht]
  · intro g x2 pkg die lp5 s hne hrst haon
    refine ⟨_, execResetRelease_stable g x2 pkg die lp5 hrst haon, ?_⟩
    have hbad : (g != s.isT) = true := by simpa using hne
    rw [State.released_eq, hbad, Bool.true_or, if_pos rfl]
    refine ⟨?_, ?_, rfl, s.sampled_unchanged g x2 pkg die lp5⟩ <;> simp [State.sampled, State.reseed, hne]
  · intro g x2 pkg die lp5 s hrst haon
    refine ⟨s.freed.released ((s.free 11).getLsbD 0) ((s.free 11).getLsbD 1) ((s.free 11).extractLsb' 2 4)
      ((s.free 11).extractLsb' 6 3) ((s.free 11).extractLsb' 9 2), by simp [exec, execResetRelease, hrst, haon], ?_⟩
    obtain h | h := s.freed.released_sys ((s.free 11).getLsbD 0) ((s.free 11).getLsbD 1) ((s.free 11).extractLsb' 2 4)
      ((s.free 11).extractLsb' 6 3) ((s.free 11).extractLsb' 9 2) <;> rw [h] <;>
      simp [State.sampled, State.reseed, State.freed]

end Sys2Proof.Machine
end

section
/-! PROOF. The phases of start-up (R465, R517 to R522, R527, R529, R559, R560). -/

namespace Sys2Proof.Machine

theorem execFusePhaseEnd_eq {us : Word} {s : State} (hphase : s.sys.phase = 1) (hnext : s.fuse.next = 137) :
    exec (.fusePhaseEnd us) s = .next
      (let t : State := { s with
        sys := { s.sys with phase := 2, pht := Tab.set 0 s.sys.pht 1 us }
        ld := { s.ld with digest := crc64 s.fdBytes, digestC := ~~~ crc64 s.fdBytes }
        bist := { s.bist with busy := true, target := 0 } }
       if s.makerSet then t else t.setPath 10 { s.path 10 with role := 3, roleC := 0 }) := by
  have hlast : fuseWords ≤ s.fuse.next := by simp [hnext, fuseWords]
  change Host.Outcome.next (if _ then _ else _) = _
  rw [if_pos ⟨hphase, hlast⟩]
  rfl

/-- A memory that soft repair covers, in the first pass of its group (R517, R518). -/
theorem State.bistMacro_covered {s : State} {m : MacroResult} (hcells : m.cells ≠ []) (hsoft : softCovers m.cells [] none = true)
    (hhard : s.hardRepaired m.mem.toNat m.mac.toNat = false) :
    s.bistMacro false m = { s with bist := { s.bist with
      memRep := Tab.upd 0 s.bist.memRep m.mem.toNat satInc, repaired := satInc s.bist.repaired
      soft := s.bist.soft ++ [(m.mem, m.mac)], verify := setBit s.bist.verify (bistGroup m.mem.toNat m.mac.toNat) true } } := by
  simp [State.bistMacro, hcells, hsoft, hhard]

theorem State.bistRecord_unchanged (s : State) : Unchanged [.sys, .trc, .ttrc, .ul, .evr] s s.bistRecord := by simp

/-- Settles O8: each phase by the branch its conditions select. -/
theorem startUpPhases : Obligations.StartUpPhases := by
  refine ⟨?_, ?_, ?_, ?_, ?_, ?_, ?_, ?_, ?_, ?_⟩
  · intro w s hphase hnext
    have hlast : s.fuse.next < fuseWords := hnext
    simp only [exec, execFuseWordRead, if_pos (And.intro hphase hlast)]
  · intro us s hphase hnext hset
    simp only [execFusePhaseEnd_eq hphase hnext, hset, if_true]
  · intro us s hphase hnext hset
    refine ⟨_, execFusePhaseEnd_eq hphase hnext, ?_⟩
    simp [hset, State.setPath, State.path, PathState.held]
  · intro g s hbusy htarget hg
    simp only [exec, execMemoryBistGroupDone, hbusy, hg, bne_iff_ne.2 htarget, Bool.and_true, if_true]
    simp [hbusy]
  · intro g m s hbusy htarget hg hgroup hcells hsoft hverify hhard
    simp only [exec, execMemoryBistGroupDone, hbusy, hg, bne_iff_ne.2 htarget, Bool.and_true, if_true]
    have hset : (setBit s.bist.verify g.toNat true).getLsbD g.toNat = true := by simp [getLsbD_setBit _ _ g.isLt]
    simp [hverify, hgroup, State.bistMacro_covered hcells hsoft hhard, hset, hbusy]
  · intro s hbusy hphase habistdone
    simp [exec, execAnalogueBistDone, hbusy, hphase, habistdone, State.abistRecord]
  · intro us s hphase hdone habistdone
    have hrecord := s.bistRecord_unchanged
    have hheat : s.heat = s.bistRecord.heat := hrecord .heat (by decide)
    have hisT : s.bistRecord.isT = s.isT := State.isT_of_kept (by simp)
    have hisD : s.bistRecord.isD = s.isD := State.isD_of_kept (by simp)
    refine ⟨_, rfl, ?_⟩
    simp +contextual [hphase, hdone, habistdone, hisT, hisD, ← hheat]
  · intro dev s ht hphase hsfdpdone
    refine ⟨_, rfl, ?_⟩
    simp [ht, hphase, hsfdpdone]
  · intro f s ht hphase hlp5done hf hlp5grade
    have hok : f = 0 ∧ s.sys.lp5Grade ≠ 3 := ⟨hf, hlp5grade⟩
    simp only [exec, execLpddr5xInit, ht, hphase, hlp5done, if_pos hok]
    rfl
  · intro f s ht hphase hlp5done hf
    have hbad : ¬(f = 0 ∧ s.sys.lp5Grade ≠ 3) := fun h => hf h.1
    simp only [exec, execLpddr5xInit, ht, hphase, hlp5done, if_neg hbad]
    rfl

end Sys2Proof.Machine
end

section
/-! PROOF. Accesses (R13, R474, R551): an answer touches the queue of R38 and the test access alone, and an allowed write does what
its register does. -/

namespace Sys2Proof.Machine

theorem State.answered_unchanged (s : State) (a : Acc) (wr : Bool) (off : Nat) (r : Word) :
    Unchanged [.heat, .test] s (s.answered a wr off r) := by simp

section

variable (s : State) (a : Acc) (wr : Bool) (off : Nat) (r : Word)

@[simp] theorem State.answered_sys : (s.answered a wr off r).sys = s.sys := (s.answered_unchanged a wr off r .sys (by decide)).symm

@[simp] theorem State.answered_integ : (s.answered a wr off r).integ = s.integ :=
  (s.answered_unchanged a wr off r .integ (by decide)).symm

@[simp] theorem State.answered_roles : (s.answered a wr off r).roles = s.roles :=
  (s.answered_unchanged a wr off r .roles (by decide)).symm

@[simp] theorem State.answered_evr : (s.answered a wr off r).evr = s.evr := (s.answered_unchanged a wr off r .evr (by decide)).symm

@[simp] theorem State.answered_path (p : Nat) : (s.answered a wr off r).path p = s.path p := by simp [State.path]

@[simp] theorem State.answered_isT : (s.answered a wr off r).isT = s.isT := by simp [State.isT]

@[simp] theorem State.answered_isD : (s.answered a wr off r).isD = s.isD := by simp [State.isD]

end

theorem State.written_allowed {s : State} {a : Acc} {off need : Nat} (h : Allowed s a off need) (hin : s.absentAt off = false)
    (f : State → State) : s.written a off need f = f (s.answered a true off 0) := by
  obtain ⟨hr, hbe, hnot9, hrole⟩ := h
  have hfull : (!a.full || s.absentAt off) = false := by simp [Acc.full, hbe, hin]
  have hrun : (!s.running) = false := by simp [hr]
  simp only [State.written, hfull, hrun, Bool.false_eq_true, if_false, if_neg hnot9, if_neg (not_lt.2 hrole)]

@[simp] theorem State.setPath_nonces (s : State) (p : Nat) (q : PathState) : (s.setPath p q).roles.nonces = s.roles.nonces := rfl

@[simp] theorem State.setPath_evr (s : State) (p : Nat) (q : PathState) : (s.setPath p q).evr = s.evr := rfl

@[simp] theorem State.path_setPath_self (s : State) (p : Nat) (q : PathState) : (s.setPath p q).path p = q := by
  simp [State.path, State.setPath]

end Sys2Proof.Machine
end

section
/-! PROOF. The role gate (R472, R479 to R482). -/

namespace Sys2Proof.Machine

/-- A request of a path that has a role state and no check under way. -/
theorem State.roleReq_allowed {s : State} {a : Acc} (h : Allowed s a 0x10 1) (hpath : s.statePaths.contains a.path.toNat = true)
    (hbusy : (s.path a.path.toNat).busy = false) (f : State → State) :
    s.roleReq a f = f ((s.answered a true 0x10 0).setPath a.path.toNat { s.path a.path.toNat with lastFail := false }) := by
  rw [State.roleReq, State.written_allowed h (by simp [State.absentAt])]
  have hfree : (!(s.answered a true 0x10 0).statePaths.contains a.path.toNat ||
      (s.path a.path.toNat).busy) = false := by
    rw [hbusy, Bool.or_false, Bool.not_eq_eq_eq_not, Bool.not_false]
    simpa [State.statePaths] using hpath
  simp only [State.answered_path, hfree, Bool.false_eq_true, if_false]

theorem State.oneCycle_roles_of {f : State → State} {g : Roles → Roles} (h : ∀ t, (f t).roles = g t.roles) (s : State) :
    (s.oneCycle f).roles = g s.roles := State.oneCycle_roles_eq fun t ht => by rw [h, ht]

/-- The roles once path `p` was elevated, `q` being its state before. -/
def Roles.granted (r : Roles) (p : Nat) (q : PathState) : Roles :=
  { r with
    paths := Tab.set PathState.init (Tab.set PathState.init r.paths p { q with busy := false }) p
      { q with busy := false, role := q.req, roleC := ~~~q.req }
    fails := 0 }

/-- The roles once the session of path `p` is free. -/
def Roles.freed (r : Roles) (p : Nat) : Roles := { r with paths := Tab.set PathState.init r.paths p PathState.init }

/-- Settles O9: each command by the branch its conditions select; the roles are read off its work. -/
theorem roleGate : Obligations.RoleGate := by
  refine ⟨?_, ?_, ?_, ?_, ?_, ?_, ?_, ?_, ?_, ?_⟩
  · intro a s ha hpath hbusy hheld hfree
    rw [State.answered_path] at hfree
    refine ⟨_, rfl, ?_⟩
    simp only [if_pos hheld, State.roleReq_allowed ha hpath hbusy, hfree]
    simp
  · intro a s ha hpath hbusy hpos hlower hlast hstored _
    have hsame : (s.answered a true 0x10 0).setPath a.path.toNat { s.path a.path.toNat with lastFail := false } =
        s.answered a true 0x10 0 := by
      rw [← hlast]
      simp only [State.setPath, State.answered_roles, hstored]
      rw [← State.answered_roles s a true 0x10 0]
    have hheld : Acc.req a < ((s.answered a true 0x10 0).path a.path.toNat).held := by rwa [State.answered_path]
    simp only [exec, execRoleRequestLower, if_pos (And.intro hpos hlower.le), State.roleReq_allowed ha hpath hbusy, hsame,
      if_pos hheld]
  · intro a s ha hpath hbusy
    refine ⟨_, rfl, ?_⟩
    have hfree : (!(s.answered a true 0x3C 0).statePaths.contains a.path.toNat ||
        ((s.answered a true 0x3C 0).path a.path.toNat).busy) = false := by
      rw [hbusy, Bool.or_false, Bool.not_eq_eq_eq_not, Bool.not_false]
      simpa [State.statePaths] using hpath
    simp only [State.written_allowed ha (show s.absentAt 0x3C = false by simp [State.absentAt]), hfree, State.respWord]
    simp
  · intro p s hpath hbusy hmatch hreq
    refine ⟨_, rfl, ?_⟩
    simp only [hpath, hbusy, hmatch, Bool.and_self, if_true]
    rw [State.path, State.oneCycle_roles_of (g := (Roles.granted · p.toNat (s.path p.toNat))) fun t => by
      simp [State.takeRole, State.cplRestore_roles, State.setPath, State.path, Roles.granted]]
    refine ⟨by simp [Roles.granted, PathState.held], rfl, by simp⟩
  · intro p s hpath hbusy hmatch
    refine ⟨_, rfl, ?_⟩
    simp only [hpath, hbusy, hmatch, Bool.and_self, if_true]
    simp [State.setPath, State.path]
  · intro p s hr haon hpath hheld
    simp only [exec, execRoleTimeout, hr, haon, hpath, hheld]
    rfl
  · intro p s haon hpath
    simp only [exec, execNonceExpiry, haon, hpath]
    rfl
  · intro p s haon
    simp [exec, execRoleLockEnd, haon]
  · intro p s haon hpath
    simp only [exec, execRoleLockEnd, haon, hpath]
    rfl
  · intro i s ht haon hge hle hsession hheld
    have hfree : (s.isT && s.aonRuns && decide (1 ≤ i.toNat ∧ i.toNat ≤ 8) && (Tab.get none s.roles.sessions i.toNat).isSome &&
        (s.path i.toNat).held == 1) = true := by simp [ht, haon, hge, hle, hsession, hheld]
    refine ⟨_, rfl, ?_⟩
    simp only [hfree, if_true]
    rw [State.oneCycle_roles_of (g := (Roles.freed · i.toNat)) fun t => by
      simp [State.cplRestore_roles, State.setPath, Roles.freed]]
    exact ⟨rfl, rfl, by simp⟩

end Sys2Proof.Machine
end

section
/-! PROOF. Commands that come through the proxy path (R390). On a die path 9 has a mailbox, and the result of a command posted
there frees the remote signals that waited behind it: the tally unit changes, whatever the command is. Every statement below
lists the parts that its command changes on either build, leaves the path free, and does not list the tally unit. -/

namespace Sys2Proof.Machine

/-- A die in service, with a remote signal that waits behind a command in the mailbox of path 9. -/
def proxiedDie : State := { Tests.wD with tly := { Tests.wD.tly with remote := [⟨0, 1, 0, true⟩] } }

/-- A command through path 9. -/
def proxied (a0 a1 : Word) : Post := ⟨9, 3, 0, a0, a1, 0⟩

/-- No remote signal waits behind a command. -/
def State.remoteFree (s : State) : Bool := s.tly.remote.all fun r => !r.cmd

/-- What leaves the tally unit alone does not free a signal. -/
theorem State.remoteFree_of_unchanged {but : List Part} {s t : State} (h : Unchanged but s t) (htly : Part.tly ∉ but) :
    t.remoteFree = s.remoteFree := by
  have hsame : s.tly = t.tly := h .tly htly
  rw [State.remoteFree, State.remoteFree, hsame]

/-- A command that frees a signal has changed the tally unit. -/
theorem not_unchanged_of_freed {but : List Part} {i : Instr} {s t : State} (h : exec i s = .next t) (hwaits : s.remoteFree = false)
    (hfreed : (after s (exec i s)).remoteFree = true) (htly : Part.tly ∉ but) : ¬Unchanged but s t := by
  intro hun
  rw [h, after_next, State.remoteFree_of_unchanged hun htly, hwaits] at hfreed
  exact absurd hfreed (by decide)

/-- Refutes O13: BIST_RUN of the trace buffer, posted on path 9 of a die, frees the signal that waits behind it. -/
theorem not_bistAndFuses : ¬Obligations.BistAndFuses := by
  rintro ⟨-, hrun, -⟩
  let s : State := { proxiedDie with trc := { proxiedDie.trc with capEn := some false } }
  obtain ⟨t, ht, -, -, hun⟩ := hrun (proxied 1 0) s (by decide) (by decide) (by decide) rfl rfl rfl rfl rfl
  exact not_unchanged_of_freed ht (by decide) (by decide) (by decide) hun

/-- Refutes O17: IMG_BEGIN while a load runs, refused on path 9 of a die, frees the signal that waits behind it. -/
theorem not_imageCommands : ¬Obligations.ImageCommands := by
  rintro ⟨-, hbegin, -⟩
  let s : State := { proxiedDie with ld := { proxiedDie.ld with st := 1 } }
  obtain ⟨t, ht, -, hun⟩ := hbegin (proxied 0 0) s (by decide) (by decide) (by decide)
  exact not_unchanged_of_freed ht (by decide) (by decide) (by decide) hun

/-- Refutes O33: TRC_FIRE of an armed trigger, posted on path 9 of a die, frees the signal that waits behind it. -/
theorem not_traceControl : ¬Obligations.TraceControl := by
  rintro ⟨-, -, hfire, -⟩
  let s : State := { proxiedDie with
    ld := { proxiedDie.ld with cur := some ⟨0x2000, [(6, 1), (64, 6), (69, 2)]⟩ }, trc := { proxiedDie.trc with tstate := 1 } }
  obtain ⟨t, ht, -, -, -, -, hun⟩ := hfire (proxied 0 0) s (by decide) (by decide) (by decide) (by decide) (by decide)
  exact not_unchanged_of_freed ht (by decide) (by decide) (by decide) hun

/-- Refutes O34: SCAN_ABORT of no channel, refused on path 9 of a die, frees the signal that waits behind it. -/
theorem not_scanDescriptorsFolding : ¬Obligations.ScanDescriptorsFolding := by
  rintro ⟨-, -, -, -, -, -, -, -, -, -, -, -, -, habort, -⟩
  obtain ⟨t, ht, -, -, hun⟩ := habort (proxied 0 0) proxiedDie (by decide) (by decide) (by decide) rfl
  exact not_unchanged_of_freed ht (by decide) (by decide) (by decide) hun

/-- Refutes O35: SHARD_CLOSE with no shard in use, refused on path 9 of a die, frees the signal that waits behind it. -/
theorem not_ledgerMarksReplay : ¬Obligations.LedgerMarksReplay := by
  rintro ⟨-, -, -, -, -, hclose, -⟩
  obtain ⟨t, ht, -, -, hun⟩ := hclose (proxied 0 0) proxiedDie (by decide) (by decide) (by decide) rfl
  exact not_unchanged_of_freed ht (by decide) (by decide) (by decide) hun

/-- Refutes O47: TALLY_RESUME of a unit that is not halted, refused on path 9 of a die, frees the signal that waits behind it. -/
theorem not_tallyLanes : ¬Obligations.TallyLanes := by
  rintro ⟨-, -, -, -, -, -, -, -, -, -, -, -, -, -, -, -, -, -, -, -, -, -, -, -, -, -, -, -, -, -, hresume⟩
  obtain ⟨t, ht, -, -, hun⟩ := hresume (proxied 0 0) proxiedDie (by decide) (by decide) (by decide)
  exact not_unchanged_of_freed ht (by decide) (by decide) (by decide) hun

/-- Refutes O48: UL_RETRAIN of a link that is not UP, refused on path 9 of a die, frees the signal that waits behind it. -/
theorem not_uplinkTraining : ¬Obligations.UplinkTraining := by
  rintro ⟨-, -, -, -, -, -, -, -, -, -, -, -, -, -, -, -, -, hretrain⟩
  obtain ⟨t, ht, -, hun⟩ := hretrain (proxied 0 0) proxiedDie (by decide) (by decide) (by decide) (by decide)
  exact not_unchanged_of_freed ht (by decide) (by decide) (by decide) hun

end Sys2Proof.Machine
end

section
/-! PROOF. A posted command (R485 to R487, Table 15-3): with its row, a role that suffices and arguments in range, its own effect
decides between OK and a refusal for the state. -/

namespace Sys2Proof.Machine

/-- A command that its row of the table lets through to its effect: the role, the bits of the arguments, the build. -/
structure Posted (code : Nat) (c : CmdDef) (p : Post) (s : State) : Prop where
  running : s.running = true
  row : cmdOf code = some c
  role : c.role ≤ p.role.toNat
  arg0 : p.a0 &&& ~~~ c.m0 = 0
  arg1 : p.a1 &&& ~~~ c.m1 = 0
  arg2 : p.a2 &&& ~~~ c.m2 = 0
  grade : c.grade.testBit (if s.isT then 1 else 0) = true

@[simp] theorem and_not_anyArg (a : Word) : a &&& ~~~ anyArg = 0 := by simp [anyArg]

/-- A row of grade 3 is of both builds. -/
theorem testBit_both (b : Bool) : Nat.testBit 3 (if b then 1 else 0) = true := by cases b <;> decide

namespace Posted

variable {code : Nat} {c : CmdDef} {p : Post} {s : State}

theorem verdict_eq (h : Posted code c p s) : s.verdict code p = match c.run p s with
    | some t => (1, t)
    | none => (2, s) := by
  cases hrun : c.run p s <;>
    simp only [State.verdict, h.row, if_neg (not_lt.2 h.role), h.arg0, h.arg1, h.arg2, h.grade, hrun, ne_eq, not_true_eq_false,
      or_self, Bool.not_true, Bool.false_eq_true, if_false]

theorem accepted (h : Posted code c p s) {t : State} (hrun : c.run p s = some t) :
    s.command code p = .next (t.setResult code 1 p) := by
  have hverdict : s.verdict code p = (1, t) := by rw [h.verdict_eq, hrun]
  simp [State.command, h.running, State.judge, hverdict]

theorem refused (h : Posted code c p s) (hrun : c.run p s = none) :
    s.command code p = .next (((s.setResult code 2 p).stick 2 6).event 0x1005
      (le 2 code ++ le 1 2 ++ le 1 p.path.toNat ++ le 2 p.token.toNat) p.role.toNat p.path.toNat) := by
  have hverdict : s.verdict code p = (2, s) := by rw [h.verdict_eq, hrun]
  rw [State.command, if_pos h.running, State.judge_refused hverdict (by decide), State.cmdRefused_of_state (by decide) (by decide)]

end Posted

end Sys2Proof.Machine
end

section
/-! PROOF. Sticky bits, staging, and pairs that stop matching (R16, R507 to R512). -/

namespace Sys2Proof.Machine

@[simp] theorem Integ.putSticky_first (i : Integ) (r : Nat) (w : Word) : (i.putSticky r w).first = i.first := by
  unfold Integ.putSticky
  split <;> rfl

@[simp] theorem Integ.putSticky_cplStat (i : Integ) (r : Nat) (w : Word) : (i.putSticky r w).cplStat = i.cplStat := by
  unfold Integ.putSticky
  split <;> rfl

@[simp] theorem Integ.putSticky_cplLast (i : Integ) (r : Nat) (w : Word) : (i.putSticky r w).cplLast = i.cplLast := by
  unfold Integ.putSticky
  split <;> rfl

@[simp] theorem State.stick_cplStat (s : State) (r b : Nat) : (s.stick r b).integ.cplStat = s.integ.cplStat := by
  simp [State.stick, apply_ite Integ.cplStat]

@[simp] theorem State.stick_cplLast (s : State) (r b : Nat) : (s.stick r b).integ.cplLast = s.integ.cplLast := by
  simp [State.stick, apply_ite Integ.cplLast]

theorem State.stickyWord_setInt_putSticky (s : State) {r r2 : Nat} (w : Word) (l : List (BitVec 7 × BitVec 16)) (hr : r < 4)
    (hr2 : r2 < 4) :
    (s.setInt { s.integ.putSticky r w with noted := l }).stickyWord r2 = if r2 = r then w else s.stickyWord r2 := by
  interval_cases r <;> interval_cases r2 <;> rfl

@[simp] theorem State.answered_stickyWord (s : State) (a : Acc) (wr : Bool) (off : Nat) (v : Word) (r : Nat) :
    (s.answered a wr off v).stickyWord r = s.stickyWord r := by simp [State.stickyWord]

@[simp] theorem State.event_stickyWord (s : State) (code : Nat) (data : List Byte) (role path r : Nat) :
    (s.event code data role path).stickyWord r = s.stickyWord r := by simp [State.stickyWord]

theorem State.absentAt_below {s : State} {off : Nat} (h : off < 0xD0000) (hd : ¬(0x20000 ≤ off ∧ off < 0xA0000)) :
    s.absentAt off = false := by
  simp only [State.absentAt, Bool.or_eq_false_iff, Bool.and_eq_false_iff, decide_eq_false_iff_not]
  omega

theorem State.absentAt_of_wc2Low {s : State} {off : Nat} (h : s.wc2Low off = true) : s.absentAt off = false := by
  have hoff : off < 0x20000 ∨ 0x60000 ≤ off ∧ off < 0x70000 := by
    simp only [State.wc2Low, Bool.or_eq_true, Bool.and_eq_true, decide_eq_true_eq, beq_iff_eq] at h
    omega
  simp only [State.absentAt, Bool.or_eq_false_iff, Bool.and_eq_false_iff, decide_eq_false_iff_not]
  omega

/-- A fault of an item that has none (R508). -/
theorem State.cplFault_new {s : State} {item i : Nat} (hhas : s.cplHas item i = true) (hcpl : s.cpl item i = false) :
    s.cplFault item i = ((((s.setInt { s.integ with
      cplStat := Tab.set false s.integ.cplStat (256 * item + i) true
      cplLast := BitVec.ofNat 32 (256 * i + item) }).stick 3 1).note 0x6002 (le 1 item ++ le 1 i)).cplEffect item i) := by
  simp [State.cplFault, hhas, hcpl]

theorem State.cplFault_same {s : State} {item i : Nat} (hcpl : s.cpl item i = true) : s.cplFault item i = s := by
  simp [State.cplFault, hcpl]

/-- Settles O14: writes by what an allowed write does, faults by `State.cplFault_new`. -/
theorem stickyStagingComplement : Obligations.StickyStagingComplement := by
  refine ⟨?_, ?_, ?_, ?_, ?_, ?_, ?_, ?_⟩
  · intro a n s ha hset
    have hin : s.absentAt (0xA0000 + 4 * n.toNat) = false := State.absentAt_below (by omega) (by omega)
    refine ⟨_, rfl, ?_⟩
    simp only [State.written_allowed ha hin, State.answered_stickyWord, if_neg hset]
    refine ⟨?_, fun r hr => ?_, by simp, by simp⟩
    · rw [State.event_stickyWord, State.stickyWord_setInt_putSticky _ _ _ n.isLt n.isLt, if_pos rfl]
    · rw [State.event_stickyWord, State.stickyWord_setInt_putSticky _ _ _ n.isLt r.isLt, if_neg hr, State.answered_stickyWord]
  · intro a n s ha hnone
    have hin : s.absentAt (0xA0000 + 4 * n.toNat) = false := State.absentAt_below (by omega) (by omega)
    simp only [exec, execErrStickyClear, State.written_allowed ha hin, State.answered_stickyWord, if_pos hnone]
  · intro a off s ha hlow
    have hin : s.absentAt off.toNat = false := State.absentAt_of_wc2Low hlow
    simp only [exec, execWc2Stage, if_pos hlow, State.written_allowed ha hin]
    rfl
  · intro a off s hlow
    simp [exec, execWc2Stage, hlow]
  · intro s hr hcpl
    have hfault : exec (.complementFault 6 0) s = .next (s.cplFault 6 0) := congrArg Host.Outcome.next (if_pos hr)
    refine ⟨_, hfault, ?_⟩
    rw [State.cplFault_new rfl hcpl]
    simp [State.cplEffect]
  · intro i s hr hpath hcpl
    have hfault : exec (.complementFault 1 i) s = .next (s.cplFault 1 i.toNat) := congrArg Host.Outcome.next (if_pos hr)
    refine ⟨_, hfault, ?_⟩
    rw [State.cplFault_new (item := 1) hpath hcpl]
    simp [State.cplEffect, State.setPath, State.path]
  · intro m i s hcpl
    simp [exec, execComplementFault, State.cplFault_same hcpl]
  · intro p s hr hrole ha0 hsvc
    have hposted : Posted 0x0A04 ⟨0x0A04, 3, 3, 0xFF0F, anyArg, anyArg, cmdCplInject⟩ p s :=
      ⟨hr, rfl, hrole.ge, by rw [ha0]; decide, by simp, by simp, testBit_both _⟩
    refine hposted.accepted ?_
    have hhas : s.tly.svc.toNat = 2 ∧ s.cplHas (p.a0.toNat % 16) (bits p.a0.toNat 15 8) = true := by simp [ha0, hsvc, State.cplHas, bits]
    simp only [cmdCplInject, if_pos hhas]
    rw [ha0]
    rfl

end Sys2Proof.Machine
end

section
/-! PROOF. Crossings and the sleep of regions. -/

namespace Sys2Proof.Machine

/-- A die in service whose region 0 owes its LP_ACK while a count of its first probe waits for its transfer. -/
def owingDie : State := { Tests.wD with
  heat := { Tests.wD.heat with lpOwed := 1 }, prb := { Tests.wD.prb with delta := [(0, 1)] } }

/-- Refutes O16: LP_ACK rises once the transfers of the region are complete (R53), and a transfer that waits empties the increments
of its probe, which the ninth clause leaves as they were. -/
theorem not_crossingsAndDormancy : ¬Obligations.CrossingsAndDormancy := by
  rintro ⟨-, -, -, -, -, -, -, -, hack, -⟩
  have hsame := congrArg (fun o => (after owingDie o).prb.delta.isEmpty) (hack 0 owingDie (by decide) (by decide))
  exact absurd hsame (by decide)

end Sys2Proof.Machine
end

section
/-! PROOF. Reports of the active image and deliveries. -/

namespace Sys2Proof.Machine

/-- A tray in service that sends sections to the die of link 0 and has no offer out. -/
def deliveringTray : State := { Tests.wT with tray := { Tests.wT.tray with deliveries := [⟨0, 0, 0⟩] } }

/-- Refutes O18: a report of a die that is not offered an image ends what its link is still sent (R82), and the sixth clause leaves
the deliveries as they were: it fixes no offer, and does not say that no delivery runs. -/
theorem not_imageDelivery : ¬Obligations.ImageDelivery := by
  rintro ⟨-, -, -, -, -, hreport, -⟩
  have hsame := congrArg (fun o => (after deliveringTray o).tray.deliveries) (hreport 0 0 0 1 0 0 0 0 deliveringTray (by decide) rfl)
  exact absurd hsame (by decide)

end Sys2Proof.Machine
end

section
/-! PROOF. Reads that latch or clear (R113): on a running block a read answers and then latches, and the answer touches none of what
it latches. -/

namespace Sys2Proof.Machine

theorem State.readBy_running {s : State} (h : s.running = true) (a : Acc) (off : Nat) (r : Word) (f : State → State) :
    s.readBy a off r f = f (s.answered a false off r) := by simp [State.readBy, h]

section

variable (s : State) (a : Acc) (wr : Bool) (off : Nat) (r : Word)

theorem State.answered_prb : (s.answered a wr off r).prb = s.prb := (s.answered_unchanged a wr off r .prb (by decide)).symm

theorem State.answered_ld : (s.answered a wr off r).ld = s.ld := (s.answered_unchanged a wr off r .ld (by decide)).symm

theorem State.answered_fuse : (s.answered a wr off r).fuse = s.fuse := (s.answered_unchanged a wr off r .fuse (by decide)).symm

theorem State.answered_creg : (s.answered a wr off r).creg = s.creg := (s.answered_unchanged a wr off r .creg (by decide)).symm

theorem State.answered_tb : (s.answered a wr off r).tb = s.tb := (s.answered_unchanged a wr off r .tb (by decide)).symm

theorem State.answered_fdRaw (o n : Nat) : (s.answered a wr off r).fdRaw o n = s.fdRaw o n := by
  simp only [State.fdRaw, State.fdBytes, State.fuseWord, State.answered_fuse]

theorem State.answered_fCoreMax : (s.answered a wr off r).fCoreMax = s.fCoreMax := by
  simp [State.fCoreMax]

theorem State.answered_fdUsed : (s.answered a wr off r).fdUsed = s.fdUsed := by
  simp only [State.fdUsed, State.answered_fdRaw, State.answered_fCoreMax, State.answered_sys]

theorem State.answered_fd (o n d : Nat) : (s.answered a wr off r).fd o n d = s.fd o n d := by
  simp only [State.fd, State.answered_fdUsed, State.answered_fdRaw]

theorem State.answered_timeAt (k : Int) : (s.answered a wr off r).timeAt k = s.timeAt k := by
  simp only [State.timeAt, State.nom, State.fStroke, State.img, State.answered_fd, State.answered_tb, State.answered_ld]

theorem State.answered_tly : (s.answered a wr off r).tly = s.tly := (s.answered_unchanged a wr off r .tly (by decide)).symm

theorem State.answered_red : (s.answered a wr off r).red = s.red := (s.answered_unchanged a wr off r .red (by decide)).symm

theorem State.answered_te : (s.answered a wr off r).te = s.te := (s.answered_unchanged a wr off r .te (by decide)).symm

end

theorem State.stuck_stick_self (s : State) {r b : Nat} (hr : r < 4) (hb : b < 32) : (s.stick r b).stuck r b = true := by
  simp [State.stuck, State.stickyWord_stick_eq s b hr hr, getLsbD_setBit _ b hb]

@[simp] theorem Integ.putSticky_memUe (i : Integ) (r : Nat) (w : Word) : (i.putSticky r w).memUe = i.memUe := by
  unfold Integ.putSticky
  split <;> rfl

@[simp] theorem State.stick_memUe (s : State) (r b : Nat) : (s.stick r b).integ.memUe = s.integ.memUe := by
  simp [State.stick, apply_ite Integ.memUe]

/-- An uncorrectable memory error (R519) is counted and sets its sticky bit. -/
theorem State.memErr_fatal (s : State) (m addr : Nat) :
    (s.memErr m true addr).stuck 3 3 = true ∧ (s.memErr m true addr).integ.memUe = Tab.upd 0 s.integ.memUe m satInc := by
  simp only [State.memErr, if_true, State.note, State.stuck_event, State.stuck_stick_self _ (show 3 < 4 by decide) (show 3 < 32 by decide),
    true_and]
  simp

/-- The places of the bank's words (R115): an even place is a low word. -/
theorem bankPlace_low (n : BitVec 12) :
    (BitVec.ofNat 13 (2 * n.toNat)).getLsbD 0 = false ∧ ((BitVec.ofNat 13 (2 * n.toNat)) >>> 1).setWidth 12 = n ∧
      0x18000 + 4 * (BitVec.ofNat 13 (2 * n.toNat)).toNat = 0x18000 + 8 * n.toNat := by
  have htwice : 2 * n.toNat < 2 ^ 13 := by omega
  refine ⟨by rw [BitVec.getLsbD_ofNat]; simp, ?_, ?_⟩
  · apply BitVec.eq_of_toNat_eq
    simp [Nat.mod_eq_of_lt htwice, Nat.shiftRight_eq_div_pow]
    omega
  · rw [BitVec.toNat_ofNat, Nat.mod_eq_of_lt htwice]
    omega

theorem bankPlace_high (n : BitVec 12) :
    (BitVec.ofNat 13 (2 * n.toNat + 1)).getLsbD 0 = true ∧ ((BitVec.ofNat 13 (2 * n.toNat + 1)) >>> 1).setWidth 12 = n ∧
      0x18000 + 4 * (BitVec.ofNat 13 (2 * n.toNat + 1)).toNat = 0x18000 + 8 * n.toNat + 4 := by
  have htwice : 2 * n.toNat + 1 < 2 ^ 13 := by omega
  refine ⟨by rw [BitVec.getLsbD_ofNat]; simp, ?_, ?_⟩
  · apply BitVec.eq_of_toNat_eq
    simp [Nat.mod_eq_of_lt htwice, Nat.shiftRight_eq_div_pow]
    omega
  · rw [BitVec.toNat_ofNat, Nat.mod_eq_of_lt htwice]
    omega

/-- Settles O20: every read by `State.readBy_running`, the bank's by its places. -/
theorem latchingReads : Obligations.LatchingReads := by
  refine ⟨?_, ?_, ?_, ?_, ?_, ?_, ?_, ?_, ?_, ?_, ?_, ?_⟩
  · intro a s hr hd
    simp only [exec, execCntLiveRead, State.readBy_running hr, State.answered_isD, hd, if_true]
  · intro a n s hr hd hgood
    obtain ⟨hlow, hat, hoff⟩ := bankPlace_low n
    simp only [exec, execSnapshotBankRead, State.readBy_running hr, State.answered_isD, hd, hlow, hat, hoff, hgood, if_true,
      Bool.false_and, Bool.or_false, Bool.false_eq_true, if_false]
  · intro a n pe s hr hd hlatch
    obtain ⟨hhigh, hat, hoff⟩ := bankPlace_high n
    simp only [exec, execSnapshotBankRead, State.readBy_running hr, State.answered_isD, hd, hhigh, hat, hoff, hlatch, if_true,
      beq_self_eq_true, Bool.and_true, Bool.not_true, Bool.and_false, Bool.or_false, Bool.false_eq_true, if_false]
  · intro a n s hr hd
    obtain ⟨hlow, hat, hoff⟩ := bankPlace_low n
    refine ⟨_, rfl, ?_⟩
    simp only [execSnapshotBankRead, State.readBy_running hr, State.answered_isD, hd, hlow, hat, hoff, if_true,
      Bool.false_and, Bool.true_or, Bool.not_false, Bool.and_true, Bool.or_true, Bool.false_eq_true, if_false]
    generalize hu : ({ s.answered a false _ _ with creg := _, prb := _ } : State) = u
    obtain ⟨hstuck, hue⟩ := State.memErr_fatal u 2 n.toNat
    have hparts := State.memErr_unchanged u 2 true n.toNat
    have hcreg : u.creg = _ := hparts .creg (by decide)
    have hprb : u.prb = _ := hparts .prb (by decide)
    rw [hue, ← hcreg, ← hprb, Tab.get_upd_self]
    subst hu
    exact ⟨rfl, by simp, hstuck, by simp [State.answered_creg], by simp⟩
  · intro a s hr
    simp only [exec, execCntSnapRead, State.readBy_running hr]
    rfl
  · intro a s hr hd
    have hnt : s.isT = false := State.isT_of_isD hd
    simp only [exec, execTbStrokeRead, State.readBy_running hr, State.answered_isT, State.answered_tb, State.setTb, hnt, Bool.false_and, Bool.false_eq_true, if_false]
  · intro a s hr ht
    simp only [exec, execTbStrokeRead, State.readBy_running hr, State.answered_isT, State.answered_tb, State.answered_timeAt, State.sinceSeg,
      State.setTb, ht, Bool.true_and]
  · intro a s hr
    simp only [exec, execTlyDumpRead, State.readBy_running hr, State.latchDump, State.answered_tly, State.setTly]
  · intro a s hr hd
    simp only [exec, execLedgerRdRead, State.readBy_running hr, State.answered_isD, hd, if_true]
    rfl
  · intro a c s hr hd
    simp only [exec, execScnChLastIdRead, State.readBy_running hr, State.answered_isD, hd, if_true]
  · intro a s hr ht
    simp only [exec, execStStepRead, State.readBy_running hr, State.answered_isT, State.answered_red, State.setRed, ht, if_true]
  · intro a s hr ht
    simp only [exec, execTeScoreHeatRead, State.readBy_running hr, State.answered_isT, State.answered_te, State.setTe, ht, if_true]

end Sys2Proof.Machine
end

section
/-! PROOF. Writes that select what a view shows (R171, R298, R333, R376, R504). -/

namespace Sys2Proof.Machine

theorem State.absentAt_tray {s : State} (ht : s.isT = true) {off : Nat} (h : off < 0x20000 ∨ 0x30000 ≤ off ∧ off < 0xD0000) :
    s.absentAt off = false := by
  simp [State.absentAt, State.isD_of_isT ht]
  omega

theorem State.absentAt_die {s : State} (hd : s.isD = true) {off : Nat} (h : off < 0x70000 ∨ 0xA0000 ≤ off ∧ off < 0xD0000) :
    s.absentAt off = false := by
  simp [State.absentAt, State.isT_of_isD hd]
  omega

theorem State.absentAt_shared {s : State} {off : Nat}
    (h : off < 0x20000 ∨ 0x30000 ≤ off ∧ off < 0x70000 ∨ 0xA0000 ≤ off ∧ off < 0xD0000) : s.absentAt off = false := by
  simp [State.absentAt]
  omega

section

variable (s : State) (a : Acc) (wr : Bool) (off : Nat) (r : Word)

theorem State.answered_img (t o n d : Nat) : (s.answered a wr off r).img t o n d = s.img t o n d := by
  simp only [State.img, State.answered_ld]

theorem State.answered_nFig : (s.answered a wr off r).nFig = s.nFig := by
  simp only [State.nFig, State.redf, State.answered_img]

end

/-- Settles O21: every write by `State.written_allowed`, each selection with the view that it copies. -/
theorem selectWrites : Obligations.SelectWrites := by
  refine ⟨?_, ?_, ?_, ?_, ?_, ?_, ?_, ?_, ?_⟩
  · intro a s ha
    simp only [exec, execTrcRdSelWrite, State.written_allowed ha (State.absentAt_shared (by decide)), State.setTrc]
  · intro a s ha ht hfig
    simp only [exec, execSkSelWrite, State.written_allowed ha (State.absentAt_tray ht (by decide)), State.answered_isT, ht,
      State.answered_nFig, if_pos hfig, if_true, State.setRed]
  · intro a s ha ht hnone
    simp only [exec, execSkSelWrite, State.written_allowed ha (State.absentAt_tray ht (by decide)), State.answered_isT, ht,
      State.answered_nFig, if_neg (Nat.not_lt.mpr hnone), if_true, State.setRed]
  · intro a s ha ht hpub
    simp only [exec, execTeFselWrite, State.written_allowed ha (State.absentAt_tray ht (by decide)), State.answered_isT, ht,
      State.answered_te, hpub, if_true, State.setTe, Option.bind_none, Option.getD_none]
  · intro a x d s ha ht hpub hdie
    simp only [exec, execTeFselWrite, State.written_allowed ha (State.absentAt_tray ht (by decide)), State.answered_isT, ht,
      State.answered_te, hpub, hdie, if_true, State.setTe, Option.bind_some, Option.map_some, Option.getD_some]
  · intro a s ha ht
    simp only [exec, execDetSelWrite, State.written_allowed ha (State.absentAt_tray ht (by decide)), State.answered_isT, ht,
      if_true, State.setUmp]
  · intro a s ha
    simp only [exec, execEvrSelWrite, State.written_allowed ha (State.absentAt_shared (by decide)), State.setEvr]
  · intro s hr hheld
    simp only [exec, execEvrReadDone, hr, hheld, if_true, Option.isSome_none, Bool.false_eq_true, if_false, State.setEvr]
  · intro b s hr hheld
    simp only [exec, execEvrReadDone, hr, hheld, if_true, Option.isSome_some, State.setEvr]
    rw [← hheld]

end Sys2Proof.Machine
end

section
/-! PROOF. Protected pairs (R16): what a commit stores, and what it leaves when it is refused. -/

namespace Sys2Proof.Machine

@[simp] theorem Integ.putSticky_staged (i : Integ) (r : Nat) (w : Word) : (i.putSticky r w).staged = i.staged := by
  unfold Integ.putSticky
  split <;> rfl

@[simp] theorem State.stick_staged (s : State) (r b : Nat) : (s.stick r b).integ.staged = s.integ.staged := by
  simp [State.stick, apply_ite Integ.staged]

theorem State.firstOf_staged (s old : State) : (s.firstOf old).integ.staged = s.integ.staged := by
  unfold State.firstOf
  split
  · rfl
  · split <;> rfl

theorem State.happen_integ (s : State) (q : RecIn) : (s.happen q).integ = s.integ := (s.happen_unchanged q .integ (by decide)).symm

theorem State.foldl_happen_integ (l : List RecIn) (s : State) : (l.foldl State.happen s).integ = s.integ := by
  induction l generalizing s with
  | nil => rfl
  | cons q l ih => rw [List.foldl_cons, ih, State.happen_integ]

/-- Work that leaves the staging word alone leaves it alone as the work of one cycle. -/
theorem State.oneCycle_staged {f : State → State} (h : ∀ t, (f t).integ.staged = t.integ.staged) (s : State) :
    (s.oneCycle f).integ.staged = s.integ.staged := by
  unfold State.oneCycle
  split
  · exact h s
  · simp only [State.foldl_happen_integ, State.firstOf_staged, h]

/-- The state in which the high word written at `off + 4` is judged: answered, with the staging word taken. -/
def State.unstaged (s : State) (a : Acc) (off : Nat) : State :=
  (s.answered a true (off + 4) 0).setInt { s.integ with staged := none }

section

variable (s : State) (a : Acc) (off : Nat)

theorem State.unstaged_eq : s.unstaged a off =
    { s.answered a true (off + 4) 0 with integ := { (s.answered a true (off + 4) 0).integ with staged := none } } := by
  simp only [State.unstaged, State.setInt, State.answered_integ]

theorem State.unstaged_unchanged : Unchanged [.heat, .test, .integ] s (s.unstaged a off) := by simp [State.unstaged]

theorem State.unstaged_ld : (s.unstaged a off).ld = s.ld := (s.unstaged_unchanged a off .ld (by decide)).symm

theorem State.unstaged_wc2 : (s.unstaged a off).wc2 = s.wc2 := (s.unstaged_unchanged a off .wc2 (by decide)).symm

theorem State.unstaged_ump : (s.unstaged a off).ump = s.ump := (s.unstaged_unchanged a off .ump (by decide)).symm

theorem State.unstaged_tb : (s.unstaged a off).tb = s.tb := (s.unstaged_unchanged a off .tb (by decide)).symm

theorem State.unstaged_isT : (s.unstaged a off).isT = s.isT := s.answered_isT a true (off + 4) 0

theorem State.unstaged_isD : (s.unstaged a off).isD = s.isD := s.answered_isD a true (off + 4) 0

theorem State.unstaged_staged : (s.unstaged a off).integ.staged = none := rfl

theorem State.unstaged_cpl (item i : Nat) : (s.unstaged a off).cpl item i = s.cpl item i := rfl

theorem State.unstaged_img (t o n d : Nat) : (s.unstaged a off).img t o n d = s.img t o n d := by
  simp only [State.img, State.unstaged_ld]

theorem State.unstaged_wc2v (o d : Nat) : (s.unstaged a off).wc2v o d = s.wc2v o d := by simp only [State.wc2v, State.unstaged_wc2]

theorem State.unstaged_nDet : (s.unstaged a off).nDet = s.nDet := by simp only [State.nDet, State.unstaged_img]

theorem State.unstaged_detKind (n : Nat) : (s.unstaged a off).detKind n = s.detKind n := by
  simp only [State.detKind, State.detf, State.unstaged_nDet, State.unstaged_img]

theorem State.unstaged_detHi (n : Nat) : (s.unstaged a off).detHi n = s.detHi n := by
  simp only [State.detHi, State.detf, State.unstaged_wc2v, State.unstaged_img]

theorem State.unstaged_detLo (n : Nat) : (s.unstaged a off).detLo n = s.detLo n := by
  simp only [State.detLo, State.detf, State.unstaged_wc2v, State.unstaged_img]

theorem State.unstaged_detWordOk (n : Nat) (hi : Bool) (w : Word) : (s.unstaged a off).detWordOk n hi w = s.detWordOk n hi w := by
  rw [State.detWordOk, State.detWordOk, State.unstaged_nDet, State.unstaged_detKind, State.unstaged_detHi, State.unstaged_detLo,
    State.detf, State.unstaged_img, State.detf]

theorem State.unstaged_nRule : (s.unstaged a off).nRule = s.nRule := by simp only [State.nRule, State.pol, State.unstaged_img]

theorem State.unstaged_polStored (i w : Nat) : (s.unstaged a off).polStored i w = s.polStored i w := by
  simp only [State.polStored, State.polImage, State.pol, State.unstaged_img, State.unstaged_wc2v]

end

section

variable {s : State} {a : Acc} {off : Nat} {why : State → Word → Nat} {f : State → Word → State} {w : Word}
  (ha : Allowed s a (off + 4) 2) (hin : s.absentAt (off + 4) = false)

include ha hin

theorem State.wc2Commit_stored (hoff : off < 2 ^ 20) (hst : s.integ.staged = some (BitVec.ofNat 20 off, w)) (hdata : a.data = ~~~ w)
    (hwhy : why (s.unstaged a off) w = 0) :
    s.wc2Commit a off why f = (s.unstaged a off).oneCycle fun t => (f t w).cfgWrite a off w := by
  have hat : (BitVec.ofNat 20 off).toNat = off := by simpa using Nat.mod_eq_of_lt hoff
  simp only [State.wc2Commit, State.written_allowed ha hin, ← State.unstaged_eq]
  simp only [State.answered_integ, hst, hat, hdata, hwhy, ne_eq, not_true_eq_false, if_false]

theorem State.wc2Commit_mismatch (hoff : off < 2 ^ 20) (hst : s.integ.staged = some (BitVec.ofNat 20 off, w))
    (hbad : a.data ≠ ~~~ w ∨ why (s.unstaged a off) w ≠ 0) :
    ∃ reason, ∀ f, s.wc2Commit a off why f = (s.unstaged a off).wc2Refused a (off + 4) reason := by
  have hat : (BitVec.ofNat 20 off).toNat = off := by simpa using Nat.mod_eq_of_lt hoff
  simp only [State.wc2Commit, State.written_allowed ha hin, ← State.unstaged_eq]
  simp only [State.answered_integ, hst, hat, ne_eq, not_true_eq_false, if_false]
  by_cases hdata : a.data = ~~~ w
  · have hwhy := hbad.resolve_left (not_not_intro hdata)
    exact ⟨_, fun f => by simp only [hdata, not_true_eq_false, if_false]; exact if_pos hwhy⟩
  · exact ⟨1, fun f => if_pos hdata⟩

theorem State.wc2Commit_unstaged (hst : s.integ.staged = none) :
    s.wc2Commit a off why f = (s.unstaged a off).wc2Refused a (off + 4) 2 := by
  simp only [State.wc2Commit, State.written_allowed ha hin, ← State.unstaged_eq]
  simp only [State.answered_integ, hst]

end

/-- What a refused commit leaves. -/
theorem State.wc2Refused_leaves (s : State) (a : Acc) (off reason : Nat) :
    (s.wc2Refused a off reason).stuck 3 0 = true ∧ (s.wc2Refused a off reason).integ.staged = s.integ.staged ∧
      Unchanged [.integ, .sys, .evr, .trc, .ul, .ttrc] s (s.wc2Refused a off reason) := by
  have hstuck : (s.stick 3 0).stuck 3 0 = true := s.stuck_stick_self (by decide) (by decide)
  have hstaged := s.stick_staged 3 0
  have hun : Unchanged [.integ, .sys, .evr, .trc, .ul, .ttrc] s (s.stick 3 0) := (s.stick_unchanged 3 0).mono (by decide)
  unfold State.wc2Refused
  generalize s.stick 3 0 = t at *
  refine ⟨(State.stuck_event ..).trans hstuck, by simp [hstaged], ?_⟩
  exact (hun.step (State.setInt_unchanged t _)).step (State.event_unchanged _ _ _ _ _)

theorem State.unstaged_wc2Refused (s : State) (a : Acc) (off reason : Nat) :
    Unchanged [.integ, .heat, .test, .sys, .evr, .trc, .ul, .ttrc] s ((s.unstaged a off).wc2Refused a (off + 4) reason) :=
  ((s.unstaged_unchanged a off).mono (by decide)).trans (((s.unstaged a off).wc2Refused_leaves a _ reason).2.2.mono (by decide))

theorem State.cplRestore_staged (s : State) (item i : Nat) : (s.cplRestore item i).integ.staged = s.integ.staged := by
  unfold State.cplRestore
  split <;> simp [State.note]

theorem State.cplRestore_wc2 (s : State) (item i : Nat) : (s.cplRestore item i).wc2 = s.wc2 :=
  (s.cplRestore_unchanged item i .wc2 (by decide)).symm

theorem State.cplRestore_ump (s : State) (item i : Nat) : (s.cplRestore item i).ump = s.ump :=
  (s.cplRestore_unchanged item i .ump (by decide)).symm

theorem State.cplRestore_tb (s : State) (item i : Nat) : (s.cplRestore item i).tb = s.tb :=
  (s.cplRestore_unchanged item i .tb (by decide)).symm

theorem State.cplRestore_same {s : State} {item i : Nat} (h : s.cpl item i = false) : s.cplRestore item i = s := by
  simp only [State.cplRestore, ← State.cpl.eq_1, h, Bool.false_eq_true, if_false]

/-- The state in which the work of a commit at `off` begins. -/
def State.committing (s : State) (a : Acc) (off : Nat) : State := (s.unstaged a off).cycleBegun

theorem State.committing_unchanged (s : State) (a : Acc) (off : Nat) : Unchanged [.heat, .test, .integ, .evr] s (s.committing a off) :=
  ((s.unstaged_unchanged a off).mono (by decide)).trans ((State.cycleBegun_unchanged _).mono (by decide))

theorem State.committing_wc2 (s : State) (a : Acc) (off : Nat) : (s.committing a off).wc2 = s.wc2 :=
  (s.committing_unchanged a off .wc2 (by decide)).symm

theorem State.committing_ump (s : State) (a : Acc) (off : Nat) : (s.committing a off).ump = s.ump :=
  (s.committing_unchanged a off .ump (by decide)).symm

theorem State.committing_tb (s : State) (a : Acc) (off : Nat) : (s.committing a off).tb = s.tb :=
  (s.committing_unchanged a off .tb (by decide)).symm

theorem State.committing_cpl (s : State) (a : Acc) (off item i : Nat) : (s.committing a off).cpl item i = s.cpl item i := by
  rw [State.cpl, State.committing, ← State.cycleBegun_unchanged _ .integ (by decide)]
  rfl

/-- What a commit leaves: its work, but for the records of its cycle. -/
theorem State.wc2Commit_leaves {s : State} {a : Acc} {off : Nat} {why : State → Word → Nat} {w : Word} (ha : Allowed s a (off + 4) 2)
    (hin : s.absentAt (off + 4) = false) (hoff : off < 2 ^ 20) (hst : s.integ.staged = some (BitVec.ofNat 20 off, w))
    (hdata : a.data = ~~~ w) (hwhy : why (s.unstaged a off) w = 0) (f : State → Word → State) :
    ((∀ t, (f t w).integ.staged = t.integ.staged) → (s.wc2Commit a off why f).integ.staged = none) ∧
      Unchanged [.sys, .integ, .trc, .ttrc, .ul, .evr] (f (s.committing a off) w) (s.wc2Commit a off why f) := by
  rw [State.wc2Commit_stored ha hin hoff hst hdata hwhy]
  refine ⟨fun hf => State.oneCycle_staged (fun t => by simp [State.cfgWrite, hf]) _, ?_⟩
  refine Unchanged.trans ?_ (State.oneCycle_work _ _)
  exact (State.cfgWrite_frame _ a off w (by decide)).2 .self

/-- A rule at or above NRULE passes with every word 0 (R374). -/
theorem ruleFieldsOk_unused (tray : Bool) {nRule i : Nat} (hasProd : Nat → Bool) (h : nRule ≤ i) :
    ruleFieldsOk tray nRule hasProd i 0 0 0 0 = true := by simp [ruleFieldsOk, h]

/-- Settles O22: what is stored by `State.wc2Commit_leaves`, what is refused by `State.wc2Commit_mismatch` and
`State.wc2Commit_unstaged`. -/
theorem protectedCommits : Obligations.ProtectedCommits := by
  refine ⟨?_, ?_, ?_, ?_, ?_, ?_, ?_⟩
  · intro a n hi w s ha hst hdata hok
    have hoff : 0x61000 + 16 * n.toNat + (if hi then 0 else 8) < 2 ^ 20 := by split <;> omega
    have hin : s.absentAt (0x61000 + 16 * n.toNat + (if hi then 0 else 8) + 4) = false := State.absentAt_shared (by split <;> omega)
    refine ⟨_, rfl, ?_⟩
    have hleaves := State.wc2Commit_leaves (why := fun s w => if s.detWordOk n.toNat hi w then 0 else 3) ha hin hoff hst hdata
      (by simp only [State.unstaged_detWordOk, hok, if_true])
    refine ⟨(hleaves _).1 fun t => ?_, ((hleaves _).2 .wc2 (by decide)).symm.trans ?_, by simp⟩
    · cases hi
      · rfl
      · exact State.cplRestore_staged _ _ _
    · cases hi
      · simp [State.storePair, State.committing_wc2]
      · simp [State.storePair, State.committing_wc2, State.cplRestore_wc2]
  · intro a n hi w s ha hst hbad
    have hoff : 0x61000 + 16 * n.toNat + (if hi then 0 else 8) < 2 ^ 20 := by split <;> omega
    have hin : s.absentAt (0x61000 + 16 * n.toNat + (if hi then 0 else 8) + 4) = false := State.absentAt_shared (by split <;> omega)
    obtain ⟨reason, hrefused⟩ := State.wc2Commit_mismatch (why := fun s w => if s.detWordOk n.toNat hi w then 0 else 3)
      ha hin hoff hst
      (hbad.imp_right fun hok => by simp [State.unstaged_detWordOk, hok])
    have hun := s.unstaged_wc2Refused a (0x61000 + 16 * n.toNat + (if hi then 0 else 8)) reason
    obtain ⟨hstuck, hstaged, -⟩ := (s.unstaged a _).wc2Refused_leaves a (0x61000 + 16 * n.toNat + (if hi then 0 else 8) + 4) reason
    exact ⟨_, congrArg Host.Outcome.next (hrefused _), hstaged, (hun .wc2 (by decide)).symm, hstuck, hun⟩
  · intro a i w v s ha hst hdata hunused hv hzero
    have hoff : 0x60000 + 32 * i.toNat + 8 * w.toNat < 2 ^ 20 := by omega
    have hin : s.absentAt (0x60000 + 32 * i.toNat + 8 * w.toNat + 4) = false := State.absentAt_shared (by omega)
    have hword (j : Nat) (hj : j < 4) : (if j = w.toNat then v.toNat else (s.unstaged a
        (0x60000 + 32 * i.toNat + 8 * w.toNat)).polStored i.toNat j) = 0 := by
      rw [State.unstaged_polStored, hzero j (List.mem_range.2 hj), hv]
      simp
    refine ⟨_, rfl, ?_⟩
    have hleaves := State.wc2Commit_leaves (why := fun s v =>
      let f (j : Nat) : Nat := if j = w.toNat then v.toNat else s.polStored i.toNat j
      let ok := if f 0 % 16 = 0 then ruleFieldsOk else ruleOk
      if ok s.isT s.nRule (fun p => (s.prod? p).isSome) i.toNat (f 0) (f 1) (f 2) (f 3) then 0 else 3) ha hin hoff hst hdata (by
        simp only [hword 0 (by decide), hword 1 (by decide), hword 2 (by decide), hword 3 (by decide), State.unstaged_nRule,
          Nat.zero_mod, if_true, ruleFieldsOk_unused _ _ hunused])
    refine ⟨((hleaves _).2 .wc2 (by decide)).symm.trans ?_, ((hleaves _).2 .ump (by decide)).symm.trans ?_, by simp⟩
    · simp only [State.cplRestore_wc2, State.setUmp, State.storePair, State.committing_wc2]
    · simp only [State.cplRestore_ump, State.setUmp, State.storePair, State.committing_ump]
  · intro a i w s ha hst
    have hin : s.absentAt (0x60000 + 32 * i.toNat + 8 * w.toNat + 4) = false := State.absentAt_shared (by omega)
    exact ⟨_, congrArg Host.Outcome.next (State.wc2Commit_unstaged ha hin hst), ((s.unstaged a _).wc2Refused_leaves a _ _).1,
      s.unstaged_wc2Refused a _ _⟩
  · intro a hi v s ha hst hdata hvalue
    have hoff : (if hi then 0x62810 else 0x62808) < 2 ^ 20 := by split <;> decide
    have hin : s.absentAt ((if hi then 0x62810 else 0x62808) + 4) = false := State.absentAt_shared (by split <;> decide)
    have hcommit : (hi && s.isD) = false := by
      obtain ht | ⟨rfl, -⟩ := hvalue
      · rw [State.isD_of_isT ht, Bool.and_false]
      · rfl
    have hleaves := State.wc2Commit_leaves (why := fun s v => if s.isD && decide (1 < v.toNat) then 3 else 0) ha hin hoff hst hdata (by
      rw [State.unstaged_isD]
      obtain ht | ⟨-, hv⟩ := hvalue
      · simp [State.isD_of_isT ht]
      · simp [hv])
    refine ⟨_, congrArg Host.Outcome.next (if_neg (by simp [hcommit])), ((hleaves _).2 .wc2 (by decide)).symm.trans ?_, by simp⟩
    simp only [State.cplRestore_wc2, State.storePair, State.committing_wc2]
  · intro a v s ha ht hst hdata hmanual hrange hcpl
    have hin : s.absentAt (0x2020 + 4) = false := State.absentAt_shared (by decide)
    have hleaves := State.wc2Commit_leaves (why := fun s v => if s.tb.manual && v.toInt.natAbs ≤ 219902325 then 0 else 4) ha hin
      (by decide) hst hdata (by simp only [State.unstaged_tb, hmanual, hrange, decide_true, Bool.and_self, if_true])
    have hno : ¬s.isD = true := by simp [State.isD_of_isT ht]
    refine ⟨_, congrArg Host.Outcome.next (if_neg hno), ((hleaves _).2 .tb (by decide)).symm.trans ?_, by simp⟩
    have hwas : (s.committing a 0x2020).cpl 5 0 = false := (s.committing_cpl a 0x2020 5 0).trans hcpl
    simp only [hwas, Bool.false_eq_true, if_false, State.committing_tb, State.event_parts, State.cplRestore_tb]
    rfl
  · intro a v s ha ht hst hmanual
    have hin : s.absentAt (0x2020 + 4) = false := State.absentAt_shared (by decide)
    have hno : ¬s.isD = true := by simp [State.isD_of_isT ht]
    obtain ⟨reason, hrefused⟩ := State.wc2Commit_mismatch (why := fun s v => if s.tb.manual && v.toInt.natAbs ≤ 219902325 then 0 else 4)
      ha hin (by decide) hst
      (.inr (by simp only [State.unstaged_tb, hmanual, Bool.false_and]; decide))
    obtain ⟨hstuck, hstaged, -⟩ := (s.unstaged a _).wc2Refused_leaves a (0x2020 + 4) reason
    exact ⟨_, congrArg Host.Outcome.next ((if_neg hno).trans (hrefused _)), hstuck, hstaged, s.unstaged_wc2Refused a 0x2020 reason⟩

end Sys2Proof.Machine
end

section
/-! PROOF. The writes of the tally unit (R378, R379, R386, R387, R389, R397). -/

namespace Sys2Proof.Machine

theorem State.noted_stuck (s : State) (r b key r2 b2 : Nat) : (s.noted r b key).stuck r2 b2 = s.stuck r2 b2 := by
  unfold State.noted
  split <;> rfl

/-- A refused signal (R379) is counted and sets its sticky bit. -/
theorem State.tallyRefuse_leaves (s : State) (src n : Nat) (inc : BitVec 16) (reason role path : Nat) :
    (s.tallyRefuse src n inc reason role path).tly = { s.tly with refused := satInc s.tly.refused } ∧
      (s.tallyRefuse src n inc reason role path).stuck 2 2 = true ∧
      Unchanged [.tly, .integ, .sys, .evr, .trc, .ttrc, .ul] s (s.tallyRefuse src n inc reason role path) := by
  have hstuck : ((s.setTly { s.tly with refused := satInc s.tly.refused }).stick 2 2).stuck 2 2 = true :=
    State.stuck_stick_self _ (by decide) (by decide)
  refine ⟨?_, ?_, by simp⟩
  · unfold State.tallyRefuse
    dsimp only
    split <;> simp [State.setTly]
  · unfold State.tallyRefuse
    dsimp only
    split
    · exact hstuck
    · rw [State.stuck_event, State.noted_stuck]
      exact hstuck

section

variable (s : State) (a : Acc) (wr : Bool) (off : Nat) (r : Word)

theorem State.answered_rw : (s.answered a wr off r).rw = s.rw := (s.answered_unchanged a wr off r .rw (by decide)).symm

theorem State.answered_barStep (n : Nat) : (s.answered a wr off r).barStep n = s.barStep n := by
  simp only [State.barStep, State.rwd, State.answered_rw]

theorem State.answered_cfgReason (n v : Nat) : (s.answered a wr off r).cfgReason n v = s.cfgReason n v := by
  rw [State.cfgReason, State.cfgReason, State.answered_barStep, State.answered_tly]

theorem State.answered_wc2Refused (reason : Nat) :
    Unchanged [.integ, .heat, .test, .sys, .evr, .trc, .ttrc, .ul] s ((s.answered a wr off r).wc2Refused a off reason) := by simp

end

theorem State.wc2Refused_tly (s : State) (a : Acc) (off reason : Nat) : (s.wc2Refused a off reason).tly = s.tly :=
  ((s.wc2Refused_leaves a off reason).2.2 .tly (by decide)).symm

/-- A tally in the FREE mode is never held and never advances. -/
theorem Tally.apply_free {t : Tally} {n : Nat} (h : t.mode n = 0) (stroke : DWord) (inc : BitVec 16) (src : Nat) :
    t.holds n inc = false ∧ t.apply stroke n inc src = { t with
      cnt := Tab.set 0 t.cnt n (t.c n + inc.setWidth 32)
      log := (t.log ++ [(⟨stroke, t.c n + inc.setWidth 32, inc, BitVec.ofNat 8 n, BitVec.ofNat 8 src⟩ : TallyLog)]).drop (t.log.length - 31) } := by
  refine ⟨by simp [Tally.holds, h], ?_⟩
  unfold Tally.apply Tally.advance
  exact if_neg fun hbar => absurd (h.symm.trans hbar.1) (by decide)

/-- Settles O23: every write by `State.written_allowed`, a refused signal by `State.tallyRefuse_leaves`, a refused mode or binding by
`State.wc2Refused_leaves`. -/
theorem tallyWrites : Obligations.TallyWrites := by
  refine ⟨?_, ?_, ?_, ?_, ?_, ?_, ?_, ?_, ?_, ?_⟩
  · intro a n s ha hn hpath hinc hrun hmode
    have hin : s.absentAt (0x50500 + 4 * n.toNat) = false := State.absentAt_shared (by omega)
    obtain ⟨hpass, happly⟩ := Tally.apply_free hmode s.tb.stroke (a.data.setWidth 16) 0x20
    have hzero : ¬(48 ≤ n.toNat ∨ a.data.setWidth 16 = 0) := by
      rintro (h | h)
      · omega
      · exact hinc h
    simp only [exec, execTlyAddWrite, State.written_allowed ha hin, if_pos hn, if_neg hpath, State.tallyDirect,
      State.answered_tly, State.answered_tb, if_neg hzero, hrun, hpass, happly, State.setTly, Bool.false_eq_true,
      if_false, Nat.reduceEqDiff, or_self, and_false]
    rfl
  · intro a n s ha hn hpath hsvc
    have hin : s.absentAt (0x50500 + 4 * n.toNat) = false := State.absentAt_shared (by omega)
    refine ⟨_, rfl, ?_⟩
    simp only [State.written_allowed ha hin, if_pos hn, if_pos hpath, State.tallyDirect, State.answered_tly, hsvc, true_or, and_self,
      if_true]
    exact ⟨(State.tallyRefuse_leaves ..).1.trans (by simp only [State.answered_tly, ← hsvc]), (State.tallyRefuse_leaves ..).2.1, by simp⟩
  · intro a s ha hd hsvc hdest htally hinc
    have hin : s.absentAt 0x5070C = false := State.absentAt_shared (by decide)
    have hpass : ¬((64 ≤ a.data.toNat % 128 ∧ a.data.toNat % 128 ≠ 127) ∨ 48 ≤ bits a.data.toNat 13 8 ∨
        BitVec.ofNat 16 (bits a.data.toNat 31 16) = 0) := by
      have hlt : bits a.data.toNat 31 16 < 2 ^ 16 := Nat.mod_lt _ (by decide)
      rintro (⟨h, -⟩ | h | h)
      · omega
      · omega
      · exact hinc (by rw [← Nat.mod_eq_of_lt hlt, ← BitVec.toNat_ofNat, h]; rfl)
    simp only [exec, execTlyRemoteWrite, State.written_allowed ha hin, if_neg hpass, State.answered_tly, if_neg hsvc,
      State.answered_isD, hd, if_true]
  · intro a s ha hdest hnot
    have hin : s.absentAt 0x5070C = false := State.absentAt_shared (by decide)
    refine ⟨_, rfl, ?_⟩
    simp only [State.written_allowed ha hin, if_pos (Or.inl (And.intro hdest hnot))]
    exact ⟨(State.tallyRefuse_leaves ..).1.trans (by rw [State.answered_tly]), (State.tallyRefuse_leaves ..).2.1, by simp⟩
  · intro a n s ha hn hok hmode
    have hin : s.absentAt (0x50100 + 4 * n.toNat) = false := State.absentAt_shared (by omega)
    simp only [exec, execTlyCfgWrite, State.written_allowed ha hin, if_neg (not_le.2 hn), State.answered_cfgReason, hok, hmode,
      State.setTly, Nat.zero_add]
    rfl
  · intro a n s ha hn hok hmode
    have hin : s.absentAt (0x50100 + 4 * n.toNat) = false := State.absentAt_shared (by omega)
    refine ⟨_, rfl, ?_⟩
    simp only [State.written_allowed ha hin, if_neg (not_le.2 hn), State.answered_cfgReason, hok, hmode, ne_eq, not_true_eq_false,
      if_false, if_true, State.answered_tly, State.answered_barStep]
    exact ⟨rfl, rfl, by simp⟩
  · intro a n s ha hn hbad
    have hin : s.absentAt (0x50100 + 4 * n.toNat) = false := State.absentAt_shared (by omega)
    refine ⟨_, rfl, ?_⟩
    simp only [State.written_allowed ha hin, if_neg (not_le.2 hn), State.answered_cfgReason, if_pos hbad, State.wc2Refused_tly,
      State.answered_tly]
    exact ⟨trivial, (State.wc2Refused_leaves ..).1, s.answered_wc2Refused a true _ 0 _⟩
  · intro a j s ha hsrc hn hmode
    have hin : s.absentAt (0x50600 + 4 * j.toNat) = false := State.absentAt_shared (by omega)
    have hpass : ¬((bits a.data.toNat 15 8 ≠ 0 ∧ (48 ≤ a.data.toNat % 64 ∨ s.tly.mode (a.data.toNat % 64) ≠ 0)) ∨
        (!(s.answered a true (0x50600 + 4 * j.toNat) 0).bindSrcOk (bits a.data.toNat 15 8)) = true) := by
      rw [hsrc]
      rintro (⟨-, h | h⟩ | h)
      · omega
      · exact h hmode
      · exact absurd h (by simp [State.bindSrcOk])
    simp only [exec, execTlyBindWrite, State.written_allowed ha hin, State.answered_tly, if_neg hpass, State.setTly]
    rw [hsrc]
  · intro a j s ha hsrc hbad
    have hin : s.absentAt (0x50600 + 4 * j.toNat) = false := State.absentAt_shared (by omega)
    have hfail : (bits a.data.toNat 15 8 ≠ 0 ∧ (48 ≤ a.data.toNat % 64 ∨ s.tly.mode (a.data.toNat % 64) ≠ 0)) ∨
      (!(s.answered a true (0x50600 + 4 * j.toNat) 0).bindSrcOk (bits a.data.toNat 15 8)) = true := .inl ⟨by rw [hsrc]; decide, hbad⟩
    refine ⟨_, rfl, ?_⟩
    simp only [State.written_allowed ha hin, State.answered_tly, if_pos hfail, State.wc2Refused_tly]
    exact ⟨trivial, (State.wc2Refused_leaves ..).1, s.answered_wc2Refused a true _ 0 _⟩
  · intro a s ha hchange
    have hin : s.absentAt 0x50700 = false := State.absentAt_shared (by decide)
    refine ⟨_, rfl, ?_⟩
    simp only [State.written_allowed ha hin, State.answered_tly, if_neg hchange]
    exact ⟨by simp [State.setTly], by simp⟩

end Sys2Proof.Machine
end

section
/-! PROOF. Writes that an engine acts on at once (R143, R180, R222, R249, R325, R362, R460). -/

namespace Sys2Proof.Machine

section

variable (s : State) (a : Acc) (wr : Bool) (off : Nat) (r : Word)

theorem State.answered_trc : (s.answered a wr off r).trc = s.trc := (s.answered_unchanged a wr off r .trc (by decide)).symm

theorem State.answered_ptp : (s.answered a wr off r).ptp = s.ptp := (s.answered_unchanged a wr off r .ptp (by decide)).symm

theorem State.answered_scn : (s.answered a wr off r).scn = s.scn := (s.answered_unchanged a wr off r .scn (by decide)).symm

theorem State.answered_blobLen : (s.answered a wr off r).blobLen = s.blobLen := by
  simp only [State.blobLen, State.ted, State.answered_img]

theorem State.answered_blobBase : (s.answered a wr off r).blobBase = s.blobBase := by
  simp only [State.blobBase, State.ted, State.answered_img]

end

section

variable (s : State) (a : Acc) (off : Nat) (v : Word)

theorem State.cfgWrite_unchanged : Unchanged [.sys, .trc, .ttrc, .ul, .evr] s (s.cfgWrite a off v) := by simp

theorem State.cfgWrite_tb : (s.cfgWrite a off v).tb = s.tb := (s.cfgWrite_unchanged a off v .tb (by decide)).symm

theorem State.cfgWrite_nb : (s.cfgWrite a off v).nb = s.nb := (s.cfgWrite_unchanged a off v .nb (by decide)).symm

end

/-- With the clock under a host's hand the servo stands (R143): only its state is shown. -/
theorem State.servoStart_manual {s : State} (h : s.tb.manual = true) :
    s.servoStart = s ∨ s.servoStart = s.setTb { s.tb with state := 6 } := by
  simp only [State.servoStart, h, if_true]
  split
  · exact .inl rfl
  · exact .inr rfl

/-- Settles O24: every write by `State.written_allowed`. -/
theorem engineWrites : Obligations.EngineWrites := by
  refine ⟨?_, ?_, ?_, ?_, ?_, ?_, ?_, ?_, ?_, ?_, ?_⟩
  · intro a s ha hon
    simp only [exec, execCapEnWrite, State.written_allowed ha (State.absentAt_shared (by decide)), hon, State.answered_trc,
      State.answered_img, Bool.true_and, State.setTrc]
  · intro a s ha hoff
    simp only [exec, execCapEnWrite, State.written_allowed ha (State.absentAt_shared (by decide)), hoff, Bool.false_and, Bool.or_false,
      State.setTrc]
  · intro a s ha ht hsame
    have hno : ¬s.isD = true := by simp [State.isD_of_isT ht]
    simp only [exec, execTbCtrlWrite, if_neg hno, State.written_allowed ha (State.absentAt_shared (by decide)), State.cfgWrite_tb,
      State.answered_tb, if_pos hsame]
  · intro a s ha ht hon hmanual
    have hno : ¬s.isD = true := by simp [State.isD_of_isT ht]
    have hchange : ¬true = s.tb.manual := by simp [hmanual]
    refine ⟨_, congrArg Host.Outcome.next (if_neg hno), ?_⟩
    simp only [State.written_allowed ha (State.absentAt_shared (by decide)), State.cfgWrite_tb, State.answered_tb, hon, if_neg hchange,
      if_true]
    generalize hu : State.setPtp _ _ = u
    have hfacts : u.tb.manual = true ∧ u.ptp.acquire = [] ∧ u.tb.rateDue = none ∧ u.tb.stroke = s.tb.stroke := by
      subst hu
      exact ⟨rfl, rfl, rfl, rfl⟩
    have hun : Unchanged [.tb, .ptp, .heat, .test, .sys, .evr, .trc, .ttrc, .ul] s u.servoStart := by
      subst hu
      simp
    obtain ⟨hm, hacq, hrate, hstroke⟩ := hfacts
    obtain h | h := State.servoStart_manual hm
    · rw [h] at hun ⊢
      exact ⟨hm, hacq, hrate, hstroke, hun⟩
    · rw [h] at hun ⊢
      exact ⟨hm, hacq, hrate, hstroke, hun⟩
  · intro a hi s ha ht
    have hin : s.absentAt (if hi then 0x62834 else 0x62830) = false := State.absentAt_shared (by split <;> decide)
    simp only [exec, execUmpJobliveWrite, State.written_allowed ha hin, State.answered_isT, ht, if_true, State.setUmp]
  · intro a s ha hd hok
    have hnot : ¬s.isT = true := by simp [State.isT_of_isD hd]
    simp only [exec, execScnPost, State.written_allowed ha (State.absentAt_shared (by decide)), State.answered_isT, if_neg hnot, hok,
      if_true, State.setScn, Nat.add_zero]
  · intro a s ha hd hbad
    have hnot : ¬s.isT = true := by simp [State.isT_of_isD hd]
    refine ⟨_, rfl, ?_⟩
    simp only [State.written_allowed ha (State.absentAt_shared (by decide)), State.answered_isT, if_neg hnot, if_neg hbad]
    refine ⟨?_, ?_, by simp⟩
    · simp [State.setScn, State.answered_scn]
    · rw [State.stuck_event]
      exact State.stuck_stick_self _ (by decide) (by decide)
  · intro a i s ha hd
    have hin : s.absentAt (0x4C00C + 16 * i.toNat) = false := State.absentAt_die hd (by omega)
    simp only [exec, execShdArmWrite, State.written_allowed ha hin, State.answered_isD, hd, if_true, State.setLed]
  · intro a s ha ht hst hroom
    have hnot : ¬(s.te.st ≠ 1 ∨ s.isD = true) := by simp [State.isD_of_isT ht, hst]
    simp only [exec, execTeBlobDataWrite, State.written_allowed ha (State.absentAt_tray ht (by decide)), State.answered_isD,
      State.answered_te, if_neg hnot, State.answered_blobLen, State.answered_blobBase, if_neg (Nat.not_lt.2 hroom), State.setTe,
      State.lp5Put, State.answered_te]
  · intro a s ha ht hst hbeyond
    have hnot : ¬(s.te.st ≠ 1 ∨ s.isD = true) := by simp [State.isD_of_isT ht, hst]
    simp only [exec, execTeBlobDataWrite, State.written_allowed ha (State.absentAt_tray ht (by decide)), State.answered_isD,
      State.answered_te, if_neg hnot, State.answered_blobLen, if_pos hbeyond, State.setTe]
  · intro a s ha ht
    have hnot : ¬s.isD = true := by simp [State.isD_of_isT ht]
    simp only [exec, execNbT1sIdWrite, State.written_allowed ha (State.absentAt_tray ht (by decide)), State.answered_isD, if_neg hnot,
      State.setT1s, State.setNb, State.cfgWrite_nb]

end Sys2Proof.Machine
end

section
/-! PROOF. A cycle in which nothing happens leaves the state as it was. -/

namespace Sys2Proof.Machine

/-- Where all sticky bits are clear there is no lowest one (R512). -/
theorem State.lowestSticky_of_clean {s : State} (h : s.integ.clean = true) : s.lowestSticky = none := by
  obtain ⟨⟨⟨h0, h1⟩, h2⟩, h3⟩ : ((s.integ.sticky0 = 0 ∧ s.integ.sticky1 = 0) ∧ s.integ.sticky2 = 0) ∧ s.integ.sticky3 = 0 := by
    simpa only [Integ.clean, Bool.and_eq_true, beq_iff_eq] using h
  rw [State.lowestSticky, List.find?_eq_none]
  intro p hp
  have hword (r : Nat) (hr : r < 4) : s.stickyWord r = 0 := by
    interval_cases r <;> assumption
  obtain ⟨r, hr, b, -, rfl⟩ : ∃ r ∈ [0, 1, 2, 3], ∃ b ∈ List.range 32, (r, b) = p := by simpa using hp
  rw [hword r (by simp at hr; omega)]
  simp

theorem State.firstOf_same (s : State) {t : State} (h : t.integ = s.integ) : t.firstOf s = t := by
  unfold State.firstOf
  split
  · rfl
  · next hclean =>
    have hnone : t.lowestSticky = none := State.lowestSticky_of_clean (by rw [h]; simpa using hclean)
    rw [hnone]

/-- Work that does nothing is a cycle that does nothing. -/
theorem State.oneCycle_quiet {s : State} {f : State → State} (h : f s.cycleBegun = s.cycleBegun) : s.oneCycle f = s := by
  cases hcycle : s.evr.cycle with
  | some l =>
    simp only [State.cycleBegun, hcycle] at h
    simp only [State.oneCycle, hcycle, h]
  | none =>
    simp only [State.cycleBegun, hcycle] at h
    have hf : f { s with evr := { s.evr with cycle := some [] } } = { s with evr := { s.evr with cycle := some [] } } := h
    have hfirst : ({ s with evr := { s.evr with cycle := some [] } } : State).firstOf s = _ := State.firstOf_same s rfl
    simp only [State.oneCycle, hcycle, hf, hfirst, Option.getD_some, List.foldl_nil]
    rw [← hcycle]

end Sys2Proof.Machine
end

section
/-! PROOF. The time transfer over the uplink (R147 to R151, R438). -/

namespace Sys2Proof.Machine

section

variable (s : State) (k v mtype : Nat)

theorem State.take_unchanged : Unchanged [.ul] s (s.take k v mtype) := by simp

theorem State.take_tt : (s.take k v mtype).tt = s.tt := (s.take_unchanged k v mtype .tt (by decide)).symm

theorem State.take_tb : (s.take k v mtype).tb = s.tb := (s.take_unchanged k v mtype .tb (by decide)).symm

theorem State.take_ld : (s.take k v mtype).ld = s.ld := (s.take_unchanged k v mtype .ld (by decide)).symm

theorem State.take_tbf (o n : Nat) : (s.take k v mtype).tbf o n = s.tbf o n := by simp only [State.tbf, State.img, State.take_ld]

end

theorem State.cycleBegun_tt (s : State) : s.cycleBegun.tt = s.tt := (s.cycleBegun_unchanged .tt (by decide)).symm

/-- Settles O30: a round by the links it finds trained, a response by the exchange it finds. -/
theorem timeTransfer : Obligations.TimeTransfer := by
  refine ⟨?_, ?_, ?_, ?_, ?_, ?_, ?_⟩
  · intro s ht hr hu hheat hperiod hsent hopen hlinks
    have hper : max 1 (s.tbf 0x48 2) = 1 := max_eq_left hperiod
    have hnone : s.trained = [] := by
      simp [State.trained, State.link, hlinks]
      decide
    simp only [exec, execTtRound, ht, hr, hu, hper, hsent, hopen, beq_eq_false_iff_ne.2 hheat, Nat.mod_one, hnone, List.isEmpty_nil,
      List.foldl_nil, bne_self_eq_false, Bool.not_true, Bool.or_self, Bool.false_eq_true, if_false, State.setTt]
  · intro k s hk ht hr hu hheat hperiod hsent hopen htrained
    have hper : max 1 (s.tbf 0x48 2) = 1 := max_eq_left hperiod
    simp only [exec, execTtRound, ht, hr, hu, hper, hsent, hopen, beq_eq_false_iff_ne.2 hheat, Nat.mod_one, htrained, List.isEmpty_cons,
      List.foldl_cons, List.foldl_nil, bne_self_eq_false, Bool.not_true, Bool.not_false, Bool.or_self, Bool.false_eq_true, if_false,
      State.setTt]
  · intro s hsent
    simp [exec, execTtRound, hsent]
  · intro x a b s hd hr
    simp [exec, execTtReq, hd, hr]
  · intro k x t1 t2 t3 t4 s ht hr hu hout
    simp only [exec, execTtResp, ht, hr, hu, State.take_tt, hout, List.find?_nil, Bool.not_true, Bool.or_self, Bool.false_eq_true,
      if_false]
  · intro k x t1 t2 t3 t4 s ht hr hu hout hopen hlen
    have hfind : [(x, false)].find? (fun p => p.1 == x) = some (x, false) := by simp
    refine ⟨_, rfl, ?_⟩
    simp only [ht, hr, hu, State.take_tt, State.take_tbf, hout, hfind, Bool.not_true, Bool.or_self, Bool.false_eq_true, if_false, hlen,
      Bool.false_and]
    generalize (decide ((s.take k.toNat 0 0x1B).linkLength k.toNat _ < 0) || _) = bad
    generalize hw : (if bad = true then (s.take k.toNat 0 0x1B).freed else s.take k.toNat 0 0x1B) = w
    have hun : Unchanged [.ul, .sys] s w := by
      subst hw
      cases bad <;> simp
    have htt : w.tt = s.tt := (hun .tt (by decide)).symm
    simp only [htt]
    rw [State.oneCycle_quiet (by simp only [State.cycleBegun_tt, State.setTt, hopen, Bool.false_and, Bool.false_eq_true, if_false])]
    refine ⟨by simp [State.setTt], by simp [State.setTt], by simp [State.setTt], by simp [State.setTt], by simp [State.setTt], ?_⟩
    exact (hun.mono (by decide)).step (State.setTt_unchanged _ _)
  · intro b w s hd hr
    simp only [exec, execSlipNotice, hd, hr, Bool.not_true, Bool.or_self, Bool.false_eq_true, if_false, State.setTb]

end Sys2Proof.Machine
end

section
/-! PROOF. Heat boundaries (R34, R36, R41, R78, R122, R136): what a boundary writes in the heat, the timebase and the tally unit. -/

namespace Sys2Proof.Machine

theorem Unchanged.eq {s t : State} (h : Unchanged [] s t) : s = t := by
  cases s
  cases t
  have hp (p : Part) : p.same _ _ := h p (by simp)
  congr
  exacts [hp .sys, hp .pwr, hp .fuse, hp .bist, hp .integ, hp .heat, hp .ld, hp .tray, hp .prb, hp .creg, hp .sns, hp .tb, hp .ptp,
    hp .tt, hp .trc, hp .ttrc, hp .cmp, hp .scn, hp .led, hp .fpc, hp .red, hp .inr, hp .te, hp .ump, hp .tly, hp .ul, hp .nb,
    hp .roles, hp .evr, hp .test, hp .rw, hp .wc2, hp .flash, hp .lp5, hp .pending]

theorem Unchanged.symm {but : List Part} {s t : State} (h : Unchanged but s t) : Unchanged but t s := by
  intro p hp
  have hsame := h p hp
  cases p <;> exact Eq.symm hsame

theorem State.cycleBegun_eq (s : State) : ∃ v, s.cycleBegun = s.setEvr v := by
  unfold State.cycleBegun
  split
  · exact ⟨s.evr, rfl⟩
  · exact ⟨_, rfl⟩

/-- The heat but for the divisors that wait for their boundary. -/
def Heat.apart (h : Heat) : Heat := { h with divNext := [], rdivNext := [], rdivPend := 0 }

theorem State.govStep_heat (s : State) (r : ProdRec) : (s.govStep r).heat.apart = s.heat.apart := by
  unfold State.govStep
  extract_lets p g over_ calm fall lvl g₁ want set g₂ t
  split <;> rfl

theorem State.regStep_heat (s : State) (r : Nat) : (s.regStep r).heat.apart = s.heat.apart := by
  unfold State.regStep
  dsimp only
  split <;> rfl

theorem foldl_heat_apart {α : Type} {f : State → α → State} (h : ∀ t x, (f t x).heat.apart = t.heat.apart) (l : List α) (s : State) :
    (l.foldl f s).heat.apart = s.heat.apart := by
  induction l generalizing s with
  | nil => rfl
  | cons x l ih => rw [List.foldl_cons, ih, h]

/-- What leaves the heat alone. -/
abbrev heatless : List Part := [.sys, .pwr, .bist, .integ, .prb, .sns, .tb, .ptp, .tt, .trc, .ttrc, .cmp, .led, .fpc, .red, .te, .ump,
  .tly, .ul, .nb, .evr]

theorem Unchanged.heat_eq {s t : State} (h : Unchanged heatless s t) : t.heat = s.heat := (h .heat (by decide)).symm

theorem regSteps_heat (t : State) : (if t.isD then (List.range 32).foldl State.regStep t else t).heat.apart = t.heat.apart := by
  split
  · exact foldl_heat_apart State.regStep_heat _ _
  · rfl

/-- The work of the umpire on the conditions `became` leaves the heat, but for divisors that wait. -/
theorem umpireWork_heat (t : State) (w : UmpWork) (u : DWord) :
    (match t.applyConds w with
      | (s, became) =>
        let s := s.verdKeys.foldl (fun (s : State) k => if s.frozen k then s else s.moveVerdict k became u) s
        let s := s.ruleStarts became
        let s := s.prods.foldl State.govStep s
        if s.isD then (List.range 32).foldl State.regStep s else s).heat.apart = t.heat.apart := by
  have hconds : Unchanged heatless t (t.applyConds w).1 := (State.applyConds_frame t w (by decide)).2 .self
  cases hp : t.applyConds w with
  | mk s became =>
    rw [hp] at hconds
    have hstart : Unchanged heatless t ((s.verdKeys.foldl
        (fun (s : State) k => if s.frozen k then s else s.moveVerdict k became u) s).ruleStarts became) := hconds.trans (by simp)
    exact (regSteps_heat _).trans ((foldl_heat_apart State.govStep_heat _ _).trans (congrArg Heat.apart hstart.heat_eq))

theorem boundaryUmpire_heat (u next : DWord) (unfinished : List (BitVec 10)) (s : State) :
    (boundaryUmpire u next unfinished s).heat.apart = s.heat.apart := by
  have hend (t : State) : t.rulesInForce.lendLevels.viewTick.heatFigures.heat = t.heat :=
    Unchanged.heat_eq (by simp)
  have hreset (t : State) : (if t.user then t.verdKeys.foldl (fun (s : State) k => s.resetVerdict k u) t else t).heat = t.heat :=
    Unchanged.heat_eq (by simp)
  unfold boundaryUmpire
  extract_lets _ t₁ t₂ t₃ t₄ over_
  have h₂ : t₂.heat = s.heat := hreset t₁
  have h₃ : t₃.heat.apart = t₂.heat.apart := by
    simp only [t₃]
    split
    · rfl
    · exact umpireWork_heat t₂ _ u
  have h₄ : t₄.heat = t₃.heat := hend t₃
  clear_value t₂ t₃ t₄
  exact (congrArg Heat.apart h₄).trans (h₃.trans (congrArg Heat.apart h₂))

theorem State.overran_heat (s : State) (lost : List (BitVec 10)) : (s.overran lost).heat =
    { s.heat with overrun := lost, ovr := if lost = [] then s.heat.ovr else satInc s.heat.ovr } := by
  cases lost with
  | nil => rfl
  | cons p l =>
    have hnote (t : State) (data : List Byte) : (t.stickNote 0 0 0x600D data).heat = t.heat := Unchanged.heat_eq (by simp)
    rw [State.overran, hnote]
    rfl

/-- The end of a heat: the producers that overran, and divisors that wait. -/
theorem State.heatEnds_heat (s : State) (next : DWord) (unfinished : List (BitVec 10)) :
    (s.heatEnds next unfinished).heat.apart = ({ s.heat with
      overrun := s.lostWork unfinished
      ovr := if s.lostWork unfinished = [] then s.heat.ovr else satInc s.heat.ovr } : Heat).apart := by
  unfold State.heatEnds
  extract_lets u lost s₁ s₂ rep s₃ s₄
  have h₁ : s₁.heat = (s.overran lost).heat := Unchanged.heat_eq (by simp [s₁])
  have h₂ : s₂.heat = s₁.heat := Unchanged.heat_eq (by simp [s₂])
  have h₃ : s₃.heat.apart = s₂.heat.apart := boundaryUmpire_heat u next lost s₂
  have h₄ : (if s₄.isD then s₄.sendHdr u else s₄).heat = s₃.heat := Unchanged.heat_eq (by simp [s₄])
  rw [h₄, h₃, h₂, h₁, State.overran_heat]

theorem State.heatBegins_heat (s : State) (next : DWord) :
    (s.heatBegins next).heat = { s.heat with heat := next, count := s.heat.count + 1, taken := true } := by
  have hlater (t : State) : (boundaryRecorder (boundaryBist (boundarySense (boundaryPower (boundaryNorth (boundaryTt (boundaryTime
      (boundaryTally (boundaryEm t))))))))).heat = t.heat := Unchanged.heat_eq (by simp)
  exact hlater _

/-- What leaves the tally unit alone. -/
abbrev tallyless : List Part := [.sys, .pwr, .bist, .integ, .heat, .prb, .sns, .tb, .ptp, .tt, .trc, .ttrc, .cmp, .led, .fpc, .red, .te,
  .ump, .ul, .nb, .evr]

theorem Unchanged.tly_eq {s t : State} (h : Unchanged tallyless s t) : t.tly = s.tly := (h .tly (by decide)).symm

/-- The modes of the tallies and the service of the unit. -/
def Tally.modes (t : Tally) : Tab Word × BitVec 2 := (t.cfg, t.svc)

theorem Tally.apply_modes (t : Tally) (stroke : DWord) (n : Nat) (inc : BitVec 16) (src : Nat) :
    (t.apply stroke n inc src).modes = t.modes := by
  unfold Tally.apply Tally.advance
  dsimp only
  split <;> rfl

theorem State.bindEvent_modes (s : State) (src arg : Nat) : (s.bindEvent src arg).tly.modes = s.tly.modes := by
  unfold State.bindEvent
  generalize List.range 16 = l
  induction l generalizing s with
  | nil => rfl
  | cons j l ih =>
    rw [List.foldl_cons, ih]
    dsimp only
    split
    · split
      · rw [(State.tallyRefuse_leaves ..).1]
        rfl
      · exact Tally.apply_modes ..
    · rfl

theorem boundaryTree_modes (unfinished : List (BitVec 10)) (s : State) : (boundaryTree unfinished s).tly.modes = s.tly.modes := by
  unfold boundaryTree
  extract_lets t₀ s₀ s₁ t₁ t₂ t₃ t₄
  change s₁.tly.modes = s.tly.modes
  simp only [s₁]
  split
  · rw [State.bindEvent_modes]
    refine congrArg Tally.modes (Unchanged.tly_eq ?_)
    rw [State.drainOne_frame _ (by decide)]
    exact .ite ((State.setTe_unchanged _ _).mono (by decide)) (by simp)
  · exact congrArg Tally.modes (Unchanged.tly_eq (.ite (by simp [s₀]) (.refl _ _)))

theorem State.heatEnds_modes (s : State) (next : DWord) (unfinished : List (BitVec 10)) :
    (s.heatEnds next unfinished).tly.modes = s.tly.modes := by
  unfold State.heatEnds
  extract_lets u lost s₁ s₂ rep s₃ s₄
  have h₁ : s₁.tly = s.tly := Unchanged.tly_eq (by simp [s₁])
  have h₂ : s₂.tly.modes = s₁.tly.modes := by
    simp only [s₂]
    split
    · exact congrArg Tally.modes (Unchanged.tly_eq (by simp))
    · exact (boundaryTree_modes lost _).trans (congrArg Tally.modes (Unchanged.tly_eq (by simp)))
  have h₃ : (if s₄.isD then s₄.sendHdr u else s₄).tly = s₂.tly := Unchanged.tly_eq (by simp [s₄, s₃])
  rw [h₃, h₂, h₁]

theorem State.heatBegins_modes (s : State) (next : DWord) : (s.heatBegins next).tly.modes = s.tly.modes := by
  unfold State.heatBegins
  dsimp only
  have hlater (t : State) : (boundaryRecorder (boundaryBist (boundarySense (boundaryPower (boundaryNorth (boundaryTt (boundaryTime
      t))))))).tly = t.tly := Unchanged.tly_eq (by simp)
  have htally (t : State) : (boundaryTally t).tly.modes = t.tly.modes := State.bindEvent_modes _ _ _
  rw [hlater, htally]
  exact congrArg Tally.modes (Unchanged.tly_eq (by simp))

/-- What the stroke counts. -/
def Timebase.counted (t : Timebase) : DWord × Bool := (t.stroke, t.valid)

/-- What leaves the timebase alone. -/
abbrev timeless : List Part := [.sys, .pwr, .bist, .integ, .heat, .prb, .sns, .ptp, .tt, .trc, .ttrc, .cmp, .led, .fpc, .red, .te, .ump,
  .tly, .ul, .nb, .evr]

theorem Unchanged.tb_eq {s t : State} (h : Unchanged timeless s t) : t.tb = s.tb := (h .tb (by decide)).symm

theorem State.holdover_counted (s : State) : s.holdover.tb.counted = s.tb.counted := by
  simp only [State.holdover, State.note, State.event_parts]
  rfl

theorem State.takeRate_counted (s : State) (v : Int) : (s.takeRate v).tb.counted = s.tb.counted := by
  unfold State.takeRate
  dsimp only
  split <;> rfl

theorem State.stepTaken_counted (s : State) (d a0 : Int) : (s.stepTaken d a0).tb.counted = s.tb.counted := by
  simp only [State.stepTaken, State.note, State.event_parts]
  rfl

theorem State.setPtp_tb (s : State) (v : Ptp) : (s.setPtp v).tb = s.tb := rfl

theorem boundaryTime_counted (s : State) : (boundaryTime s).tb.counted = s.tb.counted := by
  unfold boundaryTime
  split
  · rfl
  · extract_lets t base begun stepped rated sent done ns b _
    have hstepped : stepped.tb.counted = s.tb.counted := by
      simp only [stepped]
      split
      · exact State.stepTaken_counted _ _ _
      · rfl
    have hrated : rated.tb.counted = s.tb.counted := by
      simp only [rated]
      split
      · exact (State.takeRate_counted _ _).trans hstepped
      · exact hstepped
    have hsent : sent.tb.counted = s.tb.counted :=
      (congrArg Timebase.counted (Unchanged.tb_eq (s := rated) (by simp [sent]))).trans hrated
    have hdone : done.tb.counted = s.tb.counted := by
      simp only [done]
      split
      · rfl
      · split
        · exact (State.holdover_counted _).trans hsent
        · exact hsent
    split
    · exact (congrArg Timebase.counted (State.setPtp_tb _ _)).trans hdone
    · exact hdone

theorem State.heatBegins_counted (s : State) (next : DWord) : (s.heatBegins next).tb.counted = s.tb.counted := by
  unfold State.heatBegins
  dsimp only
  have hlater (t : State) : (boundaryRecorder (boundaryBist (boundarySense (boundaryPower (boundaryNorth (boundaryTt t)))))).tb = t.tb :=
    Unchanged.tb_eq (by simp)
  rw [hlater, boundaryTime_counted]
  exact congrArg Timebase.counted (Unchanged.tb_eq (by simp))

theorem State.heatBegins_prb_led (s : State) (next : DWord) :
    (s.heatBegins next).prb = s.prb ∧ (s.heatBegins next).led = s.led := by
  have h : Unchanged [.sys, .pwr, .bist, .integ, .heat, .sns, .tb, .ptp, .tt, .trc, .ttrc, .te, .tly, .ul, .nb, .evr] s
    (s.heatBegins next) := by simp
  exact ⟨(h .prb (by decide)).symm, (h .led (by decide)).symm⟩

theorem State.noHeat_leaves (s : State) : s.noHeat.heat = s.heat ∧ s.noHeat.tb = s.tb ∧ s.noHeat.prb.changed = [] ∧
    s.noHeat.led.marks = [] := by
  refine ⟨Unchanged.heat_eq (by simp), Unchanged.tb_eq (by simp), ?_, ?_⟩
  · rfl
  · rfl

/-- The lost work of a heat rests on nothing that a buoy or a record changes. -/
theorem State.lostWork_congr {s t : State} (h : Unchanged [.trc, .evr] s t) (henc : t.trc.encPend = s.trc.encPend)
    (unfinished : List (BitVec 10)) : t.lostWork unfinished = s.lostWork unfinished := by
  have ht : t = (s.setTrc t.trc).setEvr t.evr := by
    refine (Unchanged.eq fun p _ => ?_).symm
    by_cases hp : p ∈ [Part.trc, Part.evr]
    · obtain rfl | rfl : p = .trc ∨ p = .evr := by simpa using hp
      · rfl
      · rfl
    · have hset := ((s.setTrc_unchanged t.trc).mono (show _ ⊆ [Part.trc, .evr] by decide)).step ((s.setTrc t.trc).setEvr_unchanged t.evr)
      exact (Unchanged.symm hset).trans h p hp
  rw [ht] at henc ⊢
  have hwork (p : Nat) : ((s.setTrc t.trc).setEvr t.evr).workLeft p = s.workLeft p := by
    unfold State.workLeft
    rw [henc]
    rfl
  simp only [State.lostWork, hwork]
  rfl

theorem State.heatBuoy_encPend (s : State) (next : DWord) : (s.heatBuoy next).trc.encPend = s.trc.encPend := by
  have hcapture (s : State) (kind : Nat) (slot : BitVec 23) (heat : DWord) :
      (s.captureBuoy kind slot heat).trc.encPend = s.trc.encPend := by
    unfold State.captureBuoy
    split <;> rfl
  unfold State.heatBuoy
  split
  · rfl
  · unfold State.buoy
    rw [hcapture]
    unfold State.resumeBuoy
    split
    · dsimp only
      rw [hcapture]
      split <;> rfl
    · rfl

theorem State.heatBuoy_unchanged (s : State) (next : DWord) : Unchanged [.trc] s (s.heatBuoy next) := by simp

/-- A boundary that begins a count of heats. -/
theorem State.boundary_first {s : State} (h : s.heat.begun = false ∨ s.heat.inGap = true) (next : DWord) (meas : BitVec 23)
    (u : List (BitVec 10)) :
    (s.boundary next meas u).heat = { s.heat with
      begun := true, inGap := false, first := next, heat := next, count := s.heat.count + 1, taken := true } ∧
    (s.boundary next meas u).tb.counted = s.tb.counted ∧ (s.boundary next meas u).led.marks = [] ∧
    (s.boundary next meas u).prb.changed = [] := by
  have hfirst : (s.heat.begun && !s.heat.inGap) = false := by rcases h with h | h <;> simp [h]
  have hbuoy := s.heatBuoy_unchanged next
  have hheat : (s.heatBuoy next).heat = s.heat := (hbuoy .heat (by decide)).symm
  have htb : (s.heatBuoy next).tb = s.tb := (hbuoy .tb (by decide)).symm
  rw [State.boundary, hfirst, hheat]
  simp only [Bool.false_eq_true, if_false]
  generalize hw : ({ s.heatBuoy next with heat := { s.heat with begun := true, inGap := false, first := next } } : State) = w
  obtain ⟨hnheat, hntb, hnprb, hnled⟩ := w.noHeat_leaves
  obtain ⟨hprb, hled⟩ := w.noHeat.heatBegins_prb_led next
  refine ⟨?_, ?_, ?_, ?_⟩
  · rw [State.heatBegins_heat, hnheat, ← hw]
  · rw [State.heatBegins_counted, hntb, ← hw]
    exact congrArg Timebase.counted htb
  · rw [hled, hnled]
  · rw [hprb, hnprb]

/-- A boundary that ends a heat and begins the next. -/
theorem State.boundary_next {s : State} (hbegun : s.heat.begun = true) (hgap : s.heat.inGap = false) (next : DWord) (meas : BitVec 23)
    (u : List (BitVec 10)) :
    let x := s.heatBuoy next
    let lost := ({ x with heat := { x.heat with meas := meas } } : State).lostWork u
    (s.boundary next meas u).heat.apart = ({ s.heat with
      meas := meas, overrun := lost, ovr := if lost = [] then s.heat.ovr else satInc s.heat.ovr
      heat := next, count := s.heat.count + 1, taken := true } : Heat).apart ∧
    (s.boundary next meas u).tb.counted = s.tb.counted ∧ (s.boundary next meas u).tly.modes = s.tly.modes := by
  intro x lost
  have hnext : (s.heat.begun && !s.heat.inGap) = true := by simp [hbegun, hgap]
  have hbuoy := s.heatBuoy_unchanged next
  have hheat : x.heat = s.heat := (hbuoy .heat (by decide)).symm
  have htb : x.tb = s.tb := (hbuoy .tb (by decide)).symm
  have htly : x.tly = s.tly := (hbuoy .tly (by decide)).symm
  rw [State.boundary, hnext]
  simp only [if_true]
  generalize hw : ({ x with heat := { x.heat with meas := meas } } : State) = w
  have hends := w.heatEnds_heat next u
  have hlost : w.lostWork u = lost := by rw [← hw]
  rw [hlost] at hends
  refine ⟨?_, ?_, ?_⟩
  · have hcount (h : Heat) : ({ h with heat := next, count := h.count + 1, taken := true } : Heat).apart =
        { h.apart with heat := next, count := h.apart.count + 1, taken := true } := rfl
    rw [State.heatBegins_heat, hcount, hends, ← hw, hheat]
    rfl
  · rw [State.heatBegins_counted, Unchanged.tb_eq (s := w) (by simp), ← hw]
    exact congrArg Timebase.counted htb
  · rw [State.heatBegins_modes, State.heatEnds_modes, ← hw]
    exact congrArg Tally.modes htly

theorem State.oneCycle_heat_eq (f : State → State) (s : State) : (s.oneCycle f).heat = (f s.cycleBegun).heat :=
  (State.oneCycle_work f s .heat (by decide)).symm

theorem State.cycleBegun_heat (s : State) : s.cycleBegun.heat = s.heat := (s.cycleBegun_unchanged .heat (by decide)).symm

theorem State.cycleBegun_tb (s : State) : s.cycleBegun.tb = s.tb := (s.cycleBegun_unchanged .tb (by decide)).symm

theorem State.cycleBegun_tly (s : State) : s.cycleBegun.tly = s.tly := (s.cycleBegun_unchanged .tly (by decide)).symm

theorem State.cycleBegun_heatOf (s : State) (n : Nat) : s.cycleBegun.heatOf n = s.heatOf n := by
  obtain ⟨v, hv⟩ := s.cycleBegun_eq
  rw [hv]
  rfl

theorem State.cycleBegun_nSlots (s : State) : s.cycleBegun.nSlots = s.nSlots := by
  obtain ⟨v, hv⟩ := s.cycleBegun_eq
  rw [hv]
  rfl

theorem State.boundaryCycle (s : State) (next : State → DWord) (meas : State → BitVec 23) (u : List (BitVec 10)) (b : Bool) :
    Unchanged [.sys, .integ, .trc, .ttrc, .ul, .evr]
      ((s.cycleBegun.boundary (next s.cycleBegun) (meas s.cycleBegun) u).substituted b)
      (s.oneCycle fun s => (s.boundary (next s) (meas s) u).substituted b) :=
  State.oneCycle_work (fun s => (s.boundary (next s) (meas s) u).substituted b) s

/-- A boundary of one cycle that begins a count of heats. -/
theorem State.cycle_boundary_first {s : State} (h : s.heat.begun = false ∨ s.heat.inGap = true) (next : State → DWord)
    (meas : State → BitVec 23) (u : List (BitVec 10)) (b : Bool) {n : DWord} (hn : next s.cycleBegun = n) {t : State}
    (ht : s.oneCycle (fun s => (s.boundary (next s) (meas s) u).substituted b) = t) :
    t.heat = { s.heat with begun := true, inGap := false, first := n, heat := n, count := s.heat.count + 1, taken := true } ∧
      t.tb.stroke = s.tb.stroke ∧ t.tb.subHeat = b ∧ t.led.marks = [] ∧ t.prb.changed = [] := by
  have hwork := s.boundaryCycle next meas u b
  rw [hn, ht] at hwork
  obtain ⟨hheat, htb, hled, hprb⟩ := State.boundary_first (s := s.cycleBegun) (by rwa [State.cycleBegun_heat]) n (meas s.cycleBegun) u
  rw [State.cycleBegun_heat] at hheat
  rw [State.cycleBegun_tb] at htb
  refine ⟨(hwork .heat (by decide)).symm.trans hheat, ?_, ?_, ?_, ?_⟩
  · rw [← hwork .tb (by decide)]
    exact congrArg Prod.fst htb
  · rw [← hwork .tb (by decide)]
    rfl
  · rw [← hwork .led (by decide)]
    exact hled
  · rw [← hwork .prb (by decide)]
    exact hprb

theorem Unchanged.setHeat {but : List Part} {s t : State} (h : Unchanged but s t) (v : Heat) :
    Unchanged but { s with heat := v } { t with heat := v } := by
  intro p hp
  have hsame := h p hp
  cases p
  case heat => rfl
  all_goals exact hsame

/-- A boundary of one cycle that ends a heat and begins the next. -/
theorem State.cycle_boundary_next {s : State} (hbegun : s.heat.begun = true) (hgap : s.heat.inGap = false) (next : State → DWord)
    (meas : State → BitVec 23) (u : List (BitVec 10)) (b : Bool) {n : DWord} {m : BitVec 23} (hn : next s.cycleBegun = n)
    (hm : meas s.cycleBegun = m) {t : State} (ht : s.oneCycle (fun s => (s.boundary (next s) (meas s) u).substituted b) = t) :
    let x := s.heatBuoy n
    let lost := ({ x with heat := { x.heat with meas := m } } : State).lostWork u
    t.heat.apart = ({ s.heat with
      meas := m, overrun := lost, ovr := if lost = [] then s.heat.ovr else satInc s.heat.ovr
      heat := n, count := s.heat.count + 1, taken := true } : Heat).apart ∧
      t.tb.counted = s.tb.counted ∧ t.tb.subHeat = b ∧ t.tly.modes = s.tly.modes := by
  intro x lost
  have hwork := s.boundaryCycle next meas u b
  rw [hn, hm, ht] at hwork
  obtain ⟨hheat, htb, htly⟩ := State.boundary_next (s := s.cycleBegun) (by rwa [State.cycleBegun_heat]) (by rwa [State.cycleBegun_heat])
    n m u
  have hlost : ({ s.cycleBegun.heatBuoy n with heat := { (s.cycleBegun.heatBuoy n).heat with meas := m } } : State).lostWork u = lost := by
    refine State.lostWork_congr ?_ ?_ u
    · have hbuoy : Unchanged [.trc, .evr] s (s.heatBuoy n) := (s.heatBuoy_unchanged n).mono (by decide)
      have hcycle : Unchanged [.trc, .evr] s (s.cycleBegun.heatBuoy n) :=
        (s.cycleBegun_unchanged.mono (by decide)).step (s.cycleBegun.heatBuoy_unchanged n)
      have hboth := hbuoy.symm.trans hcycle
      rw [show (s.cycleBegun.heatBuoy n).heat = x.heat from (hboth .heat (by decide)).symm]
      exact hboth.setHeat _
    · exact (s.cycleBegun.heatBuoy_encPend n).trans
        ((congrArg Trace.encPend (s.cycleBegun_unchanged .trc (by decide)).symm).trans (s.heatBuoy_encPend n).symm)
  rw [State.cycleBegun_heat, hlost] at hheat
  rw [State.cycleBegun_tb] at htb
  rw [State.cycleBegun_tly] at htly
  refine ⟨?_, ?_, ?_, ?_⟩
  · rw [← hwork .heat (by decide)]
    exact hheat
  · rw [← hwork .tb (by decide)]
    exact htb
  · rw [← hwork .tb (by decide)]
    rfl
  · rw [← hwork .tly (by decide)]
    exact htly

/-- Settles O31: boundaries by `State.cycle_boundary_first` and `State.cycle_boundary_next`. -/
theorem heatBoundaries : Obligations.HeatBoundaries := by
  refine ⟨?_, ?_, ?_, ?_, ?_, ?_, ?_, ?_, ?_⟩
  · intro m u s hr hon htaken hsub hfirst
    have hrun : (s.running && s.onBoundary s.tb.stroke.toNat && !s.heat.taken && !s.tb.substitute) = true := by simp [hr, hon, htaken, hsub]
    refine ⟨_, congrArg Host.Outcome.next (if_pos hrun), ?_⟩
    obtain ⟨hheat, hstroke, hheatsub, hled, hprb⟩ := State.cycle_boundary_first hfirst (fun s => s.heatOf s.tb.stroke.toNat)
      (fun _ => m) u false (by rw [State.cycleBegun_heatOf, State.cycleBegun_tb]) rfl
    exact ⟨hheat, hstroke, hheatsub, hled, hprb, by simp⟩
  · intro m u s hr hon htaken hsub hbegun hgap
    have hrun : (s.running && s.onBoundary s.tb.stroke.toNat && !s.heat.taken && !s.tb.substitute) = true := by simp [hr, hon, htaken, hsub]
    refine ⟨_, congrArg Host.Outcome.next (if_pos hrun), ?_⟩
    obtain ⟨hheat, htb, hheatsub, htly⟩ := State.cycle_boundary_next hbegun hgap (fun s => s.heatOf s.tb.stroke.toNat)
      (fun _ => m) u false (by rw [State.cycleBegun_heatOf, State.cycleBegun_tb]) rfl rfl
    refine ⟨congrArg Heat.heat hheat, congrArg Heat.count hheat, congrArg Heat.taken hheat, (congrArg Heat.begun hheat).trans hbegun,
      congrArg Heat.meas hheat, ⟨congrArg Heat.overrun hheat, congrArg Heat.ovr hheat⟩, congrArg Prod.fst htb, congrArg Prod.snd htb,
      hheatsub, congrArg Prod.fst htly, congrArg Prod.snd htly, by simp⟩
  · intro m u s htaken
    simp [exec, execHeatBoundary, htaken]
  · intro m u s hsub
    simp [exec, execHeatBoundary, hsub]
  · intro u s hr hsub hbegun hgap
    have hrun : (s.running && s.tb.substitute) = true := by simp [hr, hsub]
    refine ⟨_, congrArg Host.Outcome.next (if_pos hrun), ?_⟩
    obtain ⟨hheat, htb, hheatsub, -⟩ := State.cycle_boundary_next hbegun hgap (fun s => s.heat.heat + 1)
      (fun s => BitVec.ofNat 23 s.nSlots) u true (by rw [State.cycleBegun_heat]) (by rw [State.cycleBegun_nSlots]) rfl
    exact ⟨congrArg Heat.heat hheat, congrArg Heat.count hheat, congrArg Heat.taken hheat, congrArg Heat.meas hheat,
      congrArg Prod.fst htb, hheatsub, by simp⟩
  · intro u s hr hsub hfirst
    have hrun : (s.running && s.tb.substitute) = true := by simp [hr, hsub]
    refine ⟨_, congrArg Host.Outcome.next (if_pos hrun), ?_⟩
    obtain ⟨hheat, hstroke, hheatsub, -, -⟩ := State.cycle_boundary_first hfirst (fun s => s.heat.heat + 1)
      (fun s => BitVec.ofNat 23 s.nSlots) u true (by rw [State.cycleBegun_heat]) rfl
    exact ⟨hheat, hstroke, hheatsub, by simp⟩
  · intro u s hsub
    simp [exec, execSubstituteHeatBoundary, hsub]
  · intro i s hr hu hnext hdue
    have hset : (Tab.get (0 : BitVec 7) s.heat.divNext i.toNat).toNat ≠ 0 := fun h => hnext (BitVec.eq_of_toNat_eq (by simpa using h))
    simp only [exec, execDivisorChange, hr, hu, Bool.not_true, Bool.or_self, Bool.false_eq_true, if_false, if_pos (And.intro hset hdue),
      BitVec.ofNat_toNat, BitVec.setWidth_eq]
  · intro i s hr hu hd hpend hdue
    simp only [exec, execDivisorChange, hr, hu, hd, hpend, hdue, Bool.not_true, Bool.or_self, Bool.false_eq_true, if_false, if_true,
      Bool.and_self, BEq.rfl, BitVec.ofNat_toNat, BitVec.setWidth_eq]

end Sys2Proof.Machine
end

section
/-! PROOF. Drain requests (R358 to R360). -/

namespace Sys2Proof.Machine

section

variable (s : State) (k v mtype : Nat)

theorem State.take_wc2 : (s.take k v mtype).wc2 = s.wc2 := (s.take_unchanged k v mtype .wc2 (by decide)).symm

theorem State.take_integ : (s.take k v mtype).integ = s.integ := (s.take_unchanged k v mtype .integ (by decide)).symm

theorem State.take_isT : (s.take k v mtype).isT = s.isT := State.isT_of_kept (by simp)

theorem State.take_ump : (s.take k v mtype).ump = s.ump := (s.take_unchanged k v mtype .ump (by decide)).symm

theorem State.take_verd (i : Nat) : (s.take k v mtype).verd i = s.verd i := by simp only [State.verd, State.take_ump]

theorem State.take_drnEn (i : Nat) : (s.take k v mtype).drnEn i = s.drnEn i := by
  simp only [State.drnEn, State.cpl, State.wc2v, State.pol, State.img, State.take_isT, State.take_integ, State.take_ld, State.take_wc2]

end

/-- Settles O36, command by command: what is taken from the link leaves the verdicts and DRN_EN alone. -/
theorem drains : Obligations.Drains := by
  refine ⟨?_, ?_, ?_, ?_, ?_, ?_, ?_, ?_, ?_, ?_, ?_, ?_, ?_⟩
  · intro d s ht hr hdue hv hen
    simp [exec, execDrainSend, ht, hr, hdue, hv, hen]
  · intro d s ht hr hdue hv hen
    refine ⟨_, rfl, ?_⟩
    simp [ht, hr, hdue, hv, hen, State.note]
  · intro d s hdue
    simp [exec, execDrainSend, hdue]
  · intro s hd hr hen
    simp only [exec, execDrain, hd, hr, State.take_drnEn, hen, Bool.not_true, Bool.or_self, Bool.false_eq_true, if_false, if_true]
  · intro s hd hr hen
    refine ⟨_, rfl, ?_⟩
    simp only [hd, hr, State.take_drnEn, hen, Bool.not_true, Bool.or_self, Bool.false_eq_true, if_false]
    refine ⟨?_, by simp⟩
    simp only [State.note, State.event_parts, State.sendDrainState]
    exact (State.send_unchanged _ 0 0 0x18 _ .ump (by decide)).symm.trans (by simp [State.setUmp, State.take_ump])
  · intro b s hd hr hchange
    simp only [exec, execDrainAckChange, hd, hr, beq_eq_false_iff_ne.2 hchange, Bool.not_true, Bool.or_self, Bool.false_eq_true, if_false,
      State.sendDrainState]
    cases b <;> cases s.ump.drainReq <;> cases s.ump.suppressed <;> rfl
  · intro s hd hr
    simp [exec, execDrainClear, hd, hr]
  · intro k b x s ht hr hv hsup
    simp only [exec, execDrainState, ht, hr, State.take_verd, hv, hsup, Bool.not_true, Bool.or_self, Bool.false_eq_true, if_false,
      ne_eq, not_true_eq_false, if_true]
  · intro k b x s ht hr hv hsup hack
    simp only [exec, execDrainState, ht, hr, State.take_verd, hv, hsup, hack, Bool.not_true, Bool.or_self, Bool.false_eq_true, if_false,
      ne_eq, not_true_eq_false, if_true]
  · intro k b x s ht hr hv hsup hack
    simp only [exec, execDrainState, ht, hr, State.take_verd, hv, hsup, hack, Bool.not_true, Bool.or_self, Bool.false_eq_true, if_false,
      ne_eq, not_true_eq_false]
  · intro k b x s ht hr hv
    simp only [exec, execDrainState, ht, hr, State.take_verd, Bool.not_true, Bool.or_self, Bool.false_eq_true, if_false, if_pos hv]
  · intro k h s ht hr hat hdrain hlate
    refine ⟨_, rfl, ?_⟩
    simp [ht, hr, hat, hdrain, hlate, State.note]
  · intro k h s hat hearly
    simp [exec, execDrainTimeout, hat, hearly]

end Sys2Proof.Machine
end

section
/-! PROOF. Budget lending, the repetition and reset of verdicts, and the views of liveness (R19, R351, R356, R362, R369). -/

namespace Sys2Proof.Machine

/-- A number below 64 has no bit outside the mask of a die's place. -/
theorem and_not_dieMask {a : Word} (h : a.toNat < 64) : a &&& ~~~(0x3F : Word) = 0 := by
  apply BitVec.eq_of_getLsbD_eq
  intro i hi
  by_cases hlow : i < 6
  · interval_cases i <;> simp
  · have hbit : a.getLsbD i = false := Nat.testBit_lt_two_pow (h.trans_le (Nat.pow_le_pow_right (by decide) (not_lt.1 hlow) : 2 ^ 6 ≤ 2 ^ i))
    simp [hbit]

theorem posted_verdReset {p : Post} {s : State} (hr : s.running = true) (hrole : 1 ≤ p.role.toNat) (ha : p.a0.toNat < 64) :
    Posted 0x0601 ⟨0x0601, 3, 1, 0x3F, anyArg, anyArg, cmdVerdReset⟩ p s :=
  ⟨hr, rfl, hrole, and_not_dieMask ha, by simp, by simp, testBit_both _⟩

theorem State.event_ump (s : State) (code : Nat) (data : List Byte) (role path : Nat) : (s.event code data role path).ump = s.ump := by
  simp

/-- Settles O37: the resets by `Posted`, the others command by command. -/
theorem lendVerdictsLiveness : Obligations.LendVerdictsLiveness := by
  refine ⟨?_, ?_, ?_, ?_, ?_, ?_, ?_, ?_, ?_, ?_, ?_, ?_⟩
  · intro s hd hr
    simp [exec, execLendSet, hd, hr]
  · intro s hd hr
    simp [exec, execLendClr, hd, hr]
  · intro k h s ht hr hat hv hacked hrep hlate
    simp [exec, execVerdictRepeat, ht, hr, hat, hv, hacked, hrep, hlate]
  · intro k s hacked
    simp only [exec, execVerdictRepeat, hacked, Bool.not_true, Bool.and_false, Bool.false_and, Bool.false_eq_true, if_false]
    cases (s.verd k.toNat).repAt <;> rfl
  · intro p s hr ht hrole ha hv
    refine (posted_verdReset hr hrole ha).accepted ?_
    simp only [cmdVerdReset, State.isD_of_isT ht, Nat.mod_eq_of_lt ha, beq_eq_false_iff_ne.2 hv, Bool.false_and, Bool.or_self,
      Bool.false_eq_true, if_false]
  · intro p s hr hd hrole ha hv
    have hzero : p.a0.toNat = 0 := by rw [ha]; rfl
    refine (posted_verdReset hr hrole (by omega)).accepted ?_
    simp only [cmdVerdReset, hd, hzero, Nat.zero_mod, beq_eq_false_iff_ne.2 hv, bne_self_eq_false, Bool.and_false, Bool.or_self,
      Bool.false_eq_true, if_false, if_true]
  · intro p s hr ht hrole ha hv
    have hnone : cmdVerdReset p s = none := by
      simp [cmdVerdReset, State.isD_of_isT ht, Nat.mod_eq_of_lt ha, hv]
    have hmail := State.setResult_unchanged ht 0x0601 2 p
    generalize hw : s.setResult 0x0601 2 p = w at hmail
    refine ⟨_, (posted_verdReset hr hrole ha).refused hnone, ?_⟩
    rw [hw]
    have hun : Unchanged [.sys, .integ, .trc, .ttrc, .ul, .roles, .evr] s _ :=
      ((hmail.mono (by decide)).step (State.stick_unchanged w 2 6)).step (State.event_unchanged _ 0x1005 (le 2 0x0601 ++ le 1 2 ++ le 1 p.path.toNat ++
        le 2 p.token.toNat) p.role.toNat p.path.toNat)
    exact ⟨(hun .ump (by decide)).symm, (State.stuck_event ..).trans (State.stuck_stick w), hun⟩
  · intro k s ht hr hin hagree hjob hlong
    refine ⟨_, rfl, ?_⟩
    simp only [ht, hr, hin, hagree, hjob, hlong, Bool.and_self, Bool.not_false, decide_true, if_true]
    refine ⟨?_, by simp⟩
    rw [State.north_ump, State.note, State.event_ump]
    rfl
  · intro k s hshort
    simp [exec, execLivenessDisagree, Nat.not_le.2 hshort]
  · intro k s ht hr hdis hlong
    refine ⟨_, rfl, ?_⟩
    simp only [ht, hr, hdis, hlong, Bool.and_self, decide_true, if_true]
    refine ⟨?_, by simp⟩
    rw [State.north_ump, State.note, State.event_ump]
    rfl
  · intro k s hagree
    simp [exec, execLivenessAgree, hagree]
  · intro k n x y s ht hr
    simp only [exec, execFastEvt, ht, hr, Bool.not_true, Bool.or_self, Bool.false_eq_true, if_false]

end Sys2Proof.Machine
end

section
/-! PROOF. The start of a job and the fan-out of an abort (R364 to R367). -/

namespace Sys2Proof.Machine

@[simp] theorem State.link_setLink_self (s : State) (k : Nat) (l : Link) : (s.setLink k l).link k = l := by
  simp [State.setLink, State.link]

theorem State.link_of_ul {s t : State} (h : s.ul = t.ul) (k : Nat) : s.link k = t.link k := by rw [State.link, State.link, h]

theorem State.link_setLink_other (s : State) {j k : Nat} (l : Link) (h : j ≠ k) : (s.setLink k l).link j = s.link j :=
  Tab.get_set_other _ _ _ h

theorem State.link_take_other (s : State) {j k : Nat} (v mtype : Nat) (h : j ≠ k) : (s.take k v mtype).link j = s.link j := by
  unfold State.take
  dsimp only
  split
  · split
    · exact State.link_setLink_other _ _ h
    · rfl
  · rfl

theorem State.link_insert_self (s : State) (k mtype : Nat) (body : List Byte) :
    (s.insert k mtype body).link k = (s.link k).pushInsertion Config.insDepth ⟨BitVec.ofNat 8 mtype, body⟩ :=
  State.link_setLink_self _ _ _

theorem State.link_insert_other (s : State) {j k : Nat} (mtype : Nat) (body : List Byte) (h : j ≠ k) :
    (s.insert k mtype body).link j = s.link j := State.link_setLink_other _ _ h

theorem State.insert_ump (s : State) (k mtype : Nat) (body : List Byte) : (s.insert k mtype body).ump = s.ump := rfl

theorem State.insert_nb (s : State) (k mtype : Nat) (body : List Byte) : (s.insert k mtype body).nb = s.nb := rfl

theorem State.take_rw (s : State) (k v mtype : Nat) : (s.take k v mtype).rw = s.rw := (s.take_unchanged k v mtype .rw (by decide)).symm

theorem State.take_abtMask (s : State) (k v mtype c : Nat) : (s.take k v mtype).abtMask c = s.abtMask c := by
  simp only [State.abtMask, State.rwd, State.take_rw]

theorem State.take_abtNb (s : State) (k v mtype c : Nat) : (s.take k v mtype).abtNb c = s.abtNb c := by
  simp only [State.abtNb, State.rwd, State.take_rw]

/-- A fan-out of the tray to one link, none to the north. -/
theorem State.fanOut_one {s : State} (ht : s.isT = true) {c k : Nat} {but : Option Nat} {nb : Bool} (hnb : (nb && s.abtNb c) = false)
    (hks : (maskList (s.abtMask c)).filter (fun k => but != some k) = [k]) (origin : BitVec 48) (stroke : DWord) (role path : Nat) :
    let t := s.fanOut c origin stroke but nb role path
    t.ump = { s.ump with abtCnt := satInc s.ump.abtCnt } ∧ t.nb = s.nb ∧ t.ul = (s.insert k 0x30 (abortBody c origin stroke)).ul ∧
      Unchanged [.ump, .sys, .trc, .ul, .evr, .ttrc] s t := by
  have hins : (s.insert k 0x30 (abortBody c origin stroke)).abtNb c = s.abtNb c := rfl
  simp only [State.fanOut, hks, List.foldl_cons, List.foldl_nil, hins, hnb, Bool.false_eq_true, if_false]
  refine ⟨?_, ?_, ?_, by simp⟩
  · simp [State.insert_ump, State.setUmp]
  · simp [State.insert_nb, State.setUmp]
  · rw [State.event_ul_tray]
    · rfl
    · exact ht

/-- No tally is bound to the event. -/
theorem State.bindEvent_unbound {s : State} (h : s.tly.bind = []) {src : Nat} (hsrc : src ≠ 0) (arg : Nat) : s.bindEvent src arg = s := by
  unfold State.bindEvent
  generalize List.range 16 = l
  induction l with
  | nil => rfl
  | cons j l ih =>
    have hno : bits (Tab.get (0 : Word) s.tly.bind j).toNat 15 8 = 0 := by
      rw [h]
      simp [bits]
    rw [List.foldl_cons]
    dsimp only
    rw [if_neg fun hbound => hsrc (hbound.1.symm.trans hno)]
    exact ih

/-- A command of the tray that is refused for its state (R487). -/
theorem Posted.refused_tray {code : Nat} {c : CmdDef} {p : Post} {s : State} (h : Posted code c p s) (ht : s.isT = true)
    (hrun : c.run p s = none) :
    ∃ t, s.command code p = .next t ∧ t.ump = s.ump ∧ t.stuck 2 6 = true ∧
      Unchanged [.sys, .integ, .trc, .ttrc, .ul, .roles, .evr] s t := by
  have hmail := State.setResult_unchanged ht code 2 p
  generalize hw : s.setResult code 2 p = w at hmail
  refine ⟨_, h.refused hrun, ?_⟩
  rw [hw]
  have hun : Unchanged [.sys, .integ, .trc, .ttrc, .ul, .roles, .evr] s _ :=
    ((hmail.mono (by decide)).step (State.stick_unchanged w 2 6)).step (State.event_unchanged _ 0x1005
      (le 2 code ++ le 1 2 ++ le 1 p.path.toNat ++ le 2 p.token.toNat) p.role.toNat p.path.toNat)
  exact ⟨(hun .ump (by decide)).symm, (State.stuck_event ..).trans (State.stuck_stick w), hun⟩

/-- A row of grade 2 is the tray's. -/
theorem testBit_tray {s : State} (ht : s.isT = true) : Nat.testBit 2 (if s.isT then 1 else 0) = true := by
  rw [ht]
  decide

theorem posted_start {p : Post} {s : State} (hr : s.running = true) (ht : s.isT = true) (hrole : 1 ≤ p.role.toNat) :
    Posted 0x0603 ⟨0x0603, 2, 1, anyArg, anyArg, anyArg, cmdStart⟩ p s :=
  ⟨hr, rfl, hrole, by simp, by simp, by simp, testBit_tray ht⟩

theorem posted_abortPost {p : Post} {s : State} (hr : s.running = true) (ht : s.isT = true) (hrole : 1 ≤ p.role.toNat)
    (ha : p.a0.toNat < 64) : Posted 0x0604 ⟨0x0604, 2, 1, 0x3F, anyArg, anyArg, cmdAbortPost⟩ p s :=
  ⟨hr, rfl, hrole, and_not_dieMask ha, by simp, by simp, testBit_tray ht⟩

theorem State.closeStart_waits {s : State} {timeout : Bool}
    (h : (s.ump.startOpen && (timeout || s.ump.startMask == s.ump.startDone ||| s.ump.startLate)) = false) (role path : Nat) :
    s.closeStart timeout role path = s := by
  simp only [State.closeStart, h, Bool.false_eq_true, if_false]

/-- A start that closes (R365). -/
theorem State.closeStart_closes {s : State} {timeout : Bool} (hopen : s.ump.startOpen = true)
    (h : (timeout || s.ump.startMask == s.ump.startDone ||| s.ump.startLate) = true) (role path : Nat) :
    (s.closeStart timeout role path).ump = { s.ump with startOpen := false } ∧
      Unchanged [.ump, .sys, .trc, .ul, .nb, .evr, .ttrc] s (s.closeStart timeout role path) := by
  have hcloses : (s.ump.startOpen && (timeout || s.ump.startMask == s.ump.startDone ||| s.ump.startLate)) = true := by
    rw [hopen, h, Bool.and_self]
  simp only [State.closeStart, hcloses, if_true]
  refine ⟨?_, by simp⟩
  rw [State.north_ump, State.event_ump]
  rfl

/-- Settles O38: the commands by `Posted`, the fan-out by `State.fanOut_one`. -/
theorem startAndAbort : Obligations.StartAndAbort := by
  refine ⟨?_, ?_, ?_, ?_, ?_, ?_, ?_, ?_, ?_, ?_, ?_, ?_, ?_, ?_, ?_⟩
  · intro p s hr ht hrole hopen ha1 ha2 hstate
    refine (posted_start hr ht hrole).accepted ?_
    have hmask : (p.a2 ++ p.a1 : DWord) = 1 := by rw [ha1, ha2]; rfl
    have hlist : (maskList 1).filter (fun k => (s.link k).tr.state == 4) = [0] := by
      rw [show maskList 1 = [0] from by decide]
      simp [hstate]
    have hsent : setBit (0 : DWord) 0 true = 1 := by decide
    have hone : ((1 : DWord) == 0) = false := by decide
    simp only [cmdStart, hmask, hone, hopen, hlist, hsent, List.foldl_cons, List.foldl_nil, Bool.or_self, Bool.false_eq_true, if_false]
    rw [State.closeStart_waits (by simp [State.setUmp])]
    rfl
  · intro p s hr ht hrole hopen
    exact (posted_start hr ht hrole).refused_tray ht (by simp [cmdStart, hopen])
  · intro k n s ht hr hopen hid hmask hmore
    have hmine : (!s.ump.startOpen || s.ump.startId != n || !s.ump.startMask.getLsbD k.toNat) = false := by simp [hopen, hid, hmask]
    simp only [exec, execStartAck, ht, hr, State.take_ump, hmine, Bool.not_true, Bool.or_self, Bool.false_eq_true, if_false]
    have hno : (s.ump.startMask == setBit s.ump.startDone k.toNat true ||| s.ump.startLate) = false := beq_eq_false_iff_ne.2 hmore
    rw [State.closeStart_waits (by simp only [State.setUmp, hno, Bool.or_self, Bool.and_false])]
  · intro k n s ht hr hopen hid hmask hall
    refine ⟨_, rfl, ?_⟩
    have hmine : (!s.ump.startOpen || s.ump.startId != n || !s.ump.startMask.getLsbD k.toNat) = false := by simp [hopen, hid, hmask]
    simp only [ht, hr, State.take_ump, hmine, Bool.not_true, Bool.or_self, Bool.false_eq_true, if_false, if_true]
    obtain ⟨hump, hun⟩ := State.closeStart_closes (timeout := false)
      (s := (s.take k.toNat 0 0x19).setUmp { s.ump with startLate := setBit s.ump.startLate k.toNat true }) hopen
      (by simpa [State.setUmp] using hall) 0 0
    refine ⟨hump, Unchanged.trans ?_ hun⟩
    simp
  · intro k n b s ht hr hid
    simp only [exec, execStartAck, ht, hr, State.take_ump, bne_iff_ne.2 hid, Bool.not_true, Bool.or_self, Bool.or_true, Bool.true_or,
      Bool.false_eq_true, if_false, if_true]
  · intro s ht hr hopen hlate
    have hcond : (s.isT && s.running && decide (s.startTmo ≤ s.heatsSince s.ump.startHeat)) = true := by simp [ht, hr, hlate]
    exact ⟨_, congrArg Host.Outcome.next (if_pos hcond), State.closeStart_closes hopen (Bool.true_or _) 0 0⟩
  · intro s hearly
    simp [exec, execStartTimeout, Nat.not_le.2 hearly]
  · intro n d s hd hr hvalid hdeadline hbind
    simp only [exec, execStartFlit, hd, hr, State.take_tb, hvalid, hdeadline, decide_true, Bool.not_true, Bool.or_self, Bool.and_self,
      Bool.false_eq_true, if_false, if_true]
    rw [State.bindEvent_unbound ?_ (by decide)]
    have hun : Unchanged [.ump, .ul] s (((s.take 0 0 0x29).setUmp { (s.take 0 0 0x29).ump with
      jobStartId := n, jobStarts := (s.take 0 0 0x29).ump.jobStarts + 1 }).send 0 0 0x19 (le 4 n.toNat ++ le 4 0)) := by simp
    rw [← hun .tly (by decide)]
    exact hbind
  · intro n d s hd hr hlate
    have hno : ¬(s.tb.valid && decide (s.tb.stroke.toNat ≤ d.toNat)) = true := by
      rcases hlate with h | h
      · simp [h]
      · simp [h]
    simp only [exec, execStartFlit, hd, hr, State.take_tb, if_neg hno, Bool.not_true, Bool.or_self, Bool.false_eq_true, if_false,
      List.append_assoc]
    rfl
  · intro c s hd hr
    simp only [exec, execAbortReq, hd, hr, Bool.and_self, if_true]
    rfl
  · intro k c o x s hd hr
    simp only [exec, execAbortFlit, hr, State.isT_of_isD hd, Bool.not_true, Bool.false_eq_true, if_false]
  · intro k c o x s ht hr hmask hnb hk
    subst hk
    have htaken : (s.take 0 0 0x30).isT = true := (s.take_isT 0 0 0x30).trans ht
    refine ⟨_, rfl, ?_⟩
    simp only [ht, hr, Bool.not_true, Bool.false_eq_true, if_false, if_true]
    obtain ⟨hump, hnorth, hul, hun⟩ := State.fanOut_one htaken (c := c.toNat) (k := 1) (but := some 0) (nb := true)
      (by simp [State.take_abtNb, hnb]) (by simp only [State.take_abtMask, hmask]; decide) o x 0 0
    have hlink (j : Nat) : ((s.take 0 0 0x30).fanOut c.toNat o x (some 0) true 0 0).link j =
        ((s.take 0 0 0x30).insert 1 0x30 (abortBody c.toNat o x)).link j := State.link_of_ul hul j
    refine ⟨hump.trans (by rw [State.take_ump]), hnorth.trans (s.take_unchanged 0 0 0x30 .nb (by decide)).symm, ?_, ?_, ?_⟩
    · exact (hlink 1).trans ((State.link_insert_self _ _ _ _).trans (by rw [State.link_take_other _ _ _ (by decide)]; rfl))
    · exact (hlink 0).trans (State.link_insert_other _ _ _ (by decide))
    · exact ((s.take_unchanged 0 0 0x30).mono (by decide)).trans hun
  · intro q c o x s ht hr hmask
    refine ⟨_, rfl, ?_⟩
    simp only [ht, hr, Bool.and_self, if_true]
    obtain ⟨hump, hnorth, hul, hun⟩ := State.fanOut_one ht (c := c.toNat) (k := 0) (but := none) (nb := false)
      (by simp) (by simp only [hmask]; decide) o x 0 0
    exact ⟨hump, hnorth, (State.link_of_ul hul 0).trans (State.link_insert_self _ _ _ _), hun⟩
  · intro p s hr ht hrole ha hmask hnb
    obtain ⟨hump, -, hul, hun⟩ := State.fanOut_one ht (c := p.a0.toNat) (k := 0) (but := none) (nb := true)
      (by simp [hnb]) (by simp only [hmask]; decide) s.fsid s.tb.stroke p.role.toNat p.path.toNat
    have hrun : cmdAbortPost p s = some (s.fanOut p.a0.toNat s.fsid s.tb.stroke none true p.role.toNat p.path.toNat) := by
      simp [cmdAbortPost, Nat.mod_eq_of_lt ha, hmask]
    have hwt : (s.fanOut p.a0.toNat s.fsid s.tb.stroke none true p.role.toNat p.path.toNat).isT = true :=
      (State.isT_of_kept (by simp)).trans ht
    generalize s.fanOut p.a0.toNat s.fsid s.tb.stroke none true p.role.toNat p.path.toNat = w at hump hul hun hrun hwt
    have hmail := State.setResult_unchanged (s := w) hwt 0x0604 1 p
    refine ⟨_, (posted_abortPost hr ht hrole ha).accepted hrun, ?_, ?_, (hun.mono (by decide)).step hmail⟩
    · exact (hmail .ump (by decide)).symm.trans hump
    · have hsame : w.ul = (w.setResult 0x0604 1 p).ul := hmail .ul (by decide)
      exact (State.link_of_ul (hsame.symm.trans hul) 0).trans (State.link_insert_self _ _ _ _)
  · intro p s hr ht hrole ha hmask hnb
    refine (posted_abortPost hr ht hrole ha).refused_tray ht ?_
    simp [cmdAbortPost, Nat.mod_eq_of_lt ha, hmask, hnb]

end Sys2Proof.Machine
end

section
/-! PROOF. A replay record that holds its result. -/

namespace Sys2Proof.Machine

/-- The replay record of die 5 that waits since heat 0, and holds the result 3 that its reference expects. -/
def answeredReplay : FpReplay := ⟨7, 0, 5, 5, 9, 1, 0, 1, some 3, 0, 3, 0, false, false, none, some 3⟩

/-- A tray with die 5 in service, at a heat at which the record has waited its time. -/
def replayingTray : State := { Tests.wT with
  ld := { Tests.wT.ld with cur := some ⟨0x2000, [(6, 1), (64, 0xD), (69, 1), (256 + 104, 1)]⟩ }
  fpc := { Tests.wT.fpc with groups := [(5, 0)], replays := [answeredReplay] }
  heat := { Tests.wT.heat with count := 0x4000 } }

/-- Refutes O39: the seventh clause leaves the record's result free, and one that holds the result its reference expects counts as a
TRANSIENT (R262), not as UNRESOLVED. No command leaves a result in a record that it does not close. -/
theorem not_comparison : ¬Obligations.Comparison := by
  rintro ⟨-, -, -, -, -, -, htimeout, -⟩
  obtain ⟨t, ht, -, hcounts, -⟩ := htimeout 7 answeredReplay replayingTray (by decide) (by decide) rfl rfl rfl rfl (by decide)
  have hafter : (after replayingTray (exec (.fpRplTmoExpiry 7) replayingTray)).fpc.counts = [(2, 1)] := by decide +kernel
  rw [ht, after_next, hcounts] at hafter
  exact absurd hafter (by decide)

end Sys2Proof.Machine
end

section
/-! PROOF. A reduction run that loses a sketch. -/

namespace Sys2Proof.Machine

/-- A step that all its members have finished or left. -/
def emptyStep : Step := ⟨5, 0, 0x20, 0, [], false⟩

/-- A tray with one figure, whose sketches complete with every step, and SK_EXPORT off. -/
def reducingTray : State := { Tests.wT with
  ld := { Tests.wT.ld with cur := some ⟨0x2000, [(6, 2), (64, 5), (69, 1), (80, 8), (85, 2), (284, 1), (322, 1), (323, 1), (324, 1),
    (0x227, 1), (0x240, 2)]⟩ }
  red := { Tests.wT.red with queue := [emptyStep] }
  rw := [(0x80000 / 4, some 0)] }

/-- Refutes O40: a run whose sketch is lost with SK_EXPORT off makes an overload heat of its producer (R295, R345), which the umpire
holds; the fifth clause's frame leaves the umpire out. -/
theorem not_stepReduction : ¬Obligations.StepReduction := by
  rintro ⟨-, -, -, -, hrun, -⟩
  obtain ⟨t, ht, -, -, -, -, -, -, hun⟩ := hrun emptyStep [] reducingTray (by decide +kernel) rfl rfl rfl
  have hump : reducingTray.ump = t.ump := hun .ump (by decide)
  have hover : (after reducingTray (exec .reductionRun reducingTray)).ump.overNow.isEmpty = false := by decide +kernel
  rw [ht, after_next, ← hump] at hover
  exact absurd hover (by decide)

end Sys2Proof.Machine
end

section
/-! PROOF. The records of a die's heats (R34, R41, R135, R274, R337, R437): what the alignment buffer takes. -/

namespace Sys2Proof.Machine

namespace Intake

variable {r : Intake} {k : BitVec 6} {h : DWord} {f : DieRec → DieRec}

/-- A change that keeps the die and heat of a record is found where the record was. -/
theorem rec?_upd (hf : ∀ x, (f x).die = x.die ∧ (f x).heat = x.heat) :
    ∃ x, (r.upd k.toNat h f).rec? k.toNat h = some (f x) := by
  have hkey (x : DieRec) : ((f x).die.toNat == k.toNat && (f x).heat == h) = (x.die.toNat == k.toNat && x.heat == h) := by
    rw [(hf x).1, (hf x).2]
  unfold Intake.upd Intake.rec?
  split
  · next hany =>
    obtain ⟨x, hx⟩ := Option.isSome_iff_exists.1 (List.find?_isSome.2 (List.any_eq_true.1 hany))
    have hxkey := List.find?_some hx
    refine ⟨x, ?_⟩
    have hsame : ((fun x : DieRec => x.die.toNat == k.toNat && x.heat == h) ∘
        fun x => if (x.die.toNat == k.toNat && x.heat == h) = true then f x else x) = fun x => x.die.toNat == k.toNat && x.heat == h := by
      funext x
      simp only [Function.comp]
      split
      · exact hkey x
      · rfl
    rw [List.find?_map, hsame, hx, Option.map_some, if_pos hxkey]
  · next hnone =>
    have hfirst : r.recs.find? (fun x => x.die.toNat == k.toNat && x.heat == h) = none :=
      List.find?_eq_none.2 fun x hx hk => hnone (List.any_eq_true.2 ⟨x, hx, hk⟩)
    refine ⟨{ (default : DieRec) with die := k, heat := h }, ?_⟩
    rw [List.find?_append, hfirst, Option.none_or, BitVec.ofNat_toNat, BitVec.setWidth_eq, List.find?_singleton, hkey]
    simp

theorem upd_new (hnew : (r.rec? k.toNat h).isNone = true) :
    (r.upd k.toNat h f).recs = r.recs ++ [f { (default : DieRec) with die := k, heat := h }] := by
  have hnone : ¬r.recs.any (fun x => x.die.toNat == k.toNat && x.heat == h) = true := by
    rw [List.any_eq_true]
    rintro ⟨x, hx, hk⟩
    exact List.find?_eq_none.1 (Option.isNone_iff_eq_none.1 hnew) x hx hk
  rw [Intake.upd, if_neg hnone, BitVec.ofNat_toNat, BitVec.setWidth_eq]

theorem reported_next (h : DWord) : (r.reported k.toNat h).next = r.next := by
  unfold Intake.next Intake.reported
  dsimp only
  rw [Tab.get_set_other _ _ _ (by omega)]

end Intake

section

variable (s : State) (k mtype : Nat) (msg : List Byte) (h : DWord) (f : DieRec → DieRec)

theorem State.rawTaken_unchanged : Unchanged [.ul, .nb] s ((s.take k 1 mtype).rawNorth k mtype msg) := by simp

theorem State.rawTaken_inr : ((s.take k 1 mtype).rawNorth k mtype msg).inr = s.inr :=
  (s.rawTaken_unchanged k mtype msg .inr (by decide)).symm

/-- A record that is not of heat −1, not processed, and finds room. -/
theorem State.cntTaken_joins (h1 : h ≠ BitVec.allOnes 64) (h2 : s.inr.next ≤ h.toNat) (h3 : s.inr.room k h = true) :
    (s.cntTaken k mtype msg h f).inr = s.inr.upd k h f := by
  have hin : ¬(h = BitVec.allOnes 64 ∨ h.toNat < s.inr.next) := by
    rintro (h | h)
    · exact h1 h
    · omega
  simp only [State.cntTaken, State.intake, State.rawTaken_inr, if_neg hin, if_pos h3, State.setInr]

theorem State.cntTaken_past (hpast : h = BitVec.allOnes 64 ∨ h.toNat < s.inr.next) :
    (s.cntTaken k mtype msg h f).inr = s.inr ∧ Unchanged [.ul, .nb] s (s.cntTaken k mtype msg h f) := by
  simp only [State.cntTaken, State.intake, State.rawTaken_inr, if_pos hpast]
  exact ⟨trivial, s.rawTaken_unchanged k mtype msg⟩

theorem State.cntTaken_full (h1 : h ≠ BitVec.allOnes 64) (h2 : s.inr.next ≤ h.toNat) (h3 : s.inr.room k h = false) :
    (s.cntTaken k mtype msg h f).inr = s.inr ∧ Unchanged [.ul, .nb] s (s.cntTaken k mtype msg h f) := by
  have hin : ¬(h = BitVec.allOnes 64 ∨ h.toNat < s.inr.next) := by
    rintro (h | h)
    · exact h1 h
    · omega
  simp only [State.cntTaken, State.intake, State.rawTaken_inr, if_neg hin, h3, Bool.false_eq_true, if_false]
  refine ⟨s.rawTaken_inr k mtype msg, ?_⟩
  exact (s.rawTaken_unchanged k mtype msg).step (State.setLink_unchanged _ _ _)

end

theorem State.setRed_standIn (s : State) (r : Reduce) (k p n : Nat) : (s.setRed r).standIn k p n = s.standIn k p n := rfl

theorem State.cntTaken_unchanged (s : State) (k mtype : Nat) (msg : List Byte) (h : DWord) (f : DieRec → DieRec) :
    Unchanged [.inr, .ul, .nb] s (s.cntTaken k mtype msg h f) := by simp

theorem Intake.room_reported (r : Intake) (j k : Nat) (h g : DWord) : (r.reported j g).room k h = r.room k h := rfl

/-- The 64-bit figure of a message that is a heat number. -/
theorem ofNat_leAt {b : List Byte} {h : DWord} (hb : leAt b 0 8 = h.toNat) : BitVec.ofNat 64 (leAt b 0 8) = h := by
  rw [hb, BitVec.ofNat_toNat, BitVec.setWidth_eq]

/-- Settles O41, by what the alignment buffer takes. -/
theorem dieRecords : Obligations.DieRecords := by
  refine ⟨?_, ?_, ?_, ?_, ?_, ?_⟩
  · intro k b h s ht hr hb h1 h2 h3
    have hh := ofNat_leAt hb
    refine ⟨_, rfl, ?_⟩
    simp only [ht, hr, hh, if_neg h1, Bool.not_true, Bool.or_self, Bool.false_eq_true, if_false]
    generalize hw : (s.setRed (s.red.count 10 (leAt b 0xF 1))).setInr _ = w
    have hinr : w.inr = s.inr.reported k.toNat h := by rw [← hw]; rfl
    have hred : w.red = s.red.count 10 (leAt b 0xF 1) := by rw [← hw]; rfl
    have hun : Unchanged [.inr, .red] s w := by rw [← hw]; simp
    have hcnt := w.cntTaken_unchanged k.toNat 0x40 b h
    refine ⟨?_, ((hcnt _ .red (by decide)).symm).trans hred, (hun.mono (by decide)).trans ((hcnt _).mono (by decide))⟩
    rw [w.cntTaken_joins _ _ _ _ _ h1 (by rw [hinr, Intake.reported_next]; exact h2) (by rw [hinr]; exact h3)]
    obtain ⟨x, hx⟩ := Intake.rec?_upd (r := w.inr) (k := k) (h := h) (f := fun x => { x with
      hdr := true, sv := (leAt b 0xE 1).testBit 0, poison := (leAt b 0xE 1).testBit 1, fd := (leAt b 0xE 1).testBit 2
      nframe := BitVec.ofNat 16 (leAt b 0x10 2)
      marks := (List.range (leAt b 0x12 1)).map fun i => (b.drop (0x18 + 16 * i)).take 16 }) fun x => ⟨rfl, rfl⟩
    rw [hx]
    rfl
  · intro k b s ht hr hb
    have hh : BitVec.ofNat 64 (leAt b 0 8) = BitVec.allOnes 64 := by rw [hb]; rfl
    refine ⟨_, rfl, ?_⟩
    simp only [ht, hr, hh, if_true, Bool.not_true, Bool.or_self, Bool.false_eq_true, if_false]
    obtain ⟨hinr, hun⟩ := (s.setRed (s.red.count 10 (leAt b 0xF 1))).cntTaken_past k.toNat 0x40 b (BitVec.allOnes 64) _ (.inl rfl)
    exact ⟨hinr, ((s.setRed_unchanged _).mono (by decide)).trans (hun.mono (by decide))⟩
  · intro k h p n s ht hr h1 h2 h3 hnew
    refine ⟨_, rfl, ?_⟩
    simp only [ht, hr, Bool.not_true, Bool.or_self, Bool.false_eq_true, if_false]
    simp only [State.setRed_standIn]
    generalize hw : s.setRed _ = w
    have hinr : w.inr = s.inr := by rw [← hw]; rfl
    have hun : Unchanged [.red] s w := by rw [← hw]; simp
    refine ⟨?_, (hun.mono (by decide)).trans ((w.cntTaken_unchanged _ _ _ _ _).mono (by decide))⟩
    rw [w.cntTaken_joins _ _ _ _ _ h1 (by rw [hinr]; exact h2) (by rw [hinr]; exact h3), Intake.upd_new (by rw [hinr]; exact hnew), hinr]
    simp only [show (default : DieRec).got = 0 from rfl, show (default : DieRec).detOvr = false from rfl, Nat.zero_add, Bool.false_or]
  · intro k h p n s ht hr hpast
    refine ⟨_, rfl, ?_⟩
    simp only [ht, hr, Bool.not_true, Bool.or_self, Bool.false_eq_true, if_false]
    simp only [State.setRed_standIn]
    generalize hw : s.setRed _ = w
    have hinr : w.inr = s.inr := by rw [← hw]; rfl
    have hun : Unchanged [.red] s w := by rw [← hw]; simp
    have hcnt := w.cntTaken_past k.toNat 0x42 (le 8 h.toNat ++ le 2 p.toNat ++ le 2 n.toNat ++ le 4 0) h
    refine ⟨((hcnt _ (.inr ?_)).1).trans hinr, (hun.mono (by decide)).trans ((hcnt _ (.inr ?_)).2.mono (by decide))⟩
    · rw [hinr]
      exact hpast
    · rw [hinr]
      exact hpast
  · intro k b h s ht hr hb h1 h2 h3
    have hh := ofNat_leAt hb
    refine ⟨_, rfl, ?_⟩
    simp only [ht, hr, hh, Bool.not_true, Bool.or_self, Bool.false_eq_true, if_false]
    refine ⟨?_, by simp⟩
    rw [State.cntTaken_joins _ _ _ _ _ _ h1 h2 h3]
    obtain ⟨x, hx⟩ := Intake.rec?_upd (r := s.inr) (k := k) (h := h) (f := fun x => { x with
      detrec := some (BitVec.ofNat 2 (leAt b 8 1), BitVec.ofNat 256 (leAt b 0x10 32)) }) fun x => ⟨rfl, rfl⟩
    rw [hx]
    rfl
  · intro k b h s ht hr hb h1 h2 h3
    have hh := ofNat_leAt hb
    refine ⟨_, rfl, ?_⟩
    simp only [ht, hr, hh, Bool.not_true, Bool.or_self, Bool.false_eq_true, if_false]
    exact State.cntTaken_full _ _ _ _ _ _ h1 h2 h3

end Sys2Proof.Machine
end

section
/-! PROOF. The tree engine: what a scoring reads, and the commands of its host load (R311 to R330). -/

namespace Sys2Proof.Machine

/-- Two states that the scoring of a heat reads as one: its counters, the sticky bits and the records may differ. -/
structure SameScoring (s t : State) : Prop where
  rest : Unchanged [.sys, .integ, .trc, .ttrc, .te, .ul, .evr] s t
  build : t.sys.build = s.sys.build
  cplStat : t.integ.cplStat = s.integ.cplStat
  store : t.te.store = s.te.store
  windows : t.te.windows = s.te.windows
  run : t.te.run = s.te.run

/-- The state `s` with the parts of `t` that a scoring may write. -/
def State.marked (s t : State) : State :=
  { s with sys := t.sys, integ := t.integ, trc := t.trc, ttrc := t.ttrc, te := t.te, ul := t.ul, evr := t.evr }

namespace SameScoring

theorem eq_marked {s t : State} (h : SameScoring s t) : t = s.marked t := by
  refine Unchanged.eq fun p _ => ?_
  by_cases hp : p ∈ [Part.sys, .integ, .trc, .ttrc, .te, .ul, .evr]
  · cases p <;> first | rfl | simp at hp
  · have hsame := h.rest p hp
    cases p <;> first | exact hsame.symm | simp at hp

variable {s t : State} (h : SameScoring s t)
include h

theorem ld : t.ld = s.ld := (h.rest .ld (by decide)).symm

theorem ted (o n : Nat) : t.ted o n = s.ted o n := by simp only [State.ted, State.img, h.ld]

theorem trees : t.trees = s.trees := by simp only [State.trees, State.nTree, h.ted]

theorem nSamp : t.nSamp = s.nSamp := by simp only [State.nSamp, h.ted]

theorem waveSize : t.waveSize = s.waveSize := by
  have hfuse : t.fuse = s.fuse := (h.rest .fuse (by decide)).symm
  unfold State.waveSize State.treeLanes State.isT State.fuseWord
  rw [h.build, hfuse]

theorem waveCount (ts : List TreeRec) : t.waveCount ts = s.waveCount ts := by
  simp only [State.waveCount, h.nSamp, h.waveSize]

theorem waveEntries (ts : List TreeRec) (w : Nat) : t.waveEntries ts w = s.waveEntries ts w := by
  simp only [State.waveEntries, h.nSamp, h.waveSize]

theorem placeOf (ts : List TreeRec) (i : Nat) : t.placeOf ts i = s.placeOf ts i := by
  simp only [State.placeOf, State.sWin, h.ted]

theorem waveReady (ts : List TreeRec) (w : Nat) : t.waveReady ts w = s.waveReady ts w := by
  simp only [State.waveReady, h.waveEntries, h.placeOf, h.windows]

theorem nodeOf (ts : List TreeRec) (i j : Nat) : t.nodeOf ts i j = s.nodeOf ts i j := by
  simp only [State.nodeOf, State.nodeAddr, State.halfBase, State.resNodes, State.sWin, h.placeOf, h.ted, h.store]

theorem linkStage (r : TreeRun) : t.linkStage r = s.linkStage r := by
  simp only [State.linkStage, State.nOut, State.teLink, State.teBase, h.ted]

theorem windowCount (ts : List TreeRec) : t.windowCount ts = s.windowCount ts := by
  simp only [State.windowCount, h.placeOf]

theorem source (k n code arg : Nat) : t.source k n code arg = s.source k n code arg := by
  have hbuild := h.build
  have hcpl := h.cplStat
  rw [h.eq_marked]
  unfold State.marked
  generalize t.sys = y at hbuild ⊢
  generalize t.integ = i at hcpl ⊢
  obtain ⟨b, _⟩ := y
  obtain ⟨_, _, _, _, _, _, c, _⟩ := i
  subst hbuild hcpl
  rfl

theorem feat (j : Nat) : t.feat j = s.feat j := by simp only [State.feat, h.ted]

theorem featVals (k n f j : Nat) (ys : List Ext) : t.featVals k n f j ys = s.featVals k n f j ys := by
  induction f generalizing j ys with
  | zero => rfl
  | succ f ih => simp only [State.featVals, ih, h.feat, h.source]

theorem featCodes (k n : Nat) : t.featCodes k n = s.featCodes k n := by
  simp only [State.featCodes, State.nFeat, h.featVals, h.feat, h.ted]

theorem scoring : t.scoring = s.scoring := by
  have hheat : t.heat = s.heat := (h.rest .heat (by decide)).symm
  have hinr : t.inr = s.inr := (h.rest .inr (by decide)).symm
  have hserv : t.inService = s.inService := by
    funext k
    simp only [State.inService, State.expFlags, State.img, h.ld]
  simp only [State.scoring, h.run, hheat, hinr, hserv, h.nSamp, h.featCodes]

/-- Without an uncorrectable node a visit reads the tables and writes the run alone. -/
theorem visit (ts : List TreeRec) (r : TreeRun) (e : Nat × Nat) : (t.visit ts [] r e).2 = (s.visit ts [] r e).2 := by
  have hnode : t.nodeOf ts e.1 = s.nodeOf ts e.1 := funext (h.nodeOf ts e.1)
  unfold State.visit
  rw [hnode]
  split <;> rfl

end SameScoring

theorem State.visit_clean (s : State) (ts : List TreeRec) (r : TreeRun) (e : Nat × Nat) : (s.visit ts [] r e).1 = s := by
  unfold State.visit
  split <;> rfl

theorem State.foldl_visit_clean (ts : List TreeRec) (l : List (Nat × Nat)) (s : State) (r : TreeRun) :
    l.foldl (fun (p : State × TreeRun) e => p.1.visit ts [] p.2 e) (s, r) = (s, l.foldl (fun r e => (s.visit ts [] r e).2) r) := by
  induction l generalizing r with
  | nil => rfl
  | cons e l ih => rw [List.foldl_cons, List.foldl_cons, ← ih, ← Prod.mk.eta (p := s.visit ts [] r e), s.visit_clean]

theorem State.runWaves_clean (ts : List TreeRec) (n : Nat) (s : State) (r : TreeRun) : (State.runWaves ts [] n s r).1 = s := by
  induction n generalizing r with
  | zero => rfl
  | succ n ih =>
    unfold State.runWaves
    split
    · rfl
    · dsimp only
      rw [State.foldl_visit_clean, ih]

theorem SameScoring.runWaves {s t : State} (h : SameScoring s t) (ts : List TreeRec) (n : Nat) (r : TreeRun) :
    (State.runWaves ts [] n t r).2 = (State.runWaves ts [] n s r).2 := by
  induction n generalizing r with
  | zero => rfl
  | succ n ih =>
    unfold State.runWaves
    rw [h.waveReady]
    split
    · rfl
    · dsimp only
      rw [State.foldl_visit_clean, State.foldl_visit_clean, ih]
      simp only [h.visit, h.waveEntries]

theorem State.event_integ (s : State) (code : Nat) (data : List Byte) (role path : Nat) : (s.event code data role path).integ = s.integ :=
  (s.event_unchanged code data role path .integ (by decide)).symm

theorem State.stickNote_cplStat (s : State) (r b code : Nat) (data : List Byte) :
    (s.stickNote r b code data).integ.cplStat = s.integ.cplStat := by
  unfold State.stickNote State.stickOnce
  dsimp only
  split
  · rw [State.note, State.event_integ, State.noted]
    split
    · exact s.stick_cplStat r b
    · exact s.stick_cplStat r b
  · exact s.stick_cplStat r b

theorem State.memCes_cplStat (s : State) (m n : Nat) : (s.memCes m n).integ.cplStat = s.integ.cplStat := by
  unfold State.memCes
  split
  · rfl
  · exact State.stick_cplStat _ _ _

/-- Counting, the sticky bits and the records are nothing to the scoring. -/
theorem SameScoring.of_parts {s t : State} (hrest : Unchanged [.sys, .integ, .trc, .ttrc, .te, .ul, .evr] s t) (hk : t.kept = s.kept)
    (hcpl : t.integ.cplStat = s.integ.cplStat) (hte : t.te.store = s.te.store ∧ t.te.windows = s.te.windows ∧ t.te.run = s.te.run) :
    SameScoring s t := by
  obtain ⟨hstore, hwindows, hrun⟩ := hte
  simp only [State.kept, Prod.mk.injEq] at hk
  exact ⟨hrest, hk.2.1, hcpl, hstore, hwindows, hrun⟩

/-- A scoring without errors of the node store: the counts and sticky bits of its cycle aside, the waves that are ready and, after the
last of them, the link stage. -/
theorem exec_treeScoring_due {s : State} (hdue : s.scoreDue = true) (b : Bool) (n : BitVec 16) {r : TreeRun}
    (hr : (State.runWaves s.trees [] (s.waveCount s.trees - s.scoring.waves) s s.scoring).2 = r) :
    ∃ u, SameScoring s u ∧ u.te.now = s.te.now ∧ u.te.pub = s.te.pub ∧
      (r.waves < s.waveCount s.trees → exec (.treeScoring b n []) s = .next (u.setTe { u.te with run := some r })) ∧
      (s.waveCount s.trees ≤ r.waves → exec (.treeScoring b n []) s = .next (u.setTe
        { (u.te.count 5 (s.linkStage r).length).count 7 (((s.linkStage r).map fun (d : BitVec 6 × DieScore) => d.2.nmiss.toNat).sum) with
          run := none, now := some { heat := s.heat.heat - 2, dies := s.linkStage r } })) := by
  let v := if b && !s.te.waited && s.windowCount s.trees != 0 then
    (s.setTe { (s.te.count 2 1) with waited := true }).stickNote 1 5 0x5303 (le 8 s.heat.heat.toNat) else s
  have hv : SameScoring s v ∧ v.te.now = s.te.now ∧ v.te.pub = s.te.pub := by
    simp only [v]
    split
    · refine ⟨.of_parts (by simp) (by simp) (State.stickNote_cplStat ..) ?_, ?_, ?_⟩ <;> simp [State.setTe, Tree.count]
    · exact ⟨.of_parts (.refl _ _) rfl rfl ⟨rfl, rfl, rfl⟩, rfl, rfl⟩
  obtain ⟨hsame, hnow, hpub⟩ := hv
  let u := (v.setTe (v.te.count 3 n.toNat)).memCes 7 n.toNat
  have hu : SameScoring s u := by
    refine .of_parts (hsame.rest.trans (by simp [u])) ?_ ?_ ?_
    · simp only [u, State.memCes_kept, State.setTe_kept]
      simp only [v]
      split <;> simp
    · exact (State.memCes_cplStat ..).trans hsame.cplStat
    · simp [u, State.setTe, Tree.count, hsame.store, hsame.windows, hsame.run]
  have hheat : u.heat = s.heat := (hu.rest .heat (by decide)).symm
  have hexec : exec (.treeScoring b n []) s = .next (
      if r.waves < s.waveCount s.trees then u.setTe { u.te with run := some r }
      else u.setTe
        { (u.te.count 5 (s.linkStage r).length).count 7
            (((s.linkStage r).map fun (d : BitVec 6 × DieScore) => d.2.nmiss.toNat).sum) with
          run := none, now := some { heat := s.heat.heat - 2, dies := s.linkStage r } }) := by
    refine congrArg Host.Outcome.next ?_
    rw [hdue]
    change (match State.runWaves s.trees [] (u.waveCount s.trees - u.scoring.waves) u u.scoring with
      | (x, r) => if r.waves < x.waveCount s.trees then x.setTe { x.te with run := some r }
        else x.setTe
          { (x.te.count 5 (x.linkStage r).length).count 7
              (((x.linkStage r).map fun (d : BitVec 6 × DieScore) => d.2.nmiss.toNat).sum) with
            run := none, now := some { heat := x.heat.heat - 2, dies := x.linkStage r } }) = _
    rw [hu.scoring, hu.waveCount]
    have hrun := hu.runWaves s.trees (s.waveCount s.trees - s.scoring.waves) s.scoring
    have hclean := State.runWaves_clean s.trees (s.waveCount s.trees - s.scoring.waves) u s.scoring
    generalize State.runWaves s.trees [] (s.waveCount s.trees - s.scoring.waves) u s.scoring = p at hrun hclean ⊢
    obtain ⟨x, q⟩ := p
    obtain rfl : x = u := hclean
    obtain rfl : q = r := hrun.trans hr
    simp only [hu.waveCount, hu.linkStage, hheat]
  refine ⟨u, hu, ?_, ?_, fun h => ?_, fun h => ?_⟩
  · simpa [u, State.setTe, Tree.count] using hnow
  · simpa [u, State.setTe, Tree.count] using hpub
  · rw [hexec, if_pos h]
  · rw [hexec, if_neg (not_lt.2 h)]

theorem State.stuck_treeNote (s : State) (code : Nat) (data : List Byte) : (s.treeNote code data).stuck 1 5 = true := by
  exact (State.stuck_event ..).trans (s.stuck_stick_self (by decide) (by decide))

/-- A command of the tray that is refused for its state leaves the tree engine alone (R487). -/
theorem Posted.refused_te {code : Nat} {c : CmdDef} {p : Post} {s : State} (h : Posted code c p s) (ht : s.isT = true)
    (hrun : c.run p s = none) :
    ∃ t, s.command code p = .next t ∧ t.te = s.te ∧ t.stuck 2 6 = true ∧
      Unchanged [.sys, .integ, .trc, .ttrc, .ul, .roles, .evr] s t := by
  obtain ⟨t, hnext, -, hstuck, hun⟩ := h.refused_tray ht hrun
  exact ⟨t, hnext, (hun .te (by decide)).symm, hstuck, hun⟩

theorem posted_teBlobBegin {p : Post} {s : State} (hr : s.running = true) (ht : s.isT = true) (hrole : 2 ≤ p.role.toNat) :
    Posted 0x0501 ⟨0x0501, 2, 2, anyArg, anyArg, anyArg, cmdTeBlobBegin⟩ p s :=
  ⟨hr, rfl, hrole, by simp, by simp, by simp, testBit_tray ht⟩

theorem posted_teBlobEnd {p : Post} {s : State} (hr : s.running = true) (ht : s.isT = true) (hrole : 2 ≤ p.role.toNat) :
    Posted 0x0502 ⟨0x0502, 2, 2, anyArg, anyArg, anyArg, cmdTeBlobEnd⟩ p s :=
  ⟨hr, rfl, hrole, by simp, by simp, by simp, testBit_tray ht⟩

theorem posted_teBlobCheck {p : Post} {s : State} (hr : s.running = true) (ht : s.isT = true) (hrole : 1 ≤ p.role.toNat) :
    Posted 0x0503 ⟨0x0503, 2, 1, anyArg, anyArg, anyArg, cmdTeBlobCheck⟩ p s :=
  ⟨hr, rfl, hrole, by simp, by simp, by simp, testBit_tray ht⟩

theorem now_none_of_scoreDue {s : State} (hdue : s.scoreDue = true) : s.te.now = none := by
  simp only [State.scoreDue, Bool.and_eq_true, Option.isNone_iff_eq_none] at hdue
  exact hdue.1.1.1.2

/-- Settles O43: the scoring by `exec_treeScoring_due`, the commands by `Posted`. -/
theorem treeEngine : Obligations.TreeEngine := by
  refine ⟨?_, ?_, ?_, ?_, ?_, ?_, ?_, ?_, ?_, ?_, ?_, ?_, ?_, ?_, ?_, ?_⟩
  · intro b n r s hdue hr hwaves
    obtain ⟨u, hu, -, hpub, -, hlast⟩ := exec_treeScoring_due hdue b n hr
    exact ⟨_, hlast hwaves, rfl, rfl, hpub, hu.store, hu.rest.trans (by simp)⟩
  · intro b n r s hdue hr hwaves
    obtain ⟨u, hu, hnow, hpub, hwaits, -⟩ := exec_treeScoring_due hdue b n hr
    exact ⟨_, hwaits hwaves, hnow.trans (now_none_of_scoreDue hdue), rfl, hpub, hu.store, hu.rest.trans (by simp)⟩
  · intro b n l s hdue
    simp [exec, execTreeScoring, hdue]
  · intro s hdue hlp hwin hfree
    simp [exec, execStreamWindowLoad, hdue, hlp, hfree, hwin]
  · intro s hstays
    refine congrArg Host.Outcome.next (if_pos ?_)
    rcases hstays with h | h | h <;> simp [h]
  · intro r s hst hr hfail
    simp [exec, execBlobCheckDone, hst, hr, hfail]
  · intro r x s hst hr hfail
    have hexec : exec (.blobCheckDone r) s = .next ((s.setTe
        { s.te with st := 5, chkReason := BitVec.ofNat 4 x.1, chkTree := BitVec.ofNat 16 x.2.1, chkNode := BitVec.ofNat 32 x.2.2 }
        ).treeNote 0x5302 (le 1 x.1 ++ le 2 x.2.1 ++ le 4 x.2.2)) := by
      refine congrArg Host.Outcome.next ((if_neg (by simp [hst, hr])).trans ?_)
      rw [hfail]
    refine ⟨_, hexec, ?_⟩
    exact ⟨by simp [State.treeNote, State.setTe], State.stuck_treeNote .., by simp⟩
  · intro r s hst
    exact congrArg Host.Outcome.next (if_pos (.inl hst))
  · intro s hst hr hlp
    simp [exec, execBlobCopyDone, hst, hr, hlp]
  · intro s hst hready
    refine ⟨_, congrArg Host.Outcome.next (if_pos ⟨hst, hready⟩), ?_, by simp⟩
    simp [State.setTe]
  · intro s hready
    simp [exec, execTeModelReady, hready]
  · intro p s hr ht hrole huser hpf hdig hst
    have hidle : (!s.user || s.pwr.pf || s.treeDigest == 0 || (1 ≤ s.te.st.toNat && s.te.st.toNat ≤ 3 : Bool)) = false := by
      have hbusy : (1 ≤ s.te.st.toNat && s.te.st.toNat ≤ 3 : Bool) = false := by
        simp
        omega
      rw [huser, hpf, hbusy, beq_eq_false_iff_ne.2 hdig]
      rfl
    refine ⟨_, (posted_teBlobBegin hr ht hrole).accepted (if_neg (by rw [hidle]; decide)), ?_⟩
    generalize hw : (s.setTe { s.te with st := 1, recv := 0, beyond := false, hostLoad := true }).event 0x5306
      (le 8 s.blobBase ++ le 8 s.blobLen) p.role.toNat p.path.toNat = w
    have hkept : w.kept = s.kept := by
      rw [← hw]
      simp
    have hun := State.setResult_unchanged (s := w) ((State.isT_of_kept hkept).trans ht) 0x0501 1 p
    refine ⟨(hun .te (by decide)).symm.trans ?_, Unchanged.trans ?_ (hun.mono (by decide))⟩
    · rw [← hw]
      simp [State.setTe]
    · rw [← hw]
      simp
  · intro p s hr ht hrole hpf
    exact (posted_teBlobBegin hr ht hrole).refused_te ht (if_pos (by simp [hpf]))
  · intro p s hr ht hrole hst
    exact (posted_teBlobEnd hr ht hrole).accepted (if_neg (by simp [hst]))
  · intro p s hr ht hrole hst
    exact (posted_teBlobCheck hr ht hrole).accepted (if_neg (by omega))
  · intro p s hr ht hrole hst
    exact (posted_teBlobCheck hr ht hrole).refused_te ht (if_pos hst)

end Sys2Proof.Machine
end

section
/-! PROOF. The detectors of a heat and the umpire's evaluation (R334, R338, R341, R349). -/

namespace Sys2Proof.Machine

theorem State.det_setDet_self (s : State) (n k : Nat) (d : Det) : (s.setDet n k d).det n k = d := by
  simp [State.setDet, State.setUmp, State.det]

/-- A count that fits a word is within the range of a presented value (R338). -/
theorem sat62_word (w : Word) : sat62 w.toNat = w.toNat := by
  have hlt := w.isLt
  simp only [sat62]
  omega

/-- A THRESH detector that is evaluated once, without a fault and without an alarm standing (R338, R341). -/
theorem State.detStep_thresh {s : State} {n : Nat} (hkind : s.detKind n = 1) (hflags : s.detf n 1 1 = 0) (hcpl : s.cpl 2 n = false)
    {d : Det} (hd : d.alarm = false) (x : Int) :
    s.detStep n d x = { d with
      v := sat62 x, init := true, upd := true, alarm := decide (s.detHi n * 2 ^ s.detf n 6 1 < sat62 x) } := by
  have halarm : s.alarmOf n (sat62 x) false = decide (s.detHi n * 2 ^ s.detf n 6 1 < sat62 x) := by
    simp only [State.alarmOf, hflags, hcpl, Nat.zero_testBit, Bool.false_and, Bool.false_eq_true, if_false]
    split
    · next hhi => exact (decide_eq_true hhi).symm
    · next hhi => simp [hhi]
  simp only [State.detStep, hkind, if_true, hd, halarm]

/-- The state in which the detectors of a heat are evaluated. -/
def State.detBegun (s : State) : State :=
  s.setUmp { s.ump with detDone := true, scores := s.te.now, det := Tab.mapV default s.ump.det fun d => { d with upd := false } }

theorem exec_detectorUpdate_due {s : State} (hr : s.running = true) (huser : s.user = true) (hdone : s.ump.detDone = false) :
    exec .detectorUpdate s = .next ((List.range s.nDet).foldl State.detRun s.detBegun) :=
  congrArg Host.Outcome.next (if_neg (by simp [hr, huser, hdone]))

/-- The umpire's evaluation of a heat (R349). -/
theorem exec_umpireEvaluation_due {s : State} (hr : s.running = true) (huser : s.user = true) (hdone : s.ump.detDone = true)
    (hwork : s.ump.work = none) :
    exec .umpireEvaluation s = .next (s.setUmp { s.ump with work := some ⟨s.heat.heat, s.compounds.foldl (fun t m =>
      (s.ruleDies m).foldl (fun t k => Tab.set 0 t (65 * lastOf m + k) (s.compoundCond m k)) t) []⟩ }) :=
  congrArg Host.Outcome.next (if_neg (by simp [hr, huser, hdone, hwork]))

/-- Settles O44: one THRESH detector by `State.detStep_thresh`. -/
theorem detectorsAndUmpire : Obligations.DetectorsAndUmpire := by
  refine ⟨?_, ?_, ?_, ?_, ?_, ?_⟩
  · intro s hr huser hdone hn
    rw [exec_detectorUpdate_due hr huser hdone, hn]
    rfl
  · intro s hd hr huser hdone hn hkind hflags hsrc hcpl hdet
    have hinput : s.detBegun.detInput 0 own = .fin s.ump.drops.toNat := by
      have hsrc' : s.detBegun.detf 0 2 1 = 0x21 := hsrc
      simp only [State.detInput, hsrc']
      rfl
    have hdies : s.detBegun.detDies 0 = [own] := if_pos (by rw [show s.detBegun.isD = s.isD from rfl, hd]; rfl)
    have hnew : s.detBegun.det 0 own = default := by
      simp [State.detBegun, State.setUmp, State.det, hdet, Tab.mapV]
    have hrun : s.detBegun.detRun 0 = s.detBegun.setDet 0 own (s.detBegun.detStep 0 default s.ump.drops.toNat) := by
      have hkind' : s.detBegun.detKind 0 = 1 := hkind
      simp only [State.detRun, hkind', hdies, List.foldl_cons, List.foldl_nil, hinput, hnew]
      rfl
    have hstep : s.detBegun.detStep 0 default s.ump.drops.toNat = { (default : Det) with
        v := sat62 s.ump.drops.toNat, init := true, upd := true
        alarm := decide (s.detHi 0 * 2 ^ s.detf 0 6 1 < sat62 s.ump.drops.toNat) } :=
      State.detStep_thresh (s := s.detBegun) hkind hflags hcpl rfl _
    refine ⟨_, exec_detectorUpdate_due hr huser hdone, ?_⟩
    rw [hn, List.range_one, List.foldl_cons, List.foldl_nil, hrun, hstep, sat62_word, State.det_setDet_self]
    exact ⟨rfl, rfl, rfl, rfl, by simp [State.setDet, State.detBegun]⟩
  · intro s hdone
    exact congrArg Host.Outcome.next (if_pos (by simp [hdone]))
  · intro s hr huser hdone hwork
    exact ⟨_, exec_umpireEvaluation_due hr huser hdone hwork, rfl, rfl, by simp⟩
  · intro s hr huser hdone hwork hn
    have hnone : s.compounds = [] := by simp [State.compounds, hn, State.compoundsFrom]
    rw [exec_umpireEvaluation_due hr huser hdone hwork, hnone]
    rfl
  · intro s hstays
    exact congrArg Host.Outcome.next (if_pos (by rcases hstays with h | h <;> simp [h]))

end Sys2Proof.Machine
end

section
/-! PROOF. The compression engine: key requests, frames at the tray, ratio windows (R32, R206 to R213). -/

namespace Sys2Proof.Machine

section

variable {s w : State} (h : Unchanged [.ul, .nb] s w)
include h

theorem Unchanged.statics_eq : w.statics = s.statics := by
  have hld : w.ld = s.ld := (h .ld (by decide)).symm
  simp only [State.statics, State.nStatic, State.cmpf, State.img, State.staticBytes, hld]

theorem Unchanged.pmodeOf_eq (k : Nat) (fsid : BitVec 48) : w.pmodeOf k fsid = s.pmodeOf k fsid := by
  have htray : w.tray = s.tray := (h .tray (by decide)).symm
  have hld : w.ld = s.ld := (h .ld (by decide)).symm
  have hflags : w.expFlags k = s.expFlags k := by simp only [State.expFlags, State.img, hld]
  have hcached : w.cachedImage k = s.cachedImage k := by
    unfold State.cachedImage State.dieImg State.noImage
    rw [hflags, htray]
  funext u
  rw [State.pmodeOf, State.pmodeOf, hcached]

theorem Unchanged.decRef_eq : w.decRef = s.decRef := by
  have hcmp : w.cmp = s.cmp := (h .cmp (by decide)).symm
  funext x
  simp only [State.decRef, hcmp]

end

section

variable {s : State} {k : Nat} {b : List Byte}

/-- A frame of a die that decodes at the tray (R211): what is taken from the link and copied north leaves the decoder's tables
alone. -/
theorem State.trayFrame_ok {d : Decoded} (hdec : decodeSample s.statics (s.pmodeOf k (readHdr b).fsid) s.decRef b = .ok d) :
    s.trayFrame k b = ((((s.take k 1 0x41).rawNorth k 0x41 b).newRef d).intake k d.hdr.tag
      fun y => { y with got := y.got + 1, shared := if d.hdr.kind = 3 then b else y.shared }).keepSample k d := by
  have hun := s.rawTaken_unchanged k 0x41 b
  unfold State.trayFrame
  dsimp only
  rw [hun.statics_eq, hun.pmodeOf_eq, hun.decRef_eq, hdec]

theorem State.trayFrame_error {r : Nat} (hdec : decodeSample s.statics (s.pmodeOf k (readHdr b).fsid) s.decRef b = .error r) :
    s.trayFrame k b = ((s.take k 1 0x41).rawNorth k 0x41 b).frameRefused k r b := by
  have hun := s.rawTaken_unchanged k 0x41 b
  unfold State.trayFrame
  dsimp only
  rw [hun.statics_eq, hun.pmodeOf_eq, hun.decRef_eq, hdec]

end

/-- The figures of a refused frame (R211). -/
theorem State.frameRefused_cmp (s : State) (k reason : Nat) (b : List Byte) : (s.frameRefused k reason b).cmp = { s.cmp with
    decFails := satInc s.cmp.decFails, decFail := true, keyReq := satInc s.cmp.keyReq
    decLast := BitVec.ofNat 32 (fieldAt reason 16 3 + fieldAt (leAt b 0 1) 8 3 + k) } := by
  unfold State.frameRefused
  extract_lets kind fsid old c t u v top h gone r w
  have hu : u.cmp = c := by
    simp only [u]
    split <;> simp [t, State.setCmp]
  have hv : v.cmp = c := (State.send_unchanged u k 0 0x21 _ .cmp (by decide)).symm.trans hu
  split
  · exact hv
  · split
    · exact hv
    · exact hv

/-- Settles O46: the frames by `State.trayFrame_ok` and `State.trayFrame_error`, the others command by command. -/
theorem compressionEngine : Obligations.CompressionEngine := by
  refine ⟨?_, ?_, ?_, ?_, ?_, ?_, ?_⟩
  · intro k f s hd hr hlo hhi
    simp only [exec, execKeyReq, hd, hr, hlo, hhi, srcKey, and_self, Bool.not_true, Bool.or_self, Bool.false_eq_true, if_false, if_true]
  · intro k f s hd hr hk
    have hno : ¬(1 ≤ k.toNat ∧ k.toNat ≤ 3) := by
      rcases hk with rfl | hk
      · decide
      · omega
    simp only [exec, execKeyReq, hd, hr, if_neg hno, Bool.not_true, Bool.or_self, Bool.false_eq_true, if_false]
  · intro k b d s ht hr hraw hdec hn hkind htag hnext hroom
    have hin : ¬(d.hdr.tag = BitVec.allOnes 64 ∨ d.hdr.tag.toNat < s.inr.next) := by
      rintro (h | h)
      · exact htag h
      · omega
    have hno : ((s.take k.toNat 1 0x41).rawNorth k.toNat 0x41 b) = s.take k.toNat 1 0x41 := by
      have hraw' : (s.take k.toNat 1 0x41).nbRaw k.toNat = false := by
        simpa only [State.nbRaw, State.rwd, State.take_rw] using hraw
      rw [State.rawNorth, hraw', if_neg Bool.false_ne_true]
    have hinr : (s.take k.toNat 1 0x41).inr = s.inr := (s.take_unchanged _ _ _ .inr (by decide)).symm
    have hshared : (fun y : DieRec => { y with got := y.got + 1, shared := if d.hdr.kind = 3 then b else y.shared }) =
        fun y => { y with got := y.got + 1 } := by simp [hkind]
    refine congrArg Host.Outcome.next ?_
    rw [if_neg (by simp [hr]), if_pos ht, State.trayFrame_ok hdec, hno, State.newRef, if_pos hn, State.intake,
      hinr, if_neg hin, if_pos hroom, State.keepSample, if_pos (.inl hn), hshared]
  · intro k b r s ht hr hdec
    refine ⟨_, congrArg Host.Outcome.next ((if_neg (by simp [hr])).trans (if_pos ht)), ?_, ?_⟩
    · rw [State.trayFrame_error hdec, State.frameRefused_cmp, (s.rawTaken_unchanged k.toNat 0x41 b .cmp (by decide)).symm]
    · simp
  · intro k b d s hd hr hdec hkind
    have hun : Unchanged [.ul, .nb] s (s.take 0 1 0x41) := (s.take_unchanged 0 1 0x41).mono (by decide)
    refine congrArg Host.Outcome.next ?_
    rw [if_neg (by simp [hr]), State.isT_of_isD hd, if_neg Bool.false_ne_true]
    dsimp only
    rw [hun.statics_eq, hun.decRef_eq, hdec]
    exact if_pos hkind
  · intro k s hlo hhi hdue hlow
    have hready : ¬(k.toNat = 0 ∨ 4 < k.toNat ∨ (!s.cmp.ratioDue.getLsbD (k.toNat - 1)) = true) := by
      simp only [hdue]
      simp
      omega
    refine ⟨_, congrArg Host.Outcome.next ((if_neg hready).trans (if_pos hlow)), ?_, by simp⟩
    simp [State.setCmp]
  · intro k s hlo hhi hdue hlow
    have hready : ¬(k.toNat = 0 ∨ 4 < k.toNat ∨ (!s.cmp.ratioDue.getLsbD (k.toNat - 1)) = true) := by
      simp only [hdue]
      simp
      omega
    exact congrArg Host.Outcome.next ((if_neg hready).trans (if_neg (not_lt.2 hlow)))

end Sys2Proof.Machine
end

section
/-! PROOF. What an event leaves of the links: the tray's go untouched, a die may send one message on its own (R176). And a
link that goes down (R415). -/

namespace Sys2Proof.Machine

/-- A value other than the default that is written over at once leaves no trace. -/
theorem Tab.set_set {α : Type} [DecidableEq α] {d v : α} (hv : v ≠ d) (t : Tab α) (i : Nat) (w : α) :
    Tab.set d (Tab.set d t i v) i w = Tab.set d t i w := by
  induction t with
  | nil => by_cases hw : w = d <;> simp [Tab.set, hv, hw]
  | cons p t ih =>
    obtain ⟨j, x⟩ := p
    rcases lt_trichotomy i j with h | rfl | h
    · by_cases hw : w = d <;> simp [Tab.set, hv, hw, h, h.ne]
    · by_cases hw : w = d <;> simp [Tab.set, hv, hw]
    · by_cases hw : w = d <;> simp_all [Tab.set, h.ne', not_lt.2 h.le]

theorem State.setLink_setLink (s : State) (k : Nat) {l : Link} (h : l ≠ Link.init) (m : Link) :
    (s.setLink k l).setLink k m = s.setLink k m := by
  simp only [State.setLink, Tab.set_set h]

theorem State.internalNow_ul (s : State) (code : Nat) (data : List Byte) : (s.internalNow code data).ul = s.ul := by simp

theorem State.send_of_ul {s t : State} (h : t.ul = s.ul) (k v mtype : Nat) (b : List Byte) :
    (t.send k v mtype b).ul = (s.send k v mtype b).ul := by
  unfold State.send State.setLink State.link
  rw [h]

/-- What fires the trigger leaves the links as they are, but for the message of a die. -/
theorem State.fireWith_ul (s : State) (src : Nat) {more : State → State} (hmore : ∀ t, (more t).ul = t.ul) :
    ∃ b, (s.fireWith src more).ul = s.ul ∨ (s.fireWith src more).ul = (s.send 0 0 0x15 b).ul := by
  unfold State.fireWith
  extract_lets stop t at_ data u v w x
  have hx : x.ul = s.ul := by simp [x, w, u, hmore, t]
  refine ⟨le 4 src ++ le 4 at_.toNat ++ le 8 x.heat.heat.toNat, ?_⟩
  split
  · exact .inr (State.send_of_ul hx ..)
  · exact .inl hx

theorem State.event_ul (s : State) (code : Nat) (data : List Byte) (role path : Nat) :
    ∃ b, (s.event code data role path).ul = s.ul ∨ (s.event code data role path).ul = (s.send 0 0 0x15 b).ul := by
  unfold State.event
  dsimp only
  split
  · exact ⟨[], .inl rfl⟩
  · unfold State.happen
    dsimp only
    split
    · exact ⟨[], .inl (by simp [State.eventQuiet])⟩
    · split
      · have hquiet (q : RecIn) : (s.eventQuiet q).ul = s.ul := by simp [State.eventQuiet]
        obtain ⟨b, hb⟩ := State.fireWith_ul (s.eventQuiet (s.recIn code data role path)) 0 (more := id) fun _ => rfl
        exact ⟨b, hb.imp (·.trans (hquiet _)) (·.trans (State.send_of_ul (hquiet _) ..))⟩
      · exact State.fireWith_ul s 0 fun t => by simp

theorem State.send_tr (s : State) (j v mtype k : Nat) (b : List Byte) : ((s.send j v mtype b).link k).tr = (s.link k).tr := by
  by_cases h : k = j
  · subst h
    rw [State.send, State.link_setLink_self]
  · rw [State.send, State.link_setLink_other _ _ h]

theorem State.event_tr (s : State) (code : Nat) (data : List Byte) (role path k : Nat) :
    ((s.event code data role path).link k).tr = (s.link k).tr := by
  obtain ⟨b, h | h⟩ := s.event_ul code data role path
  · rw [State.link_of_ul h]
  · rw [State.link_of_ul h, State.send_tr]

theorem State.event_badMsg (s : State) (code : Nat) (data : List Byte) (role path : Nat) :
    (s.event code data role path).ul.badMsg = s.ul.badMsg ∧ (s.event code data role path).ul.lastBad = s.ul.lastBad := by
  obtain ⟨b, h | h⟩ := s.event_ul code data role path <;> rw [h] <;> exact ⟨rfl, rfl⟩

theorem State.stick_ul (s : State) (r b : Nat) : (s.stick r b).ul = s.ul := rfl

/-- A link that was UP goes down (R415, Table 13-11). -/
theorem State.linkDown_up {s : State} {k : Nat} (h : (s.link k).tr.state = 4) {cause : Nat} :
    ((s.linkDown k cause).link k).tr.state = 0 ∧ ((s.linkDown k cause).link k).tr.cause = BitVec.ofNat 4 cause ∧
      (s.linkDown k cause).stuck 2 0 = true ∧ Unchanged [.sys, .integ, .trc, .ttrc, .ul, .evr] s (s.linkDown k cause) := by
  unfold State.linkDown State.linkDownBy
  dsimp only
  rw [if_pos h]
  generalize hd : ({ (s.link k).toDown.count 2 with
    tr := { ((s.link k).toDown.count 2).tr with
      cause := BitVec.ofNat 4 cause
      haveSession := ((s.link k).toDown.count 2).tr.haveSession && decide (cause ≠ 9) } } : Link) = d
  generalize hw : (if (s.setLink k d).isD then { (s.setLink k d) with sys := { (s.setLink k d).sys with trayValid := false } }
    else s.setLink k d) = w
  have hlink : w.ulStick.link k = d := by
    rw [State.ulStick, State.link_of_ul (State.stick_ul ..), ← hw]
    split <;> exact State.link_setLink_self ..
  have hun : Unchanged [.sys, .ul] s w := by
    rw [← hw]
    split <;> simp
  rw [State.event_tr, hlink, ← hd]
  exact ⟨rfl, rfl, (State.stuck_event ..).trans (State.stuck_stick_self _ (by decide) (by decide)),
    (hun.mono (by decide)).trans (by simp [State.ulStick])⟩

end Sys2Proof.Machine
end

section
/-! PROOF. Flits leave, arrive, are acknowledged and replayed, and join into messages (R404 to R428, R570). -/

namespace Sys2Proof.Machine

namespace Link

variable (l : Link)

/-- Sending on channel `v` leaves in its place what is sent. -/
theorem txv_sendNew (v : Nat) (hv : v < l.tx.length) (mtype : Byte) (first last : Bool) (p : List Byte) :
    (l.sendNew v mtype first last p).txv v =
      { l.txv v with avail := (l.txv v).avail - 1, unretired := (l.txv v).unretired ++ [l.txNext] } := by
  simp [sendNew, crdSent, txv, hv]

theorem txv_set_self (t : TxVc) {v : Nat} (hv : v < l.tx.length) : ({ l with tx := l.tx.set v t } : Link).txv v = t := by
  simp [txv, hv]

/-- A message of one flit at the head of a channel's queue. -/
theorem sendVc_whole {v : Nat} {m : Msg} {r : List Msg} (hbegun : (l.txv v).begun = none) (hqueue : (l.txv v).queue = m :: r)
    (hlen : m.body.length ≤ 52) :
    l.sendVc v = { l with tx := l.tx.set v { l.txv v with queue := r, begun := none } }.sendNew v m.mtype true true m.body := by
  simp only [sendVc, hbegun, hqueue, hlen, if_true, decide_true, List.take_of_length_le hlen]

/-- A flit that acknowledges nothing and returns no credit. -/
theorem honour_none {f : List Byte} (h : leAt f 4 4 = 0) : l.honour f = l := by
  simp [honour, h, bits]

/-- The link at the next entry of its pattern (R409). -/
def stepped : Link := { l with patPos := l.patPos + 1 }

theorem ready_stepped (v : Nat) : l.stepped.ready v = l.ready v := rfl

theorem sendQueued_eq (pat : Nat) : l.sendQueued pat =
    if l.ready (bits pat (2 * l.patPos.toNat + 1) (2 * l.patPos.toNat)) then
      l.stepped.sendVc (bits pat (2 * l.patPos.toNat + 1) (2 * l.patPos.toNat))
    else match [0, 1, 2, 3].find? l.ready with
      | some w => l.stepped.sendVc w
      | none => l.stepped.sendLcf 0 [] := by
  have hready : l.stepped.ready = l.ready := funext l.ready_stepped
  unfold sendQueued
  change (if l.stepped.ready _ then l.stepped.sendVc _ else match [0, 1, 2, 3].find? l.stepped.ready with
    | some w => l.stepped.sendVc w
    | none => l.stepped.sendLcf 0 []) = _
  rw [hready]

theorem patEntry_lt (pat p : Nat) : bits pat (2 * p + 1) (2 * p) < 4 := by
  rw [bits, show 2 * p + 1 + 1 - 2 * p = 2 by omega]
  omega

/-- A channel with a message, credits beyond CTRL's reserve, and room in the replay buffer. -/
theorem ready_of_queue {v : Nat} {m : Msg} {r : List Msg} (hqueue : (l.txv v).queue = m :: r) (hcredit : 4 < (l.txv v).avail.toNat)
    (hroom : l.replay.length < 512) : l.ready v = true := by
  have hmin : (if v = 0 then 4 else 0) < (l.txv v).avail.toNat := by split <;> omega
  simp only [ready, hqueue, hmin, hroom, List.isEmpty_cons, Bool.not_false, Bool.or_true, decide_true, Bool.and_self]

theorem with_replayAt_none {l : Link} (h : l.replayAt = none) : ({ l with replayAt := none } : Link) = l := by
  obtain ⟨_, _, _, _, _, _, _, _, _, _, _, _, _, _, _, _, _⟩ := l
  subst h
  rfl

end Link

theorem nextReplay_head {l : Link} {f : TxFlit} {r : List TxFlit} (hreplay : l.replay = f :: r) (hat : l.replayAt = some f.seq.toNat) :
    l.nextReplay = some f := by
  have hdist : (f.seq - BitVec.ofNat 12 f.seq.toNat).toNat = 0 := by
    rw [BitVec.ofNat_toNat, BitVec.setWidth_eq, BitVec.sub_self]
    rfl
  simp only [Link.nextReplay, hat, hreplay]
  exact List.find?_cons_of_pos (by rw [hdist]; decide)

section

variable {k : BitVec 6} {b : Bool} {s : State}


theorem exec_flitSlot_up (hup : (s.link k.toNat).tr.state = 4) : exec (.flitSlot k b) s = .next (s.slotUp k.toNat b) := by
  change Host.Outcome.next (if (s.link k.toNat).tr.state.toNat = 1 then _ else _) = _
  rw [hup]
  rfl

/-- An UP link with no NAK and no keepalive due, whose partner has been heard, replays what it holds. -/
theorem slotUp_replays (hkeep : (s.link k.toNat).keepDue = false) (hnak : (s.link k.toNat).nakDue = false)
    (hgood : (s.link k.toNat).tr.goodSinceUp = true) {f : TxFlit} (hf : (s.link k.toNat).nextReplay = some f) :
    s.slotUp k.toNat false =
      if 16 ≤ f.sends then s.linkDown k.toNat 8
      else
        s.setLink k.toNat (({ s.link k.toNat with
          replay := (s.link k.toNat).replay.map fun g => if g.seq = f.seq then { g with sends := g.sends + 1 } else g
          replayAt := some (f.seq.toNat + 1)
          out := flitWords (flitBytes (f.word0 true) (s.link k.toNat).word1 f.payload) } : Link).crdSent.count 5) := by
  unfold State.slotUp
  dsimp only
  rw [if_neg (by simp [hnak]), if_neg (by simp [hkeep]), if_neg (by simp [hgood]), hf]
  rfl

/-- An UP link with nothing due and no replay under way. -/
theorem exec_flitSlot_traffic (hup : (s.link k.toNat).tr.state = 4) (hkeep : (s.link k.toNat).keepDue = false)
    (hnak : (s.link k.toNat).nakDue = false)
    (hgood : (s.link k.toNat).tr.goodSinceUp = true) (hat : (s.link k.toNat).replayAt = none) :
    exec (.flitSlot k b) s = .next (s.setLink k.toNat ((s.link k.toNat).sendTraffic s.vcPat)) := by
  have hnext : (s.link k.toNat).nextReplay = none := by simp [Link.nextReplay, hat]
  rw [exec_flitSlot_up hup, State.slotUp]
  dsimp only
  rw [if_neg (by simp [hnak]), if_neg (by simp [hkeep]), if_neg (by simp [hgood]), hnext]
  dsimp only
  rw [Link.with_replayAt_none hat]

end

/-- A flit on the pairing of an UP link (R414). -/
theorem exec_flitReceive_up {k : BitVec 6} {q : Bool} {d : BitVec 256 × BitVec 256} {s : State}
    (hst : (s.link k.toNat).tr.state = 4) (hpair : (s.link k.toNat).tr.pairing = q) :
    exec (.flitReceive k q d) s = .next (s.flitUp k.toNat (flitOfWords d.1 d.2)) := by
  refine congrArg Host.Outcome.next ((if_neg (by rw [hst]; decide)).trans ((if_neg (not_not.2 hpair)).trans (if_pos ?_)))
  rw [hst]
  rfl

/-- The flit that the link waits for, with room in its buffer (R419). -/
theorem State.sequenced_expected {s : State} {k : Nat} {f : List Byte} (hrpl : fRpl f = false)
    (hseq : fSeq f = (s.link k).rxExp) (hroom : ((s.link k).rx.getD (fVc f) default).buf.length < s.rxCap (fVc f)) :
    s.sequenced k f = s.setLink k { s.link k with
      rx := (s.link k).rx.set (fVc f) { (s.link k).rx.getD (fVc f) default with
        buf := ((s.link k).rx.getD (fVc f) default).buf ++ [flitOf f] }
      rxExp := (s.link k).rxExp + 1, ackV := true, nakOut := false } := by
  unfold State.sequenced
  rw [hrpl]
  dsimp only
  rw [if_neg Bool.false_ne_true, if_pos (by rw [hseq, BitVec.sub_self]; rfl), if_pos hroom]

/-! The receive side: a flit leaves its buffer for the message queue. -/

/-- A link whose flit at the head of a buffer has been taken, its credit pending (R425). -/
def Link.popped (l : Link) (v : Nat) (rest : List TxFlit) : Link :=
  { l with rx := l.rx.set v { l.rx.getD v default with buf := rest, credits := (l.rx.getD v default).credits + 1 } }

theorem Link.popped_rx (l : Link) {v : Nat} {f : TxFlit} {rest : List TxFlit} (hbuf : (l.rx.getD v default).buf = f :: rest) :
    (l.popped v rest).rx.getD v default =
      { l.rx.getD v default with buf := rest, credits := (l.rx.getD v default).credits + 1 } := by
  have hv : v < l.rx.length := by
    by_contra hv
    rw [List.getD_eq_default _ _ (not_lt.1 hv)] at hbuf
    cases hbuf
  simp [Link.popped, hv]

/-- A link with a credit to return is not as at reset. -/
theorem Link.ne_init {l : Link} {v : Nat} (h : (l.rx.getD v default).credits ≠ 0) : l ≠ Link.init := by
  rintro rfl
  refine h ?_
  rw [Link.init, List.getD_eq_getElem?_getD, List.getElem?_replicate]
  split <;> rfl

section

variable {s : State} {k : BitVec 6} {v : BitVec 2} {f : TxFlit} {rest : List TxFlit}
  (hbuf : ((s.link k.toNat).rx.getD v.toNat default).buf = f :: rest)
include hbuf

theorem exec_messageDelivery_room (hroom : ((s.link k.toNat).rx.getD v.toNat default).held < Config.rxDepth v) :
    exec (.messageDelivery k v) s =
      .next ((s.setLink k.toNat ((s.link k.toNat).popped v.toNat rest)).assemble k.toNat v.toNat f) := by
  unfold exec execMessageDelivery
  dsimp only
  rw [hbuf]
  exact congrArg Host.Outcome.next (if_pos hroom)

theorem setLink_popped (m : Link) :
    (s.setLink k.toNat ((s.link k.toNat).popped v.toNat rest)).setLink k.toNat m = s.setLink k.toNat m := by
  refine State.setLink_setLink _ _ (Link.ne_init (v := v.toNat) ?_) _
  rw [Link.popped_rx _ hbuf]
  exact Nat.succ_ne_zero _

end

/-- A whole message that Table 13-6 allows joins the queue (R408). -/
theorem State.deliverMsg_good {s : State} {k v n : Nat} {m : Msg} (h : s.badReason v m = 0) :
    s.deliverMsg k v n m = s.setLink k { s.link k with
      rx := (s.link k).rx.set v { (s.link k).rx.getD v default with queue := ((s.link k).rx.getD v default).queue ++ [(n, m)] } } :=
  if_neg (not_not.2 h)

/-- The record of a sticky bit leaves the figures of discarded messages alone. -/
theorem State.stickNote_badMsg (s : State) (r b code : Nat) (data : List Byte) :
    (s.stickNote r b code data).ul.badMsg = s.ul.badMsg ∧ (s.stickNote r b code data).ul.lastBad = s.ul.lastBad := by
  unfold State.stickNote State.stickOnce
  dsimp only
  split
  · obtain ⟨hbad, hlast⟩ := ((s.stick r b).noted r b code).event_badMsg code data 0 0
    have hnoted : ((s.stick r b).noted r b code).ul = s.ul := by simp
    exact ⟨hbad.trans (by rw [hnoted]), hlast.trans (by rw [hnoted])⟩
  · exact ⟨rfl, rfl⟩

theorem State.stuck_noted (s : State) (r b key : Nat) : (s.noted r b key).stuck = s.stuck := by
  unfold State.noted
  split <;> rfl

theorem State.stuck_stickNote (s : State) {r b : Nat} (hr : r < 4) (hb : b < 32) (code : Nat) (data : List Byte) :
    (s.stickNote r b code data).stuck r b = true := by
  unfold State.stickNote State.stickOnce
  dsimp only
  split
  · rw [State.note, State.stuck_event, State.stuck_noted, s.stuck_stick_self hr hb]
  · exact s.stuck_stick_self hr hb

/-- A discarded message (R408). -/
theorem State.badMsg_leaves (s : State) (k mtype reason : Nat) :
    (s.badMsg k mtype reason).ul.badMsg = satInc s.ul.badMsg ∧
      (s.badMsg k mtype reason).ul.lastBad = BitVec.ofNat 32 (fieldAt reason 24 3 + fieldAt mtype 16 8 + k) ∧
      (s.badMsg k mtype reason).stuck 2 0 = true ∧ Unchanged [.sys, .integ, .trc, .ttrc, .ul, .evr] s (s.badMsg k mtype reason) := by
  unfold State.badMsg
  dsimp only
  generalize hw : ({ s with ul := { s.ul with
    badMsg := satInc s.ul.badMsg, lastBad := BitVec.ofNat 32 (fieldAt reason 24 3 + fieldAt mtype 16 8 + k) } } : State) = w
  have hun : Unchanged [.ul] s w := by rw [← hw]; simp
  obtain ⟨hbad, hlast⟩ := w.stickNote_badMsg 2 0 0x5604 (le 1 k ++ le 1 mtype ++ le 1 reason)
  refine ⟨?_, ?_, State.stuck_stickNote _ (by decide) (by decide) .., (hun.mono (by decide)).trans (by simp)⟩
  · rw [hbad, ← hw]
  · rw [hlast, ← hw]

/-- Settles O49: what leaves by `exec_flitSlot_up`, what arrives by `exec_flitReceive_up`, messages by `State.assemble`. -/
theorem uplinkFlits : Obligations.UplinkFlits := by
  refine ⟨?_, ?_, ?_, ?_, ?_, ?_, ?_, ?_, ?_, ?_, ?_, ?_, ?_, ?_, ?_, ?_, ?_, ?_, ?_, ?_, ?_, ?_, ?_, ?_, ?_, ?_, ?_, ?_, ?_, ?_, ?_⟩
  · intro k b s hst
    change Host.Outcome.next (if (s.link k.toNat).tr.state.toNat = 1 then _ else _) = _
    rw [hst]
    rfl
  · intro k b s hst hcap hempty hseen
    refine congrArg Host.Outcome.next ((if_neg (by rw [hst]; decide)).trans ((if_pos (.inl (by rw [hst]; rfl))).trans
      ((if_pos hempty).trans ?_)))
    generalize hn : (s.link k.toNat).sendLcf 3 (s.capWords (s.link k.toNat)) = n
    have htr : n.tr = (s.link k.toNat).tr := by rw [← hn]; rfl
    rw [← htr] at hcap hseen
    have hsame : (n.tr.sentSeen || n.tr.gotCap) = n.tr.sentSeen := by rw [hcap, Bool.or_false]
    dsimp only
    rw [hsame, if_neg (by simp [hseen])]
  · intro k b s hst hnak hgood
    rw [exec_flitSlot_up hst, State.slotUp]
    simp only [hnak, hgood, Bool.and_self, if_true]
  · intro k b s hst hno hkeep
    have hnone : ((s.link k.toNat).nakDue && (s.link k.toNat).tr.goodSinceUp) = false := by rcases hno with h | h <;> simp [h]
    rw [exec_flitSlot_up hst, State.slotUp]
    simp only [hnone, hkeep, Bool.false_eq_true, if_false, if_true]
  · intro k b s hst hkeep hgood
    rw [exec_flitSlot_up hst, State.slotUp]
    simp only [hgood, hkeep, Bool.and_false, Bool.false_eq_true, if_false, Bool.not_false, if_true]
  · intro k f r s hst hkeep hnak hgood hreplay hat hsends
    refine ⟨_, (exec_flitSlot_up hst).trans (congrArg _ (slotUp_replays hkeep hnak hgood (nextReplay_head hreplay hat))), ?_⟩
    rw [if_neg (not_le.2 hsends), State.link_setLink_self]
    exact ⟨rfl, rfl, by simp [Link.count, Link.crdSent], rfl, by simp⟩
  · intro k f r b s hst hkeep hnak hgood hreplay hat hsends hb
    subst hb
    refine ⟨_, (exec_flitSlot_up hst).trans (congrArg _ (slotUp_replays hkeep hnak hgood (nextReplay_head hreplay hat))), ?_⟩
    rw [if_pos hsends]
    exact State.linkDown_up hst
  · intro k m r b s hst hkeep hnak hgood hat hins hcredit hroom
    refine ⟨_, exec_flitSlot_traffic hst hkeep hnak hgood hat, ?_⟩
    rw [Link.sendTraffic, hins]
    dsimp only
    rw [if_pos ⟨hcredit, hroom⟩, State.link_setLink_self]
    exact ⟨rfl, rfl, rfl, rfl, rfl, by simp⟩
  · intro k v m r b s hst hkeep hnak hgood hat hins hv htx hbegun hqueue hlen hcredit hroom
    have hready : (s.link k.toNat).ready v = true := Link.ready_of_queue _ hqueue hcredit hroom
    have hqueued : (s.link k.toNat).sendTraffic s.vcPat = (s.link k.toNat).sendQueued s.vcPat := by
      unfold Link.sendTraffic
      rcases hins with h | h
      · rw [h]
      · cases (s.link k.toNat).insertion with
        | nil => rfl
        | cons x l => exact if_neg (by simp [h])
    have hv4 : v < (s.link k.toNat).stepped.tx.length := by
      rw [hv]
      exact (Link.patEntry_lt _ _).trans_eq htx.symm
    have hset := Link.txv_set_self (s.link k.toNat).stepped { (s.link k.toNat).stepped.txv v with queue := r, begun := none } hv4
    refine ⟨_, exec_flitSlot_traffic hst hkeep hnak hgood hat, ?_⟩
    rw [hqueued, Link.sendQueued_eq, ← hv, if_pos hready, Link.sendVc_whole (s.link k.toNat).stepped hbegun hqueue hlen,
      State.link_setLink_self, Link.txv_sendNew _ _ (by rw [List.length_set]; exact hv4), hset]
    exact ⟨rfl, rfl, rfl, rfl, rfl, rfl, rfl, rfl, by simp⟩
  · intro k b s hst hkeep hnak hgood hat hins hready
    have hnone : [0, 1, 2, 3].find? (s.link k.toNat).ready = none :=
      List.find?_eq_none.2 fun v hv => by simpa using hready v hv
    rw [exec_flitSlot_traffic hst hkeep hnak hgood hat, Link.sendTraffic, hins]
    dsimp only
    rw [Link.sendQueued_eq, hready _ (List.mem_range.2 (Link.patEntry_lt _ _)), hnone]
    rfl
  · intro k q d s hst hrun hgood
    refine ⟨_, congrArg Host.Outcome.next (if_pos (by rw [hst]; rfl)), ?_, by simp⟩
    rw [State.link_setLink_self, hgood]
    exact if_pos (Nat.succ_le_succ hrun)
  · intro k d s hst hgood
    refine congrArg Host.Outcome.next ((if_pos (by rw [hst]; rfl)).trans ?_)
    rw [hgood]
    rfl
  · intro k q d r0 r1 r2 r3 s hst hpair hgood hlcf hrpl hword hseq hvc hrx hbuf
    refine ⟨_, (exec_flitReceive_up hst hpair).trans (congrArg _ (if_pos hgood)), ?_⟩
    dsimp only
    rw [Link.honour_none _ hword, hlcf, if_neg Bool.false_ne_true]
    generalize hl : ({ s.link k.toNat with tr := { (s.link k.toNat).tr with
      badRun := 0, goodSinceUp := (s.link k.toNat).tr.goodSinceUp || !(false && fType (flitOfWords d.1 d.2) == 3) } } : Link) = l
    have hlink : (s.setLink k.toNat l).link k.toNat = l := State.link_setLink_self ..
    have hlrx : l.rx = [r0, r1, r2, r3] := by rw [← hl]; exact hrx
    have hlseq : fSeq (flitOfWords d.1 d.2) = ((s.setLink k.toNat l).link k.toNat).rxExp := by rw [hlink, ← hl]; exact hseq
    have hroom : (((s.setLink k.toNat l).link k.toNat).rx.getD (fVc (flitOfWords d.1 d.2)) default).buf.length <
        (s.setLink k.toNat l).rxCap (fVc (flitOfWords d.1 d.2)) := by
      rw [hlink, hlrx, hvc]
      exact hbuf
    rw [State.sequenced_expected hrpl hlseq hroom, State.link_setLink_self, hlink, hvc, hlrx]
    refine ⟨rfl, ?_, rfl, ?_, rfl, ?_, ?_, ?_, by simp⟩ <;> rw [← hl]
    simp
  · intro k q d s hst hpair hgood hrun
    refine (exec_flitReceive_up hst hpair).trans (congrArg _ ((if_neg (by simp [hgood])).trans (if_neg ?_)))
    exact not_le.2 (Nat.succ_lt_succ hrun)
  · intro k q d s hst hpair hgood hrun
    refine ⟨_, (exec_flitReceive_up hst hpair).trans (congrArg _ ((if_neg (by simp [hgood])).trans (if_pos ?_))), ?_⟩
    · exact Nat.succ_le_succ hrun
    · generalize hl : (Link.count { s.link k.toNat with
        tr := { (s.link k.toNat).tr with badRun := (s.link k.toNat).tr.badRun + 1 } } 3).wantNak = l
      have hstays : ((s.setLink k.toNat l).link k.toNat).tr.state = 4 := by
        rw [State.link_setLink_self, ← hl]
        exact hst
      obtain ⟨h1, h2, h3, hun⟩ := State.linkDown_up (cause := 4) hstays
      exact ⟨h1, h2, h3, Unchanged.trans (by simp) hun⟩
  · intro k q d s hst hpair
    refine congrArg Host.Outcome.next ((if_neg (by rw [hst]; decide)).trans (if_pos hpair))
  · intro k n s hst hany
    refine ⟨_, congrArg Host.Outcome.next (if_pos hst), ?_⟩
    rw [State.link_setLink_self]
    exact ⟨rfl, rfl, fun j hj => State.link_setLink_other _ _ hj, by simp⟩
  · intro k n f g s hst hreplay hf hg
    have hack : ackFlits (n - 1) (s.link k.toNat).replay = [g] := by simp [ackFlits, hreplay, hf]
    refine congrArg Host.Outcome.next ((if_pos hst).trans ?_)
    simp only [hack, List.any_cons, hg, beq_self_eq_true, Bool.true_or, if_true]
  · intro k n s hst hnone
    have hnot (f : TxFlit) (hf : f ∈ (s.link k.toNat).replay) : (f.seq == n) = false ∧ (f.seq == n - 1) = false := by
      have := List.any_eq_false.1 hnone f hf
      simpa using this
    have hack : ackFlits (n - 1) (s.link k.toNat).replay = (s.link k.toNat).replay :=
      if_neg (by rw [Bool.not_eq_true, List.any_eq_false]; exact fun f hf => by simpa using (hnot f hf).2)
    have hat : ((s.link k.toNat).replay.any fun f => f.seq == n) = false :=
      List.any_eq_false.2 fun f hf => by simpa using (hnot f hf).1
    refine ⟨_, congrArg Host.Outcome.next (if_pos hst), ?_⟩
    simp only [hack, hat, Bool.false_eq_true, if_false, State.link_setLink_self]
    exact ⟨trivial, fun j hj => State.link_setLink_other _ _ hj, by simp⟩
  · intro k s hst
    exact congrArg Host.Outcome.next (if_pos hst)
  · intro k s hst
    exact congrArg Host.Outcome.next (if_neg hst)
  · intro k f r s hst hgood hreplay
    unfold exec execFlitReplayTimeout
    dsimp only
    rw [hreplay]
    exact congrArg Host.Outcome.next (if_pos ⟨hst, hgood⟩)
  · intro k s hreplay
    unfold exec execFlitReplayTimeout
    dsimp only
    rw [hreplay]
  · intro k v q r s hst hgood hreplay hun htx hfloor
    have hv : v.toNat < (s.link k.toNat).tx.length := htx ▸ v.isLt
    have hexec : exec (.creditLeak k v) s = .next (s.setLink k.toNat (({ s.link k.toNat with
        tx := (s.link k.toNat).tx.set v.toNat { (s.link k.toNat).txv v.toNat with
          unretired := r, window := ((s.link k.toNat).txv v.toNat).window - 1 } } : Link).count 7)) := by
      unfold exec execCreditLeak
      dsimp only
      rw [hun]
      exact congrArg Host.Outcome.next ((if_pos ⟨hst, hgood, by rw [hreplay]; rfl⟩).trans (if_neg (not_lt.2 hfloor)))
    refine ⟨_, hexec, ?_⟩
    rw [State.link_setLink_self]
    exact ⟨Link.txv_set_self _ _ hv, Tab.get_set_self .., rfl, by simp⟩
  · intro k v s hun
    unfold exec execCreditLeak
    dsimp only
    rw [hun]
  · intro k f r0 r1 r2 r3 s ht hrx hbuf hqueue hopen hdepth hvc hfirst hlast hm hlen
    have hbuf' : ((s.link k.toNat).rx.getD (0 : BitVec 2).toNat default).buf = f :: [] := by rw [hrx]; exact hbuf
    have hheld : ((s.link k.toNat).rx.getD (0 : BitVec 2).toNat default).held < Config.rxDepth 0 := by
      rw [hrx]
      simpa [RxVc.held, hqueue, hopen] using hdepth
    have hins : f.inserted = true := by simp [TxFlit.inserted, hfirst, hlast, hvc, hm]
    have hkept : (s.setLink k.toNat ((s.link k.toNat).popped 0 [])).isT = true :=
      (State.isT_of_kept (by simp)).trans ht
    rw [exec_messageDelivery_room hbuf' hheld, State.assemble]
    dsimp only
    rw [if_pos hins, State.deliverMsg_good, setLink_popped hbuf', State.link_setLink_self]
    · rw [Link.popped_rx _ hbuf', Link.popped, List.set_set, hrx, hm]
      rw [hrx] at hbuf'
      simp [hqueue]
    · simp [State.badReason, hm, msgKind, fixedMsg, hlen, hkept]
  · intro k f m p r0 r1 r2 r3 s ht hrx hbuf hqueue hopen hfirst hlast hmsg hm hlen hne
    have hbuf' : ((s.link k.toNat).rx.getD (1 : BitVec 2).toNat default).buf = f :: [] := by rw [hrx]; exact hbuf
    have hheld : ((s.link k.toNat).rx.getD (1 : BitVec 2).toNat default).held < Config.rxDepth 1 := by
      rw [hrx]
      simpa [RxVc.held, hqueue] using hopen
    have hins : f.inserted = false := by simp [TxFlit.inserted, hfirst]
    have hmsg' : ((s.link k.toNat).rx.getD (1 : BitVec 2).toNat default).openMsg = some (m, p) := by rw [hrx]; exact hmsg
    rw [exec_messageDelivery_room hbuf' hheld, State.assemble]
    simp only [hins, hfirst, hlast, Bool.false_eq_true, if_false, if_true, State.link_setLink_self, Link.popped_rx _ hbuf', hmsg',
      setLink_popped hbuf', RxVc.opened]
    obtain ⟨l, hl⟩ : ∃ l, l = ({ (s.link k.toNat).popped (1 : BitVec 2).toNat [] with
      rx := ((s.link k.toNat).popped (1 : BitVec 2).toNat []).rx.set (1 : BitVec 2).toNat
        ({ (s.link k.toNat).rx.getD (1 : BitVec 2).toNat default with
          buf := [], openMsg := none, openFlits := 0
          credits := ((s.link k.toNat).rx.getD (1 : BitVec 2).toNat default).credits + 1 } : RxVc) } : Link) := ⟨_, rfl⟩
    have hlrx : l.rx = [r0, { r1 with buf := [], openMsg := none, openFlits := 0, credits := r1.credits + 1 }, r2, r3] := by
      rw [hl, Link.popped, List.set_set, hrx]
      rfl
    have hlne : l ≠ Link.init := Link.ne_init (v := 1) (by rw [hlrx]; exact Nat.succ_ne_zero _)
    have hgood : (s.setLink k.toNat l).badReason (1 : BitVec 2).toNat ⟨m, p ++ f.payload⟩ = 0 := by
      have hkept : (s.setLink k.toNat l).isT = true := (State.isT_of_kept (by simp)).trans ht
      simp [State.badReason, hm, msgKind, hkept, hne, hlen]
      omega
    rw [← hl, State.deliverMsg_good hgood, State.link_setLink_self, State.setLink_setLink _ _ hlne, hlrx, hrx]
    rw [hl, Link.popped]
    simp [hqueue, hm]
  · intro k v f r s hbuf hqueue hopen hdepth hmsg hfirst hlast
    have hheld : ((s.link k.toNat).rx.getD v.toNat default).held < Config.rxDepth v := by
      rw [RxVc.held, hqueue, hopen]
      exact hdepth
    have hins : f.inserted = false := by simp [TxFlit.inserted, hlast]
    rw [exec_messageDelivery_room hbuf hheld, State.assemble]
    simp only [hins, hfirst, hlast, Bool.false_eq_true, if_false, if_true, State.link_setLink_self, Link.popped_rx _ hbuf, hmsg,
      setLink_popped hbuf, RxVc.opened]
    rw [Link.popped, List.set_set]
  · intro k v f r s hbuf hqueue hopen hdepth hmsg hfirst
    have hheld : ((s.link k.toNat).rx.getD v.toNat default).held < Config.rxDepth v := by
      rw [RxVc.held, hqueue, hopen]
      exact hdepth
    have hins : f.inserted = false := by simp [TxFlit.inserted, hfirst]
    refine ⟨_, exec_messageDelivery_room hbuf hheld, ?_⟩
    rw [State.assemble]
    simp only [hins, hfirst, Bool.false_eq_true, if_false, State.link_setLink_self, Link.popped_rx _ hbuf, hmsg]
    obtain ⟨hbad, hlastBad, hstuck, hun⟩ :=
      State.badMsg_leaves (s.setLink k.toNat ((s.link k.toNat).popped v.toNat r)) k.toNat f.mtype.toNat 4
    exact ⟨hbad, hlastBad, hstuck, Unchanged.trans (by simp) hun⟩
  · intro k v f r s hbuf hfull
    unfold exec execMessageDelivery
    dsimp only
    rw [hbuf]
    exact congrArg Host.Outcome.next (if_neg (not_lt.2 hfull))
  · intro k v s hbuf
    unfold exec execMessageDelivery
    dsimp only
    rw [hbuf]

end Sys2Proof.Machine
end

section
/-! PROOF. The northbound ports: the frames that leave, the gates, and a change of their list (R443, R444, R450 to R454). -/

namespace Sys2Proof.Machine

section

variable (s : State) (p : Nat) (q r : NbPort)

@[simp] theorem State.port_setPort : (s.setPort p q).port p = q := by
  unfold State.setPort State.port
  split <;> rfl

@[simp] theorem State.setPort_setPort : (s.setPort p q).setPort p r = s.setPort p r := by
  unfold State.setPort
  split <;> rfl

theorem State.setPort_wire (c : Nat) (f : NbFrame) : (s.setPort p q).wire p c f = s.wire p c f := by
  unfold State.setPort
  split <;> rfl

theorem State.setPort_unchanged : Unchanged [.nb] s (s.setPort p q) := by
  unfold State.setPort
  split <;> simp

/-- Counting on a port that was just written. -/
theorem State.portCount_setPort (i : Nat) :
    (s.setPort p q).portCount p i = s.setPort p { q with cnt := Tab.upd 0 q.cnt i satInc } := by
  simp only [State.portCount, State.port_setPort, State.setPort_setPort]

end

/-- Two states of one northbound unit show the same ports. -/
theorem State.port_of_nb {s t : State} (h : t.nb = s.nb) (p : Nat) : t.port p = s.port p := by simp only [State.port, h]

theorem State.rwd_of_rw {s t : State} (h : t.rw = s.rw) (off d : Nat) : t.rwd off d = s.rwd off d := by simp only [State.rwd, h]

theorem State.setPort_nb_of {s t : State} (h : t.nb = s.nb) (p : Nat) (q : NbPort) : (t.setPort p q).nb = (s.setPort p q).nb := by
  unfold State.setPort
  split <;> simp only [h]

/-- A frame that leaves a port is counted and shown on its wire. -/
theorem State.frameSent_setPort (s : State) (p c : Nat) (q : NbPort) (f : NbFrame) :
    ∃ d, (s.setPort p q).frameSent p c f = s.setPort p { q with
      cnt := Tab.upd 0 q.cnt 0 satInc, sent := q.sent ++ [s.wire p c f], lastDly := d } ∧ (8 ≤ c → d = q.lastDly) := by
  simp only [State.frameSent, State.portCount_setPort, State.port_setPort, State.setPort_setPort, State.setPort_wire]
  exact ⟨_, rfl, fun hc => if_neg (not_lt.2 hc)⟩

section

variable {q : BitVec 1} {s : State}

/-- Without an oper list and without a pending one every frame fits and every gate is open (R451, R452). -/
theorem State.frameFits_free (p : Nat) (hoper : (s.port p).oper = none) (hpend : (s.port p).pendList = none) (c n : Nat) (f : NbFrame) :
    s.frameFits p c n f = true ∧ s.gatesNow p = 0xFF := by
  simp [State.frameFits, State.nextClose, State.gatesNow, hoper, hpend]

theorem State.overrun_none {p : Nat} {old new : Byte} {b : Option (BitVec 3)}
    (h : ∀ c ∈ b, old.getLsbD c.toNat = true → new.getLsbD c.toNat = true) : s.overrun p old new b = s := by
  cases b with
  | none => rfl
  | some c =>
    refine if_neg ?_
    cases hold : old.getLsbD c.toNat
    · simp
    · simp [h c rfl hold]

theorem State.overrun_closed {p : Nat} {old new : Byte} {c : BitVec 3} (hold : old.getLsbD c.toNat = true)
    (hnew : new.getLsbD c.toNat = false) : s.overrun p old new (some c) = s.portCount p 7 :=
  if_pos (by rw [hold, hnew]; rfl)

/-- An entry of the oper list begins (R451). -/
theorem exec_gateEntryStart_begins {e : BitVec 7} {b : Option (BitVec 3)} {l : GateList} {x : Nat × Byte}
    (hoper : (s.port q.toNat).oper = some l) (hedge : (gateEdges l.cyc.toNat l.entries 0)[e.toNat]? = some x) (htai : s.taiOk = true) :
    exec (.gateEntryStart q e b) s =
      .next ((s.setPort q.toNat { s.port q.toNat with gates := x.2 }).overrun q.toNat (s.port q.toNat).gates x.2 b) := by
  unfold exec execGateEntryStart
  dsimp only
  rw [hoper]
  dsimp only
  rw [hedge]
  exact congrArg Host.Outcome.next (if_pos htai)

/-- A pending list takes over (R453). -/
theorem exec_gateChangeTime_pending {b : Option (BitVec 3)} {l : GateList} (hpend : (s.port q.toNat).pendList = some l) :
    exec (.gateChangeTime q b) s = .next (((s.setPort q.toNat { s.port q.toNat with
      pendList := none, oper := some l, operStart := (s.port q.toNat).cht
      gates := (l.entries.head?.map (·.1)).getD 0xFF }).overrun q.toNat (s.gatesNow q.toNat) ((l.entries.head?.map (·.1)).getD 0xFF)
        b).note 0x5702 (le 1 q.toNat ++ le 12 (taiOf (s.port q.toNat).cht).toNat)) := by
  unfold exec execGateChangeTime
  dsimp only
  rw [hpend]

end

/-- A write to NB_GATE_p that takes effect keeps ADM_LEN and clears CHG_ERR by a 1; with CHG it requests a change (R453). -/
theorem State.gateWrite_begins {a : Acc} {s : State} (q : BitVec 1) (ha : Allowed s a (0x90000 + 0x1000 * q.toNat) 2)
    (ht : s.isT = true) :
    ∃ w, Unchanged [.nb, .heat, .test, .sys, .trc, .ul, .evr, .ttrc] s w ∧
      w.nb = (s.setPort q.toNat { s.port q.toNat with
        admLen := BitVec.ofNat 7 (bits a.data.toNat 22 16), chgErr := (s.port q.toNat).chgErr && !a.data.getLsbD 29 }).nb ∧
      s.gateWrite a q.toNat = if a.data.getLsbD 31 then w.gateChange a q.toNat else w := by
  have hin : s.absentAt (0x90000 + 0x1000 * q.toNat) = false := by
    have := q.isLt
    exact State.absentAt_tray ht (by omega)
  have hnot : ¬s.isD = true := by simp [State.isD_of_isT ht]
  generalize hu : (s.answered a true (0x90000 + 0x1000 * q.toNat) 0) = u
  have hanswered : Unchanged [.heat, .test] s u := hu ▸ s.answered_unchanged a true _ 0
  have hnb : (u.cfgWrite a (0x90000 + 0x1000 * q.toNat) a.data).nb = s.nb :=
    (u.cfgWrite_nb ..).trans (hanswered .nb (by decide)).symm
  refine ⟨(u.cfgWrite a (0x90000 + 0x1000 * q.toNat) a.data).setPort q.toNat { s.port q.toNat with
    admLen := BitVec.ofNat 7 (bits a.data.toNat 22 16), chgErr := (s.port q.toNat).chgErr && !a.data.getLsbD 29 }, ?_, ?_, ?_⟩
  · exact (hanswered.mono (by decide)).trans (by simp)
  · exact State.setPort_nb_of hnb _ _
  · have hisD : ¬u.isD = true := by simpa [← hu] using hnot
    rw [State.gateWrite, State.written_allowed ha hin, hu, if_neg hisD]
    dsimp only
    rw [State.port_of_nb (hanswered .nb (by decide)).symm]
    rfl

/-- Why a change of the list is refused, 0 where it is not (R453). -/
def State.gateReason (s : State) (p : Nat) : Nat :=
  if (s.port p).pendList.isSome then 1
  else if (s.port p).admLen.toNat = 0 ∨ ((s.admList p (s.port p).admLen.toNat).any fun e => e.2 == 0) ∨ s.admCyc p = 0 then 2
  else if !s.taiOk then 3 else 0

/-- A refused change of the list shows its reason and is recorded. -/
theorem State.gateChange_refused {w : State} {a : Acc} {p why : Nat} (hwhy : w.gateReason p = why) (hne : why ≠ 0) :
    (w.gateChange a p).port p = { w.port p with chgErr := true, reason := BitVec.ofNat 3 why } ∧
      (w.gateChange a p).stuck 2 1 = true ∧ Unchanged [.sys, .integ, .trc, .ttrc, .ul, .nb, .evr] w (w.gateChange a p) := by
  have heq : w.gateChange a p = ((w.setPort p { w.port p with chgErr := true, reason := BitVec.ofNat 3 why }).stick 2 1).event
      0x5703 (le 1 p ++ le 1 why) (w.roleOf a) a.path.toNat := by
    subst hwhy
    exact if_pos hne
  rw [heq]
  refine ⟨?_, (State.stuck_event ..).trans (State.stuck_stick_self _ (by decide) (by decide)), by simp⟩
  generalize hu : w.setPort p _ = u
  rw [State.port_of_nb (s := u) (by simp), ← hu, State.port_setPort]

/-- A change of the list that is taken waits for its time. -/
theorem State.gateChange_taken {w : State} {a : Acc} {p : Nat} (hwhy : w.gateReason p = 0) :
    ∃ c, w.gateChange a p = w.setPort p { w.port p with
      pendList := some ⟨w.admList p (w.port p).admLen.toNat, BitVec.ofNat 32 (w.admCyc p)⟩, cht := c } :=
  ⟨_, if_neg (not_not.2 hwhy)⟩

/-- The admin list of one entry. -/
theorem State.admList_one (s : State) (p : Nat) : s.admList p 1 =
    [(BitVec.ofNat 8 (s.rwd (0x90400 + 0x1000 * p) 0), BitVec.ofNat 32 (s.rwd (0x90404 + 0x1000 * p) 0))] := by
  simp [State.admList, show 0x90400 + 0x1000 * p + 4 = 0x90404 + 0x1000 * p by omega]

/-- A word of the registers read as 0 has no bit. -/
theorem State.rwd_ne_zero {s : State} {off : Nat} (h : s.rwd off 0 ≠ 0) : (BitVec.ofNat 32 (s.rwd off 0) : Word) ≠ 0 := by
  intro hz
  refine h ?_
  unfold State.rwd at hz ⊢
  cases hw : Tab.get none s.rw (off / 4) with
  | none => rfl
  | some x =>
    have hx : x = 0 := by simpa [hw] using hz
    rw [hx]
    rfl

/-- One entry that lasts, in a cycle that is not 0: only TAI can be missing. -/
theorem State.gateReason_one {w : State} {p : Nat} (hpend : (w.port p).pendList = none) (hlen : (w.port p).admLen.toNat = 1)
    (hdur : w.rwd (0x90404 + 0x1000 * p) 0 ≠ 0) (hcyc : w.admCyc p ≠ 0) : w.gateReason p = if w.taiOk then 0 else 3 := by
  have hlasts : ¬((w.port p).admLen.toNat = 0 ∨ ((w.admList p (w.port p).admLen.toNat).any fun e => e.2 == 0) ∨ w.admCyc p = 0) := by
    rw [hlen, State.admList_one]
    simp only [List.any_cons, List.any_nil, Bool.or_false, beq_iff_eq]
    rintro (h | h | h)
    · cases h
    · exact State.rwd_ne_zero hdur h
    · exact hcyc h
  rw [State.gateReason, hpend, Option.isSome_none, if_neg Bool.false_ne_true, if_neg hlasts]
  cases w.taiOk <;> rfl

/-- Settles O50: the gates by `State.overrun`, a change of the list by `State.gateReason`. -/
theorem northboundPorts : Obligations.NorthboundPorts := by
  refine ⟨?_, ?_, ?_, ?_, ?_, ?_, ?_, ?_, ?_, ?_, ?_, ?_, ?_, ?_, ?_, ?_, ?_⟩
  · intro q f s ht hr hon hup
    exact congrArg Host.Outcome.next (if_pos (by rw [ht, hr, hon, hup]; rfl))
  · intro q f s hup
    exact congrArg Host.Outcome.next (if_neg (by simp [hup]))
  · intro q u l s ht hr hon hup
    exact congrArg Host.Outcome.next ((if_pos (by rw [ht, hr, hon]; rfl)).trans (if_pos hup))
  · intro q u l s ht hr hon hup
    refine ⟨_, congrArg Host.Outcome.next ((if_pos (by rw [ht, hr, hon]; rfl)).trans (if_neg hup)), by simp, ?_⟩
    simp
  · intro q n f r s ht hr hon hup habort
    obtain ⟨d, hsent, hdly⟩ := State.frameSent_setPort s q.toNat 8 { s.port q.toNat with abortQ := r } f
    rw [hdly le_rfl] at hsent
    unfold exec execEgressFrameSelect
    dsimp only
    rw [if_neg (by rw [ht, hr, hon, hup]; decide), habort]
    exact congrArg Host.Outcome.next hsent
  · intro q n f r s ht hr hon hup habort hcls hoper hpend
    have hfree := State.frameFits_free (s := s) q.toNat hoper hpend
    obtain ⟨d, hsent, -⟩ := State.frameSent_setPort s q.toNat 7 { s.port q.toNat with cls := [[], [], [], [], [], [], [], r] } f
    have hexec : exec (.egressFrameSelect q n) s = .next ((s.setPort q.toNat { s.port q.toNat with
        cls := [[], [], [], [], [], [], [], r] }).frameSent q.toNat 7 f) := by
      have hpick : ([7, 6, 5, 4, 3, 2, 1, 0].find? fun c => (s.gatesNow q.toNat).getLsbD c &&
          (((s.port q.toNat).cls.getD c []).head?.map (s.frameFits q.toNat c n.toNat)).getD false) = some 7 := by
        refine List.find?_cons_of_pos ?_
        rw [hcls, (hfree 7 0 f).2]
        exact (hfree 7 n.toNat f).1
      unfold exec execEgressFrameSelect
      dsimp only
      rw [if_neg (by rw [ht, hr, hon, hup]; decide), habort]
      dsimp only
      rw [hpick, hcls]
      rfl
    refine ⟨_, hexec.trans (congrArg _ hsent), ?_⟩
    rw [State.port_setPort]
    exact ⟨rfl, rfl, rfl, s.setPort_unchanged _ _⟩
  · intro q n s habort hempty
    have hpick : ([7, 6, 5, 4, 3, 2, 1, 0].find? fun c => (s.gatesNow q.toNat).getLsbD c &&
        (((s.port q.toNat).cls.getD c []).head?.map (s.frameFits q.toNat c n.toNat)).getD false) = none := by
      refine List.find?_eq_none.2 fun c hc => ?_
      have hmem : c ∈ List.range 8 := (by decide : ∀ c ∈ [7, 6, 5, 4, 3, 2, 1, 0], c ∈ List.range 8) c hc
      rw [hempty c hmem]
      simp
    unfold exec execEgressFrameSelect
    dsimp only
    split
    · rfl
    · rw [habort]
      dsimp only
      rw [hpick]
  · intro q e b l x s hoper hedge htai hstays
    rw [exec_gateEntryStart_begins hoper hedge htai, State.overrun_none hstays]
  · intro q e c l x s hoper hedge htai hold hnew
    rw [exec_gateEntryStart_begins hoper hedge htai, State.overrun_closed hold hnew, State.portCount_setPort]
  · intro q e b s hoper
    unfold exec execGateEntryStart
    dsimp only
    rw [hoper]
  · intro q l s hpend
    refine ⟨_, exec_gateChangeTime_pending hpend, ?_, ?_⟩
    · rw [State.overrun_none (by simp)]
      simp
    · rw [State.overrun_none (by simp)]
      simp
  · intro q c g d l s hpend hhead hold hnew
    have hgate : (l.entries.head?.map (·.1)).getD 0xFF = g := by rw [hhead]; rfl
    refine ⟨_, exec_gateChangeTime_pending hpend, ?_⟩
    rw [hgate, State.overrun_closed hold hnew, State.portCount_setPort]
    exact ⟨by simp, by simp⟩
  · intro q b s hpend
    unfold exec execGateChangeTime
    dsimp only
    rw [hpend]
  · intro a q s ha ht hno
    obtain ⟨w, hw, hnb, hwrite⟩ := State.gateWrite_begins q ha ht
    exact ⟨_, congrArg Host.Outcome.next (hwrite.trans (if_neg (by rw [hno]; decide))), hnb, hw⟩
  · intro a q s ha ht hreq hpend
    obtain ⟨w, hw, hnb, hwrite⟩ := State.gateWrite_begins q ha ht
    have hport := (State.port_of_nb hnb q.toNat).trans (State.port_setPort ..)
    have hwhy : w.gateReason q.toNat = 1 := by
      rw [State.gateReason, hport]
      exact if_pos hpend
    obtain ⟨hafter, hstuck, hun⟩ := State.gateChange_refused (a := a) hwhy (by decide)
    refine ⟨_, congrArg Host.Outcome.next (hwrite.trans (if_pos hreq)), ?_⟩
    rw [hafter, hport]
    exact ⟨rfl, rfl, rfl, rfl, hstuck, (hw.mono (by decide)).trans (hun.mono (by decide))⟩
  · intro a q s ha ht hreq hpend hlen hdur hcyc htai
    obtain ⟨w, hw, hnb, hwrite⟩ := State.gateWrite_begins q ha ht
    have hport := (State.port_of_nb hnb q.toNat).trans (State.port_setPort ..)
    have hrw : w.rw = s.rw := (hw .rw (by decide)).symm
    have htb : w.tb = s.tb := (hw .tb (by decide)).symm
    have hwhy : w.gateReason q.toNat = 3 := by
      rw [State.gateReason_one (by rw [hport]; exact hpend) (by rw [hport, hlen]; rfl)
        (by rw [State.rwd_of_rw hrw]; exact hdur) (by rw [State.admCyc, State.rwd_of_rw hrw]; exact hcyc), State.taiOk, htb, htai]
      rfl
    obtain ⟨hafter, hstuck, hun⟩ := State.gateChange_refused (a := a) hwhy (by decide)
    refine ⟨_, congrArg Host.Outcome.next (hwrite.trans (if_pos hreq)), ?_⟩
    rw [hafter, hport]
    exact ⟨rfl, rfl, hpend, hstuck, (hw.mono (by decide)).trans (hun.mono (by decide))⟩
  · intro a q s ha ht hreq hpend hlen hpos hlt hcyc htai
    obtain ⟨w, hw, hnb, hwrite⟩ := State.gateWrite_begins q ha ht
    have hport := (State.port_of_nb hnb q.toNat).trans (State.port_setPort ..)
    have hrw : w.rw = s.rw := (hw .rw (by decide)).symm
    have htb : w.tb = s.tb := (hw .tb (by decide)).symm
    have hone : (w.port q.toNat).admLen.toNat = 1 := by rw [hport, hlen]; rfl
    have hwhy : w.gateReason q.toNat = 0 := by
      rw [State.gateReason_one (by rw [hport]; exact hpend) hone (by rw [State.rwd_of_rw hrw]; omega)
        (by rw [State.admCyc, State.rwd_of_rw hrw]; exact hcyc), State.taiOk, htb, htai]
      rfl
    obtain ⟨c, htaken⟩ := State.gateChange_taken (a := a) hwhy
    refine ⟨_, congrArg Host.Outcome.next (hwrite.trans (if_pos hreq)), ?_⟩
    rw [htaken, State.port_setPort, hone, State.admList_one, State.rwd_of_rw hrw, State.rwd_of_rw hrw, State.admCyc,
      State.rwd_of_rw hrw, hport]
    exact ⟨rfl, rfl, (hw.mono (by decide)).trans ((w.setPort_unchanged _ _).mono (by decide))⟩

end Sys2Proof.Machine
end

section
/-! PROOF. The rack bus, the requests of the host and the proxy window (R448, R449, R456 to R462). -/

namespace Sys2Proof.Machine

/-- What is sent to an Ethernet port leaves the rack bus alone. -/
theorem State.northOn_t1s (s : State) {p : Nat} (hp : p ≠ 2) (mtype : Nat) (body : List Byte) (dst : Option (BitVec 48)) (rep : Bool) :
    (s.northOn p mtype body dst rep).nb.t1s = s.nb.t1s := by
  unfold State.northOn
  split
  · rfl
  · unfold State.setPort
    dsimp only
    split <;> rfl

theorem State.northOn_closed {s : State} {p : Nat} (h : s.portOn p = false) (mtype : Nat) (body : List Byte) (dst : Option (BitVec 48))
    (rep : Bool) : s.northOn p mtype body dst rep = s := if_pos (by simp [h])

theorem State.northOn_unchanged (s : State) (p mtype : Nat) (body : List Byte) (dst : Option (BitVec 48)) (rep : Bool) :
    Unchanged [.nb] s (s.northOn p mtype body dst rep) := by simp

/-- No port is enabled: nothing goes north. -/
theorem State.northTo_closed {s : State} (h : s.portEn = 0) (mtype : Nat) (dst : BitVec 48) (body : List Byte) :
    s.northTo mtype dst body = s := by
  have hclosed (p : Nat) : s.portOn p = false := by rw [State.portOn, h, Nat.zero_testBit]
  unfold State.northTo
  split
  · generalize [0, 1, 2].filter (fun p => (s.nbClass mtype).testBit p) = l
    induction l with
    | nil => rfl
    | cons p l ih => rw [List.foldl_cons, State.northOn_closed (hclosed p), ih]
  · rfl

theorem State.stuck_of_integ {s t : State} (h : t.integ = s.integ) : t.stuck = s.stuck := by
  funext r b
  unfold State.stuck State.stickyWord
  rw [h]

/-- A clash of node IDs is declared once (R460). -/
theorem State.t1sClash_first {s : State} (h : s.nb.t1s.clash = false) (kind : Nat) (mac : BitVec 48) :
    (s.t1sClash kind mac).nb.t1s.clash = true ∧ (s.t1sClash kind mac).stuck 2 1 = true ∧
      Unchanged [.sys, .integ, .trc, .ttrc, .ul, .nb, .evr] s (s.t1sClash kind mac) := by
  have hfold (body : List Byte) (l : List Nat) (u : State) (hl : ∀ p ∈ l, p ≠ 2) :
      (l.foldl (fun t p => t.northOn p 0x15 body none false) u).nb.t1s = u.nb.t1s := by
    induction l generalizing u with
    | nil => rfl
    | cons p l ih =>
      rw [List.foldl_cons, ih _ fun q hq => hl q (List.mem_cons_of_mem _ hq), State.northOn_t1s _ (hl p List.mem_cons_self)]
  have hports (u : State) : ∀ p ∈ [0, 1].filter fun p => (u.nbClass 0x15).testBit p, p ≠ 2 := by
    intro p hp
    have := List.mem_of_mem_filter hp
    rintro rfl
    simp at this
  refine ⟨?_, ?_, by simp⟩
  · unfold State.t1sClash
    rw [if_neg (by simp [h])]
    dsimp only
    rw [hfold _ _ _ (hports _)]
    simp [State.setT1s, State.setNb]
  · have hinteg (body : List Byte) (l : List Nat) (u : State) :
        (l.foldl (fun t p => t.northOn p 0x15 body none false) u).integ = u.integ := by
      have hun : Unchanged [.nb] u (l.foldl (fun t p => t.northOn p 0x15 body none false) u) :=
        .foldl (fun t p => t.northOn_unchanged p 0x15 body none false) _ _
      exact (hun .integ (by decide)).symm
    unfold State.t1sClash
    rw [if_neg (by simp [h])]
    dsimp only
    rw [State.stuck_of_integ (hinteg _ _ _)]
    exact (State.stuck_event ..).trans (State.stuck_stick_self _ (by decide) (by decide))

theorem State.t1sClash_again {s : State} (h : s.nb.t1s.clash = true) (kind : Nat) (mac : BitVec 48) : s.t1sClash kind mac = s :=
  if_pos h

/-- What a DISCOVER leaves of the table of peers (R459). -/
def State.met (s : State) (src : BitVec 48) (node : Byte) (tray : BitVec 18) : State :=
  if s.nb.t1s.peers.any fun p => p.mac == src then
    s.setT1s { s.nb.t1s with peers := s.nb.t1s.peers.map fun p => if p.mac = src then { p with node := node, tray := tray } else p }
  else if s.nb.t1s.peers.length < 16 then
    s.setT1s { s.nb.t1s with peers := s.nb.t1s.peers ++ [⟨src, tray, node, 0xFFFF, 16, 0, 0, none⟩] }
  else s.stranger src

theorem exec_discover {s : State} (ht : s.isT = true) (hr : s.running = true) (hon : s.portOn 2 = true) (m : BitVec 48) (n : Byte)
    (r : BitVec 18) : exec (.discover m n r) s =
      .next ((if n.toNat = s.nodeId ∧ n ≠ 255 ∧ m ≠ s.portMac 2 then s.t1sClash 4 m else s).met m n r) :=
  congrArg Host.Outcome.next (if_neg (by rw [ht, hr, hon]; decide))

theorem State.met_clash (s : State) (m : BitVec 48) (n : Byte) (r : BitVec 18) :
    (s.met m n r).nb.t1s.clash = s.nb.t1s.clash ∧ (s.stuck 2 1 = true → (s.met m n r).stuck 2 1 = true) ∧
      Unchanged [.sys, .integ, .trc, .ttrc, .ul, .nb, .evr] s (s.met m n r) := by
  unfold State.met
  split
  · exact ⟨rfl, id, by simp⟩
  · split
    · exact ⟨rfl, id, by simp⟩
    · refine ⟨?_, fun _ => State.stuck_stickNote _ (by decide) (by decide) .., by simp [State.stranger]⟩
      simp [State.stranger, State.setT1s, State.setNb, T1s.count]

/-- A request (R448, R449): whether it has been answered, stands at a place, or takes the lowest free one. -/
def State.asked (s : State) (port : BitVec 2) (src : BitVec 48) (reqid : Word) (entries : List ReqEntry) : State :=
  match s.nb.doneReqs.find? fun d => d.1 == src && d.2.1 == reqid with
  | some d => (s.setNb { s.nb with reqDup := satInc s.nb.reqDup }).northTo 0x11 src d.2.2
  | none =>
    if s.nb.places.any fun p => match p.2 with
      | some p => p.src == src && p.reqid == reqid
      | none => false
    then s.setNb { s.nb with reqDup := satInc s.nb.reqDup }
    else
      match (List.range 16).find? fun i => (Tab.get none s.nb.places i).isNone with
      | some i => s.setNb { s.nb with places := Tab.set none s.nb.places i (some ⟨port, src, reqid, entries, [], false⟩) }
      | none => (s.setNb { s.nb with reqDrop := satInc s.nb.reqDrop }).note 0x5707 (le 4 src.toNat ++ le 4 reqid.toNat)

theorem State.bindSession_unchanged (s : State) (q : BitVec 2) (m : BitVec 48) :
    Unchanged [.sys, .trc, .ttrc, .ul, .roles, .evr] s (s.bindSession q m).1 := by simp

/-- The ports that are enabled are the image's, the fuses' and the build's word. -/
theorem State.portEn_of {s t : State} (hld : t.ld = s.ld) (hfuse : t.fuse = s.fuse) (hx2 : t.sys.x2 = s.sys.x2) (hT : t.isT = s.isT) :
    t.portEn = s.portEn := by
  have hraw (o n : Nat) : t.fdRaw o n = s.fdRaw o n := by simp only [State.fdRaw, State.fdBytes, State.fuseWord, hfuse]
  have hused : t.fdUsed = s.fdUsed := by
    unfold State.fdUsed State.fCoreMax
    simp only [hraw, hx2, hT]
  have hfd (o n d : Nat) : t.fd o n d = s.fd o n d := by simp only [State.fd, hused, hraw]
  have himg (o n d : Nat) : t.nbf o n d = s.nbf o n d := by simp only [State.nbf, State.img, hld]
  simp only [State.portEn, hT, hfd, himg]

theorem State.bindSession_portEn (s : State) (q : BitVec 2) (m : BitVec 48) : (s.bindSession q m).1.portEn = s.portEn := by
  have hun := s.bindSession_unchanged q m
  refine State.portEn_of (hun .ld (by decide)).symm (hun .fuse (by decide)).symm ?_ (State.isT_of_kept (by simp))
  unfold State.bindSession
  dsimp only
  split
  · rfl
  · split
    · simp [State.setPath]
    · rfl

theorem exec_regReq {s : State} (ht : s.isT = true) (hr : s.running = true) {q : BitVec 2} (hq : q.toNat ≤ 2) {e : List ReqEntry}
    (hne : e ≠ []) (hlen : e.length ≤ 64) (m : BitVec 48) (n : Word) :
    exec (.regReq q m n e) s = .next ((s.bindSession q m).1.asked q m n e) := by
  refine congrArg Host.Outcome.next ((if_neg ?_).trans ?_)
  · simp [ht, hr, hne]
    omega
  · rfl

/-- Settles O51: the table of peers by `State.met`, the requests by `State.asked`. -/
theorem rackBusAndRequests : Obligations.RackBusAndRequests := by
  refine ⟨?_, ?_, ?_, ?_, ?_, ?_, ?_, ?_, ?_, ?_, ?_, ?_, ?_, ?_, ?_, ?_, ?_, ?_, ?_, ?_, ?_, ?_, ?_, ?_, ?_, ?_⟩
  · intro f s ht hr hon hfcs hlo hhi h1 h2 h3
    refine congrArg Host.Outcome.next ((if_neg ?_).trans (if_pos ⟨h1, h2, h3⟩))
    simp [ht, hr, hon, hfcs]
    omega
  · intro f s ht hr hon hfcs hlo hhi hdst htype
    have hours : ¬(f.dst ≠ s.portMac 2 ∧ f.dst ≠ s.t1sGrp ∧ f.dst ≠ s.abortGrp) := fun h => h.1 hdst
    refine ⟨s.stranger f.src, congrArg Host.Outcome.next ((if_neg ?_).trans ((if_neg hours).trans (if_neg ?_))), ?_, ?_, ?_⟩
    · simp [ht, hr, hon, hfcs]
      omega
    · simp [htype]
    · simp [State.stranger, State.setT1s, State.setNb, T1s.count]
    · exact State.stuck_stickNote _ (by decide) (by decide) ..
    · simp [State.stranger]
  · intro f s hbad
    refine congrArg Host.Outcome.next (if_pos ?_)
    rcases hbad with h | h | h <;> simp [h]
  · intro b s ht hr hon hmode hchange
    refine ⟨_, congrArg Host.Outcome.next (if_pos ?_), ?_, by simp⟩
    · rw [ht, hr, hon, hmode]
      simpa using hchange
    · rw [hmode]
      simp [State.setT1s, State.setNb, T1s.count]
  · intro b s hsame
    exact congrArg Host.Outcome.next (if_neg (by simp [hsame]))
  · intro s htalks
    refine congrArg Host.Outcome.next ((if_pos htalks).trans ?_)
    cases s.nb.t1s.plca <;> rfl
  · intro s htalks
    exact congrArg Host.Outcome.next (if_neg (by simp [htalks]))
  · intro m n r s ht hr hon hnode hnew hroom
    rw [exec_discover ht hr hon, if_neg fun h => hnode h.1, State.met, hnew, if_neg Bool.false_ne_true, if_pos hroom]
  · intro m n r s ht hr hon hnode hn hmac hclash
    obtain ⟨hclashed, hstuck, hun⟩ := State.t1sClash_first hclash 4 m
    refine ⟨_, exec_discover ht hr hon m n r, ?_⟩
    rw [if_pos ⟨hnode, hn, hmac⟩]
    obtain ⟨hsame, hstays, hmet⟩ := (s.t1sClash 4 m).met_clash m n r
    exact ⟨hsame.trans hclashed, hstays hstuck, hun.trans hmet⟩
  · intro i p s htalks hpeer hleft
    unfold exec execEchoExchange
    dsimp only
    rw [hpeer]
    refine congrArg Host.Outcome.next ((if_pos htalks).trans ?_)
    rw [if_neg hleft]
  · intro i s hnone
    unfold exec execEchoExchange
    dsimp only
    rw [hnone]
  · intro m x s ht hr hon hany
    exact congrArg Host.Outcome.next (if_pos (by rw [ht, hr, hon, hany]; rfl))
  · intro m x s hany
    exact congrArg Host.Outcome.next (if_neg (by simp [hany]))
  · intro m x w c p s ht hr hon hpeers hmac hxn hleft
    refine congrArg Host.Outcome.next ((if_pos (by rw [ht, hr, hon]; rfl)).trans ?_)
    dsimp only
    rw [hpeers, List.map_cons, List.map_nil, if_pos ⟨hmac, hxn⟩, if_neg hleft]
  · intro m x w c p s ht hr hon hpeers hxn
    refine congrArg Host.Outcome.next ((if_pos (by rw [ht, hr, hon]; rfl)).trans ?_)
    dsimp only
    rw [hpeers, List.map_cons, List.map_nil, if_neg fun h => hxn h.2, ← hpeers]
    rfl
  · intro s htalks hdue hplca
    have hown : s.setT1s { s.nb.t1s with evidence := if s.nb.t1s.plca then
        (s.nb.t1s.evidence ++ [false]).drop ((s.nb.t1s.evidence ++ [false]).length - 256) else s.nb.t1s.evidence } = s := by
      rw [hplca]
      rfl
    have hanswers : s.echoAnswers = s := by
      unfold State.echoAnswers
      rw [hdue, List.foldl_nil, ← hdue]
      rfl
    refine congrArg Host.Outcome.next ((if_neg (by rw [htalks]; decide)).trans ?_)
    change (if (false && s.nodeId == 0) = true then _ else if (s.nb.t1s.plca && false && _) = true then _ else
      (s.setT1s { s.nb.t1s with evidence := if s.nb.t1s.plca then
        (s.nb.t1s.evidence ++ [false]).drop ((s.nb.t1s.evidence ++ [false]).length - 256) else s.nb.t1s.evidence }).echoAnswers.t1sSend
          (1 + s.nbf 0x16B 1 0)) = _
    rw [hown, hanswers, if_neg (by simp), if_neg (by simp)]
    rfl
  · intro s htalks hplca
    refine ⟨_, congrArg Host.Outcome.next (if_neg (by rw [htalks]; decide)), ?_⟩
    change _ ∧ _
    dsimp only
    rw [if_neg (by simp), if_neg (by simp [State.setT1s, State.setNb, T1s.count, hplca]), if_pos (by simp)]
    exact ⟨rfl, rfl, if_neg (by simp [T1s.count, hplca]), by simp⟩
  · intro e s htalks
    exact congrArg Host.Outcome.next (if_pos (by simp [htalks]))
  · intro q m n e s ht hr hq hne hlen hdone hplaces
    have hun := s.bindSession_unchanged q m
    have hnb : (s.bindSession q m).1.nb = s.nb := (hun .nb (by decide)).symm
    refine ⟨_, exec_regReq ht hr hq hne hlen m n, ?_⟩
    rw [State.asked, hnb, hdone, hplaces]
    exact ⟨rfl, (hun.mono (by decide)).trans (State.setNb_frame _ _ (by decide) |>.2 .self)⟩
  · intro q m n e b s ht hr hq hne hlen hdone hports
    have hun := s.bindSession_unchanged q m
    have hnb : (s.bindSession q m).1.nb = s.nb := (hun .nb (by decide)).symm
    have hfound : [(m, n, b)].find? (fun d => d.1 == m && d.2.1 == n) = some (m, n, b) := by simp
    refine ⟨_, exec_regReq ht hr hq hne hlen m n, ?_⟩
    rw [State.asked, hnb, hdone, hfound]
    dsimp only
    generalize hw : (s.bindSession q m).1.setNb _ = w
    have hclosed : w.portEn = 0 := by rw [← hw]; exact (s.bindSession_portEn q m).trans hports
    rw [State.northTo_closed hclosed, ← hw]
    exact ⟨rfl, (hun.mono (by decide)).trans (State.setNb_frame _ _ (by decide) |>.2 .self)⟩
  · intro g w o d s ht hr hal hout
    have hlow : o.toNat % 2 ^ 20 % 4 = o.toNat % 4 := Nat.mod_mod_of_dvd _ (by decide)
    have hlink : o.toNat / 2 ^ 20 % 64 = o.toNat / 2 ^ 20 := Nat.mod_eq_of_lt (by have := o.isLt; omega)
    have hfree : ((List.range 256).find? fun t => (Tab.get none s.nb.proxyOut t).isNone) = some 0 := by
      rw [hout]
      rfl
    refine congrArg Host.Outcome.next ((if_neg (by rw [ht, hr]; decide)).trans ?_)
    dsimp only
    rw [State.proxyAccess]
    dsimp only
    rw [if_neg (by rw [hlow, hal]; decide), hfree, hlink, hout]
    cases w <;> rfl
  · intro g w o d s ht hr hal
    have hlow : o.toNat % 2 ^ 20 % 4 = o.toNat % 4 := Nat.mod_mod_of_dvd _ (by decide)
    refine congrArg Host.Outcome.next ((if_neg (by rw [ht, hr]; decide)).trans (if_pos ?_))
    rw [hlow]
    exact hal
  · intro g f o d s hd hroom
    have hnb : (s.take 0 0 0x32).nb = s.nb := (s.take_unchanged 0 0 0x32 .nb (by decide)).symm
    refine congrArg Host.Outcome.next ((if_pos hd).trans (if_pos ?_))
    rw [hnb]
    exact hroom
  · intro g f o d s hd hfull
    have hnb : (s.take 0 0 0x32).nb = s.nb := (s.take_unchanged 0 0 0x32 .nb (by decide)).symm
    refine congrArg Host.Outcome.next ((if_pos hd).trans (if_neg ?_))
    rw [hnb]
    exact not_lt.2 hfull
  · intro k g x d r s ht hout hx
    have hnb : (s.take k.toNat 0 0x33).nb = s.nb := (s.take_unchanged k.toNat 0 0x33 .nb (by decide)).symm
    refine congrArg Host.Outcome.next ((if_pos ht).trans ?_)
    dsimp only
    rw [hnb, hout]
    dsimp only
    rw [if_pos rfl, min_eq_right hx]
    rfl
  · intro k g x d s ht hout
    have hnb : (s.take k.toNat 0 0x33).nb = s.nb := (s.take_unchanged k.toNat 0 0x33 .nb (by decide)).symm
    refine congrArg Host.Outcome.next ((if_pos ht).trans ?_)
    dsimp only
    rw [hnb, hout]

end Sys2Proof.Machine
end

section
/-! PROOF. Power events (R541, R543): the statement takes a phase of service for one in which the signals act. A state that holds
reset in a phase of service meets it, and there they do not. -/

namespace Sys2Proof.Machine

/-- A die in service whose RST_N is held. -/
def heldDie : State := { Tests.wD with sys := { Tests.wD.sys with rstHeld := true } }

theorem exec_powerFailSignal_held : exec (.powerFailSignal true) heldDie = .next heldDie := rfl

/-- Refutes O53: while RST_N is held, a rising PF_IN of a die is no flush trigger. -/
theorem not_powerEvents : ¬Obligations.PowerEvents := by
  rintro ⟨-, -, hpfIn, -⟩
  have hrises := hpfIn heldDie (by decide) (by decide)
  rw [exec_powerFailSignal_held] at hrises
  have hlevel := congrArg (fun o => (after heldDie o).pwr.pfIn) hrises
  simp only [after_next] at hlevel
  exact absurd hlevel (by decide)

end Sys2Proof.Machine
end
